-- ==== Sys2Proof/Word.lean ====
section
/-!
DEFINITION. The machine's word and byte (R9: registers are 32 bits wide) and the type of a sparse table.
-/

namespace Sys2Proof

/-- A 32-bit register or store word. -/
abbrev Word := BitVec 32

/-- One byte. -/
abbrev Byte := BitVec 8

/-- A sparse table: pairs of key and value, keys rising. -/
abbrev Tbl (α : Type) := List (Nat × α)

end Sys2Proof
end

