-- ==== Sys2Proof/Syntax.lean ====
section
/-!
DEFINITION. The commands of the block: one constructor per row of spec/opcode_table.json, in its order. The table gives
no operands; the operands here are what the surroundings supply with the command (assumption log, entry 1).
-/

namespace Sys2Proof

/-- The commands (spec/opcode_table.json). Each docstring is the row's rule and summary. -/
inductive Instr where
  /-- R474: Reset is released once every rail, RESET_N and the TEST balls have satisfied their conditions, and the boot begins. -/
  | resetRelease (resetN : Bool) (test : Nat) (refs : Nat)
  /-- R481: XIN begins to oscillate, and a boot that was waiting at the SFDP step continues. -/
  | xinStart
  /-- R41: The SFDP read at 25 MHz completes, and the loader takes the quad read parameters from it or falls back to command 0x6C. -/
  | sfdpReadDone (valid : Bool) (density : Nat) (cmd : Nat) (addrBytes : Nat) (dummies : Nat)
  /-- R83: The SYN_A band search finishes and SYN_A locks, so the QSPI master can run at 120 MHz. -/
  | synALock (counts : List Nat) (windows : List Nat)
  /-- R501: The header and the section table have been read, and they are checked in the fixed order before any section data is read. -/
  | headerCheck (readable : Bool) (bytes : List Byte)
  /-- R44: Room appears in Q28, and the QSPI master, which had stopped SCK while Q28 was full, resumes the flash read. -/
  | flashReadResume
  /-- R54: A section's data has been streamed, hashed and written to its store, with readback and ECC checked. -/
  | sectionStreamed (data : List Byte) (taken : Nat) (readable : Bool) (fault : Bool)
  /-- R83: The band search of one defined plan completes; band and valid are written, or a plan with no band found causes rejection. -/
  | bandSearchDone (counts : List Nat) (found : Bool)
  /-- R56: The trailer has been read, and the signature chain is verified step by step. -/
  | trailerVerify (readable : Bool) (image : List Byte) (trailer : List Byte)
  /-- R54: The consistency and schedule checks finish, and the slot is accepted or rejected. -/
  | loadChecksDone
  /-- R60: Fuse programming for binding or for the rollback count completes, and the boot proceeds to SAFE-ready. -/
  | fuseProgrammingDone (missed : Nat)
  /-- R64: The MOD and ENG domains switch to their synthesizers, BOOT_POLICY is loaded, the converters start and the SAFE glaze is in force. -/
  | safeReady
  /-- R68: BOOT_FLASH_CTL command 0 reads 256 bytes from the flash into the page buffer. -/
  | flashReadPage (link : Nat) (requester : Nat)
  /-- R68: BOOT_FLASH_CTL command 1 programs one 256-byte flash page from the page buffer. -/
  | flashProgramPage (link : Nat) (requester : Nat)
  /-- R68: BOOT_FLASH_CTL command 2 erases 64 KiB of flash. -/
  | flashErase (link : Nat) (requester : Nat)
  /-- R69: BOOT_FLASH_CTL command 3 runs the load checks on the named slot without writing any store. -/
  | flashVerify (link : Nat) (requester : Nat) (slot : Nat)
  /-- R68: BOOT_FLASH_CTL command 4 schedules a whole-device reset for 1 ms after the write. -/
  | rebootCommand (link : Nat) (requester : Nat)
  /-- R69: A running flash command completes, clearing busy and setting result or error. -/
  | flashCommandDone (fail : Bool) (data : List Byte)
  /-- R68: 1 ms after the reboot write, the device resets everything except the always-on domain. -/
  | rebootReset
  /-- R74: A session request closes the link's current session and is answered with a 48-byte challenge. -/
  | sessionRequest (link : Nat) (requester : Nat) (prio : Nat) (seq : Nat) (body : List Byte)
  /-- R74: A signature over the pending challenge is verified, and the session opens or the failure is counted. -/
  | sessionResponse (link : Nat) (requester : Nat) (prio : Nat) (seq : Nat) (late : Bool) (body : List Byte)
  /-- R76: The 60 s lockout of a link expires. -/
  | lockoutExpiry (link : Nat)
  /-- R75: A close request or a write to BOOT_SESSION.close ends the link's session. -/
  | sessionClose (link : Nat) (requester : Nat) (prio : Nat) (seq : Nat) (body : List Byte)
  /-- R75: session_idle seconds pass without a frame from the requester, and the session ends. -/
  | sessionIdleTimeout (link : Nat)
  /-- R72: An attestation request with its nonce is queued for the signing engine, or refused with 0x08. -/
  | attestationRequest (link : Nat) (requester : Nat) (prio : Nat) (seq : Nat) (body : List Byte)
  /-- R71: The signing engine completes the 256-byte report, and the report is sent. -/
  | attestationReportDone
  /-- R10: A register agent writes a register that has no row of its own, subject to role, reserved-address and glaze-control checks. -/
  | registerWrite (link : Nat) (requester : Nat) (addr : Nat) (w : Word)
  /-- R10: A read of an RC field returns its value and clears it, keeping any event that coincides with the read. -/
  | registerReadClear (link : Nat) (requester : Nat) (addr : Nat)
  /-- R375: A read-request message, over the fabric or CAN, reads up to 60 words and is answered with a response. -/
  | readRequest (link : Nat) (requester : Nat) (prio : Nat) (seq : Nat) (body : List Byte)
  /-- R375: A write-request message, over the fabric or CAN, writes count words and is answered with a response status. -/
  | writeRequest (link : Nat) (requester : Nat) (prio : Nat) (seq : Nat) (body : List Byte)
  /-- R369: A read of the low word of a 64-bit plant-time register copies all 64 bits into the link's read shadow. -/
  | plantTimeLowRead (link : Nat) (requester : Nat) (k : Nat)
  /-- R369: A write of the low word of a 64-bit plant-time register is held in the link's write shadow. -/
  | plantTimeLowWrite (link : Nat) (requester : Nat) (k : Nat) (w : Word)
  /-- R369: A write of the high word puts all 64 bits in force, or is refused with 0x03 if no low word is held. -/
  | plantTimeHighWrite (link : Nat) (requester : Nat) (k : Nat) (w : Word)
  /-- R149: A register-agent write to a parameter signal is held pending for the next latch of its source. -/
  | parameterWrite (link : Nat) (sig : Nat) (w : Word)
  /-- R86: A lock-counter window of W phase-detector cycles ends and its count is compared with E. -/
  | lockWindowEnd (syn : Nat) (c : Nat)
  /-- R88: 1 µs passes without a reference edge, so lor is set and the synthesizers using the reference go into holdover. -/
  | referenceLoss (r : Nat)
  /-- R88: Reference edges return, and the synthesizer relocks on its current band. -/
  | referenceReturn (r : Nat)
  /-- R93: A write of req_m requests a SYN_M hop to target_m, replacing, cancelling or discarding requests as R93 says. -/
  | hopRequestM (p : Nat) (atTime : Bool)
  /-- R93: A write of req_e requests a SYN_E hop to target_e, within slowest_eplan and the defined plans. -/
  | hopRequestE (p : Nat) (atTime : Bool)
  /-- R89: At the hop instant the output is gated off, the target plan is loaded, and settling begins. -/
  | hopInstant (syn : Nat)
  /-- R89: Lock on the target plan is declared, the output is released and HOP_DONE is raised. -/
  | hopDone (syn : Nat)
  /-- R92: 4 µs after the hop instant without lock, the output is released unlocked and hop_fail is set. -/
  | hopFail (syn : Nat)
  /-- R94: A write to CLK_SYNC_CTL arms a divider synchronisation and forms its target mark time. -/
  | syncArm (w : Word)
  /-- R94: A SYNC_IN edge or the chosen time mark resets the armed output dividers and raises SYNC_DONE. -/
  | syncEvent (mark : Bool) (time : Nat)
  /-- R104: A conversion completes and updates last, count and sum of its entry's result register. -/
  | conversionDone (cv : Nat) (v : Int) (agnd : Int) (vref : Nat)
  /-- R102: A write changing an entry's chan or acq restarts that entry's accumulation. -/
  | seqEntryWrite (cv : Nat) (e : Nat) (w : Word)
  /-- R166: A frame source latches, and publication, engine-input capture, acquisition records, import copies and the frame-index increment follow in order. -/
  | frameLatch (f : Nat) (one : List Nat) (two : List Nat)
  /-- R165: A context's frame-buffer records and import buffer are complete, and it becomes ready. -/
  | contextReady (c : Nat)
  /-- R110: A pair's check period expires, and a check is scheduled or skipped with chk_skip. -/
  | pairCheckDue (p : Nat)
  /-- R110: Both converters are idle and sample chk_src together, and the two codes are compared against chk_tol. -/
  | pairCheck (p : Nat) (v : Int) (agnd : Int) (eLo : Int) (eHi : Int) (vref : Nat)
  /-- R111: Both converters convert the internal reference, the outcome is recorded and the pair-mismatch source is raised. -/
  | referenceTest (p : Nat) (dLo : Int) (dHi : Int) (vref : Nat)
  /-- R113: A write of ACQ_PAIR_STAT.restore requests a reference test of the retired converter. -/
  | restoreRequest (p : Nat)
  /-- R113: At the next joint idle slot the retired converter is tested and restored if it is within ref_tol. -/
  | restoreTest (p : Nat) (dv : Int) (vref : Nat)
  /-- R115: A rising edge at destination 54 + cv aborts the conversion in progress and starts an urgent conversion. -/
  | urgentRequest (cv : Nat)
  /-- R116: The urgent result is written to ACQ_URG, urgent-done is raised, the result enters Q29 and the interrupted entry restarts. -/
  | urgentDone (v : Nat) (u : Int) (agnd : Int) (vref : Nat)
  /-- R119: A read of ACQ_RES word 0 copies last, count and sum into the read shadow, and restarts an unbound entry. -/
  | resultSnapshot (link : Nat) (requester : Nat) (cv : Nat) (e : Nat)
  /-- R120: A read of the low word of ACQ_FB holds off that entry's latch write for one CONV cycle. -/
  | frameRecordRead (link : Nat) (requester : Nat) (cv : Nat) (e : Nat)
  /-- R122: A comparator input crosses a threshold or its hysteresis point, so the raw output changes. -/
  | thresholdCrossing (a : Nat) (level : Nat)
  /-- R126: A comparator blanking window ends, and a side still asserted sets its latch. -/
  | blankingWindowEnd (n : Nat)
  /-- R128: In START, a domain arms once its comparators are resolved and no matrix input is asserted. -/
  | domainArm (d : Nat)
  /-- R133: EXT_TRIP_N falls and acts on the trip matrix and on source 504. -/
  | extTripNFall (low : Bool) (ps : Nat)
  /-- R134: WIN_TEST command 0 converts the comparator's DAC channels in one borrowed slot and compares them with rb_tol. -/
  | readbackTest (n : Nat) (dHi : Int) (dLo : Int) (vref : Nat)
  /-- R135: WIN_TEST command 1 ties the comparator input to VREFP, then to AGND_S, then reconnects it, or returns refused. -/
  | tieTest (n : Nat) (hiSeen : Bool) (loSeen : Bool)
  /-- R138: WIN_TEST command 2 forces one matrix input for 100 ns and checks every domain, only in TEST with the ports disabled. -/
  | matrixTest (src : Nat) (seen : Nat)
  /-- R137: A comparator or matrix test completes, setting result, the failure flags and source 511. -/
  | winTestDone
  /-- R137: Every auto_period ms the test engine tests the next comparator that has test_en set. -/
  | autoSweepStep
  /-- R140: A sampled source change passes through its routes' look-up, filters and modes to the destinations. -/
  | routeDelivery (src : Nat)
  /-- R143: The time of a debounce, count-window or stretch filter expires, and its output changes. -/
  | filterExpiry (route : Nat)
  /-- R144: A register-agent write to an EVR_ROUTE entry takes effect at the next router sample, or is refused with 0x0C. -/
  | routeEntryWrite (link : Nat) (requester : Nat) (route : Nat) (w : Word)
  /-- R170: A ready context starts on the lowest-numbered free lane in earliest-deadline order. -/
  | contextDispatch (c : Nat)
  /-- R159: The NOP instruction does nothing for one cycle. -/
  | nop (c : Nat) (stall : Nat) (one : List Nat) (two : List Nat)
  /-- R162: The LDF instruction loads a frame-record field or an engine input, optionally less a signal. -/
  | ldf (c : Nat) (stall : Nat) (one : List Nat) (two : List Nat)
  /-- R159: The ADD instruction writes sat32(A + B). -/
  | add (c : Nat) (stall : Nat) (one : List Nat) (two : List Nat)
  /-- R159: The SUB instruction writes sat32(A − B). -/
  | sub (c : Nat) (stall : Nat) (one : List Nat) (two : List Nat)
  /-- R159: The MUL instruction writes the rounded, shifted and saturated product. -/
  | mul (c : Nat) (stall : Nat) (one : List Nat) (two : List Nat)
  /-- R159: The MAC instruction adds the rounded, shifted product to dst with saturation. -/
  | mac (c : Nat) (stall : Nat) (one : List Nat) (two : List Nat)
  /-- R159: The NEG instruction writes sat32(−A). -/
  | neg (c : Nat) (stall : Nat) (one : List Nat) (two : List Nat)
  /-- R159: The ABS instruction writes sat32(|A|). -/
  | abs (c : Nat) (stall : Nat) (one : List Nat) (two : List Nat)
  /-- R159: The MIN instruction writes the smaller operand. -/
  | min (c : Nat) (stall : Nat) (one : List Nat) (two : List Nat)
  /-- R159: The MAX instruction writes the larger operand. -/
  | max (c : Nat) (stall : Nat) (one : List Nat) (two : List Nat)
  /-- R159: The SAT instruction clamps A between the two limit signals, or flags an operand fault if they are crossed. -/
  | sat (c : Nat) (stall : Nat) (one : List Nat) (two : List Nat)
  /-- R159: The CMP instruction writes 1 if the selected relation holds, else 0. -/
  | cmp (c : Nat) (stall : Nat) (one : List Nat) (two : List Nat)
  /-- R159: The SEL instruction writes A if the predicate signal is non-zero, else B. -/
  | sel (c : Nat) (stall : Nat) (one : List Nat) (two : List Nat)
  /-- R155: The SOS instruction runs a cascade of Direct Form I sections into shadow state, with scheduling and crossfade. -/
  | sos (c : Nat) (stall : Nat) (one : List Nat) (two : List Nat)
  /-- R185: The SCHED instruction updates the signal-axis indices with hysteresis and writes the region. -/
  | sched (c : Nat) (stall : Nat) (one : List Nat) (two : List Nat)
  /-- R191: The MINSEL instruction enters the member's output into its competing-loop group. -/
  | minsel (c : Nat) (stall : Nat) (one : List Nat) (two : List Nat)
  /-- R160: The CLARKE instruction performs the forward or inverse Clarke transform. -/
  | clarke (c : Nat) (stall : Nat) (one : List Nat) (two : List Nat)
  /-- R161: The ROT instruction rotates α, β by an angle into d, q. -/
  | rot (c : Nat) (stall : Nat) (one : List Nat) (two : List Nat)
  /-- R161: The IROT instruction rotates d, q by an angle back into α, β. -/
  | irot (c : Nat) (stall : Nat) (one : List Nat) (two : List Nat)
  /-- R159: The DIV instruction writes the rounded, saturated quotient. -/
  | div (c : Nat) (stall : Nat) (one : List Nat) (two : List Nat)
  /-- R159: The SQRT instruction writes the rounded square root of A × 2^s. -/
  | sqrt (c : Nat) (stall : Nat) (one : List Nat) (two : List Nat)
  /-- R198: The TRACK instruction runs one perturb-and-observe, sweep or capped step of the MPP tracker. -/
  | track (c : Nat) (stall : Nat) (one : List Nat) (two : List Nat)
  /-- R172: The OUT instruction sets a leg compare or a group period target for commit. -/
  | out (c : Nat) (stall : Nat) (one : List Nat) (two : List Nat)
  /-- R174: The EVT instruction sets the frame's value of its event line. -/
  | evt (c : Nat) (stall : Nat) (one : List Nat) (two : List Nat)
  /-- R159: A reserved opcode acts as NOP, sets satf and counts in op_err. -/
  | reservedOpcode (c : Nat) (stall : Nat) (one : List Nat) (two : List Nat)
  /-- R169: A finished context commits its state, its pending signals and its queue entries, or waits for queue room. -/
  | contextCommit (c : Nat)
  /-- R250: Room appears in the commit queues, and a waiting commit step writes all its entries. -/
  | commitQueueRoom (c : Nat)
  /-- R168: A context's commit point arrives; a running frame is abandoned, and EVT, OVR and SAT lines take effect. -/
  | commitPoint (c : Nat)
  /-- R171: A write of ENG_CTX_CTL.en enables a context or starts its drain. -/
  | contextEnableWrite (c : Nat) (b : Bool)
  /-- R181: The background scrubber reads the next word of a store and queues a correction or marks the word poisoned. -/
  | scrubRead (store : Nat) (err : Nat)
  /-- R180: A queued single-bit correction is written back, occupying its bank for 2 cycles. -/
  | eccWriteBack
  /-- R209: 1,024 ticks after a grid-sample latch, the grid unit's results for that sample take effect. -/
  | gridUpdate
  /-- R219: A trip-curve point timer reaches its time, raising the curve's source and setting fired. -/
  | tripCurveExpiry (c : Nat) (k : Nat)
  /-- R222: exit_time passes inside the continuous limits, the ride state ends and RT_EXIT is raised. -/
  | rideExit
  /-- R227: The hold or window time of ROCOF, the frequency window or the voltage window runs out, and its source is raised. -/
  | passiveTimerExpiry (m : Nat)
  /-- R213: θ₊ reaches the next GS multiple, and the grid unit publishes, recomputes N_h and applies deferred writes. -/
  | gsInstant
  /-- R211: A write to an RW GRD_ field is held until the next GS instant. -/
  | gridWrite (a : Nat) (w : Word)
  /-- R229: At T0 a new code period starts, and a changed code index takes effect. -/
  | sprinklePeriodStart
  /-- R244: A carrier group wraps, and the due compares and periods are put in force with the pulse rules. -/
  | carrierWrap (g : Nat)
  /-- R251: The modulator takes one entry from Q00–Q03 into its target's pending slots. -/
  | commitQueueDrain (q : Nat)
  /-- R248: The carrier count reaches a window edge, the outgoing port turns off and dead time starts. -/
  | commandEdge (l : Nat) (toH : Bool)
  /-- R259: Dead time elapses, and the incoming port turns on if the outgoing FB reads off. -/
  | deadTimeExpiry (l : Nat)
  /-- R259: t_il passes without the outgoing FB reading off; the incoming port stays off and the timeout source is raised. -/
  | interlockTimeout (l : Nat)
  /-- R282: A port's FB comparator changes state, satisfying the interlock or arming the node watchdog. -/
  | fbComparatorChange (port : Nat) (level : Nat) (frac : Nat)
  /-- R283: A leg's NODE comparator changes state, ending a transition measurement or satisfying the watchdog. -/
  | nodeComparatorChange (l : Nat) (level : Nat) (frac : Nat)
  /-- R265: The delay-line tap count is measured against the MOD clock every 1 µs and averaged. -/
  | calibrationMeasurement (taps : Nat)
  /-- R269: The ring oscillator sees no MOD edge for 1 µs, or 5 µs during a hop, and the legs go to the safe state. -/
  | modClockStop
  /-- R279: A STAT frame ends and is taken as good, updating GTP_LEG_LINK, or as bad and counted. -/
  | statFrame (l : Nat) (levels : List Nat)
  /-- R279: 1.25 µs after the last preamble, or each further 1 µs, without a new one, a missing frame is counted. -/
  | statFrameMissing (l : Nat)
  /-- R286: DESAT rises and, if its blanking gate is open, starts two-step turn-off, a leg fault and the matrix domains. -/
  | desatAssert (l : Nat) (high : Bool)
  /-- R284: t_blank after a turn-on the DESAT gate opens, and a DESAT still high passes. -/
  | blankingEnd (l : Nat)
  /-- R287: t_node passes without the expected node level, so the leg turns off and latches fault cause 2. -/
  | nodeWatchdogTimeout (l : Nat) (h : Bool)
  /-- R293: At the end of t_soft1 and its stagger, GH, GL and GSOFT fall together and the leg is off. -/
  | finalStep (l : Nat)
  /-- R294: 200 ns without a ring edge forces the final step of every leg in step 1. -/
  | ringStopped
  /-- R292: Every 1 ms, ring cycles are counted against 10 µs of MOD ticks and recorded in GTP_RING. -/
  | ringCalibration (cycles : Nat)
  /-- R298: chop_ext after the domain's last final step, trip assist ends. -/
  | tripAssistEnd (c : Nat) (d : Nat)
  /-- R306: All eight metering channels deliver a sample, and calibration, powers, energy, events and publishers update. -/
  | meteringSample (codes : List Int)
  /-- R316: A write of MTR_SNAP.take requests an energy snapshot, merging with one already pending. -/
  | snapshotTake (l : Nat)
  /-- R318: Every 1 s the metering side writes a checkpoint into Q06. -/
  | checkpoint
  /-- R320: Local time reaches a multiple of the demand length, a demand record is pushed and DEMAND_END is raised. -/
  | demandClose
  /-- R321: Every 1 ms the pulse inputs are sampled, debounced and counted, and their power is re-estimated. -/
  | pulseInputSample (levels : Nat)
  /-- R325: A pulse output's width or spacing expires, ending a pulse or starting the next owed one. -/
  | pulseOutputTimer (k : Nat)
  /-- R324: The watched export power exceeds limit for time ms, and EXPORT_LIMIT is raised. -/
  | exportLimit
  /-- R348: A write of SEQ_REQ.req_mode requests a mode, handled as a rule action in the next step. -/
  | modeRequest (m : Nat)
  /-- R348: A write of SEQ_REQ.aux_on requests an auxiliary glaze on. -/
  | auxOnRequest (k : Nat)
  /-- R348: A write of SEQ_REQ.aux_off requests an auxiliary glaze off. -/
  | auxOffRequest (k : Nat)
  /-- R344: A step evaluates the valid rules in order on a Q04 or Q05 edge, at mode entry or every 1 µs, and performs the actions of the rules that fire. -/
  | sequencerStep (kind : Nat)
  /-- R347: A sequencer timer reaches zero, expired is set and a step runs. -/
  | seqTimerExpiry (t : Nat)
  /-- R339: The glaze applier finishes writing the composition into the shadow copies. -/
  | glazeApplicationDone
  /-- R363: A hello set is received during training, and 16 valid hellos each way advance the link or refuse it. -/
  | hello (p : Nat) (codes : Nat) (role : Nat) (port : Nat) (id : Nat) (level : Nat)
  /-- R363: Comma alignment and 64 symbols without a code error take a port from aligning to training. -/
  | alignment (p : Nat)
  /-- R363: 1 ms without alignment restarts the aligning state. -/
  | alignRestart (p : Nat)
  /-- R363: Loss of alignment or 8 consecutive code errors return the port to aligning and raise the link-down source. -/
  | linkDown (p : Nat) (codes : Nat)
  /-- R485: A fabric LOS input high for 100 ns acts on its port as a loss of alignment. -/
  | losAssert (p : Nat) (high : Bool)
  /-- R364: A delay probe is received, and the echo is scheduled exactly 32 symbols later. -/
  | probe (p : Nat) (codes : Nat)
  /-- R364: 32 symbols after a probe, the parent sends the echo. -/
  | echoSend (p : Nat)
  /-- R364: An echo is received, and the child updates its mean one-way link delay. -/
  | echo (rt : Nat) (codes : Nat)
  /-- R363: No echo arrives within 10 µs of a probe, and the port returns to aligning. -/
  | echoTimeout
  /-- R364: Every 10 s an up child sends one delay probe. -/
  | periodicProbe
  /-- R366: At each 1 µs multiple of plant time, a time mark is sent on every D port that is up. -/
  | timeMarkSend
  /-- R366: A received time mark steps or trims the local plant time and updates time_locked. -/
  | timeMark (twin : Bool) (codes : Nat) (value : Nat) (valid : Bool)
  /-- R366: 4 µs without a valid mark clears time_locked and time_valid and raises TIME_LOST. -/
  | markTimeout (twin : Bool)
  /-- R365: A write to FAB_TIME at the root takes effect at the next time mark. -/
  | fabTimeWrite (t : Nat)
  /-- R376: A received trip set is forwarded cut-through, raises FAB_TRIP_RX and is recorded. -/
  | tripSetReceived (p : Nat) (codes : Nat) (origin : Nat) (seq : Nat)
  /-- R377: Every 1 µs a node sends its combined status set up. -/
  | statusSend
  /-- R377: A child's status set is received and kept for combination. -/
  | statusReceived (p : Nat) (codes : Nat) (bits : Nat)
  /-- R378: A write of FAB_BARRIER.arrive enters the node into the barrier. -/
  | barrierEnter (n : Nat)
  /-- R378: An arrive set from a child is received, and arrive goes up once every child has arrived. -/
  | barrierArrive (p : Nat) (codes : Nat) (n : Nat)
  /-- R378: A release is received or flooded, so done is set and BARRIER_DONE is raised. -/
  | barrierRelease (codes : Nat) (n : Nat)
  /-- R371: A fabric packet is received whole, checked for length and CRC, and routed or delivered. -/
  | packetReceived (p : Nat) (codes : Nat) (bytes : List Byte)
  /-- R379: A scheduled-operation packet is held pending, refused, or executed late if T has passed. -/
  | scheduledOperation (src : Nat) (op : Nat) (id : Nat) (t : Nat) (arg0 : Nat) (arg1 : Nat)
  /-- R380: At T, FAB_SNAP takes the plant time and frame indices, and an MTR_SNAP[2] snapshot is requested. -/
  | scheduledSnapshot
  /-- R380: At T, arg1 is written pending to the parameter signal arg0. -/
  | scheduledSetpoint
  /-- R380: At T, CLK_HOP is loaded with the target MPLAN and a timed hop is requested. -/
  | scheduledPlanHop
  /-- R380: At T, every carrier group restarts as at SAFE-ready and every frame index is zeroed. -/
  | plantReset
  /-- R381: A write of FAB_SCHED_TX.go sends the scheduled operation as a prio broadcast. -/
  | schedTxGo (link : Nat) (requester : Nat)
  /-- R383: A type 0x07 packet writes the Sprinkle code and share count on nodes with src = 1. -/
  | sprinkleAssignment (src : Nat) (code : Nat) (share : Nat)
  /-- R389: A heartbeat is received on a twin lane, bringing the lane up after 16 valid heartbeats. -/
  | twinHeartbeat (l : Nat) (valid : Bool) (role : Nat) (pst : Nat) (mode : Nat) (locked : Bool) (pairId : Nat) (hash : Nat)
  /-- R389: 1,280 ns without a heartbeat, loss of alignment or 8 code errors take a lane down. -/
  | twinLaneDown (l : Nat)
  /-- R392: At the leader's start time both devices restart their carriers and zero their frame indices, and state becomes paired. -/
  | twinStart
  /-- R393: A received cross-trip raises TWIN_TRIP_RX and sets the armed rx_pd domains directly. -/
  | crossTripReceived (mask : Nat)
  /-- R395: A mirror packet is received for publication two frames after the writer's frame, or discarded if late. -/
  | mirrorEntryReceived (whole : Bool) (f : Nat) (k : Nat) (sig : Nat) (w : Word)
  /-- R397: The leader receives a mode, auxiliary or completion message from the follower. -/
  | twinControlRequest (whole : Bool) (kind : Nat) (a : List Nat)
  /-- R397: Go is received, and each affected source swaps at its first latch at least 4 µs later. -/
  | twinGo (whole : Bool) (t : Nat)
  /-- R400: A write of TWN_CTL.repair in SAFE restarts pairing. -/
  | repair
  /-- R408: A CAN frame is received and acknowledged, and message-set frames for this node are queued by priority. -/
  | canFrameReceived (ch : Nat) (fd : Bool) (ext : Bool) (remote : Bool) (id : Nat) (data : List Byte)
  /-- R409: A frame from tx-high or tx-low is transmitted successfully. -/
  | canFrameSent (ch : Nat) (loop : Nat)
  /-- R411: An ACK error on the head message is counted, and at alone_limit the channel becomes alone. -/
  | ackError (ch : Nat)
  /-- R410: TEC passes 255 and the channel stops transmitting, acknowledging and queuing. -/
  | busOff (ch : Nat)
  /-- R410: A write of CAN_CTL.recover starts bus-off recovery, or is ignored. -/
  | recover (ch : Nat)
  /-- R410: 128 occurrences of 11 recessive bits complete, and the channel is error-active with both counters at zero. -/
  | busOffRecoveryDone (ch : Nat)
  /-- R411: alone_retry elapses, and a lone channel makes exactly one attempt. -/
  | aloneRetry (ch : Nat)
  /-- R417: A rising edge of a named event source queues an event message in tx-high. -/
  | canEvent (k : Nat)
  /-- R420: The always-on domain changes to the first available supply source. -/
  | supplyChangeover (v : Nat) (c : Nat)
  /-- R422: VSTORE reaches 1.4 V, and the boost charger takes over from the self-oscillating stage. -/
  | coldStartHandover (v : Nat) (vrect : Nat)
  /-- R422: Every 2 s the boost charger opens its input for 4 ms to measure VRECT. -/
  | openCircuitMeasure (v : Nat)
  /-- R429: The always-on domain starts and checks the retention header. -/
  | aonDomainStart (v : Nat) (c : Nat) (xtal : Bool)
  /-- R425: A burst is admitted against the stored energy, run from the cell, or refused. -/
  | burstRequest (kind : Nat) (n : Nat) (v : Nat)
  /-- R437: The RF Inventory command is answered per ISO/IEC 15693. -/
  | inventory (flags : Nat) (afi : Nat) (len : Nat) (mask : Nat) (v : Nat)
  /-- R437: The RF Stay quiet command silences the device until the field is lost. -/
  | stayQuiet (flags : Nat) (uid : Nat) (v : Nat)
  /-- R437: The RF Read single block command answers 4 bytes of the retention memory. -/
  | readSingleBlock (flags : Nat) (uid : Nat) (b : Nat) (v : Nat)
  /-- R438: The RF Read multiple blocks command answers up to 32 blocks copied in one burst, or an error. -/
  | readMultipleBlocks (flags : Nat) (uid : Nat) (b : Nat) (n : Nat) (v : Nat)
  /-- R438: The RF Get system information command reports memory size and IC reference. -/
  | getSystemInformation (flags : Nat) (uid : Nat) (v : Nat)
  /-- R437: Any other RF command is answered with error 0x01. -/
  | rfUnsupportedCommand (flags : Nat) (uid : Nat) (cmd : Nat) (v : Nat)
  /-- R430: The controller drains Q06 and writes the newest checkpoint to the alternate slot. -/
  | checkpointCommit
  /-- R431: An admitted burst commits the oldest Q07 record into the event-log ring. -/
  | logCommit (v : Nat)
  /-- R435: At 1,024 Hz the tamper inputs are sampled, and 4 equal samples change their state. -/
  | tamperSample (levels : Nat) (v : Nat) (xtal : Bool)
  /-- R434: A write to AON_RTC sets the time, sets rtc_valid and closes the demand interval. -/
  | rtcWrite (link : Nat) (requester : Nat) (sec : Nat)
  /-- R446: A write of OBS_SNAP.take copies every counter and accumulator into the read shadow. -/
  | obsSnapTake (link : Nat) (requester : Nat)
  /-- R443: A write of OBS_CTL.clear zeroes every counter and accumulator. -/
  | counterClear (link : Nat) (requester : Nat)
  /-- R448: With drain set, the oldest precise-sample entry leaves through Q27 when room appears. -/
  | preciseSampleDrain
  /-- R448: A read of word 3 of the oldest unread OBS_PS entry marks it read. -/
  | preciseSampleRead (link : Nat) (requester : Nat) (entry : Nat)
  /-- R452: A write of OBS_REC_CTL.arm starts recording with a start record. -/
  | recordArm (link : Nat) (requester : Nat)
  /-- R453: A write of OBS_REC_CTL.disarm stops recording at the next record boundary. -/
  | recordDisarm (link : Nat) (requester : Nat)
  /-- R454: Every n latches or t µs a periodic dump writes one record per valid range, or is skipped. -/
  | periodicDump
  /-- R457: A write of OBS_CLKTEST.start powers down SYN_M or SYN_E in TEST, or returns refused. -/
  | clockStopTest (link : Nat) (requester : Nat)
  /-- R457: A write of OBS_CLKTEST.abort ends the off interval early. -/
  | clockStopAbort (link : Nat) (requester : Nat)
  /-- R457: The synthesizer power-down completes 1 µs after start, and a pending abort takes effect. -/
  | powerDownDone
  /-- R457: dur expires, the synthesizer relocks on its stored band and the test result is set. -/
  | clockTestOffEnd (windows : List Nat)
  /-- R461: A write of OBS_DBG_CTL.halt halts the engine, abandons running frames and leads to the safe state. -/
  | halt (link : Nat) (requester : Nat)
  /-- R462: While halted, a write of step dispatches one context once at its next latch. -/
  | engineStep (link : Nat) (requester : Nat) (c : Nat)
  /-- R462: Clearing halt resumes dispatch at each source's next latch. -/
  | haltClear (link : Nat) (requester : Nat)
  /-- R458: The IDCODE TAP instruction selects the identification register. -/
  | idcode
  /-- R458: The SAMPLE/PRELOAD TAP instruction samples or preloads the boundary register. -/
  | samplePreload (balls : List Bool)
  /-- R459: The restricted EXTEST TAP instruction drives the balls from the boundary register, or acts as BYPASS. -/
  | extest
  /-- R459: The restricted EXTEST_PULSE instruction tests the AC-coupled lanes. -/
  | extestPulse
  /-- R459: The restricted EXTEST_TRAIN instruction tests the AC-coupled lanes with a pulse train. -/
  | extestTrain
  /-- R459: The restricted CLAMP instruction holds the outputs and selects bypass. -/
  | clamp
  /-- R459: The restricted HIGHZ instruction puts the outputs in high impedance. -/
  | highz
  /-- R458: BYPASS, or any unlisted code, selects the one-bit bypass register. -/
  | bypass (ir : Nat)
  /-- R460: A DEBUG data-register update performs a register read or write as link 3. -/
  | debugAccess (data : Nat)
  /-- R476: A reset is asserted; enabled legs finish two-step turn-off before the gate block resets, unless a core or I/O rail is dying. -/
  | resetAssert (dying : Bool)
  /-- R477: A low pulse on RESET_N is ignored if shorter than 100 ns and resets if 1 µs or longer. -/
  | resetNPulse (ns : Nat)
  /-- R475: A rail below its reset threshold for 200 ns asserts reset. -/
  | railBelowReset (r : Nat)
  /-- R475: A rail outside its operating range for 1 µs raises SUPPLY_WARN. -/
  | supplyWarn (r : Nat)
  /-- R474: A rail rises above its good threshold, starting its 2 ms good interval. -/
  | railGood (r : Nat)
  /-- R72: The signing engine finishes verifying a session response that waited behind another request, and the session opens or the failure is counted. -/
  | sessionVerificationDone
  /-- R420: VSTORE falls below 1.4 V with no cell, and the always-on domain loses the retention memory, the RTC and every AON_ value. -/
  | domainLosesPower (v : Nat) (c : Nat)
  /-- R437: The reader's field is lost, ending the Stay quiet state. -/
  | rfFieldLost
  /-- R403: A bit, stuff, CRC or form error on a CAN channel updates TEC and REC per fault confinement and restarts the ACK-error count. -/
  | canError (ch : Nat) (kind : Nat)
  /-- R359: During training a fabric port sends a hello set every 256 ns with its role, port, ID and level. -/
  | helloSend (p : Nat)
  /-- R388: A twin device sends a heartbeat on every lane every 256 ns with its role, pair state and lane number. -/
  | heartbeatSend
  /-- R390: Room appears in Q22 or Q24, and a commit step or the control plane waiting on the full twin transmit queue proceeds. -/
  | twinQueueRoom (q : Nat)
  deriving DecidableEq, Repr

end Sys2Proof
end

