-- ==== Sys2Proof/Decode.lean ====
section
/-!
DEFINITION. The decoder of the command table: spec/opcode_table.json gives no row any bits, so no word spells a command.
-/

namespace Sys2Proof

/-- The command a table word spells: none, since no row of the table has a field. -/
def decodeTableWord (nbits w : Nat) : Option Instr :=
  match nbits, w with
  | _, _ => none

end Sys2Proof
end

