-- ==== Sys2Proof/Config.lean ====
section
/-!
DEFINITION. What an implementation or the surroundings fix and the spec leaves open: free values and the roundings that the spec
does not state. Nothing here has a body.
-/

namespace Sys2Proof

/-- A free value; the step supplies a fresh argument from State.freeCtr (assumption log, entry 3). -/
opaque Config.freeNat : Nat → Nat

/-- A free yes or no (assumption log, entry 3). -/
opaque Config.freeBool : Nat → Bool

/-- The frequency in Hz of the reference at REFIN, which the board chooses (R80; chapter Pins gives 10 to 250 MHz). -/
opaque Config.refinHz : Nat

/-- The delay of a twin lane in 125 ps, which the board fixes (R392). -/
opaque Config.laneDelay : Nat

/-- The hash that a pair compares, whose function the spec does not name (R391). -/
opaque Config.pairHash : List (BitVec 32) → Nat

/-- Whether a GS16 source, whose period of 868 µs to 1.56 ms depends on the grid frequency, exceeds the 1 ms of R340, which
names no frequency. -/
opaque Config.gs16TooSlow : Bool

/-- The identity window's bytes by offset, from the serial and the vendor root hash: R70 gives what it holds and no layout. -/
opaque Config.identityByte : BitVec 64 → BitVec 384 → Nat → Byte

/-- The vendor root key that a device knows which has read no trailer with the fused key: the spec gives it none but the
trailer's (R56, R74; log entry 11). -/
opaque Config.vendorRootKey : BitVec 384 → List Byte

/-- The entropy source: 24 bytes of each challenge (R74). -/
opaque Config.entropy : Nat → List Byte

/-- Where the spec states a real-valued result and no rounding: whether the upper neighbour is taken, per place of use
(assumption log, entry 3). -/
opaque Config.roundUp : Nat → Int → Int → Bool

/-- A function of the spec whose exact value on the grid of its result is not stated, per place of use. -/
opaque Config.realFn : Nat → List Int → Int

end Sys2Proof
end

