-- ==== Sys2Proof/Machine/Cmap.lean ====
section
/-!
DEFINITION. Sparse tables as plain data. A canonical map lists (key, value) pairs with keys strictly rising and lists
no pair whose value is the one an unlisted key reads as, so that equal contents are equal data. A `Tbl` is the same
list read with a default.
-/

namespace Sys2Proof.Machine

/-- Read a key; an unlisted key reads as `d` of it. -/
def mget {α : Type} (d : Nat → α) : List (Nat × α) → Nat → α
  | [], a => d a
  | p :: r, a => if a = p.1 then p.2 else mget d r a

/-- Remove every entry of a key. -/
def merase {α : Type} : List (Nat × α) → Nat → List (Nat × α)
  | [], _ => []
  | p :: r, a => if a = p.1 then merase r a else p :: merase r a

/-- Insert or replace an entry, keeping the keys in rising order. -/
def minsert {α : Type} : List (Nat × α) → Nat → α → List (Nat × α)
  | [], a, v => [(a, v)]
  | p :: r, a, v =>
    if a = p.1 then (a, v) :: r else if a < p.1 then (a, v) :: p :: r else p :: minsert r a v

/-- Write a key: the value an unlisted key reads as removes the entry. -/
def mput {α : Type} [DecidableEq α] (d : Nat → α) (m : List (Nat × α)) (a : Nat) (v : α) : List (Nat × α) :=
  if v = d a then merase m a else minsert m a v

/-- The canonical form. -/
def mwf {α : Type} [DecidableEq α] (d : Nat → α) : List (Nat × α) → Bool
  | [] => true
  | p :: r => decide (p.2 ≠ d p.1) && r.all (fun q => decide (p.1 < q.1)) && mwf d r

/-- Read a sparse table with default `d`. -/
def tget {α : Type} (t : Tbl α) (k : Nat) (d : α) : α := mget (fun _ => d) t k

/-- Write a sparse table. -/
def tset {α : Type} (t : Tbl α) (k : Nat) (v : α) : Tbl α := minsert t k v

/-- A Boolean table read with default false. -/
def tbit (t : Tbl Bool) (k : Nat) : Bool := tget t k false

/-- A number table read with default zero. -/
def tnum (t : Tbl Nat) (k : Nat) : Nat := tget t k 0

/-- Apply `f` for each number below `n`, in rising order. -/
def forUpTo {σ : Type} (n : Nat) (f : Nat → σ → σ) (s : σ) : σ := (List.range n).foldl (fun t i => f i t) s

end Sys2Proof.Machine
end

