-- ==== Sys2Proof/Machine/RegMap.lean ====
section
/-!
DEFINITION. The register map: the address of every register of the spec's register tables (R9, R37) and every bit
field of it, under the spec's own names. `R.X i j` is the address of register X[i][j]; `R.X_f i j` is its field f.
Multi-word registers give the first word's address; a field names the word it lies in. One line per register or
field, in the order of the chapters.
-/

namespace Sys2Proof.Machine

/-- A bit field: the word's address, the lowest bit and the width. -/
structure Fld where
  addr : Nat
  lo : Nat
  w : Nat
  deriving DecidableEq, Repr

/-- BOOT_STATUS (02_image_and_trust.md). -/
def R.BOOT_STATUS : Nat := 0x00000000
def R.BOOT_STATUS_slot : Fld := ⟨R.BOOT_STATUS, 0, 2⟩
def R.BOOT_STATUS_safe_ready : Fld := ⟨R.BOOT_STATUS, 2, 1⟩
def R.BOOT_STATUS_bound : Fld := ⟨R.BOOT_STATUS, 3, 1⟩
def R.BOOT_STATUS_debug_locked : Fld := ⟨R.BOOT_STATUS, 4, 1⟩
def R.BOOT_STATUS_svn_committed : Fld := ⟨R.BOOT_STATUS, 5, 1⟩
def R.BOOT_STATUS_bind_fail : Fld := ⟨R.BOOT_STATUS, 6, 1⟩
def R.BOOT_STATUS_fallback : Fld := ⟨R.BOOT_STATUS, 7, 1⟩
def R.BOOT_STATUS_image_svn : Fld := ⟨R.BOOT_STATUS, 8, 8⟩
def R.BOOT_STATUS_fuse_svn : Fld := ⟨R.BOOT_STATUS, 16, 6⟩
/-- BOOT_POLICY (02_image_and_trust.md). -/
def R.BOOT_POLICY : Nat := 0x00000004
def R.BOOT_POLICY_perf_access_operator : Fld := ⟨R.BOOT_POLICY, 0, 1⟩
def R.BOOT_POLICY_jtag_operator : Fld := ⟨R.BOOT_POLICY, 1, 1⟩
def R.BOOT_POLICY_observer_enable : Fld := ⟨R.BOOT_POLICY, 2, 1⟩
def R.BOOT_POLICY_session_idle : Fld := ⟨R.BOOT_POLICY, 8, 8⟩
def R.BOOT_POLICY_lock_fail : Fld := ⟨R.BOOT_POLICY, 16, 8⟩
/-- BOOT_ERR_CNT (02_image_and_trust.md). -/
def R.BOOT_ERR_CNT : Nat := 0x00000008
def R.BOOT_ERR_CNT_wob : Fld := ⟨R.BOOT_ERR_CNT, 0, 8⟩
def R.BOOT_ERR_CNT_rsvd : Fld := ⟨R.BOOT_ERR_CNT, 8, 8⟩
def R.BOOT_ERR_CNT_access : Fld := ⟨R.BOOT_ERR_CNT, 16, 8⟩
def R.BOOT_ERR_CNT_auth_fail : Fld := ⟨R.BOOT_ERR_CNT, 24, 8⟩
/-- BOOT_FAIL (02_image_and_trust.md). -/
def R.BOOT_FAIL (i : Nat) : Nat := 0x00000010 + 4 * i
def R.BOOT_FAIL_code (i : Nat) : Fld := ⟨R.BOOT_FAIL i, 0, 8⟩
def R.BOOT_FAIL_section (i : Nat) : Fld := ⟨R.BOOT_FAIL i, 8, 8⟩
/-- BOOT_SESSION (02_image_and_trust.md). -/
def R.BOOT_SESSION (i : Nat) : Nat := 0x00000020 + 4 * i
def R.BOOT_SESSION_role (i : Nat) : Fld := ⟨R.BOOT_SESSION i, 0, 2⟩
def R.BOOT_SESSION_pending (i : Nat) : Fld := ⟨R.BOOT_SESSION i, 2, 1⟩
def R.BOOT_SESSION_locked_out (i : Nat) : Fld := ⟨R.BOOT_SESSION i, 3, 1⟩
def R.BOOT_SESSION_key_index (i : Nat) : Fld := ⟨R.BOOT_SESSION i, 4, 3⟩
def R.BOOT_SESSION_requester (i : Nat) : Fld := ⟨R.BOOT_SESSION i, 8, 16⟩
def R.BOOT_SESSION_close (i : Nat) : Fld := ⟨R.BOOT_SESSION i, 31, 1⟩
/-- BOOT_FLASH_CTL (02_image_and_trust.md). -/
def R.BOOT_FLASH_CTL : Nat := 0x00000040
def R.BOOT_FLASH_CTL_start : Fld := ⟨R.BOOT_FLASH_CTL, 0, 1⟩
def R.BOOT_FLASH_CTL_cmd : Fld := ⟨R.BOOT_FLASH_CTL, 1, 3⟩
def R.BOOT_FLASH_CTL_slot : Fld := ⟨R.BOOT_FLASH_CTL, 4, 1⟩
def R.BOOT_FLASH_CTL_busy : Fld := ⟨R.BOOT_FLASH_CTL, 5, 1⟩
def R.BOOT_FLASH_CTL_error : Fld := ⟨R.BOOT_FLASH_CTL, 6, 1⟩
def R.BOOT_FLASH_CTL_result : Fld := ⟨R.BOOT_FLASH_CTL, 8, 8⟩
/-- CLK_STATUS (03_clock_synthesis.md). -/
def R.CLK_STATUS : Nat := 0x03000000
def R.CLK_STATUS_lol_m : Fld := ⟨R.CLK_STATUS, 0, 1⟩
def R.CLK_STATUS_lol_e : Fld := ⟨R.CLK_STATUS, 1, 1⟩
def R.CLK_STATUS_lol_a : Fld := ⟨R.CLK_STATUS, 2, 1⟩
def R.CLK_STATUS_lor : Fld := ⟨R.CLK_STATUS, 3, 1⟩
def R.CLK_STATUS_hop_fail : Fld := ⟨R.CLK_STATUS, 4, 1⟩
def R.CLK_STATUS_locked_m : Fld := ⟨R.CLK_STATUS, 5, 1⟩
def R.CLK_STATUS_locked_e : Fld := ⟨R.CLK_STATUS, 6, 1⟩
def R.CLK_STATUS_locked_a : Fld := ⟨R.CLK_STATUS, 7, 1⟩
def R.CLK_STATUS_hop_busy : Fld := ⟨R.CLK_STATUS, 8, 1⟩
def R.CLK_STATUS_mplan : Fld := ⟨R.CLK_STATUS, 9, 3⟩
def R.CLK_STATUS_eplan : Fld := ⟨R.CLK_STATUS, 12, 2⟩
def R.CLK_STATUS_ref_present : Fld := ⟨R.CLK_STATUS, 14, 3⟩
/-- CLK_REF_SEL (03_clock_synthesis.md). -/
def R.CLK_REF_SEL : Nat := 0x03000004
def R.CLK_REF_SEL_ref_m : Fld := ⟨R.CLK_REF_SEL, 0, 2⟩
def R.CLK_REF_SEL_ref_e : Fld := ⟨R.CLK_REF_SEL, 2, 2⟩
def R.CLK_REF_SEL_r_div_m : Fld := ⟨R.CLK_REF_SEL, 4, 4⟩
def R.CLK_REF_SEL_r_div_e : Fld := ⟨R.CLK_REF_SEL, 8, 4⟩
/-- CLK_PLAN (03_clock_synthesis.md). -/
def R.CLK_PLAN (i : Nat) : Nat := 0x03000100 + 8 * i
def R.CLK_PLAN_n_int (i : Nat) : Fld := ⟨R.CLK_PLAN i, 0, 7⟩
def R.CLK_PLAN_out_div (i : Nat) : Fld := ⟨R.CLK_PLAN i, 7, 3⟩
def R.CLK_PLAN_band (i : Nat) : Fld := ⟨R.CLK_PLAN i, 10, 6⟩
def R.CLK_PLAN_valid (i : Nat) : Fld := ⟨R.CLK_PLAN i, 16, 1⟩
def R.CLK_PLAN_defined (i : Nat) : Fld := ⟨R.CLK_PLAN i, 17, 1⟩
/-- CLK_PLAN_FRAC (03_clock_synthesis.md). -/
def R.CLK_PLAN_FRAC (i : Nat) : Nat := 0x03000104 + 8 * i
def R.CLK_PLAN_FRAC_n_frac (i : Nat) : Fld := ⟨R.CLK_PLAN_FRAC i, 0, 20⟩
/-- CLK_HOP (03_clock_synthesis.md). -/
def R.CLK_HOP : Nat := 0x03000010
def R.CLK_HOP_target_m : Fld := ⟨R.CLK_HOP, 0, 3⟩
def R.CLK_HOP_req_m : Fld := ⟨R.CLK_HOP, 3, 1⟩
def R.CLK_HOP_target_e : Fld := ⟨R.CLK_HOP, 4, 2⟩
def R.CLK_HOP_req_e : Fld := ⟨R.CLK_HOP, 6, 1⟩
def R.CLK_HOP_at_time : Fld := ⟨R.CLK_HOP, 7, 1⟩
/-- CLK_SYNC_CTL (03_clock_synthesis.md). -/
def R.CLK_SYNC_CTL : Nat := 0x03000020
def R.CLK_SYNC_CTL_arm_m : Fld := ⟨R.CLK_SYNC_CTL, 0, 1⟩
def R.CLK_SYNC_CTL_arm_e : Fld := ⟨R.CLK_SYNC_CTL, 1, 1⟩
def R.CLK_SYNC_CTL_arm_a : Fld := ⟨R.CLK_SYNC_CTL, 2, 1⟩
def R.CLK_SYNC_CTL_source : Fld := ⟨R.CLK_SYNC_CTL, 3, 1⟩
def R.CLK_SYNC_CTL_mark_lsb : Fld := ⟨R.CLK_SYNC_CTL, 4, 28⟩
/-- CLK_LOCK_CFG (03_clock_synthesis.md). -/
def R.CLK_LOCK_CFG : Nat := 0x03000024
def R.CLK_LOCK_CFG_lock_tol : Fld := ⟨R.CLK_LOCK_CFG, 0, 4⟩
def R.CLK_LOCK_CFG_lol_tol : Fld := ⟨R.CLK_LOCK_CFG, 8, 4⟩
/-- CLK_HOP_CNT (03_clock_synthesis.md). -/
def R.CLK_HOP_CNT : Nat := 0x03000028
def R.CLK_HOP_CNT_done : Fld := ⟨R.CLK_HOP_CNT, 0, 16⟩
def R.CLK_HOP_CNT_null : Fld := ⟨R.CLK_HOP_CNT, 16, 8⟩
def R.CLK_HOP_CNT_late : Fld := ⟨R.CLK_HOP_CNT, 24, 8⟩
/-- ACQ_STATUS (04_acquisition.md). -/
def R.ACQ_STATUS : Nat := 0x01000000
def R.ACQ_STATUS_running : Fld := ⟨R.ACQ_STATUS, 0, 16⟩
def R.ACQ_STATUS_bad_len : Fld := ⟨R.ACQ_STATUS, 16, 16⟩
/-- ACQ_ERR_CNT (04_acquisition.md). -/
def R.ACQ_ERR_CNT : Nat := 0x01000004
def R.ACQ_ERR_CNT_q29_drop : Fld := ⟨R.ACQ_ERR_CNT, 0, 8⟩
def R.ACQ_ERR_CNT_urg_merged : Fld := ⟨R.ACQ_ERR_CNT, 8, 8⟩
def R.ACQ_ERR_CNT_skipped : Fld := ⟨R.ACQ_ERR_CNT, 16, 8⟩
def R.ACQ_ERR_CNT_chk_abort : Fld := ⟨R.ACQ_ERR_CNT, 24, 8⟩
/-- ACQ_SEQ_CTL (04_acquisition.md). -/
def R.ACQ_SEQ_CTL (i : Nat) : Nat := 0x01000100 + 4 * i
def R.ACQ_SEQ_CTL_len (i : Nat) : Fld := ⟨R.ACQ_SEQ_CTL i, 0, 6⟩
def R.ACQ_SEQ_CTL_bad_entry (i : Nat) : Fld := ⟨R.ACQ_SEQ_CTL i, 8, 1⟩
def R.ACQ_SEQ_CTL_cnt_sat (i : Nat) : Fld := ⟨R.ACQ_SEQ_CTL i, 9, 1⟩
def R.ACQ_SEQ_CTL_retired (i : Nat) : Fld := ⟨R.ACQ_SEQ_CTL i, 10, 1⟩
def R.ACQ_SEQ_CTL_host (i : Nat) : Fld := ⟨R.ACQ_SEQ_CTL i, 11, 1⟩
def R.ACQ_SEQ_CTL_pos (i : Nat) : Fld := ⟨R.ACQ_SEQ_CTL i, 16, 5⟩
/-- ACQ_SEQ (04_acquisition.md). -/
def R.ACQ_SEQ (i j : Nat) : Nat := 0x01001000 + 0x00000080 * i + 4 * j
def R.ACQ_SEQ_chan (i j : Nat) : Fld := ⟨R.ACQ_SEQ i j, 0, 8⟩
def R.ACQ_SEQ_acq (i j : Nat) : Fld := ⟨R.ACQ_SEQ i j, 8, 8⟩
def R.ACQ_SEQ_fsrc (i j : Nat) : Fld := ⟨R.ACQ_SEQ i j, 16, 4⟩
def R.ACQ_SEQ_bind (i j : Nat) : Fld := ⟨R.ACQ_SEQ i j, 20, 1⟩
/-- ACQ_PAIR_CFG (04_acquisition.md). -/
def R.ACQ_PAIR_CFG (i : Nat) : Nat := 0x01000200 + 8 * i
def R.ACQ_PAIR_CFG_chk_en (i : Nat) : Fld := ⟨R.ACQ_PAIR_CFG i, 0, 1⟩
def R.ACQ_PAIR_CFG_retire_en (i : Nat) : Fld := ⟨R.ACQ_PAIR_CFG i, 1, 1⟩
def R.ACQ_PAIR_CFG_chk_src (i : Nat) : Fld := ⟨R.ACQ_PAIR_CFG i, 8, 8⟩
def R.ACQ_PAIR_CFG_chk_acq (i : Nat) : Fld := ⟨R.ACQ_PAIR_CFG i, 16, 8⟩
/-- ACQ_PAIR_TOL (04_acquisition.md). -/
def R.ACQ_PAIR_TOL (i : Nat) : Nat := 0x01000204 + 8 * i
def R.ACQ_PAIR_TOL_chk_period (i : Nat) : Fld := ⟨R.ACQ_PAIR_TOL i, 0, 16⟩
def R.ACQ_PAIR_TOL_chk_tol (i : Nat) : Fld := ⟨R.ACQ_PAIR_TOL i, 16, 8⟩
def R.ACQ_PAIR_TOL_ref_tol (i : Nat) : Fld := ⟨R.ACQ_PAIR_TOL i, 24, 8⟩
/-- ACQ_PAIR_STAT (04_acquisition.md). -/
def R.ACQ_PAIR_STAT (i : Nat) : Nat := 0x01000300 + 4 * i
def R.ACQ_PAIR_STAT_last_outcome (i : Nat) : Fld := ⟨R.ACQ_PAIR_STAT i, 0, 2⟩
def R.ACQ_PAIR_STAT_retired_lo (i : Nat) : Fld := ⟨R.ACQ_PAIR_STAT i, 2, 1⟩
def R.ACQ_PAIR_STAT_retired_hi (i : Nat) : Fld := ⟨R.ACQ_PAIR_STAT i, 3, 1⟩
def R.ACQ_PAIR_STAT_check_fail (i : Nat) : Fld := ⟨R.ACQ_PAIR_STAT i, 4, 1⟩
def R.ACQ_PAIR_STAT_chk_skip (i : Nat) : Fld := ⟨R.ACQ_PAIR_STAT i, 5, 1⟩
def R.ACQ_PAIR_STAT_restore (i : Nat) : Fld := ⟨R.ACQ_PAIR_STAT i, 6, 1⟩
def R.ACQ_PAIR_STAT_mismatches (i : Nat) : Fld := ⟨R.ACQ_PAIR_STAT i, 8, 8⟩
/-- ACQ_URG_CFG (04_acquisition.md). -/
def R.ACQ_URG_CFG (i : Nat) : Nat := 0x01000400 + 4 * i
def R.ACQ_URG_CFG_chan (i : Nat) : Fld := ⟨R.ACQ_URG_CFG i, 0, 8⟩
def R.ACQ_URG_CFG_acq (i : Nat) : Fld := ⟨R.ACQ_URG_CFG i, 8, 8⟩
/-- ACQ_URG (04_acquisition.md). -/
def R.ACQ_URG (i : Nat) : Nat := 0x01000500 + 4 * i
def R.ACQ_URG_code (i : Nat) : Fld := ⟨R.ACQ_URG i, 0, 16⟩
def R.ACQ_URG_new (i : Nat) : Fld := ⟨R.ACQ_URG i, 16, 1⟩
def R.ACQ_URG_by_partner (i : Nat) : Fld := ⟨R.ACQ_URG i, 17, 1⟩
def R.ACQ_URG_seq (i : Nat) : Fld := ⟨R.ACQ_URG i, 24, 8⟩
/-- ACQ_RES (04_acquisition.md). -/
def R.ACQ_RES (i j : Nat) : Nat := 0x01004000 + 0x00000200 * i + 0x00000010 * j
def R.ACQ_RES_last (i j : Nat) : Fld := ⟨R.ACQ_RES i j, 0, 16⟩
def R.ACQ_RES_count (i j : Nat) : Fld := ⟨R.ACQ_RES i j + 4, 0, 24⟩
def R.ACQ_RES_sum_lo (i j : Nat) : Fld := ⟨R.ACQ_RES i j + 8, 0, 32⟩
def R.ACQ_RES_sum_hi (i j : Nat) : Fld := ⟨R.ACQ_RES i j + 12, 0, 8⟩
/-- ACQ_FB (04_acquisition.md). -/
def R.ACQ_FB (i j : Nat) : Nat := 0x01008000 + 0x00000100 * i + 8 * j
def R.ACQ_FB_last (i j : Nat) : Fld := ⟨R.ACQ_FB i j, 0, 16⟩
def R.ACQ_FB_mean16_lo (i j : Nat) : Fld := ⟨R.ACQ_FB i j, 16, 16⟩
def R.ACQ_FB_mean16_hi (i j : Nat) : Fld := ⟨R.ACQ_FB i j + 4, 0, 4⟩
def R.ACQ_FB_count (i j : Nat) : Fld := ⟨R.ACQ_FB i j + 4, 4, 24⟩
def R.ACQ_FB_stale (i j : Nat) : Fld := ⟨R.ACQ_FB i j + 4, 28, 1⟩
def R.ACQ_FB_remapped (i j : Nat) : Fld := ⟨R.ACQ_FB i j + 4, 29, 1⟩
def R.ACQ_FB_sat (i j : Nat) : Fld := ⟨R.ACQ_FB i j + 4, 30, 1⟩
def R.ACQ_FB_check_fail (i j : Nat) : Fld := ⟨R.ACQ_FB i j + 4, 31, 1⟩
/-- WIN_CFG (05_comparators_and_events.md). -/
def R.WIN_CFG (i : Nat) : Nat := 0x02000000 + 0x00000010 * i
def R.WIN_CFG_src (i : Nat) : Fld := ⟨R.WIN_CFG i, 0, 4⟩
def R.WIN_CFG_en_hi (i : Nat) : Fld := ⟨R.WIN_CFG i, 4, 1⟩
def R.WIN_CFG_en_lo (i : Nat) : Fld := ⟨R.WIN_CFG i, 5, 1⟩
def R.WIN_CFG_pu_assume (i : Nat) : Fld := ⟨R.WIN_CFG i, 6, 1⟩
def R.WIN_CFG_clr_mode (i : Nat) : Fld := ⟨R.WIN_CFG i, 7, 1⟩
def R.WIN_CFG_clr_cg (i : Nat) : Fld := ⟨R.WIN_CFG i, 8, 3⟩
def R.WIN_CFG_pd_hi (i : Nat) : Fld := ⟨R.WIN_CFG i, 11, 4⟩
def R.WIN_CFG_pd_lo (i : Nat) : Fld := ⟨R.WIN_CFG i, 15, 4⟩
def R.WIN_CFG_partner (i : Nat) : Fld := ⟨R.WIN_CFG i, 19, 7⟩
def R.WIN_CFG_test_en (i : Nat) : Fld := ⟨R.WIN_CFG i, 26, 1⟩
/-- WIN_TH (05_comparators_and_events.md). -/
def R.WIN_TH (i : Nat) : Nat := 0x02000004 + 0x00000010 * i
def R.WIN_TH_th_hi (i : Nat) : Fld := ⟨R.WIN_TH i, 0, 10⟩
def R.WIN_TH_th_lo (i : Nat) : Fld := ⟨R.WIN_TH i, 16, 10⟩
def R.WIN_TH_hyst (i : Nat) : Fld := ⟨R.WIN_TH i, 26, 5⟩
/-- WIN_BLANK (05_comparators_and_events.md). -/
def R.WIN_BLANK (i : Nat) : Nat := 0x02000008 + 0x00000010 * i
def R.WIN_BLANK_sel (i : Nat) : Fld := ⟨R.WIN_BLANK i, 0, 2⟩
def R.WIN_BLANK_target (i : Nat) : Fld := ⟨R.WIN_BLANK i, 2, 6⟩
def R.WIN_BLANK_len (i : Nat) : Fld := ⟨R.WIN_BLANK i, 8, 8⟩
/-- WIN_STATUS (05_comparators_and_events.md). -/
def R.WIN_STATUS (i : Nat) : Nat := 0x0200000C + 0x00000010 * i
def R.WIN_STATUS_hi (i : Nat) : Fld := ⟨R.WIN_STATUS i, 0, 1⟩
def R.WIN_STATUS_lo (i : Nat) : Fld := ⟨R.WIN_STATUS i, 1, 1⟩
def R.WIN_STATUS_raw_hi (i : Nat) : Fld := ⟨R.WIN_STATUS i, 2, 1⟩
def R.WIN_STATUS_raw_lo (i : Nat) : Fld := ⟨R.WIN_STATUS i, 3, 1⟩
def R.WIN_STATUS_unresolved (i : Nat) : Fld := ⟨R.WIN_STATUS i, 4, 1⟩
def R.WIN_STATUS_in_test (i : Nat) : Fld := ⟨R.WIN_STATUS i, 5, 1⟩
def R.WIN_STATUS_rb_fail (i : Nat) : Fld := ⟨R.WIN_STATUS i, 6, 1⟩
def R.WIN_STATUS_tie_fail (i : Nat) : Fld := ⟨R.WIN_STATUS i, 7, 1⟩
def R.WIN_STATUS_hi_cnt (i : Nat) : Fld := ⟨R.WIN_STATUS i, 16, 8⟩
def R.WIN_STATUS_lo_cnt (i : Nat) : Fld := ⟨R.WIN_STATUS i, 24, 8⟩
/-- WIN_TRIP_DESAT (05_comparators_and_events.md). -/
def R.WIN_TRIP_DESAT (i : Nat) : Nat := 0x02000800 + 4 * i
def R.WIN_TRIP_DESAT_pd (i : Nat) : Fld := ⟨R.WIN_TRIP_DESAT i, 0, 4⟩
/-- WIN_TRIP_EXT (05_comparators_and_events.md). -/
def R.WIN_TRIP_EXT : Nat := 0x020008C0
def R.WIN_TRIP_EXT_pd : Fld := ⟨R.WIN_TRIP_EXT, 0, 4⟩
def R.WIN_TRIP_EXT_asserted : Fld := ⟨R.WIN_TRIP_EXT, 4, 1⟩
/-- WIN_PD (05_comparators_and_events.md). -/
def R.WIN_PD (i : Nat) : Nat := 0x02000900 + 4 * i
def R.WIN_PD_armed (i : Nat) : Fld := ⟨R.WIN_PD i, 0, 1⟩
def R.WIN_PD_tripped (i : Nat) : Fld := ⟨R.WIN_PD i, 1, 1⟩
def R.WIN_PD_via_route (i : Nat) : Fld := ⟨R.WIN_PD i, 2, 1⟩
def R.WIN_PD_first_src (i : Nat) : Fld := ⟨R.WIN_PD i, 3, 9⟩
def R.WIN_PD_via_twin (i : Nat) : Fld := ⟨R.WIN_PD i, 12, 1⟩
def R.WIN_PD_trips (i : Nat) : Fld := ⟨R.WIN_PD i, 16, 8⟩
/-- WIN_TEST (05_comparators_and_events.md). -/
def R.WIN_TEST : Nat := 0x02000A00
def R.WIN_TEST_start : Fld := ⟨R.WIN_TEST, 0, 1⟩
def R.WIN_TEST_cmd : Fld := ⟨R.WIN_TEST, 1, 2⟩
def R.WIN_TEST_busy : Fld := ⟨R.WIN_TEST, 3, 1⟩
def R.WIN_TEST_result : Fld := ⟨R.WIN_TEST, 4, 2⟩
def R.WIN_TEST_target : Fld := ⟨R.WIN_TEST, 8, 9⟩
/-- WIN_TEST_CFG (05_comparators_and_events.md). -/
def R.WIN_TEST_CFG : Nat := 0x02000A04
def R.WIN_TEST_CFG_rb_tol : Fld := ⟨R.WIN_TEST_CFG, 0, 8⟩
def R.WIN_TEST_CFG_auto_period : Fld := ⟨R.WIN_TEST_CFG, 16, 16⟩
/-- WIN_TEST_STAT (05_comparators_and_events.md). -/
def R.WIN_TEST_STAT : Nat := 0x02000A08
def R.WIN_TEST_STAT_last_fail : Fld := ⟨R.WIN_TEST_STAT, 0, 7⟩
def R.WIN_TEST_STAT_fails : Fld := ⟨R.WIN_TEST_STAT, 8, 8⟩
/-- EVR_FILT (05_comparators_and_events.md). -/
def R.EVR_FILT (i : Nat) : Nat := 0x02001000 + 4 * i
def R.EVR_FILT_type (i : Nat) : Fld := ⟨R.EVR_FILT i, 0, 2⟩
def R.EVR_FILT_n (i : Nat) : Fld := ⟨R.EVR_FILT i, 8, 8⟩
def R.EVR_FILT_time (i : Nat) : Fld := ⟨R.EVR_FILT i, 16, 16⟩
/-- EVR_ROUTE (05_comparators_and_events.md). -/
def R.EVR_ROUTE (i : Nat) : Nat := 0x02004000 + 4 * i
def R.EVR_ROUTE_src (i : Nat) : Fld := ⟨R.EVR_ROUTE i, 0, 9⟩
def R.EVR_ROUTE_dst (i : Nat) : Fld := ⟨R.EVR_ROUTE i, 9, 8⟩
def R.EVR_ROUTE_mode (i : Nat) : Fld := ⟨R.EVR_ROUTE i, 17, 2⟩
def R.EVR_ROUTE_invert (i : Nat) : Fld := ⟨R.EVR_ROUTE i, 19, 1⟩
def R.EVR_ROUTE_filt (i : Nat) : Fld := ⟨R.EVR_ROUTE i, 20, 4⟩
def R.EVR_ROUTE_valid (i : Nat) : Fld := ⟨R.EVR_ROUTE i, 31, 1⟩
/-- ENG_STATUS (06_loop_engine_programs.md). -/
def R.ENG_STATUS : Nat := 0x04000000
def R.ENG_STATUS_lane_busy : Fld := ⟨R.ENG_STATUS, 0, 8⟩
def R.ENG_STATUS_ready : Fld := ⟨R.ENG_STATUS, 8, 6⟩
def R.ENG_STATUS_unchecked : Fld := ⟨R.ENG_STATUS, 14, 1⟩
def R.ENG_STATUS_halted : Fld := ⟨R.ENG_STATUS, 15, 1⟩
/-- ENG_ERR_CNT (06_loop_engine_programs.md). -/
def R.ENG_ERR_CNT : Nat := 0x04000004
def R.ENG_ERR_CNT_own_err : Fld := ⟨R.ENG_ERR_CNT, 0, 8⟩
def R.ENG_ERR_CNT_op_err : Fld := ⟨R.ENG_ERR_CNT, 8, 8⟩
def R.ENG_ERR_CNT_ecc_stall : Fld := ⟨R.ENG_ERR_CNT, 16, 8⟩
/-- ENG_FSRC (06_loop_engine_programs.md). -/
def R.ENG_FSRC (i : Nat) : Nat := 0x04000100 + 4 * i
def R.ENG_FSRC_type (i : Nat) : Fld := ⟨R.ENG_FSRC i, 0, 2⟩
def R.ENG_FSRC_sel (i : Nat) : Fld := ⟨R.ENG_FSRC i, 2, 3⟩
def R.ENG_FSRC_div (i : Nat) : Fld := ⟨R.ENG_FSRC i, 5, 8⟩
def R.ENG_FSRC_gs32 (i : Nat) : Fld := ⟨R.ENG_FSRC i, 13, 1⟩
/-- ENG_FT (06_loop_engine_programs.md). -/
def R.ENG_FT (i : Nat) : Nat := 0x04000140 + 4 * i
def R.ENG_FT_period (i : Nat) : Fld := ⟨R.ENG_FT i, 0, 32⟩
/-- ENG_FIDX (06_loop_engine_programs.md). -/
def R.ENG_FIDX (i : Nat) : Nat := 0x04000180 + 4 * i
def R.ENG_FIDX_index (i : Nat) : Fld := ⟨R.ENG_FIDX i, 0, 32⟩
/-- ENG_EI (06_loop_engine_programs.md). -/
def R.ENG_EI (i : Nat) : Nat := 0x04000200 + 4 * i
def R.ENG_EI_fsrc (i : Nat) : Fld := ⟨R.ENG_EI i, 0, 4⟩
def R.ENG_EI_sticky (i : Nat) : Fld := ⟨R.ENG_EI i, 4, 1⟩
def R.ENG_EI_captured (i : Nat) : Fld := ⟨R.ENG_EI i, 5, 1⟩
def R.ENG_EI_level (i : Nat) : Fld := ⟨R.ENG_EI i, 6, 1⟩
/-- ENG_CTX_CFG (06_loop_engine_programs.md). -/
def R.ENG_CTX_CFG (i : Nat) : Nat := 0x04001000 + 0x00000020 * i
def R.ENG_CTX_CFG_fsrc (i : Nat) : Fld := ⟨R.ENG_CTX_CFG i, 0, 4⟩
def R.ENG_CTX_CFG_policy (i : Nat) : Fld := ⟨R.ENG_CTX_CFG i, 4, 2⟩
def R.ENG_CTX_CFG_ovr_line (i : Nat) : Fld := ⟨R.ENG_CTX_CFG i, 6, 3⟩
def R.ENG_CTX_CFG_ovr_en (i : Nat) : Fld := ⟨R.ENG_CTX_CFG i, 9, 1⟩
def R.ENG_CTX_CFG_deferrable (i : Nat) : Fld := ⟨R.ENG_CTX_CFG i, 10, 1⟩
def R.ENG_CTX_CFG_half_rate_glaze (i : Nat) : Fld := ⟨R.ENG_CTX_CFG i, 11, 4⟩
/-- ENG_CTX_PROG (06_loop_engine_programs.md). -/
def R.ENG_CTX_PROG (i : Nat) : Nat := 0x04001004 + 0x00000020 * i
def R.ENG_CTX_PROG_prog_start (i : Nat) : Fld := ⟨R.ENG_CTX_PROG i, 0, 13⟩
def R.ENG_CTX_PROG_len_m1 (i : Nat) : Fld := ⟨R.ENG_CTX_PROG i, 13, 7⟩
/-- ENG_CTX_COMMIT (06_loop_engine_programs.md). -/
def R.ENG_CTX_COMMIT (i : Nat) : Nat := 0x04001008 + 0x00000020 * i
def R.ENG_CTX_COMMIT_offset (i : Nat) : Fld := ⟨R.ENG_CTX_COMMIT i, 0, 32⟩
/-- ENG_CTX_CTL (06_loop_engine_programs.md). -/
def R.ENG_CTX_CTL (i : Nat) : Nat := 0x0400100C + 0x00000020 * i
def R.ENG_CTX_CTL_en (i : Nat) : Fld := ⟨R.ENG_CTX_CTL i, 0, 1⟩
def R.ENG_CTX_CTL_draining (i : Nat) : Fld := ⟨R.ENG_CTX_CTL i, 1, 1⟩
def R.ENG_CTX_CTL_deferred (i : Nat) : Fld := ⟨R.ENG_CTX_CTL i, 2, 1⟩
def R.ENG_CTX_CTL_running (i : Nat) : Fld := ⟨R.ENG_CTX_CTL i, 3, 1⟩
/-- ENG_CTX_STAT (06_loop_engine_programs.md). -/
def R.ENG_CTX_STAT (i : Nat) : Nat := 0x04001010 + 0x00000020 * i
def R.ENG_CTX_STAT_satf (i : Nat) : Fld := ⟨R.ENG_CTX_STAT i, 0, 1⟩
def R.ENG_CTX_STAT_sat_seen (i : Nat) : Fld := ⟨R.ENG_CTX_STAT i, 1, 1⟩
def R.ENG_CTX_STAT_own_seen (i : Nat) : Fld := ⟨R.ENG_CTX_STAT i, 2, 1⟩
def R.ENG_CTX_STAT_op_seen (i : Nat) : Fld := ⟨R.ENG_CTX_STAT i, 3, 1⟩
def R.ENG_CTX_STAT_overruns (i : Nat) : Fld := ⟨R.ENG_CTX_STAT i, 8, 8⟩
def R.ENG_CTX_STAT_ecc (i : Nat) : Fld := ⟨R.ENG_CTX_STAT i, 16, 8⟩
/-- ENG_CTX_CYC (06_loop_engine_programs.md). -/
def R.ENG_CTX_CYC (i : Nat) : Nat := 0x04001014 + 0x00000020 * i
def R.ENG_CTX_CYC_wcet (i : Nat) : Fld := ⟨R.ENG_CTX_CYC i, 0, 16⟩
def R.ENG_CTX_CYC_max_seen (i : Nat) : Fld := ⟨R.ENG_CTX_CYC i, 16, 16⟩
/-- ENG_CTX_FRAME (06_loop_engine_programs.md). -/
def R.ENG_CTX_FRAME (i : Nat) : Nat := 0x04001018 + 0x00000020 * i
def R.ENG_CTX_FRAME_last_done (i : Nat) : Fld := ⟨R.ENG_CTX_FRAME i, 0, 32⟩
/-- ENG_CTX_RES (06_loop_engine_programs.md). -/
def R.ENG_CTX_RES (i : Nat) : Nat := 0x0400101C + 0x00000020 * i
def R.ENG_CTX_RES_first_slot (i : Nat) : Fld := ⟨R.ENG_CTX_RES i, 0, 12⟩
def R.ENG_CTX_RES_sections (i : Nat) : Fld := ⟨R.ENG_CTX_RES i, 12, 7⟩
def R.ENG_CTX_RES_imports (i : Nat) : Fld := ⟨R.ENG_CTX_RES i, 19, 7⟩
/-- ENG_SAT (06_loop_engine_programs.md). -/
def R.ENG_SAT (i : Nat) : Nat := 0x04003000 + 4 * i
def R.ENG_SAT_sat (i : Nat) : Fld := ⟨R.ENG_SAT i, 0, 32⟩
/-- ENG_ECC_STAT (06_loop_engine_programs.md). -/
def R.ENG_ECC_STAT : Nat := 0x04004000
def R.ENG_ECC_STAT_single : Fld := ⟨R.ENG_ECC_STAT, 0, 16⟩
def R.ENG_ECC_STAT_double : Fld := ⟨R.ENG_ECC_STAT, 16, 8⟩
def R.ENG_ECC_STAT_store : Fld := ⟨R.ENG_ECC_STAT, 24, 3⟩
def R.ENG_ECC_STAT_wb_full : Fld := ⟨R.ENG_ECC_STAT, 27, 1⟩
/-- ENG_ECC_ADDR (06_loop_engine_programs.md). -/
def R.ENG_ECC_ADDR : Nat := 0x04004004
def R.ENG_ECC_ADDR_addr : Fld := ⟨R.ENG_ECC_ADDR, 0, 32⟩
/-- S (06_loop_engine_programs.md). -/
def R.S (i : Nat) : Nat := 0x04400000 + 4 * i
/-- ENG_CTX_RATE (07_loop_engine_schedules.md). -/
def R.ENG_CTX_RATE (i : Nat) : Nat := 0x04002000 + 4 * i
def R.ENG_CTX_RATE_div (i : Nat) : Fld := ⟨R.ENG_CTX_RATE i, 0, 3⟩
def R.ENG_CTX_RATE_phase (i : Nat) : Fld := ⟨R.ENG_CTX_RATE i, 3, 3⟩
/-- ENG_SCH_CFG (07_loop_engine_schedules.md). -/
def R.ENG_SCH_CFG (i : Nat) : Nat := 0x04010000 + 0x00000080 * i
def R.ENG_SCH_CFG_src_a (i : Nat) : Fld := ⟨R.ENG_SCH_CFG i, 0, 2⟩
def R.ENG_SCH_CFG_src_b (i : Nat) : Fld := ⟨R.ENG_SCH_CFG i, 2, 2⟩
def R.ENG_SCH_CFG_na_m1 (i : Nat) : Fld := ⟨R.ENG_SCH_CFG i, 4, 4⟩
def R.ENG_SCH_CFG_nb_m1 (i : Nat) : Fld := ⟨R.ENG_SCH_CFG i, 8, 4⟩
def R.ENG_SCH_CFG_xf (i : Nat) : Fld := ⟨R.ENG_SCH_CFG i, 12, 3⟩
def R.ENG_SCH_CFG_init_region (i : Nat) : Fld := ⟨R.ENG_SCH_CFG i, 16, 4⟩
/-- ENG_SCH_STAT (07_loop_engine_schedules.md). -/
def R.ENG_SCH_STAT (i : Nat) : Nat := 0x04010004 + 0x00000080 * i
def R.ENG_SCH_STAT_region (i : Nat) : Fld := ⟨R.ENG_SCH_STAT i, 0, 4⟩
def R.ENG_SCH_STAT_desired (i : Nat) : Fld := ⟨R.ENG_SCH_STAT i, 4, 4⟩
def R.ENG_SCH_STAT_fading (i : Nat) : Fld := ⟨R.ENG_SCH_STAT i, 8, 1⟩
def R.ENG_SCH_STAT_fade_j (i : Nat) : Fld := ⟨R.ENG_SCH_STAT i, 9, 7⟩
def R.ENG_SCH_STAT_changes (i : Nat) : Fld := ⟨R.ENG_SCH_STAT i, 16, 8⟩
/-- ENG_SCH_MAP (07_loop_engine_schedules.md). -/
def R.ENG_SCH_MAP (i : Nat) : Nat := 0x04010008 + 0x00000080 * i
def R.ENG_SCH_MAP_plan_map (i : Nat) : Fld := ⟨R.ENG_SCH_MAP i, 0, 32⟩
/-- ENG_SCH_HYST (07_loop_engine_schedules.md). -/
def R.ENG_SCH_HYST (i j : Nat) : Nat := 0x0401000C + 0x00000080 * i + 4 * j
def R.ENG_SCH_HYST_hyst (i j : Nat) : Fld := ⟨R.ENG_SCH_HYST i j, 0, 32⟩
/-- ENG_SCH_BP (07_loop_engine_schedules.md). -/
def R.ENG_SCH_BP (i j : Nat) : Nat := 0x04010014 + 0x00000080 * i + 4 * j
def R.ENG_SCH_BP_bp (i j : Nat) : Fld := ⟨R.ENG_SCH_BP i j, 0, 32⟩
/-- ENG_GRP_CFG (07_loop_engine_schedules.md). -/
def R.ENG_GRP_CFG (i : Nat) : Nat := 0x04006000 + 0x00000080 * i
def R.ENG_GRP_CFG_fsrc (i : Nat) : Fld := ⟨R.ENG_GRP_CFG i, 0, 4⟩
def R.ENG_GRP_CFG_members (i : Nat) : Fld := ⟨R.ENG_GRP_CFG i, 4, 4⟩
def R.ENG_GRP_CFG_out (i : Nat) : Fld := ⟨R.ENG_GRP_CFG i, 8, 12⟩
/-- ENG_GRP_STAT (07_loop_engine_schedules.md). -/
def R.ENG_GRP_STAT (i : Nat) : Nat := 0x04006004 + 0x00000080 * i
def R.ENG_GRP_STAT_winner (i : Nat) : Fld := ⟨R.ENG_GRP_STAT i, 0, 3⟩
def R.ENG_GRP_STAT_held (i : Nat) : Fld := ⟨R.ENG_GRP_STAT i, 3, 1⟩
def R.ENG_GRP_STAT_fault (i : Nat) : Fld := ⟨R.ENG_GRP_STAT i, 4, 1⟩
def R.ENG_GRP_STAT_faults (i : Nat) : Fld := ⟨R.ENG_GRP_STAT i, 8, 8⟩
def R.ENG_GRP_STAT_winner_changes (i : Nat) : Fld := ⟨R.ENG_GRP_STAT i, 16, 8⟩
/-- ENG_GRP_OUT (07_loop_engine_schedules.md). -/
def R.ENG_GRP_OUT (i : Nat) : Nat := 0x04006008 + 0x00000080 * i
def R.ENG_GRP_OUT_value (i : Nat) : Fld := ⟨R.ENG_GRP_OUT i, 0, 32⟩
/-- ENG_GRP_MEM (07_loop_engine_schedules.md). -/
def R.ENG_GRP_MEM (i j : Nat) : Nat := 0x04006010 + 0x00000080 * i + 12 * j
def R.ENG_GRP_MEM_kind (i j : Nat) : Fld := ⟨R.ENG_GRP_MEM i j, 0, 1⟩
def R.ENG_GRP_MEM_participated (i j : Nat) : Fld := ⟨R.ENG_GRP_MEM i j, 1, 1⟩
def R.ENG_GRP_MEM_ctx (i j : Nat) : Fld := ⟨R.ENG_GRP_MEM i j, 2, 6⟩
def R.ENG_GRP_MEM_signal (i j : Nat) : Fld := ⟨R.ENG_GRP_MEM i j, 8, 12⟩
def R.ENG_GRP_MEM_track_slot (i j : Nat) : Fld := ⟨R.ENG_GRP_MEM i j, 20, 12⟩
def R.ENG_GRP_MEM_lo (i j : Nat) : Fld := ⟨R.ENG_GRP_MEM i j + 4, 0, 32⟩
def R.ENG_GRP_MEM_hi (i j : Nat) : Fld := ⟨R.ENG_GRP_MEM i j + 8, 0, 32⟩
/-- GRD_CTL (08_grid_unit.md). -/
def R.GRD_CTL : Nat := 0x05000000
def R.GRD_CTL_en : Fld := ⟨R.GRD_CTL, 0, 1⟩
def R.GRD_CTL_form : Fld := ⟨R.GRD_CTL, 1, 1⟩
def R.GRD_CTL_gs32 : Fld := ⟨R.GRD_CTL, 2, 1⟩
def R.GRD_CTL_rt_basis : Fld := ⟨R.GRD_CTL, 3, 1⟩
def R.GRD_CTL_spr_en : Fld := ⟨R.GRD_CTL, 4, 1⟩
def R.GRD_CTL_spr_pause : Fld := ⟨R.GRD_CTL, 5, 1⟩
def R.GRD_CTL_f60 : Fld := ⟨R.GRD_CTL, 8, 1⟩
/-- GRD_STATUS (08_grid_unit.md). -/
def R.GRD_STATUS : Nat := 0x05000004
def R.GRD_STATUS_locked : Fld := ⟨R.GRD_STATUS, 0, 1⟩
def R.GRD_STATUS_v_low : Fld := ⟨R.GRD_STATUS, 1, 1⟩
def R.GRD_STATUS_f_clamped : Fld := ⟨R.GRD_STATUS, 2, 1⟩
def R.GRD_STATUS_ride : Fld := ⟨R.GRD_STATUS, 3, 1⟩
def R.GRD_STATUS_ride_ov : Fld := ⟨R.GRD_STATUS, 4, 1⟩
def R.GRD_STATUS_region : Fld := ⟨R.GRD_STATUS, 5, 5⟩
def R.GRD_STATUS_must_ride : Fld := ⟨R.GRD_STATUS, 10, 1⟩
def R.GRD_STATUS_island : Fld := ⟨R.GRD_STATUS, 11, 1⟩
def R.GRD_STATUS_spr_active : Fld := ⟨R.GRD_STATUS, 12, 1⟩
def R.GRD_STATUS_spr_paused : Fld := ⟨R.GRD_STATUS, 13, 1⟩
def R.GRD_STATUS_form_active : Fld := ⟨R.GRD_STATUS, 14, 1⟩
def R.GRD_STATUS_in_suspect : Fld := ⟨R.GRD_STATUS, 15, 1⟩
def R.GRD_STATUS_baseline_valid : Fld := ⟨R.GRD_STATUS, 16, 1⟩
def R.GRD_STATUS_estimating : Fld := ⟨R.GRD_STATUS, 17, 1⟩
/-- GRD_ERR_CNT (08_grid_unit.md). -/
def R.GRD_ERR_CNT : Nat := 0x05000008
def R.GRD_ERR_CNT_q30_drop : Fld := ⟨R.GRD_ERR_CNT, 0, 8⟩
def R.GRD_ERR_CNT_xchk_void : Fld := ⟨R.GRD_ERR_CNT, 8, 8⟩
def R.GRD_ERR_CNT_clamps : Fld := ⟨R.GRD_ERR_CNT, 16, 8⟩
/-- GRD_IN_CFG (08_grid_unit.md). -/
def R.GRD_IN_CFG : Nat := 0x05000010
def R.GRD_IN_CFG_fsrc : Fld := ⟨R.GRD_IN_CFG, 0, 4⟩
def R.GRD_IN_CFG_conn : Fld := ⟨R.GRD_IN_CFG, 4, 1⟩
def R.GRD_IN_CFG_use_last : Fld := ⟨R.GRD_IN_CFG, 5, 1⟩
/-- GRD_IN (08_grid_unit.md). -/
def R.GRD_IN (i : Nat) : Nat := 0x05000020 + 0x00000010 * i
def R.GRD_IN_cv (i : Nat) : Fld := ⟨R.GRD_IN i, 0, 4⟩
def R.GRD_IN_e (i : Nat) : Fld := ⟨R.GRD_IN i, 4, 5⟩
def R.GRD_IN_zero16 (i : Nat) : Fld := ⟨R.GRD_IN i + 4, 0, 20⟩
def R.GRD_IN_gain (i : Nat) : Fld := ⟨R.GRD_IN i + 8, 0, 32⟩
/-- GRD_SYNC_CFG (08_grid_unit.md). -/
def R.GRD_SYNC_CFG : Nat := 0x05000060
def R.GRD_SYNC_CFG_kp : Fld := ⟨R.GRD_SYNC_CFG, 0, 32⟩
def R.GRD_SYNC_CFG_ki : Fld := ⟨R.GRD_SYNC_CFG + 4, 0, 32⟩
def R.GRD_SYNC_CFG_lock_tol : Fld := ⟨R.GRD_SYNC_CFG + 8, 0, 16⟩
def R.GRD_SYNC_CFG_unlock_tol : Fld := ⟨R.GRD_SYNC_CFG + 8, 16, 16⟩
def R.GRD_SYNC_CFG_lock_n : Fld := ⟨R.GRD_SYNC_CFG + 12, 0, 16⟩
def R.GRD_SYNC_CFG_v_min : Fld := ⟨R.GRD_SYNC_CFG + 12, 16, 16⟩
/-- GRD_PROJ (08_grid_unit.md). -/
def R.GRD_PROJ (i : Nat) : Nat := 0x05000080 + 4 * i
def R.GRD_PROJ_fsrc (i : Nat) : Fld := ⟨R.GRD_PROJ i, 0, 4⟩
def R.GRD_PROJ_valid (i : Nat) : Fld := ⟨R.GRD_PROJ i, 4, 1⟩
/-- GRD_RT_CFG (08_grid_unit.md). -/
def R.GRD_RT_CFG : Nat := 0x05000100
def R.GRD_RT_CFG_fast_n : Fld := ⟨R.GRD_RT_CFG, 0, 4⟩
def R.GRD_RT_CFG_fast_en : Fld := ⟨R.GRD_RT_CFG, 4, 1⟩
def R.GRD_RT_CFG_hyst : Fld := ⟨R.GRD_RT_CFG, 8, 8⟩
def R.GRD_RT_CFG_dev_th : Fld := ⟨R.GRD_RT_CFG, 16, 16⟩
def R.GRD_RT_CFG_exit_time : Fld := ⟨R.GRD_RT_CFG + 4, 0, 16⟩
def R.GRD_RT_CFG_npts : Fld := ⟨R.GRD_RT_CFG + 8, 0, 30⟩
/-- GRD_CURVE (08_grid_unit.md). -/
def R.GRD_CURVE (i j : Nat) : Nat := 0x05000200 + 0x00000080 * i + 8 * j
def R.GRD_CURVE_th (i j : Nat) : Fld := ⟨R.GRD_CURVE i j, 0, 32⟩
def R.GRD_CURVE_time (i j : Nat) : Fld := ⟨R.GRD_CURVE i j + 4, 0, 32⟩
/-- GRD_RT_STAT (08_grid_unit.md). -/
def R.GRD_RT_STAT : Nat := 0x05000500
def R.GRD_RT_STAT_fired : Fld := ⟨R.GRD_RT_STAT, 0, 6⟩
def R.GRD_RT_STAT_entered : Fld := ⟨R.GRD_RT_STAT, 6, 2⟩
def R.GRD_RT_STAT_rides : Fld := ⟨R.GRD_RT_STAT, 8, 8⟩
def R.GRD_RT_STAT_last_duration : Fld := ⟨R.GRD_RT_STAT, 16, 16⟩
/-- GRD_PAS_CFG (08_grid_unit.md). -/
def R.GRD_PAS_CFG : Nat := 0x05000600
def R.GRD_PAS_CFG_rocof_th : Fld := ⟨R.GRD_PAS_CFG, 0, 32⟩
def R.GRD_PAS_CFG_rocof_window : Fld := ⟨R.GRD_PAS_CFG + 4, 0, 16⟩
def R.GRD_PAS_CFG_rocof_hold : Fld := ⟨R.GRD_PAS_CFG + 4, 16, 16⟩
def R.GRD_PAS_CFG_vs_th : Fld := ⟨R.GRD_PAS_CFG + 8, 0, 16⟩
def R.GRD_PAS_CFG_fwin_time : Fld := ⟨R.GRD_PAS_CFG + 8, 16, 16⟩
def R.GRD_PAS_CFG_f_lo : Fld := ⟨R.GRD_PAS_CFG + 12, 0, 32⟩
def R.GRD_PAS_CFG_f_hi : Fld := ⟨R.GRD_PAS_CFG + 16, 0, 32⟩
def R.GRD_PAS_CFG_v_lo : Fld := ⟨R.GRD_PAS_CFG + 20, 0, 32⟩
def R.GRD_PAS_CFG_v_hi : Fld := ⟨R.GRD_PAS_CFG + 24, 0, 32⟩
def R.GRD_PAS_CFG_vwin_time : Fld := ⟨R.GRD_PAS_CFG + 28, 0, 16⟩
/-- GRD_PAS_STAT (08_grid_unit.md). -/
def R.GRD_PAS_STAT : Nat := 0x05000620
def R.GRD_PAS_STAT_rocof : Fld := ⟨R.GRD_PAS_STAT, 0, 1⟩
def R.GRD_PAS_STAT_vshift : Fld := ⟨R.GRD_PAS_STAT, 1, 1⟩
def R.GRD_PAS_STAT_fwin : Fld := ⟨R.GRD_PAS_STAT, 2, 1⟩
def R.GRD_PAS_STAT_vwin : Fld := ⟨R.GRD_PAS_STAT, 3, 1⟩
def R.GRD_PAS_STAT_vs_last : Fld := ⟨R.GRD_PAS_STAT + 4, 0, 32⟩
/-- GRD_SPR_CFG (08_grid_unit.md). -/
def R.GRD_SPR_CFG : Nat := 0x05000700
def R.GRD_SPR_CFG_code : Fld := ⟨R.GRD_SPR_CFG, 0, 8⟩
def R.GRD_SPR_CFG_src : Fld := ⟨R.GRD_SPR_CFG, 8, 1⟩
def R.GRD_SPR_CFG_share : Fld := ⟨R.GRD_SPR_CFG, 16, 16⟩
def R.GRD_SPR_CFG_amp : Fld := ⟨R.GRD_SPR_CFG + 4, 0, 32⟩
def R.GRD_SPR_CFG_z_isl : Fld := ⟨R.GRD_SPR_CFG + 8, 0, 32⟩
def R.GRD_SPR_CFG_z_step : Fld := ⟨R.GRD_SPR_CFG + 12, 0, 16⟩
def R.GRD_SPR_CFG_slot : Fld := ⟨R.GRD_SPR_CFG + 12, 16, 3⟩
/-- GRD_SPR_STAT (08_grid_unit.md). -/
def R.GRD_SPR_STAT : Nat := 0x05000710
def R.GRD_SPR_STAT_z_last : Fld := ⟨R.GRD_SPR_STAT, 0, 32⟩
def R.GRD_SPR_STAT_baseline : Fld := ⟨R.GRD_SPR_STAT + 4, 0, 32⟩
def R.GRD_SPR_STAT_above : Fld := ⟨R.GRD_SPR_STAT + 8, 0, 8⟩
def R.GRD_SPR_STAT_estimates : Fld := ⟨R.GRD_SPR_STAT + 8, 8, 8⟩
def R.GRD_SPR_STAT_discarded : Fld := ⟨R.GRD_SPR_STAT + 8, 16, 8⟩
/-- GRD_SUP_CFG (08_grid_unit.md). -/
def R.GRD_SUP_CFG : Nat := 0x05000800
def R.GRD_SUP_CFG_qmode : Fld := ⟨R.GRD_SUP_CFG, 0, 3⟩
def R.GRD_SUP_CFG_vw_en : Fld := ⟨R.GRD_SUP_CFG, 3, 1⟩
def R.GRD_SUP_CFG_droop_en : Fld := ⟨R.GRD_SUP_CFG, 4, 1⟩
def R.GRD_SUP_CFG_vsrc : Fld := ⟨R.GRD_SUP_CFG, 5, 1⟩
def R.GRD_SUP_CFG_vref_en : Fld := ⟨R.GRD_SUP_CFG, 6, 1⟩
def R.GRD_SUP_CFG_vref_tau : Fld := ⟨R.GRD_SUP_CFG, 16, 16⟩
def R.GRD_SUP_CFG_t_q : Fld := ⟨R.GRD_SUP_CFG + 4, 0, 16⟩
def R.GRD_SUP_CFG_t_p : Fld := ⟨R.GRD_SUP_CFG + 4, 16, 16⟩
def R.GRD_SUP_CFG_t_f : Fld := ⟨R.GRD_SUP_CFG + 8, 0, 16⟩
def R.GRD_SUP_CFG_p_sig : Fld := ⟨R.GRD_SUP_CFG + 8, 16, 12⟩
def R.GRD_SUP_CFG_tan_phi : Fld := ⟨R.GRD_SUP_CFG + 12, 0, 32⟩
def R.GRD_SUP_CFG_q_set : Fld := ⟨R.GRD_SUP_CFG + 16, 0, 32⟩
def R.GRD_SUP_CFG_npts : Fld := ⟨R.GRD_SUP_CFG + 20, 0, 16⟩
/-- GRD_SUP_CURVE (08_grid_unit.md). -/
def R.GRD_SUP_CURVE (i j : Nat) : Nat := 0x05000900 + 0x00000040 * i + 8 * j
def R.GRD_SUP_CURVE_x (i j : Nat) : Fld := ⟨R.GRD_SUP_CURVE i j, 0, 32⟩
def R.GRD_SUP_CURVE_y (i j : Nat) : Fld := ⟨R.GRD_SUP_CURVE i j + 4, 0, 32⟩
/-- GRD_FORM_CFG (08_grid_unit.md). -/
def R.GRD_FORM_CFG : Nat := 0x05000A00
def R.GRD_FORM_CFG_h : Fld := ⟨R.GRD_FORM_CFG, 0, 32⟩
def R.GRD_FORM_CFG_d : Fld := ⟨R.GRD_FORM_CFG + 4, 0, 32⟩
def R.GRD_FORM_CFG_p_sig : Fld := ⟨R.GRD_FORM_CFG + 8, 0, 12⟩
def R.GRD_FORM_CFG_q_sig : Fld := ⟨R.GRD_FORM_CFG + 8, 12, 12⟩
def R.GRD_FORM_CFG_mq : Fld := ⟨R.GRD_FORM_CFG + 12, 0, 32⟩
def R.GRD_FORM_CFG_p_set : Fld := ⟨R.GRD_FORM_CFG + 16, 0, 32⟩
def R.GRD_FORM_CFG_v_set : Fld := ⟨R.GRD_FORM_CFG + 20, 0, 32⟩
/-- GRD_XCHK_CFG (08_grid_unit.md). -/
def R.GRD_XCHK_CFG : Nat := 0x05000B00
def R.GRD_XCHK_CFG_xchk_tol : Fld := ⟨R.GRD_XCHK_CFG, 0, 8⟩
def R.GRD_XCHK_CFG_xchk_n : Fld := ⟨R.GRD_XCHK_CFG, 8, 4⟩
/-- GRD_XCHK_STAT (08_grid_unit.md). -/
def R.GRD_XCHK_STAT : Nat := 0x05000B04
def R.GRD_XCHK_STAT_disagree : Fld := ⟨R.GRD_XCHK_STAT, 0, 1⟩
def R.GRD_XCHK_STAT_kind : Fld := ⟨R.GRD_XCHK_STAT, 1, 1⟩
def R.GRD_XCHK_STAT_count : Fld := ⟨R.GRD_XCHK_STAT, 8, 8⟩
def R.GRD_XCHK_STAT_v_rt : Fld := ⟨R.GRD_XCHK_STAT + 4, 0, 32⟩
def R.GRD_XCHK_STAT_v_mtr : Fld := ⟨R.GRD_XCHK_STAT + 8, 0, 32⟩
/-- MOD_STATUS (09_modulator.md). -/
def R.MOD_STATUS : Nat := 0x06000000
def R.MOD_STATUS_split : Fld := ⟨R.MOD_STATUS, 0, 8⟩
def R.MOD_STATUS_crumb_clip : Fld := ⟨R.MOD_STATUS, 8, 1⟩
def R.MOD_STATUS_safe : Fld := ⟨R.MOD_STATUS, 9, 1⟩
def R.MOD_STATUS_halt_seen : Fld := ⟨R.MOD_STATUS, 10, 1⟩
def R.MOD_STATUS_clk_stop : Fld := ⟨R.MOD_STATUS, 11, 1⟩
def R.MOD_STATUS_cal_degraded : Fld := ⟨R.MOD_STATUS, 12, 1⟩
/-- MOD_ERR_CNT (09_modulator.md). -/
def R.MOD_ERR_CNT : Nat := 0x06000004
def R.MOD_ERR_CNT_q_full : Fld := ⟨R.MOD_ERR_CNT, 0, 8⟩
def R.MOD_ERR_CNT_superseded : Fld := ⟨R.MOD_ERR_CNT, 8, 8⟩
def R.MOD_ERR_CNT_gen_wait : Fld := ⟨R.MOD_ERR_CNT, 16, 8⟩
def R.MOD_ERR_CNT_bad_period : Fld := ⟨R.MOD_ERR_CNT, 24, 8⟩
/-- MOD_CAL (09_modulator.md). -/
def R.MOD_CAL : Nat := 0x06000008
def R.MOD_CAL_taps : Fld := ⟨R.MOD_CAL, 0, 8⟩
def R.MOD_CAL_valid : Fld := ⟨R.MOD_CAL, 8, 1⟩
def R.MOD_CAL_updates : Fld := ⟨R.MOD_CAL, 16, 16⟩
/-- MOD_CRUMB_CNT (09_modulator.md). -/
def R.MOD_CRUMB_CNT : Nat := 0x0600000C
def R.MOD_CRUMB_CNT_discards : Fld := ⟨R.MOD_CRUMB_CNT, 0, 16⟩
/-- MOD_CG_CFG (09_modulator.md). -/
def R.MOD_CG_CFG (i : Nat) : Nat := 0x06000100 + 0x00000020 * i
def R.MOD_CG_CFG_en (i : Nat) : Fld := ⟨R.MOD_CG_CFG i, 0, 1⟩
def R.MOD_CG_CFG_ref (i : Nat) : Fld := ⟨R.MOD_CG_CFG i, 1, 3⟩
def R.MOD_CG_CFG_split_limit (i : Nat) : Fld := ⟨R.MOD_CG_CFG i, 4, 8⟩
/-- MOD_CG_PERIOD (09_modulator.md). -/
def R.MOD_CG_PERIOD (i : Nat) : Nat := 0x06000104 + 0x00000020 * i
def R.MOD_CG_PERIOD_fine (i : Nat) : Fld := ⟨R.MOD_CG_PERIOD i, 0, 7⟩
def R.MOD_CG_PERIOD_ticks (i : Nat) : Fld := ⟨R.MOD_CG_PERIOD i, 7, 24⟩
/-- MOD_CG_OFFSET (09_modulator.md). -/
def R.MOD_CG_OFFSET (i : Nat) : Nat := 0x06000108 + 0x00000020 * i
def R.MOD_CG_OFFSET_offset (i : Nat) : Fld := ⟨R.MOD_CG_OFFSET i, 0, 24⟩
/-- MOD_CG_STAT (09_modulator.md). -/
def R.MOD_CG_STAT (i : Nat) : Nat := 0x0600010C + 0x00000020 * i
def R.MOD_CG_STAT_gen (i : Nat) : Fld := ⟨R.MOD_CG_STAT i, 0, 8⟩
def R.MOD_CG_STAT_pending_gen (i : Nat) : Fld := ⟨R.MOD_CG_STAT i, 8, 8⟩
def R.MOD_CG_STAT_pending (i : Nat) : Fld := ⟨R.MOD_CG_STAT i, 16, 1⟩
def R.MOD_CG_STAT_split_run (i : Nat) : Fld := ⟨R.MOD_CG_STAT i, 17, 8⟩
/-- MOD_CG_COUNT (09_modulator.md). -/
def R.MOD_CG_COUNT (i : Nat) : Nat := 0x06000110 + 0x00000020 * i
def R.MOD_CG_COUNT_count (i : Nat) : Fld := ⟨R.MOD_CG_COUNT i, 0, 24⟩
def R.MOD_CG_COUNT_wrap_fine (i : Nat) : Fld := ⟨R.MOD_CG_COUNT i, 24, 7⟩
/-- MOD_CG_ERR (09_modulator.md). -/
def R.MOD_CG_ERR (i : Nat) : Nat := 0x06000114 + 0x00000020 * i
def R.MOD_CG_ERR_split_wraps (i : Nat) : Fld := ⟨R.MOD_CG_ERR i, 0, 16⟩
def R.MOD_CG_ERR_lengthened (i : Nat) : Fld := ⟨R.MOD_CG_ERR i, 16, 8⟩
/-- MOD_LEG_CFG (09_modulator.md). -/
def R.MOD_LEG_CFG (i : Nat) : Nat := 0x06001000 + 0x00000080 * i
def R.MOD_LEG_CFG_pattern (i : Nat) : Fld := ⟨R.MOD_LEG_CFG i, 0, 2⟩
def R.MOD_LEG_CFG_en (i : Nat) : Fld := ⟨R.MOD_LEG_CFG i, 2, 1⟩
def R.MOD_LEG_CFG_cg (i : Nat) : Fld := ⟨R.MOD_LEG_CFG i, 3, 3⟩
def R.MOD_LEG_CFG_short_pulse (i : Nat) : Fld := ⟨R.MOD_LEG_CFG i, 6, 2⟩
def R.MOD_LEG_CFG_abs_on (i : Nat) : Fld := ⟨R.MOD_LEG_CFG i, 8, 1⟩
def R.MOD_LEG_CFG_abs_off (i : Nat) : Fld := ⟨R.MOD_LEG_CFG i, 9, 1⟩
def R.MOD_LEG_CFG_adapt_en (i : Nat) : Fld := ⟨R.MOD_LEG_CFG i, 10, 1⟩
def R.MOD_LEG_CFG_refresh_en (i : Nat) : Fld := ⟨R.MOD_LEG_CFG i, 11, 1⟩
def R.MOD_LEG_CFG_mod_evt (i : Nat) : Fld := ⟨R.MOD_LEG_CFG i, 12, 1⟩
def R.MOD_LEG_CFG_i_sig (i : Nat) : Fld := ⟨R.MOD_LEG_CFG i, 13, 12⟩
/-- MOD_LEG_CMP (09_modulator.md). -/
def R.MOD_LEG_CMP (i : Nat) : Nat := 0x06001004 + 0x00000080 * i
def R.MOD_LEG_CMP_on (i : Nat) : Fld := ⟨R.MOD_LEG_CMP i, 0, 31⟩
def R.MOD_LEG_CMP_off (i : Nat) : Fld := ⟨R.MOD_LEG_CMP i + 4, 0, 31⟩
/-- MOD_LEG_TIME (09_modulator.md). -/
def R.MOD_LEG_TIME (i : Nat) : Nat := 0x0600100C + 0x00000080 * i
def R.MOD_LEG_TIME_dt_min (i : Nat) : Fld := ⟨R.MOD_LEG_TIME i, 0, 24⟩
def R.MOD_LEG_TIME_dt_max (i : Nat) : Fld := ⟨R.MOD_LEG_TIME i + 4, 0, 24⟩
def R.MOD_LEG_TIME_dt_margin (i : Nat) : Fld := ⟨R.MOD_LEG_TIME i + 8, 0, 24⟩
def R.MOD_LEG_TIME_min_pulse (i : Nat) : Fld := ⟨R.MOD_LEG_TIME i + 12, 0, 24⟩
def R.MOD_LEG_TIME_t_refresh (i : Nat) : Fld := ⟨R.MOD_LEG_TIME i + 16, 0, 24⟩
def R.MOD_LEG_TIME_t_il (i : Nat) : Fld := ⟨R.MOD_LEG_TIME i + 20, 0, 24⟩
/-- MOD_LEG_BOOT (09_modulator.md). -/
def R.MOD_LEG_BOOT (i : Nat) : Nat := 0x06001024 + 0x00000080 * i
def R.MOD_LEG_BOOT_boot_max_periods (i : Nat) : Fld := ⟨R.MOD_LEG_BOOT i, 0, 8⟩
def R.MOD_LEG_BOOT_boot_low (i : Nat) : Fld := ⟨R.MOD_LEG_BOOT i, 8, 8⟩
/-- MOD_LEG_IMIN (09_modulator.md). -/
def R.MOD_LEG_IMIN (i : Nat) : Nat := 0x06001028 + 0x00000080 * i
def R.MOD_LEG_IMIN_dt_adapt_imin (i : Nat) : Fld := ⟨R.MOD_LEG_IMIN i, 0, 32⟩
/-- MOD_LEG_DTM (09_modulator.md). -/
def R.MOD_LEG_DTM (i j : Nat) : Nat := 0x0600102C + 0x00000080 * i + 4 * j
def R.MOD_LEG_DTM_dt (i j : Nat) : Fld := ⟨R.MOD_LEG_DTM i j, 0, 20⟩
def R.MOD_LEG_DTM_fixed (i j : Nat) : Fld := ⟨R.MOD_LEG_DTM i j, 20, 1⟩
/-- MOD_LEG_CRUMB (09_modulator.md). -/
def R.MOD_LEG_CRUMB (i : Nat) : Nat := 0x0600103C + 0x00000080 * i
def R.MOD_LEG_CRUMB_crumb (i : Nat) : Fld := ⟨R.MOD_LEG_CRUMB i, 0, 32⟩
/-- MOD_LEG_STAT (09_modulator.md). -/
def R.MOD_LEG_STAT (i : Nat) : Nat := 0x06001040 + 0x00000080 * i
def R.MOD_LEG_STAT_crumb_clip (i : Nat) : Fld := ⟨R.MOD_LEG_STAT i, 0, 1⟩
def R.MOD_LEG_STAT_refresh_seen (i : Nat) : Fld := ⟨R.MOD_LEG_STAT i, 1, 1⟩
def R.MOD_LEG_STAT_il_timeout (i : Nat) : Fld := ⟨R.MOD_LEG_STAT i, 2, 1⟩
def R.MOD_LEG_STAT_short_cnt (i : Nat) : Fld := ⟨R.MOD_LEG_STAT i, 8, 8⟩
def R.MOD_LEG_STAT_refresh_cnt (i : Nat) : Fld := ⟨R.MOD_LEG_STAT i, 16, 8⟩
def R.MOD_LEG_STAT_clip_cnt (i : Nat) : Fld := ⟨R.MOD_LEG_STAT i, 24, 8⟩
/-- GTP_STATUS (10_gate_ports_and_protection.md). -/
def R.GTP_STATUS : Nat := 0x07000000
def R.GTP_STATUS_soft_busy : Fld := ⟨R.GTP_STATUS, 0, 4⟩
def R.GTP_STATUS_outputs_on : Fld := ⟨R.GTP_STATUS, 4, 1⟩
def R.GTP_STATUS_ring_valid : Fld := ⟨R.GTP_STATUS, 5, 1⟩
def R.GTP_STATUS_ring_stopped : Fld := ⟨R.GTP_STATUS, 6, 1⟩
def R.GTP_STATUS_chop0_on : Fld := ⟨R.GTP_STATUS, 7, 1⟩
def R.GTP_STATUS_chop1_on : Fld := ⟨R.GTP_STATUS, 8, 1⟩
def R.GTP_STATUS_mode_class : Fld := ⟨R.GTP_STATUS, 9, 2⟩
/-- GTP_ERR_CNT (10_gate_ports_and_protection.md). -/
def R.GTP_ERR_CNT : Nat := 0x07000004
def R.GTP_ERR_CNT_stat_lost : Fld := ⟨R.GTP_ERR_CNT, 0, 8⟩
def R.GTP_ERR_CNT_lockouts : Fld := ⟨R.GTP_ERR_CNT, 8, 8⟩
def R.GTP_ERR_CNT_enable_held : Fld := ⟨R.GTP_ERR_CNT, 16, 8⟩
def R.GTP_ERR_CNT_backstop : Fld := ⟨R.GTP_ERR_CNT, 24, 8⟩
/-- GTP_RING (10_gate_ports_and_protection.md). -/
def R.GTP_RING : Nat := 0x07000008
def R.GTP_RING_cycles : Fld := ⟨R.GTP_RING, 0, 16⟩
def R.GTP_RING_updates : Fld := ⟨R.GTP_RING, 16, 16⟩
/-- GTP_PD_CFG (10_gate_ports_and_protection.md). -/
def R.GTP_PD_CFG (i : Nat) : Nat := 0x07000010 + 4 * i
def R.GTP_PD_CFG_t_stagger (i : Nat) : Fld := ⟨R.GTP_PD_CFG i, 0, 6⟩
def R.GTP_PD_CFG_legs (i : Nat) : Fld := ⟨R.GTP_PD_CFG i, 6, 6⟩
/-- GTP_CHOP_CFG (10_gate_ports_and_protection.md). -/
def R.GTP_CHOP_CFG (i : Nat) : Nat := 0x07000020 + 8 * i
def R.GTP_CHOP_CFG_en (i : Nat) : Fld := ⟨R.GTP_CHOP_CFG i, 0, 1⟩
def R.GTP_CHOP_CFG_wc (i : Nat) : Fld := ⟨R.GTP_CHOP_CFG i, 1, 7⟩
def R.GTP_CHOP_CFG_trip_assist (i : Nat) : Fld := ⟨R.GTP_CHOP_CFG i, 8, 4⟩
def R.GTP_CHOP_CFG_chop_ext (i : Nat) : Fld := ⟨R.GTP_CHOP_CFG i, 12, 8⟩
/-- GTP_CHOP_STAT (10_gate_ports_and_protection.md). -/
def R.GTP_CHOP_STAT (i : Nat) : Nat := 0x07000024 + 8 * i
def R.GTP_CHOP_STAT_on (i : Nat) : Fld := ⟨R.GTP_CHOP_STAT i, 0, 1⟩
def R.GTP_CHOP_STAT_by_comp (i : Nat) : Fld := ⟨R.GTP_CHOP_STAT i, 1, 1⟩
def R.GTP_CHOP_STAT_by_route (i : Nat) : Fld := ⟨R.GTP_CHOP_STAT i, 2, 1⟩
def R.GTP_CHOP_STAT_by_trip (i : Nat) : Fld := ⟨R.GTP_CHOP_STAT i, 3, 1⟩
def R.GTP_CHOP_STAT_starts (i : Nat) : Fld := ⟨R.GTP_CHOP_STAT i, 8, 8⟩
def R.GTP_CHOP_STAT_on_time (i : Nat) : Fld := ⟨R.GTP_CHOP_STAT i, 16, 16⟩
/-- GTP_FB_TH (10_gate_ports_and_protection.md). -/
def R.GTP_FB_TH (i : Nat) : Nat := 0x07000100 + 4 * i
def R.GTP_FB_TH_th (i : Nat) : Fld := ⟨R.GTP_FB_TH i, 0, 8⟩
def R.GTP_FB_TH_fb_on (i : Nat) : Fld := ⟨R.GTP_FB_TH i, 8, 1⟩
/-- GTP_NODE_TH (10_gate_ports_and_protection.md). -/
def R.GTP_NODE_TH (i : Nat) : Nat := 0x07000200 + 4 * i
def R.GTP_NODE_TH_th (i : Nat) : Fld := ⟨R.GTP_NODE_TH i, 0, 8⟩
def R.GTP_NODE_TH_node_hi (i : Nat) : Fld := ⟨R.GTP_NODE_TH i, 8, 1⟩
/-- GTP_LEG_CFG (10_gate_ports_and_protection.md). -/
def R.GTP_LEG_CFG (i : Nat) : Nat := 0x07001000 + 0x00000040 * i
def R.GTP_LEG_CFG_pd (i : Nat) : Fld := ⟨R.GTP_LEG_CFG i, 0, 3⟩
def R.GTP_LEG_CFG_h_supply (i : Nat) : Fld := ⟨R.GTP_LEG_CFG i, 3, 1⟩
def R.GTP_LEG_CFG_stat_en (i : Nat) : Fld := ⟨R.GTP_LEG_CFG i, 4, 1⟩
def R.GTP_LEG_CFG_en_h (i : Nat) : Fld := ⟨R.GTP_LEG_CFG i, 5, 1⟩
def R.GTP_LEG_CFG_en_l (i : Nat) : Fld := ⟨R.GTP_LEG_CFG i, 6, 1⟩
def R.GTP_LEG_CFG_bypass (i : Nat) : Fld := ⟨R.GTP_LEG_CFG i, 7, 1⟩
def R.GTP_LEG_CFG_node_wd_h (i : Nat) : Fld := ⟨R.GTP_LEG_CFG i, 8, 1⟩
def R.GTP_LEG_CFG_node_wd_l (i : Nat) : Fld := ⟨R.GTP_LEG_CFG i, 9, 1⟩
def R.GTP_LEG_CFG_ot_fault (i : Nat) : Fld := ⟨R.GTP_LEG_CFG i, 10, 1⟩
def R.GTP_LEG_CFG_ot_evt (i : Nat) : Fld := ⟨R.GTP_LEG_CFG i, 11, 1⟩
def R.GTP_LEG_CFG_fault_limit (i : Nat) : Fld := ⟨R.GTP_LEG_CFG i, 12, 4⟩
def R.GTP_LEG_CFG_fault_window (i : Nat) : Fld := ⟨R.GTP_LEG_CFG i, 16, 16⟩
/-- GTP_LEG_TIME (10_gate_ports_and_protection.md). -/
def R.GTP_LEG_TIME (i : Nat) : Nat := 0x07001004 + 0x00000040 * i
def R.GTP_LEG_TIME_t_blank (i : Nat) : Fld := ⟨R.GTP_LEG_TIME i, 0, 8⟩
def R.GTP_LEG_TIME_t_soft1 (i : Nat) : Fld := ⟨R.GTP_LEG_TIME i, 8, 9⟩
def R.GTP_LEG_TIME_t_node (i : Nat) : Fld := ⟨R.GTP_LEG_TIME i, 17, 8⟩
/-- GTP_LEG_LIM (10_gate_ports_and_protection.md). -/
def R.GTP_LEG_LIM (i : Nat) : Nat := 0x07001008 + 0x00000040 * i
def R.GTP_LEG_LIM_boot_uvlo (i : Nat) : Fld := ⟨R.GTP_LEG_LIM i, 0, 8⟩
/-- GTP_LEG_STAT (10_gate_ports_and_protection.md). -/
def R.GTP_LEG_STAT (i : Nat) : Nat := 0x0700100C + 0x00000040 * i
def R.GTP_LEG_STAT_fault (i : Nat) : Fld := ⟨R.GTP_LEG_STAT i, 0, 1⟩
def R.GTP_LEG_STAT_locked (i : Nat) : Fld := ⟨R.GTP_LEG_STAT i, 1, 1⟩
def R.GTP_LEG_STAT_in_soft (i : Nat) : Fld := ⟨R.GTP_LEG_STAT i, 2, 1⟩
def R.GTP_LEG_STAT_enable_pending (i : Nat) : Fld := ⟨R.GTP_LEG_STAT i, 3, 1⟩
def R.GTP_LEG_STAT_lockout (i : Nat) : Fld := ⟨R.GTP_LEG_STAT i, 4, 1⟩
def R.GTP_LEG_STAT_stat_lost (i : Nat) : Fld := ⟨R.GTP_LEG_STAT i, 5, 1⟩
def R.GTP_LEG_STAT_eff_h (i : Nat) : Fld := ⟨R.GTP_LEG_STAT i, 6, 1⟩
def R.GTP_LEG_STAT_eff_l (i : Nat) : Fld := ⟨R.GTP_LEG_STAT i, 7, 1⟩
def R.GTP_LEG_STAT_first_cause (i : Nat) : Fld := ⟨R.GTP_LEG_STAT i, 8, 4⟩
def R.GTP_LEG_STAT_domain_held (i : Nat) : Fld := ⟨R.GTP_LEG_STAT i, 12, 1⟩
def R.GTP_LEG_STAT_causes (i : Nat) : Fld := ⟨R.GTP_LEG_STAT i, 16, 16⟩
/-- GTP_LEG_LINK (10_gate_ports_and_protection.md). -/
def R.GTP_LEG_LINK (i : Nat) : Nat := 0x07001010 + 0x00000040 * i
def R.GTP_LEG_LINK_seq (i : Nat) : Fld := ⟨R.GTP_LEG_LINK i, 0, 3⟩
def R.GTP_LEG_LINK_uvlo_h (i : Nat) : Fld := ⟨R.GTP_LEG_LINK i, 3, 1⟩
def R.GTP_LEG_LINK_uvlo_l (i : Nat) : Fld := ⟨R.GTP_LEG_LINK i, 4, 1⟩
def R.GTP_LEG_LINK_desat_h (i : Nat) : Fld := ⟨R.GTP_LEG_LINK i, 5, 1⟩
def R.GTP_LEG_LINK_desat_l (i : Nat) : Fld := ⟨R.GTP_LEG_LINK i, 6, 1⟩
def R.GTP_LEG_LINK_ot (i : Nat) : Fld := ⟨R.GTP_LEG_LINK i, 7, 1⟩
def R.GTP_LEG_LINK_boot_code (i : Nat) : Fld := ⟨R.GTP_LEG_LINK i, 8, 8⟩
def R.GTP_LEG_LINK_temp (i : Nat) : Fld := ⟨R.GTP_LEG_LINK i, 16, 8⟩
/-- GTP_LEG_CNT (10_gate_ports_and_protection.md). -/
def R.GTP_LEG_CNT (i : Nat) : Nat := 0x07001014 + 0x00000040 * i
def R.GTP_LEG_CNT_faults (i : Nat) : Fld := ⟨R.GTP_LEG_CNT i, 0, 8⟩
def R.GTP_LEG_CNT_bad_frames (i : Nat) : Fld := ⟨R.GTP_LEG_CNT i, 8, 8⟩
def R.GTP_LEG_CNT_missing (i : Nat) : Fld := ⟨R.GTP_LEG_CNT i, 16, 8⟩
def R.GTP_LEG_CNT_seq_err (i : Nat) : Fld := ⟨R.GTP_LEG_CNT i, 24, 8⟩
/-- MTR_STATUS (11_metering.md). -/
def R.MTR_STATUS : Nat := 0x08000000
def R.MTR_STATUS_ovld : Fld := ⟨R.MTR_STATUS, 0, 8⟩
def R.MTR_STATUS_wrap : Fld := ⟨R.MTR_STATUS, 8, 1⟩
def R.MTR_STATUS_restore_fail : Fld := ⟨R.MTR_STATUS, 9, 1⟩
def R.MTR_STATUS_restored : Fld := ⟨R.MTR_STATUS, 10, 1⟩
def R.MTR_STATUS_f_hold : Fld := ⟨R.MTR_STATUS, 11, 1⟩
def R.MTR_STATUS_po_over : Fld := ⟨R.MTR_STATUS, 12, 1⟩
/-- MTR_ERR_CNT (11_metering.md). -/
def R.MTR_ERR_CNT : Nat := 0x08000004
def R.MTR_ERR_CNT_ovld_cnt : Fld := ⟨R.MTR_ERR_CNT, 0, 8⟩
def R.MTR_ERR_CNT_wraps : Fld := ⟨R.MTR_ERR_CNT, 8, 8⟩
def R.MTR_ERR_CNT_snap_merged : Fld := ⟨R.MTR_ERR_CNT, 16, 8⟩
def R.MTR_ERR_CNT_po_over_cnt : Fld := ⟨R.MTR_ERR_CNT, 24, 8⟩
/-- MTR_CFG (11_metering.md). -/
def R.MTR_CFG : Nat := 0x08000010
def R.MTR_CFG_u_din : Fld := ⟨R.MTR_CFG, 0, 16⟩
def R.MTR_CFG_en : Fld := ⟨R.MTR_CFG, 16, 1⟩
def R.MTR_CFG_i_nom : Fld := ⟨R.MTR_CFG + 4, 0, 32⟩
def R.MTR_CFG_lsb : Fld := ⟨R.MTR_CFG + 8, 0, 32⟩
/-- MTR_CH_CAL (11_metering.md). -/
def R.MTR_CH_CAL (i : Nat) : Nat := 0x08000100 + 0x00000010 * i
def R.MTR_CH_CAL_gain (i : Nat) : Fld := ⟨R.MTR_CH_CAL i, 0, 32⟩
def R.MTR_CH_CAL_offset (i : Nat) : Fld := ⟨R.MTR_CH_CAL i + 4, 0, 24⟩
def R.MTR_CH_CAL_phase (i : Nat) : Fld := ⟨R.MTR_CH_CAL i + 8, 0, 10⟩
def R.MTR_CH_CAL_hpf_en (i : Nat) : Fld := ⟨R.MTR_CH_CAL i + 8, 10, 1⟩
/-- MTR_NOLOAD (11_metering.md). -/
def R.MTR_NOLOAD : Nat := 0x08000200
def R.MTR_NOLOAD_noload_p : Fld := ⟨R.MTR_NOLOAD, 0, 16⟩
def R.MTR_NOLOAD_noload_q : Fld := ⟨R.MTR_NOLOAD, 16, 16⟩
/-- MTR_SNAP (11_metering.md). -/
def R.MTR_SNAP (i : Nat) : Nat := 0x08000300 + 8 * i
def R.MTR_SNAP_take (i : Nat) : Fld := ⟨R.MTR_SNAP i, 0, 1⟩
def R.MTR_SNAP_pending (i : Nat) : Fld := ⟨R.MTR_SNAP i, 1, 1⟩
def R.MTR_SNAP_done (i : Nat) : Fld := ⟨R.MTR_SNAP i, 2, 1⟩
def R.MTR_SNAP_seq (i : Nat) : Fld := ⟨R.MTR_SNAP i, 8, 8⟩
def R.MTR_SNAP_sample (i : Nat) : Fld := ⟨R.MTR_SNAP i + 4, 0, 32⟩
/-- MTR_E (11_metering.md). -/
def R.MTR_E (i j : Nat) : Nat := 0x08001000 + 0x00000100 * i + 8 * j
def R.MTR_E_energy_lo (i j : Nat) : Fld := ⟨R.MTR_E i j, 0, 32⟩
def R.MTR_E_energy_hi (i j : Nat) : Fld := ⟨R.MTR_E i j + 4, 0, 16⟩
def R.MTR_E_wrap (i j : Nat) : Fld := ⟨R.MTR_E i j + 4, 16, 16⟩
/-- MTR_EVT_CFG (11_metering.md). -/
def R.MTR_EVT_CFG : Nat := 0x08000400
def R.MTR_EVT_CFG_sag_th : Fld := ⟨R.MTR_EVT_CFG, 0, 16⟩
def R.MTR_EVT_CFG_swell_th : Fld := ⟨R.MTR_EVT_CFG, 16, 16⟩
def R.MTR_EVT_CFG_intr_th : Fld := ⟨R.MTR_EVT_CFG + 4, 0, 16⟩
def R.MTR_EVT_CFG_hyst : Fld := ⟨R.MTR_EVT_CFG + 4, 16, 16⟩
/-- MTR_EVT_STAT (11_metering.md). -/
def R.MTR_EVT_STAT : Nat := 0x08000408
def R.MTR_EVT_STAT_sag : Fld := ⟨R.MTR_EVT_STAT, 0, 3⟩
def R.MTR_EVT_STAT_swell : Fld := ⟨R.MTR_EVT_STAT, 3, 3⟩
def R.MTR_EVT_STAT_intr : Fld := ⟨R.MTR_EVT_STAT, 6, 1⟩
def R.MTR_EVT_STAT_phseq : Fld := ⟨R.MTR_EVT_STAT, 7, 1⟩
def R.MTR_EVT_STAT_lost_n : Fld := ⟨R.MTR_EVT_STAT, 8, 1⟩
def R.MTR_EVT_STAT_events : Fld := ⟨R.MTR_EVT_STAT, 16, 8⟩
/-- MTR_DEMAND_CFG (11_metering.md). -/
def R.MTR_DEMAND_CFG : Nat := 0x08000500
def R.MTR_DEMAND_CFG_length : Fld := ⟨R.MTR_DEMAND_CFG, 0, 6⟩
def R.MTR_DEMAND_CFG_tz : Fld := ⟨R.MTR_DEMAND_CFG, 6, 8⟩
/-- MTR_DEMAND (11_metering.md). -/
def R.MTR_DEMAND (i : Nat) : Nat := 0x08000800 + 0x00000040 * i
def R.MTR_DEMAND_end_time (i : Nat) : Fld := ⟨R.MTR_DEMAND i, 0, 32⟩
def R.MTR_DEMAND_dir_change (i : Nat) : Fld := ⟨R.MTR_DEMAND i + 4, 0, 1⟩
def R.MTR_DEMAND_q_dir_change (i : Nat) : Fld := ⟨R.MTR_DEMAND i + 4, 1, 1⟩
def R.MTR_DEMAND_partial (i : Nat) : Fld := ⟨R.MTR_DEMAND i + 4, 2, 1⟩
def R.MTR_DEMAND_p_imp_lo (i : Nat) : Fld := ⟨R.MTR_DEMAND i + 8, 0, 32⟩
def R.MTR_DEMAND_p_imp_hi (i : Nat) : Fld := ⟨R.MTR_DEMAND i + 12, 0, 32⟩
def R.MTR_DEMAND_p_exp_lo (i : Nat) : Fld := ⟨R.MTR_DEMAND i + 16, 0, 32⟩
def R.MTR_DEMAND_p_exp_hi (i : Nat) : Fld := ⟨R.MTR_DEMAND i + 20, 0, 32⟩
def R.MTR_DEMAND_q_imp_lo (i : Nat) : Fld := ⟨R.MTR_DEMAND i + 24, 0, 32⟩
def R.MTR_DEMAND_q_imp_hi (i : Nat) : Fld := ⟨R.MTR_DEMAND i + 28, 0, 32⟩
def R.MTR_DEMAND_q_exp_lo (i : Nat) : Fld := ⟨R.MTR_DEMAND i + 32, 0, 32⟩
def R.MTR_DEMAND_q_exp_hi (i : Nat) : Fld := ⟨R.MTR_DEMAND i + 36, 0, 32⟩
/-- MTR_PI_CFG (11_metering.md). -/
def R.MTR_PI_CFG (i : Nat) : Nat := 0x08000600 + 0x00000010 * i
def R.MTR_PI_CFG_pi_mwh (i : Nat) : Fld := ⟨R.MTR_PI_CFG i, 0, 32⟩
def R.MTR_PI_CFG_debounce (i : Nat) : Fld := ⟨R.MTR_PI_CFG i + 4, 0, 8⟩
def R.MTR_PI_CFG_stuck (i : Nat) : Fld := ⟨R.MTR_PI_CFG i + 4, 16, 16⟩
def R.MTR_PI_CFG_timeout (i : Nat) : Fld := ⟨R.MTR_PI_CFG i + 8, 0, 16⟩
def R.MTR_PI_CFG_en (i : Nat) : Fld := ⟨R.MTR_PI_CFG i + 8, 16, 1⟩
/-- MTR_PI_STAT (11_metering.md). -/
def R.MTR_PI_STAT (i : Nat) : Nat := 0x0800060C + 0x00000010 * i
def R.MTR_PI_STAT_fault (i : Nat) : Fld := ⟨R.MTR_PI_STAT i, 0, 1⟩
def R.MTR_PI_STAT_timed_out (i : Nat) : Fld := ⟨R.MTR_PI_STAT i, 1, 1⟩
def R.MTR_PI_STAT_level (i : Nat) : Fld := ⟨R.MTR_PI_STAT i, 2, 1⟩
def R.MTR_PI_STAT_faults (i : Nat) : Fld := ⟨R.MTR_PI_STAT i, 8, 8⟩
def R.MTR_PI_STAT_interval (i : Nat) : Fld := ⟨R.MTR_PI_STAT i, 16, 16⟩
/-- MTR_PO_CFG (11_metering.md). -/
def R.MTR_PO_CFG (i : Nat) : Nat := 0x08000700 + 8 * i
def R.MTR_PO_CFG_en (i : Nat) : Fld := ⟨R.MTR_PO_CFG i, 0, 1⟩
def R.MTR_PO_CFG_e (i : Nat) : Fld := ⟨R.MTR_PO_CFG i, 1, 5⟩
def R.MTR_PO_CFG_width (i : Nat) : Fld := ⟨R.MTR_PO_CFG i, 6, 8⟩
def R.MTR_PO_CFG_po_mwh (i : Nat) : Fld := ⟨R.MTR_PO_CFG i + 4, 0, 32⟩
/-- MTR_EXPORT_CFG (11_metering.md). -/
def R.MTR_EXPORT_CFG : Nat := 0x08000780
def R.MTR_EXPORT_CFG_src : Fld := ⟨R.MTR_EXPORT_CFG, 0, 3⟩
def R.MTR_EXPORT_CFG_time : Fld := ⟨R.MTR_EXPORT_CFG, 16, 16⟩
def R.MTR_EXPORT_CFG_limit : Fld := ⟨R.MTR_EXPORT_CFG + 4, 0, 32⟩
/-- MTR_HARM (11_metering.md). -/
def R.MTR_HARM (i j : Nat) : Nat := 0x08002000 + 0x00000100 * i + 4 * j
def R.MTR_HARM_mag (i j : Nat) : Fld := ⟨R.MTR_HARM i j, 0, 16⟩
def R.MTR_HARM_window (i j : Nat) : Fld := ⟨R.MTR_HARM i j, 16, 16⟩
/-- SEQ_STATUS (12_modes_glazes_governor.md). -/
def R.SEQ_STATUS : Nat := 0x09000000
def R.SEQ_STATUS_mode : Fld := ⟨R.SEQ_STATUS, 0, 3⟩
def R.SEQ_STATUS_target : Fld := ⟨R.SEQ_STATUS, 3, 3⟩
def R.SEQ_STATUS_busy : Fld := ⟨R.SEQ_STATUS, 6, 1⟩
def R.SEQ_STATUS_swapping : Fld := ⟨R.SEQ_STATUS, 7, 1⟩
def R.SEQ_STATUS_aux_on : Fld := ⟨R.SEQ_STATUS, 8, 8⟩
def R.SEQ_STATUS_aux_req : Fld := ⟨R.SEQ_STATUS, 16, 8⟩
/-- SEQ_CFG (12_modes_glazes_governor.md). -/
def R.SEQ_CFG : Nat := 0x09000004
def R.SEQ_CFG_home_fsrc : Fld := ⟨R.SEQ_CFG, 0, 4⟩
/-- SEQ_REQ (12_modes_glazes_governor.md). -/
def R.SEQ_REQ : Nat := 0x09000008
def R.SEQ_REQ_mode : Fld := ⟨R.SEQ_REQ, 0, 3⟩
def R.SEQ_REQ_req_mode : Fld := ⟨R.SEQ_REQ, 3, 1⟩
def R.SEQ_REQ_aux : Fld := ⟨R.SEQ_REQ, 4, 3⟩
def R.SEQ_REQ_aux_on : Fld := ⟨R.SEQ_REQ, 7, 1⟩
def R.SEQ_REQ_aux_off : Fld := ⟨R.SEQ_REQ, 8, 1⟩
/-- SEQ_ERR_CNT (12_modes_glazes_governor.md). -/
def R.SEQ_ERR_CNT : Nat := 0x0900000C
def R.SEQ_ERR_CNT_replaced : Fld := ⟨R.SEQ_ERR_CNT, 0, 8⟩
def R.SEQ_ERR_CNT_q04_drop : Fld := ⟨R.SEQ_ERR_CNT, 8, 6⟩
def R.SEQ_ERR_CNT_q05_drop : Fld := ⟨R.SEQ_ERR_CNT, 14, 6⟩
def R.SEQ_ERR_CNT_shadowed : Fld := ⟨R.SEQ_ERR_CNT, 20, 6⟩
def R.SEQ_ERR_CNT_req_refused : Fld := ⟨R.SEQ_ERR_CNT, 26, 6⟩
/-- SEQ_GLAZE (12_modes_glazes_governor.md). -/
def R.SEQ_GLAZE (i : Nat) : Nat := 0x09000100 + 4 * i
def R.SEQ_GLAZE_patches (i : Nat) : Fld := ⟨R.SEQ_GLAZE i, 0, 11⟩
def R.SEQ_GLAZE_fsrc_mask (i : Nat) : Fld := ⟨R.SEQ_GLAZE i, 11, 16⟩
def R.SEQ_GLAZE_present (i : Nat) : Fld := ⟨R.SEQ_GLAZE i, 27, 1⟩
/-- SEQ_TIMER (12_modes_glazes_governor.md). -/
def R.SEQ_TIMER (i : Nat) : Nat := 0x09000200 + 8 * i
def R.SEQ_TIMER_period (i : Nat) : Fld := ⟨R.SEQ_TIMER i, 0, 30⟩
def R.SEQ_TIMER_unit (i : Nat) : Fld := ⟨R.SEQ_TIMER i, 30, 1⟩
def R.SEQ_TIMER_running (i : Nat) : Fld := ⟨R.SEQ_TIMER i + 4, 0, 1⟩
def R.SEQ_TIMER_expired (i : Nat) : Fld := ⟨R.SEQ_TIMER i + 4, 1, 1⟩
def R.SEQ_TIMER_remaining (i : Nat) : Fld := ⟨R.SEQ_TIMER i + 4, 2, 30⟩
/-- SEQ_RULE (12_modes_glazes_governor.md). -/
def R.SEQ_RULE (i : Nat) : Nat := 0x09001000 + 8 * i
def R.SEQ_RULE_from (i : Nat) : Fld := ⟨R.SEQ_RULE i, 0, 8⟩
def R.SEQ_RULE_cond_a (i : Nat) : Fld := ⟨R.SEQ_RULE i, 8, 7⟩
def R.SEQ_RULE_a_edge (i : Nat) : Fld := ⟨R.SEQ_RULE i, 15, 1⟩
def R.SEQ_RULE_a_neg (i : Nat) : Fld := ⟨R.SEQ_RULE i, 16, 1⟩
def R.SEQ_RULE_cond_b (i : Nat) : Fld := ⟨R.SEQ_RULE i, 17, 7⟩
def R.SEQ_RULE_b_neg (i : Nat) : Fld := ⟨R.SEQ_RULE i, 24, 1⟩
def R.SEQ_RULE_valid (i : Nat) : Fld := ⟨R.SEQ_RULE i, 25, 1⟩
def R.SEQ_RULE_act (i : Nat) : Fld := ⟨R.SEQ_RULE i + 4, 0, 3⟩
def R.SEQ_RULE_arg (i : Nat) : Fld := ⟨R.SEQ_RULE i + 4, 3, 5⟩
def R.SEQ_RULE_log (i : Nat) : Fld := ⟨R.SEQ_RULE i + 4, 8, 1⟩
def R.SEQ_RULE_evt0 (i : Nat) : Fld := ⟨R.SEQ_RULE i + 4, 9, 1⟩
def R.SEQ_RULE_evt1 (i : Nat) : Fld := ⟨R.SEQ_RULE i + 4, 10, 1⟩
def R.SEQ_RULE_stop (i : Nat) : Fld := ⟨R.SEQ_RULE i + 4, 11, 1⟩
def R.SEQ_RULE_log_code (i : Nat) : Fld := ⟨R.SEQ_RULE i + 4, 16, 16⟩
/-- GOV_CFG (12_modes_glazes_governor.md). -/
def R.GOV_CFG : Nat := 0x09008000
def R.GOV_CFG_en : Fld := ⟨R.GOV_CFG, 0, 1⟩
def R.GOV_CFG_plant : Fld := ⟨R.GOV_CFG, 1, 1⟩
def R.GOV_CFG_fsrc : Fld := ⟨R.GOV_CFG, 2, 4⟩
def R.GOV_CFG_eplan_fast : Fld := ⟨R.GOV_CFG, 6, 2⟩
def R.GOV_CFG_dwell : Fld := ⟨R.GOV_CFG, 8, 8⟩
def R.GOV_CFG_bridge_dwell : Fld := ⟨R.GOV_CFG, 16, 16⟩
/-- GOV_IN (12_modes_glazes_governor.md). -/
def R.GOV_IN : Nat := 0x09008004
def R.GOV_IN_tj_first : Fld := ⟨R.GOV_IN, 0, 12⟩
def R.GOV_IN_tj_count : Fld := ⟨R.GOV_IN, 12, 7⟩
def R.GOV_IN_die_sig : Fld := ⟨R.GOV_IN, 19, 12⟩
def R.GOV_IN_hs_first : Fld := ⟨R.GOV_IN + 4, 0, 12⟩
def R.GOV_IN_hs_count : Fld := ⟨R.GOV_IN + 4, 12, 4⟩
def R.GOV_IN_e_sig : Fld := ⟨R.GOV_IN + 4, 16, 12⟩
def R.GOV_IN_p_sig : Fld := ⟨R.GOV_IN + 8, 0, 12⟩
/-- GOV_TH (12_modes_glazes_governor.md). -/
def R.GOV_TH : Nat := 0x09008020
def R.GOV_TH_tj_max : Fld := ⟨R.GOV_TH, 0, 32⟩
def R.GOV_TH_hs_max : Fld := ⟨R.GOV_TH + 4, 0, 32⟩
def R.GOV_TH_h_start : Fld := ⟨R.GOV_TH + 8, 0, 32⟩
def R.GOV_TH_lim_min : Fld := ⟨R.GOV_TH + 12, 0, 32⟩
def R.GOV_TH_rise_rate : Fld := ⟨R.GOV_TH + 16, 0, 32⟩
def R.GOV_TH_die_hot : Fld := ⟨R.GOV_TH + 20, 0, 32⟩
def R.GOV_TH_die_hyst : Fld := ⟨R.GOV_TH + 24, 0, 32⟩
def R.GOV_TH_defer_th : Fld := ⟨R.GOV_TH + 28, 0, 32⟩
def R.GOV_TH_e_lo : Fld := ⟨R.GOV_TH + 32, 0, 32⟩
def R.GOV_TH_e_hi : Fld := ⟨R.GOV_TH + 36, 0, 32⟩
def R.GOV_TH_p_hyst : Fld := ⟨R.GOV_TH + 40, 0, 32⟩
/-- GOV_LADDER (12_modes_glazes_governor.md). -/
def R.GOV_LADDER (i : Nat) : Nat := 0x09008100 + 4 * i
def R.GOV_LADDER_mplan (i : Nat) : Fld := ⟨R.GOV_LADDER i, 0, 3⟩
def R.GOV_LADDER_valid (i : Nat) : Fld := ⟨R.GOV_LADDER i, 3, 1⟩
def R.GOV_LADDER_down_th (i : Nat) : Fld := ⟨R.GOV_LADDER i, 4, 14⟩
def R.GOV_LADDER_up_th (i : Nat) : Fld := ⟨R.GOV_LADDER i, 18, 14⟩
/-- GOV_BRIDGE (12_modes_glazes_governor.md). -/
def R.GOV_BRIDGE (i : Nat) : Nat := 0x09008140 + 8 * i
def R.GOV_BRIDGE_glaze (i : Nat) : Fld := ⟨R.GOV_BRIDGE i, 0, 4⟩
def R.GOV_BRIDGE_mask (i : Nat) : Fld := ⟨R.GOV_BRIDGE i, 4, 8⟩
def R.GOV_BRIDGE_p_on (i : Nat) : Fld := ⟨R.GOV_BRIDGE i + 4, 0, 32⟩
/-- GOV_DEFER (12_modes_glazes_governor.md). -/
def R.GOV_DEFER : Nat := 0x09008170
def R.GOV_DEFER_mask_lo : Fld := ⟨R.GOV_DEFER, 0, 32⟩
def R.GOV_DEFER_mask_hi : Fld := ⟨R.GOV_DEFER + 4, 0, 32⟩
/-- GOV_STAT (12_modes_glazes_governor.md). -/
def R.GOV_STAT : Nat := 0x09008180
def R.GOV_STAT_step : Fld := ⟨R.GOV_STAT, 0, 3⟩
def R.GOV_STAT_want : Fld := ⟨R.GOV_STAT, 3, 3⟩
def R.GOV_STAT_bridges : Fld := ⟨R.GOV_STAT, 6, 3⟩
def R.GOV_STAT_derating : Fld := ⟨R.GOV_STAT, 9, 1⟩
def R.GOV_STAT_deferring : Fld := ⟨R.GOV_STAT, 10, 1⟩
def R.GOV_STAT_inhibit : Fld := ⟨R.GOV_STAT, 11, 1⟩
/-- GOV_CNT (12_modes_glazes_governor.md). -/
def R.GOV_CNT : Nat := 0x09008184
def R.GOV_CNT_hops : Fld := ⟨R.GOV_CNT, 0, 8⟩
def R.GOV_CNT_bridge_changes : Fld := ⟨R.GOV_CNT, 8, 8⟩
def R.GOV_CNT_inhibited : Fld := ⟨R.GOV_CNT, 16, 8⟩
def R.GOV_CNT_dwell_waits : Fld := ⟨R.GOV_CNT, 24, 8⟩
/-- FAB_CFG (13_fulek_fabric.md). -/
def R.FAB_CFG : Nat := 0x0A000000
def R.FAB_CFG_en : Fld := ⟨R.FAB_CFG, 0, 1⟩
def R.FAB_CFG_root : Fld := ⟨R.FAB_CFG, 1, 1⟩
def R.FAB_CFG_root_ref : Fld := ⟨R.FAB_CFG, 2, 1⟩
def R.FAB_CFG_trust_root : Fld := ⟨R.FAB_CFG, 3, 1⟩
def R.FAB_CFG_port_en : Fld := ⟨R.FAB_CFG, 4, 4⟩
/-- FAB_STATUS (13_fulek_fabric.md). -/
def R.FAB_STATUS : Nat := 0x0A000004
def R.FAB_STATUS_node_id : Fld := ⟨R.FAB_STATUS, 0, 16⟩
def R.FAB_STATUS_level : Fld := ⟨R.FAB_STATUS, 16, 4⟩
def R.FAB_STATUS_joined : Fld := ⟨R.FAB_STATUS, 20, 1⟩
def R.FAB_STATUS_time_locked : Fld := ⟨R.FAB_STATUS, 21, 1⟩
def R.FAB_STATUS_time_valid : Fld := ⟨R.FAB_STATUS, 22, 1⟩
def R.FAB_STATUS_standalone : Fld := ⟨R.FAB_STATUS, 23, 1⟩
def R.FAB_STATUS_port_up : Fld := ⟨R.FAB_STATUS, 24, 4⟩
/-- FAB_PORT (13_fulek_fabric.md). -/
def R.FAB_PORT (i : Nat) : Nat := 0x0A000010 + 4 * i
def R.FAB_PORT_state (i : Nat) : Fld := ⟨R.FAB_PORT i, 0, 3⟩
def R.FAB_PORT_delay (i : Nat) : Fld := ⟨R.FAB_PORT i, 3, 20⟩
def R.FAB_PORT_downs (i : Nat) : Fld := ⟨R.FAB_PORT i, 24, 8⟩
/-- FAB_ERR_CNT (13_fulek_fabric.md). -/
def R.FAB_ERR_CNT : Nat := 0x0A000020
def R.FAB_ERR_CNT_len : Fld := ⟨R.FAB_ERR_CNT, 0, 8⟩
def R.FAB_ERR_CNT_crc : Fld := ⟨R.FAB_ERR_CNT, 8, 8⟩
def R.FAB_ERR_CNT_drop : Fld := ⟨R.FAB_ERR_CNT, 16, 8⟩
def R.FAB_ERR_CNT_unreach : Fld := ⟨R.FAB_ERR_CNT, 24, 8⟩
/-- FAB_ERR_CNT2 (13_fulek_fabric.md). -/
def R.FAB_ERR_CNT2 : Nat := 0x0A000024
def R.FAB_ERR_CNT2_code : Fld := ⟨R.FAB_ERR_CNT2, 0, 8⟩
def R.FAB_ERR_CNT2_type : Fld := ⟨R.FAB_ERR_CNT2, 8, 8⟩
def R.FAB_ERR_CNT2_bcast_refused : Fld := ⟨R.FAB_ERR_CNT2, 16, 8⟩
def R.FAB_ERR_CNT2_flood_merged : Fld := ⟨R.FAB_ERR_CNT2, 24, 8⟩
/-- FAB_TIME (13_fulek_fabric.md). -/
def R.FAB_TIME : Nat := 0x0A000028
def R.FAB_TIME_time_lo : Fld := ⟨R.FAB_TIME, 0, 32⟩
def R.FAB_TIME_time_hi : Fld := ⟨R.FAB_TIME + 4, 0, 32⟩
/-- FAB_TIME_STAT (13_fulek_fabric.md). -/
def R.FAB_TIME_STAT : Nat := 0x0A000030
def R.FAB_TIME_STAT_err : Fld := ⟨R.FAB_TIME_STAT, 0, 16⟩
def R.FAB_TIME_STAT_steps : Fld := ⟨R.FAB_TIME_STAT, 16, 8⟩
def R.FAB_TIME_STAT_lost : Fld := ⟨R.FAB_TIME_STAT, 24, 8⟩
/-- FAB_BARRIER (13_fulek_fabric.md). -/
def R.FAB_BARRIER : Nat := 0x0A000034
def R.FAB_BARRIER_number : Fld := ⟨R.FAB_BARRIER, 0, 8⟩
def R.FAB_BARRIER_arrive : Fld := ⟨R.FAB_BARRIER, 8, 1⟩
def R.FAB_BARRIER_pending : Fld := ⟨R.FAB_BARRIER, 9, 1⟩
def R.FAB_BARRIER_done : Fld := ⟨R.FAB_BARRIER, 10, 1⟩
def R.FAB_BARRIER_waived : Fld := ⟨R.FAB_BARRIER, 16, 8⟩
/-- FAB_FLOOD (13_fulek_fabric.md). -/
def R.FAB_FLOOD : Nat := 0x0A000038
def R.FAB_FLOOD_last_origin : Fld := ⟨R.FAB_FLOOD, 0, 16⟩
def R.FAB_FLOOD_last_seq : Fld := ⟨R.FAB_FLOOD, 16, 8⟩
def R.FAB_FLOOD_received : Fld := ⟨R.FAB_FLOOD, 24, 8⟩
/-- FAB_SCHED_STAT (13_fulek_fabric.md). -/
def R.FAB_SCHED_STAT : Nat := 0x0A00003C
def R.FAB_SCHED_STAT_pending : Fld := ⟨R.FAB_SCHED_STAT, 0, 4⟩
def R.FAB_SCHED_STAT_last_id : Fld := ⟨R.FAB_SCHED_STAT, 4, 8⟩
def R.FAB_SCHED_STAT_last_op : Fld := ⟨R.FAB_SCHED_STAT, 12, 3⟩
def R.FAB_SCHED_STAT_late : Fld := ⟨R.FAB_SCHED_STAT, 16, 8⟩
def R.FAB_SCHED_STAT_refused : Fld := ⟨R.FAB_SCHED_STAT, 24, 8⟩
/-- FAB_SNAP (13_fulek_fabric.md). -/
def R.FAB_SNAP : Nat := 0x0A000040
def R.FAB_SNAP_id : Fld := ⟨R.FAB_SNAP, 0, 8⟩
def R.FAB_SNAP_valid : Fld := ⟨R.FAB_SNAP, 8, 1⟩
def R.FAB_SNAP_time_lo : Fld := ⟨R.FAB_SNAP + 4, 0, 32⟩
def R.FAB_SNAP_time_hi : Fld := ⟨R.FAB_SNAP + 8, 0, 32⟩
/-- FAB_SNAP_FIDX (13_fulek_fabric.md). -/
def R.FAB_SNAP_FIDX (i : Nat) : Nat := 0x0A000080 + 4 * i
def R.FAB_SNAP_FIDX_index (i : Nat) : Fld := ⟨R.FAB_SNAP_FIDX i, 0, 32⟩
/-- FAB_PLANT (13_fulek_fabric.md). -/
def R.FAB_PLANT : Nat := 0x0A000100
def R.FAB_PLANT_nodes : Fld := ⟨R.FAB_PLANT, 0, 17⟩
def R.FAB_PLANT_depth : Fld := ⟨R.FAB_PLANT, 17, 4⟩
def R.FAB_PLANT_flags : Fld := ⟨R.FAB_PLANT, 21, 7⟩
def R.FAB_PLANT_want : Fld := ⟨R.FAB_PLANT, 28, 3⟩
def R.FAB_PLANT_all_valid : Fld := ⟨R.FAB_PLANT, 31, 1⟩
def R.FAB_PLANT_lead_us : Fld := ⟨R.FAB_PLANT + 4, 0, 16⟩
/-- FAB_SCHED_TX (13_fulek_fabric.md). -/
def R.FAB_SCHED_TX : Nat := 0x0A000140
def R.FAB_SCHED_TX_op : Fld := ⟨R.FAB_SCHED_TX, 0, 3⟩
def R.FAB_SCHED_TX_id : Fld := ⟨R.FAB_SCHED_TX, 8, 8⟩
def R.FAB_SCHED_TX_go : Fld := ⟨R.FAB_SCHED_TX, 16, 1⟩
def R.FAB_SCHED_TX_busy : Fld := ⟨R.FAB_SCHED_TX, 17, 1⟩
def R.FAB_SCHED_TX_t_lo : Fld := ⟨R.FAB_SCHED_TX + 4, 0, 32⟩
def R.FAB_SCHED_TX_t_hi : Fld := ⟨R.FAB_SCHED_TX + 8, 0, 32⟩
def R.FAB_SCHED_TX_arg0 : Fld := ⟨R.FAB_SCHED_TX + 12, 0, 32⟩
def R.FAB_SCHED_TX_arg1 : Fld := ⟨R.FAB_SCHED_TX + 16, 0, 32⟩
def R.FAB_SCHED_TX_dst : Fld := ⟨R.FAB_SCHED_TX + 20, 0, 16⟩
/-- TWN_CFG (14_macaron_twin.md). -/
def R.TWN_CFG : Nat := 0x0A010000
def R.TWN_CFG_role : Fld := ⟨R.TWN_CFG, 0, 2⟩
def R.TWN_CFG_tx_pd : Fld := ⟨R.TWN_CFG, 2, 4⟩
def R.TWN_CFG_rx_pd : Fld := ⟨R.TWN_CFG, 6, 4⟩
def R.TWN_CFG_solo_glaze : Fld := ⟨R.TWN_CFG, 10, 4⟩
/-- TWN_PAIR (14_macaron_twin.md). -/
def R.TWN_PAIR : Nat := 0x0A010004
def R.TWN_PAIR_pair_id : Fld := ⟨R.TWN_PAIR, 0, 32⟩
/-- TWN_STATUS (14_macaron_twin.md). -/
def R.TWN_STATUS : Nat := 0x0A010008
def R.TWN_STATUS_state : Fld := ⟨R.TWN_STATUS, 0, 3⟩
def R.TWN_STATUS_lanes_up : Fld := ⟨R.TWN_STATUS, 3, 4⟩
def R.TWN_STATUS_time_locked : Fld := ⟨R.TWN_STATUS, 7, 1⟩
/-- TWN_CTL (14_macaron_twin.md). -/
def R.TWN_CTL : Nat := 0x0A01000C
def R.TWN_CTL_repair : Fld := ⟨R.TWN_CTL, 0, 1⟩
/-- TWN_ERR_CNT (14_macaron_twin.md). -/
def R.TWN_ERR_CNT : Nat := 0x0A010010
def R.TWN_ERR_CNT_mirror_miss : Fld := ⟨R.TWN_ERR_CNT, 0, 8⟩
def R.TWN_ERR_CNT_rx_drop : Fld := ⟨R.TWN_ERR_CNT, 8, 8⟩
def R.TWN_ERR_CNT_tx_wait : Fld := ⟨R.TWN_ERR_CNT, 16, 8⟩
def R.TWN_ERR_CNT_lane_downs : Fld := ⟨R.TWN_ERR_CNT, 24, 8⟩
/-- TWN_MIRROR_CFG (14_macaron_twin.md). -/
def R.TWN_MIRROR_CFG : Nat := 0x0A010014
def R.TWN_MIRROR_CFG_wait : Fld := ⟨R.TWN_MIRROR_CFG, 0, 16⟩
/-- TWN_MIRROR (14_macaron_twin.md). -/
def R.TWN_MIRROR (i : Nat) : Nat := 0x0A010100 + 4 * i
def R.TWN_MIRROR_signal (i : Nat) : Fld := ⟨R.TWN_MIRROR i, 0, 12⟩
def R.TWN_MIRROR_valid (i : Nat) : Fld := ⟨R.TWN_MIRROR i, 12, 1⟩
/-- CAN_CFG (15_field_bus.md). -/
def R.CAN_CFG (i : Nat) : Nat := 0x0B000000 + 0x00000100 * i
def R.CAN_CFG_en (i : Nat) : Fld := ⟨R.CAN_CFG i, 0, 1⟩
def R.CAN_CFG_fd_en (i : Nat) : Fld := ⟨R.CAN_CFG i, 1, 1⟩
def R.CAN_CFG_brs_en (i : Nat) : Fld := ⟨R.CAN_CFG i, 2, 1⟩
def R.CAN_CFG_node_id (i : Nat) : Fld := ⟨R.CAN_CFG i, 3, 16⟩
def R.CAN_CFG_tdc_en (i : Nat) : Fld := ⟨R.CAN_CFG i, 19, 1⟩
def R.CAN_CFG_tdco (i : Nat) : Fld := ⟨R.CAN_CFG i, 20, 7⟩
/-- CAN_BT_NOM (15_field_bus.md). -/
def R.CAN_BT_NOM (i : Nat) : Nat := 0x0B000004 + 0x00000100 * i
def R.CAN_BT_NOM_brp_m1 (i : Nat) : Fld := ⟨R.CAN_BT_NOM i, 0, 8⟩
def R.CAN_BT_NOM_tseg1_m1 (i : Nat) : Fld := ⟨R.CAN_BT_NOM i, 8, 8⟩
def R.CAN_BT_NOM_tseg2_m1 (i : Nat) : Fld := ⟨R.CAN_BT_NOM i, 16, 7⟩
def R.CAN_BT_NOM_sjw_m1 (i : Nat) : Fld := ⟨R.CAN_BT_NOM i, 23, 7⟩
def R.CAN_BT_NOM_triple (i : Nat) : Fld := ⟨R.CAN_BT_NOM i, 30, 1⟩
/-- CAN_BT_DATA (15_field_bus.md). -/
def R.CAN_BT_DATA (i : Nat) : Nat := 0x0B000008 + 0x00000100 * i
def R.CAN_BT_DATA_brp_m1 (i : Nat) : Fld := ⟨R.CAN_BT_DATA i, 0, 5⟩
def R.CAN_BT_DATA_tseg1_m1 (i : Nat) : Fld := ⟨R.CAN_BT_DATA i, 5, 5⟩
def R.CAN_BT_DATA_tseg2_m1 (i : Nat) : Fld := ⟨R.CAN_BT_DATA i, 10, 4⟩
def R.CAN_BT_DATA_sjw_m1 (i : Nat) : Fld := ⟨R.CAN_BT_DATA i, 14, 4⟩
/-- CAN_ALONE_CFG (15_field_bus.md). -/
def R.CAN_ALONE_CFG (i : Nat) : Nat := 0x0B00000C + 0x00000100 * i
def R.CAN_ALONE_CFG_alone_limit (i : Nat) : Fld := ⟨R.CAN_ALONE_CFG i, 0, 8⟩
def R.CAN_ALONE_CFG_alone_retry (i : Nat) : Fld := ⟨R.CAN_ALONE_CFG i, 8, 16⟩
/-- CAN_CTL (15_field_bus.md). -/
def R.CAN_CTL (i : Nat) : Nat := 0x0B000010 + 0x00000100 * i
def R.CAN_CTL_recover (i : Nat) : Fld := ⟨R.CAN_CTL i, 0, 1⟩
/-- CAN_STATUS (15_field_bus.md). -/
def R.CAN_STATUS (i : Nat) : Nat := 0x0B000014 + 0x00000100 * i
def R.CAN_STATUS_state (i : Nat) : Fld := ⟨R.CAN_STATUS i, 0, 2⟩
def R.CAN_STATUS_alone (i : Nat) : Fld := ⟨R.CAN_STATUS i, 2, 1⟩
def R.CAN_STATUS_fd_on (i : Nat) : Fld := ⟨R.CAN_STATUS i, 3, 1⟩
def R.CAN_STATUS_tdc_risk (i : Nat) : Fld := ⟨R.CAN_STATUS i, 4, 1⟩
def R.CAN_STATUS_tec (i : Nat) : Fld := ⟨R.CAN_STATUS i, 5, 8⟩
def R.CAN_STATUS_rec (i : Nat) : Fld := ⟨R.CAN_STATUS i, 13, 8⟩
def R.CAN_STATUS_tdc_meas (i : Nat) : Fld := ⟨R.CAN_STATUS i, 21, 7⟩
/-- CAN_ERR_CNT (15_field_bus.md). -/
def R.CAN_ERR_CNT (i : Nat) : Nat := 0x0B000018 + 0x00000100 * i
def R.CAN_ERR_CNT_rx_drop (i : Nat) : Fld := ⟨R.CAN_ERR_CNT i, 0, 8⟩
def R.CAN_ERR_CNT_tx_drop (i : Nat) : Fld := ⟨R.CAN_ERR_CNT i, 8, 8⟩
def R.CAN_ERR_CNT_not_sent (i : Nat) : Fld := ⟨R.CAN_ERR_CNT i, 16, 8⟩
def R.CAN_ERR_CNT_recover_ignored (i : Nat) : Fld := ⟨R.CAN_ERR_CNT i, 24, 8⟩
/-- CAN_ERR_CNT2 (15_field_bus.md). -/
def R.CAN_ERR_CNT2 (i : Nat) : Nat := 0x0B00001C + 0x00000100 * i
def R.CAN_ERR_CNT2_seg_err (i : Nat) : Fld := ⟨R.CAN_ERR_CNT2 i, 0, 8⟩
def R.CAN_ERR_CNT2_unknown_fn (i : Nat) : Fld := ⟨R.CAN_ERR_CNT2 i, 8, 8⟩
def R.CAN_ERR_CNT2_fd_ignored (i : Nat) : Fld := ⟨R.CAN_ERR_CNT2 i, 16, 8⟩
def R.CAN_ERR_CNT2_busoffs (i : Nat) : Fld := ⟨R.CAN_ERR_CNT2 i, 24, 8⟩
/-- CAN_EVT (15_field_bus.md). -/
def R.CAN_EVT (i : Nat) : Nat := 0x0B000800 + 4 * i
def R.CAN_EVT_src (i : Nat) : Fld := ⟨R.CAN_EVT i, 0, 9⟩
def R.CAN_EVT_chan (i : Nat) : Fld := ⟨R.CAN_EVT i, 9, 2⟩
def R.CAN_EVT_valid (i : Nat) : Fld := ⟨R.CAN_EVT i, 11, 1⟩
def R.CAN_EVT_priority (i : Nat) : Fld := ⟨R.CAN_EVT i, 12, 3⟩
/-- AON_STATUS (16_always_on.md). -/
def R.AON_STATUS : Nat := 0x0C000000
def R.AON_STATUS_src : Fld := ⟨R.AON_STATUS, 0, 2⟩
def R.AON_STATUS_no_cell : Fld := ⟨R.AON_STATUS, 2, 1⟩
def R.AON_STATUS_xtal_ok : Fld := ⟨R.AON_STATUS, 3, 1⟩
def R.AON_STATUS_rtc_valid : Fld := ⟨R.AON_STATUS, 4, 1⟩
def R.AON_STATUS_rebuilt : Fld := ⟨R.AON_STATUS, 5, 1⟩
def R.AON_STATUS_low : Fld := ⟨R.AON_STATUS, 6, 1⟩
def R.AON_STATUS_vstore : Fld := ⟨R.AON_STATUS, 8, 12⟩
/-- AON_CFG (16_always_on.md). -/
def R.AON_CFG : Nat := 0x0C000004
def R.AON_CFG_c_store : Fld := ⟨R.AON_CFG, 0, 10⟩
def R.AON_CFG_reserve : Fld := ⟨R.AON_CFG, 10, 8⟩
def R.AON_CFG_cell_burst : Fld := ⟨R.AON_CFG, 18, 1⟩
/-- AON_ERR_CNT (16_always_on.md). -/
def R.AON_ERR_CNT : Nat := 0x0C000008
def R.AON_ERR_CNT_refused : Fld := ⟨R.AON_ERR_CNT, 0, 8⟩
def R.AON_ERR_CNT_cell_bursts : Fld := ⟨R.AON_ERR_CNT, 8, 8⟩
def R.AON_ERR_CNT_log_drop : Fld := ⟨R.AON_ERR_CNT, 16, 8⟩
def R.AON_ERR_CNT_ckpt_skip : Fld := ⟨R.AON_ERR_CNT, 24, 8⟩
/-- AON_RTC (16_always_on.md). -/
def R.AON_RTC : Nat := 0x0C00000C
def R.AON_RTC_seconds : Fld := ⟨R.AON_RTC, 0, 32⟩
def R.AON_RTC_sub : Fld := ⟨R.AON_RTC + 4, 0, 15⟩
/-- AON_TAMPER_CFG (16_always_on.md). -/
def R.AON_TAMPER_CFG : Nat := 0x0C000014
def R.AON_TAMPER_CFG_en : Fld := ⟨R.AON_TAMPER_CFG, 0, 4⟩
/-- AON_TAMPER_STAT (16_always_on.md). -/
def R.AON_TAMPER_STAT : Nat := 0x0C000018
def R.AON_TAMPER_STAT_level : Fld := ⟨R.AON_TAMPER_STAT, 0, 4⟩
def R.AON_TAMPER_STAT_seen : Fld := ⟨R.AON_TAMPER_STAT, 4, 4⟩
def R.AON_TAMPER_STAT_pending : Fld := ⟨R.AON_TAMPER_STAT, 8, 4⟩
/-- AON_RF_CNT (16_always_on.md). -/
def R.AON_RF_CNT : Nat := 0x0C00001C
def R.AON_RF_CNT_commands : Fld := ⟨R.AON_RF_CNT, 0, 16⟩
def R.AON_RF_CNT_errors : Fld := ⟨R.AON_RF_CNT, 16, 8⟩
def R.AON_RF_CNT_rf_notice_drop : Fld := ⟨R.AON_RF_CNT, 24, 8⟩
/-- OBS_CTL (17_observability_and_test.md). -/
def R.OBS_CTL : Nat := 0x0D000000
def R.OBS_CTL_cnt_run : Fld := ⟨R.OBS_CTL, 0, 1⟩
def R.OBS_CTL_clear : Fld := ⟨R.OBS_CTL, 1, 1⟩
/-- OBS_STATUS (17_observability_and_test.md). -/
def R.OBS_STATUS : Nat := 0x0D000004
def R.OBS_STATUS_recording : Fld := ⟨R.OBS_STATUS, 0, 1⟩
def R.OBS_STATUS_q26_full : Fld := ⟨R.OBS_STATUS, 1, 1⟩
def R.OBS_STATUS_ram_ecc : Fld := ⟨R.OBS_STATUS, 2, 1⟩
/-- OBS_ERR_CNT (17_observability_and_test.md). -/
def R.OBS_ERR_CNT : Nat := 0x0D000008
def R.OBS_ERR_CNT_rec_lost : Fld := ⟨R.OBS_ERR_CNT, 0, 8⟩
def R.OBS_ERR_CNT_ps_lost : Fld := ⟨R.OBS_ERR_CNT, 8, 8⟩
def R.OBS_ERR_CNT_dump_skip : Fld := ⟨R.OBS_ERR_CNT, 16, 8⟩
def R.OBS_ERR_CNT_tap_refused : Fld := ⟨R.OBS_ERR_CNT, 24, 8⟩
/-- OBS_SNAP (17_observability_and_test.md). -/
def R.OBS_SNAP : Nat := 0x0D00000C
def R.OBS_SNAP_take : Fld := ⟨R.OBS_SNAP, 0, 1⟩
def R.OBS_SNAP_pending : Fld := ⟨R.OBS_SNAP, 1, 1⟩
def R.OBS_SNAP_seq : Fld := ⟨R.OBS_SNAP, 8, 8⟩
/-- OBS_CNT_CFG (17_observability_and_test.md). -/
def R.OBS_CNT_CFG (i : Nat) : Nat := 0x0D000100 + 4 * i
def R.OBS_CNT_CFG_event (i : Nat) : Fld := ⟨R.OBS_CNT_CFG i, 0, 8⟩
def R.OBS_CNT_CFG_arg (i : Nat) : Fld := ⟨R.OBS_CNT_CFG i, 8, 9⟩
def R.OBS_CNT_CFG_ctx (i : Nat) : Fld := ⟨R.OBS_CNT_CFG i, 17, 6⟩
def R.OBS_CNT_CFG_chain (i : Nat) : Fld := ⟨R.OBS_CNT_CFG i, 23, 1⟩
def R.OBS_CNT_CFG_en (i : Nat) : Fld := ⟨R.OBS_CNT_CFG i, 24, 1⟩
/-- OBS_CNT (17_observability_and_test.md). -/
def R.OBS_CNT (i : Nat) : Nat := 0x0D001000 + 8 * i
def R.OBS_CNT_count_lo (i : Nat) : Fld := ⟨R.OBS_CNT i, 0, 32⟩
def R.OBS_CNT_count_hi (i : Nat) : Fld := ⟨R.OBS_CNT i + 4, 0, 16⟩
def R.OBS_CNT_ovf (i : Nat) : Fld := ⟨R.OBS_CNT i + 4, 31, 1⟩
/-- OBS_LCA (17_observability_and_test.md). -/
def R.OBS_LCA (i : Nat) : Nat := 0x0D001400 + 8 * i
def R.OBS_LCA_cycles_lo (i : Nat) : Fld := ⟨R.OBS_LCA i, 0, 32⟩
def R.OBS_LCA_cycles_hi (i : Nat) : Fld := ⟨R.OBS_LCA i + 4, 0, 16⟩
/-- OBS_PS_CFG (17_observability_and_test.md). -/
def R.OBS_PS_CFG : Nat := 0x0D002000
def R.OBS_PS_CFG_en : Fld := ⟨R.OBS_PS_CFG, 0, 1⟩
def R.OBS_PS_CFG_drain : Fld := ⟨R.OBS_PS_CFG, 1, 1⟩
def R.OBS_PS_CFG_wrap : Fld := ⟨R.OBS_PS_CFG, 2, 1⟩
def R.OBS_PS_CFG_ctx : Fld := ⟨R.OBS_PS_CFG, 3, 6⟩
def R.OBS_PS_CFG_period : Fld := ⟨R.OBS_PS_CFG, 9, 23⟩
/-- OBS_PS_STAT (17_observability_and_test.md). -/
def R.OBS_PS_STAT : Nat := 0x0D002004
def R.OBS_PS_STAT_head : Fld := ⟨R.OBS_PS_STAT, 0, 10⟩
def R.OBS_PS_STAT_count : Fld := ⟨R.OBS_PS_STAT, 10, 11⟩
/-- OBS_REC_CTL (17_observability_and_test.md). -/
def R.OBS_REC_CTL : Nat := 0x0D003000
def R.OBS_REC_CTL_arm : Fld := ⟨R.OBS_REC_CTL, 0, 1⟩
def R.OBS_REC_CTL_disarm : Fld := ⟨R.OBS_REC_CTL, 1, 1⟩
def R.OBS_REC_CTL_grid : Fld := ⟨R.OBS_REC_CTL, 2, 1⟩
/-- OBS_DUMP_CFG (17_observability_and_test.md). -/
def R.OBS_DUMP_CFG : Nat := 0x0D003010
def R.OBS_DUMP_CFG_en : Fld := ⟨R.OBS_DUMP_CFG, 0, 1⟩
def R.OBS_DUMP_CFG_by_time : Fld := ⟨R.OBS_DUMP_CFG, 1, 1⟩
def R.OBS_DUMP_CFG_fsrc : Fld := ⟨R.OBS_DUMP_CFG, 2, 4⟩
def R.OBS_DUMP_CFG_n : Fld := ⟨R.OBS_DUMP_CFG, 6, 26⟩
def R.OBS_DUMP_CFG_t : Fld := ⟨R.OBS_DUMP_CFG + 4, 0, 32⟩
/-- OBS_DUMP_RANGE (17_observability_and_test.md). -/
def R.OBS_DUMP_RANGE (i : Nat) : Nat := 0x0D003040 + 4 * i
def R.OBS_DUMP_RANGE_base (i : Nat) : Fld := ⟨R.OBS_DUMP_RANGE i, 0, 22⟩
def R.OBS_DUMP_RANGE_words_m1 (i : Nat) : Fld := ⟨R.OBS_DUMP_RANGE i, 22, 8⟩
def R.OBS_DUMP_RANGE_valid (i : Nat) : Fld := ⟨R.OBS_DUMP_RANGE i, 30, 1⟩
/-- OBS_DUMP_REGION (17_observability_and_test.md). -/
def R.OBS_DUMP_REGION (i : Nat) : Nat := 0x0D003060 + 4 * i
def R.OBS_DUMP_REGION_region (i : Nat) : Fld := ⟨R.OBS_DUMP_REGION i, 0, 8⟩
/-- OBS_RAM_STAT (17_observability_and_test.md). -/
def R.OBS_RAM_STAT : Nat := 0x0D003080
def R.OBS_RAM_STAT_wr : Fld := ⟨R.OBS_RAM_STAT, 0, 15⟩
/-- OBS_RAM_RD (17_observability_and_test.md). -/
def R.OBS_RAM_RD : Nat := 0x0D003084
def R.OBS_RAM_RD_rd : Fld := ⟨R.OBS_RAM_RD, 0, 15⟩
/-- OBS_CLKTEST (17_observability_and_test.md). -/
def R.OBS_CLKTEST : Nat := 0x0D003100
def R.OBS_CLKTEST_start : Fld := ⟨R.OBS_CLKTEST, 0, 1⟩
def R.OBS_CLKTEST_abort : Fld := ⟨R.OBS_CLKTEST, 1, 1⟩
def R.OBS_CLKTEST_target : Fld := ⟨R.OBS_CLKTEST, 2, 1⟩
def R.OBS_CLKTEST_busy : Fld := ⟨R.OBS_CLKTEST, 3, 1⟩
def R.OBS_CLKTEST_result : Fld := ⟨R.OBS_CLKTEST, 4, 2⟩
def R.OBS_CLKTEST_dur : Fld := ⟨R.OBS_CLKTEST, 16, 10⟩
/-- OBS_DBG_CTL (17_observability_and_test.md). -/
def R.OBS_DBG_CTL : Nat := 0x0D003200
def R.OBS_DBG_CTL_halt : Fld := ⟨R.OBS_DBG_CTL, 0, 1⟩
def R.OBS_DBG_CTL_step : Fld := ⟨R.OBS_DBG_CTL, 1, 1⟩
def R.OBS_DBG_CTL_step_ctx : Fld := ⟨R.OBS_DBG_CTL, 2, 6⟩
/-- OBS_DBG_STAT (17_observability_and_test.md). -/
def R.OBS_DBG_STAT : Nat := 0x0D003204
def R.OBS_DBG_STAT_halted : Fld := ⟨R.OBS_DBG_STAT, 0, 1⟩
def R.OBS_DBG_STAT_step_done : Fld := ⟨R.OBS_DBG_STAT, 1, 1⟩
def R.OBS_DBG_STAT_abandoned : Fld := ⟨R.OBS_DBG_STAT, 8, 8⟩
/-- BOOT_FLASH_ADDR (02, Registers). -/
def R.BOOT_FLASH_ADDR : Nat := 0x00000044
/-- CLK_HOP_TIME, low word (03, Registers). -/
def R.CLK_HOP_TIME : Nat := 0x03000018
/-- OBS_REC_CTX, word 0 (17, Registers). -/
def R.OBS_REC_CTX : Nat := 0x0D003004
/-- OBS_PS[i], word 0 (17, Registers). -/
def R.OBS_PS (i : Nat) : Nat := 0x0D004000 + 16 * i
/-- Coefficient set i, word w (R156). -/
def R.COEF (i w : Nat) : Nat := 0x04100000 + 24 * i + 4 * w
/-- Instruction a, low word (R157). -/
def R.PROG (a : Nat) : Nat := 0x04200000 + 8 * a
/-- State slot j, word w (R156). -/
def R.SLOT (j w : Nat) : Nat := 0x04300000 + 16 * j + 4 * w

end Sys2Proof.Machine
end

