-- ==== Sys2Proof/Machine/RegTable.lean ====
section
/-!
DEFINITION. The register table: for every register of the spec's register tables its address pattern, the reset value
of each of its words and, per word, the bits of each access code (R10): ro, rw, w1c, rc, wo, and gl for the fields
marked "RW by glaze" (R207, R270, R305, R357) and for the engine stores (R148); im marks the ro bits that a REGS section
sets (R132, R242, R270, R305, R357, R387, R401, R419; log entry 12). Reserved bits are in no mask, so they
read as zero (R11). The index-0 words of R496 are the rows ENG_CTX0, ENG_CTX0_RATE and ENG_SCH0. The signal board and
the byte-addressed windows are not rows here (Machine/Access.lean). GTP_FB_TH has 64 rows: see the assumption log on
the addresses that GTP_FB_TH[64] to [95] would share with GTP_NODE_TH (R282, R283).
-/

namespace Sys2Proof.Machine

/-- One word of a register: its reset value and the bits of each access code. -/
structure WordDesc where
  reset : Nat
  ro : Nat
  rw : Nat
  w1c : Nat
  rc : Nat
  wo : Nat
  gl : Nat
  im : Nat
  deriving DecidableEq, Repr

/-- One register: name, base address, first index (stride, lowest, count; stride 0 when there is none), second index,
and its words. -/
structure RegDesc where
  name : String
  base : Nat
  s1 : Nat
  l1 : Nat
  n1 : Nat
  s2 : Nat
  l2 : Nat
  n2 : Nat
  words : List WordDesc
  deriving DecidableEq, Repr

def regTable0_0 : List RegDesc := [
  ⟨"BOOT_STATUS", 0x00000000, 0, 0, 1, 0, 0, 1, [⟨0x00000003, 0x003FFFFF, 0, 0, 0, 0, 0, 0⟩]⟩,
  ⟨"BOOT_POLICY", 0x00000004, 0, 0, 1, 0, 0, 1, [⟨0x00083C04, 0, 0x00FFFF07, 0, 0, 0, 0, 0⟩]⟩,
  ⟨"BOOT_ERR_CNT", 0x00000008, 0, 0, 1, 0, 0, 1, [⟨0, 0, 0, 0, 0xFFFFFFFF, 0, 0, 0⟩]⟩,
  ⟨"BOOT_FAIL", 0x00000010, 4, 0, 2, 0, 0, 1, [⟨0, 0x0000FFFF, 0, 0, 0, 0, 0, 0⟩]⟩,
  ⟨"BOOT_SESSION", 0x00000020, 4, 0, 4, 0, 0, 1, [⟨0, 0x00FFFF7F, 0, 0, 0, 0x80000000, 0, 0⟩]⟩,
  ⟨"BOOT_FLASH_CTL", 0x00000040, 0, 0, 1, 0, 0, 1, [⟨0, 0x0000FF20, 0x0000001E, 0x00000040, 0, 0x00000001, 0, 0⟩]⟩,
  ⟨"BOOT_FLASH_ADDR", 0x00000044, 0, 0, 1, 0, 0, 1, [⟨0, 0, 0xFFFFFFFF, 0, 0, 0, 0, 0⟩]⟩]

def regTable0 : List RegDesc := regTable0_0

def regTable1_0 : List RegDesc := [
  ⟨"ACQ_STATUS", 0x01000000, 0, 0, 1, 0, 0, 1, [⟨0, 0x0000FFFF, 0, 0xFFFF0000, 0, 0, 0, 0⟩]⟩,
  ⟨"ACQ_ERR_CNT", 0x01000004, 0, 0, 1, 0, 0, 1, [⟨0, 0, 0, 0, 0xFFFFFFFF, 0, 0, 0⟩]⟩,
  ⟨"ACQ_SEQ_CTL", 0x01000100, 4, 0, 16, 0, 0, 1, [⟨0, 0x001F0C00, 0x0000003F, 0x00000300, 0, 0, 0, 0⟩]⟩,
  ⟨"ACQ_SEQ", 0x01001000, 128, 0, 16, 4, 0, 32, [⟨0, 0, 0x001FFFFF, 0, 0, 0, 0, 0⟩]⟩,
  ⟨"ACQ_PAIR_CFG", 0x01000200, 8, 0, 8, 0, 0, 1, [⟨0x00100002, 0, 0x00FFFF03, 0, 0, 0, 0, 0⟩]⟩,
  ⟨"ACQ_PAIR_TOL", 0x01000204, 8, 0, 8, 0, 0, 1, [⟨0x204003E8, 0, 0xFFFFFFFF, 0, 0, 0, 0, 0⟩]⟩,
  ⟨"ACQ_PAIR_STAT", 0x01000300, 4, 0, 8, 0, 0, 1, [⟨0, 0x0000001F, 0, 0x00000020, 0x0000FF00, 0x00000040, 0, 0⟩]⟩,
  ⟨"ACQ_URG_CFG", 0x01000400, 4, 0, 16, 0, 0, 1, [⟨0x00000800, 0, 0x0000FFFF, 0, 0, 0, 0, 0⟩]⟩,
  ⟨"ACQ_URG", 0x01000500, 4, 0, 16, 0, 0, 1, [⟨0, 0xFF02FFFF, 0, 0, 0x00010000, 0, 0, 0⟩]⟩,
  ⟨"ACQ_RES", 0x01004000, 512, 0, 16, 16, 0, 32, [⟨0, 0x0000FFFF, 0, 0, 0, 0, 0, 0⟩, ⟨0, 0x00FFFFFF, 0, 0, 0, 0, 0, 0⟩, ⟨0, 0xFFFFFFFF, 0, 0, 0, 0, 0, 0⟩, ⟨0, 0x000000FF, 0, 0, 0, 0, 0, 0⟩]⟩,
  ⟨"ACQ_FB", 0x01008000, 256, 0, 16, 8, 0, 32, [⟨0, 0xFFFFFFFF, 0, 0, 0, 0, 0, 0⟩, ⟨0x10000000, 0xFFFFFFFF, 0, 0, 0, 0, 0, 0⟩]⟩]

def regTable1 : List RegDesc := regTable1_0

def regTable2_0 : List RegDesc := [
  ⟨"WIN_CFG", 0x02000000, 16, 0, 96, 0, 0, 1, [⟨0x03F80000, 0x03FFF800, 0x040007FF, 0, 0, 0, 0, 0x03FFF800⟩]⟩,
  ⟨"WIN_TH", 0x02000004, 16, 0, 96, 0, 0, 1, [⟨0, 0, 0x7FFF03FF, 0, 0, 0, 0, 0⟩]⟩,
  ⟨"WIN_BLANK", 0x02000008, 16, 0, 96, 0, 0, 1, [⟨0, 0, 0x0000FFFF, 0, 0, 0, 0, 0⟩]⟩,
  ⟨"WIN_STATUS", 0x0200000C, 16, 0, 96, 0, 0, 1, [⟨0, 0x0000003C, 0, 0x000000C3, 0xFFFF0000, 0, 0, 0⟩]⟩,
  ⟨"WIN_TRIP_DESAT", 0x02000800, 4, 0, 48, 0, 0, 1, [⟨0, 0x0000000F, 0, 0, 0, 0, 0, 0x0000000F⟩]⟩,
  ⟨"WIN_TRIP_EXT", 0x020008C0, 0, 0, 1, 0, 0, 1, [⟨0, 0x0000001F, 0, 0, 0, 0, 0, 0x0000000F⟩]⟩,
  ⟨"WIN_PD", 0x02000900, 4, 0, 4, 0, 0, 1, [⟨0, 0x00001FFF, 0, 0, 0x00FF0000, 0, 0, 0⟩]⟩,
  ⟨"WIN_TEST", 0x02000A00, 0, 0, 1, 0, 0, 1, [⟨0, 0x00000038, 0x0001FF06, 0, 0, 0x00000001, 0, 0⟩]⟩,
  ⟨"WIN_TEST_CFG", 0x02000A04, 0, 0, 1, 0, 0, 1, [⟨0x00000080, 0, 0xFFFF00FF, 0, 0, 0, 0, 0⟩]⟩,
  ⟨"WIN_TEST_STAT", 0x02000A08, 0, 0, 1, 0, 0, 1, [⟨0x0000007F, 0x0000007F, 0, 0, 0x0000FF00, 0, 0, 0⟩]⟩,
  ⟨"EVR_FILT", 0x02001000, 4, 1, 15, 0, 0, 1, [⟨0, 0, 0xFFFFFF03, 0, 0, 0, 0, 0⟩]⟩,
  ⟨"EVR_ROUTE", 0x02004000, 4, 0, 4096, 0, 0, 1, [⟨0, 0, 0x80FFFFFF, 0, 0, 0, 0, 0⟩]⟩]

def regTable2 : List RegDesc := regTable2_0

def regTable3_0 : List RegDesc := [
  ⟨"CLK_STATUS", 0x03000000, 0, 0, 1, 0, 0, 1, [⟨0, 0x0001FFE0, 0, 0x0000001F, 0, 0, 0, 0⟩]⟩,
  ⟨"CLK_REF_SEL", 0x03000004, 0, 0, 1, 0, 0, 1, [⟨0, 0x00000FFF, 0, 0, 0, 0, 0, 0⟩]⟩,
  ⟨"CLK_PLAN", 0x03000100, 8, 0, 12, 0, 0, 1, [⟨0, 0x0003FFFF, 0, 0, 0, 0, 0, 0⟩]⟩,
  ⟨"CLK_PLAN_FRAC", 0x03000104, 8, 0, 12, 0, 0, 1, [⟨0, 0x000FFFFF, 0, 0, 0, 0, 0, 0⟩]⟩,
  ⟨"CLK_HOP", 0x03000010, 0, 0, 1, 0, 0, 1, [⟨0, 0, 0x000000B7, 0, 0, 0x00000048, 0, 0⟩]⟩,
  ⟨"CLK_SYNC_CTL", 0x03000020, 0, 0, 1, 0, 0, 1, [⟨0, 0, 0xFFFFFFFF, 0, 0, 0, 0, 0⟩]⟩,
  ⟨"CLK_LOCK_CFG", 0x03000024, 0, 0, 1, 0, 0, 1, [⟨0x00000301, 0, 0x00000F0F, 0, 0, 0, 0, 0⟩]⟩,
  ⟨"CLK_HOP_CNT", 0x03000028, 0, 0, 1, 0, 0, 1, [⟨0, 0, 0, 0, 0xFFFFFFFF, 0, 0, 0⟩]⟩,
  ⟨"CLK_HOP_TIME", 0x03000018, 0, 0, 1, 0, 0, 1, List.replicate 2 ⟨0, 0, 0xFFFFFFFF, 0, 0, 0, 0, 0⟩⟩]

def regTable3 : List RegDesc := regTable3_0

def regTable4_0 : List RegDesc := [
  ⟨"ENG_STATUS", 0x04000000, 0, 0, 1, 0, 0, 1, [⟨0, 0x0000FFFF, 0, 0, 0, 0, 0, 0⟩]⟩,
  ⟨"ENG_ERR_CNT", 0x04000004, 0, 0, 1, 0, 0, 1, [⟨0, 0, 0, 0, 0x00FFFFFF, 0, 0, 0⟩]⟩,
  ⟨"ENG_FSRC", 0x04000100, 4, 0, 16, 0, 0, 1, [⟨0x00000003, 0x00003FFF, 0, 0, 0, 0, 0, 0x00003FFF⟩]⟩,
  ⟨"ENG_FT", 0x04000140, 4, 0, 4, 0, 0, 1, [⟨0, 0xFFFFFFFF, 0, 0, 0, 0, 0, 0xFFFFFFFF⟩]⟩,
  ⟨"ENG_FIDX", 0x04000180, 4, 0, 16, 0, 0, 1, [⟨0, 0xFFFFFFFF, 0, 0, 0, 0, 0, 0⟩]⟩,
  ⟨"ENG_EI", 0x04000200, 4, 0, 64, 0, 0, 1, [⟨0, 0x0000007F, 0, 0, 0, 0, 0, 0x0000000F⟩]⟩,
  ⟨"ENG_CTX_CFG", 0x04001000, 32, 1, 63, 0, 0, 1, [⟨0, 0x00007FFF, 0, 0, 0, 0, 0, 0⟩]⟩,
  ⟨"ENG_CTX_PROG", 0x04001004, 32, 1, 63, 0, 0, 1, [⟨0, 0x000FFFFF, 0, 0, 0, 0, 0, 0⟩]⟩,
  ⟨"ENG_CTX_COMMIT", 0x04001008, 32, 1, 63, 0, 0, 1, [⟨0, 0xFFFFFFFF, 0, 0, 0, 0, 0, 0⟩]⟩,
  ⟨"ENG_CTX_CTL", 0x0400100C, 32, 1, 63, 0, 0, 1, [⟨0, 0x0000000E, 0x00000001, 0, 0, 0, 0, 0⟩]⟩,
  ⟨"ENG_CTX_STAT", 0x04001010, 32, 1, 63, 0, 0, 1, [⟨0, 0, 0, 0x0000000F, 0x00FFFF00, 0, 0, 0⟩]⟩,
  ⟨"ENG_CTX_CYC", 0x04001014, 32, 1, 63, 0, 0, 1, [⟨0, 0x0000FFFF, 0, 0, 0xFFFF0000, 0, 0, 0⟩]⟩,
  ⟨"ENG_CTX_FRAME", 0x04001018, 32, 1, 63, 0, 0, 1, [⟨0, 0xFFFFFFFF, 0, 0, 0, 0, 0, 0⟩]⟩,
  ⟨"ENG_CTX_RES", 0x0400101C, 32, 1, 63, 0, 0, 1, [⟨0, 0x03FFFFFF, 0, 0, 0, 0, 0, 0⟩]⟩,
  ⟨"ENG_SAT", 0x04003000, 4, 0, 128, 0, 0, 1, [⟨0, 0, 0, 0xFFFFFFFF, 0, 0, 0, 0⟩]⟩,
  ⟨"ENG_ECC_STAT", 0x04004000, 0, 0, 1, 0, 0, 1, [⟨0, 0x07000000, 0, 0x08000000, 0x00FFFFFF, 0, 0, 0⟩]⟩,
  ⟨"ENG_ECC_ADDR", 0x04004004, 0, 0, 1, 0, 0, 1, [⟨0, 0xFFFFFFFF, 0, 0, 0, 0, 0, 0⟩]⟩,
  ⟨"ENG_CTX_RATE", 0x04002000, 4, 1, 63, 0, 0, 1, [⟨0x00000001, 0, 0, 0, 0, 0, 0x0000003F, 0⟩]⟩,
  ⟨"ENG_SCH_CFG", 0x04010000, 128, 4, 252, 0, 0, 1, [⟨0, 0x000F7FFF, 0, 0, 0, 0, 0, 0⟩]⟩,
  ⟨"ENG_SCH_STAT", 0x04010004, 128, 4, 252, 0, 0, 1, [⟨0, 0x0000FFFF, 0, 0, 0x00FF0000, 0, 0, 0⟩]⟩]

def regTable4_1 : List RegDesc := [
  ⟨"ENG_SCH_MAP", 0x04010008, 128, 4, 252, 0, 0, 1, [⟨0, 0xFFFFFFFF, 0, 0, 0, 0, 0, 0⟩]⟩,
  ⟨"ENG_SCH_HYST", 0x0401000C, 128, 4, 252, 4, 0, 2, [⟨0, 0, 0, 0, 0, 0, 0xFFFFFFFF, 0⟩]⟩,
  ⟨"ENG_SCH_BP", 0x04010014, 128, 4, 252, 4, 0, 15, [⟨0, 0, 0, 0, 0, 0, 0xFFFFFFFF, 0⟩]⟩,
  ⟨"ENG_GRP_CFG", 0x04006000, 128, 0, 16, 0, 0, 1, [⟨0, 0x000FFFFF, 0, 0, 0, 0, 0, 0⟩]⟩,
  ⟨"ENG_GRP_STAT", 0x04006004, 128, 0, 16, 0, 0, 1, [⟨0, 0x0000000F, 0, 0x00000010, 0x00FFFF00, 0, 0, 0⟩]⟩,
  ⟨"ENG_GRP_OUT", 0x04006008, 128, 0, 16, 0, 0, 1, [⟨0, 0xFFFFFFFF, 0, 0, 0, 0, 0, 0⟩]⟩,
  ⟨"ENG_GRP_MEM", 0x04006010, 128, 0, 16, 12, 0, 8, [⟨0, 0xFFFFFFFF, 0, 0, 0, 0, 0, 0⟩, ⟨0, 0, 0, 0, 0, 0, 0xFFFFFFFF, 0⟩, ⟨0, 0, 0, 0, 0, 0, 0xFFFFFFFF, 0⟩]⟩,
  ⟨"COEF", 0x04100000, 24, 0, 12288, 0, 0, 1, [⟨0, 0, 0, 0, 0, 0, 0xFFFFFFFF, 0⟩, ⟨0, 0, 0, 0, 0, 0, 0xFFFFFFFF, 0⟩, ⟨0, 0, 0, 0, 0, 0, 0xFFFFFFFF, 0⟩, ⟨0, 0, 0, 0, 0, 0, 0xFFFFFFFF, 0⟩, ⟨0, 0, 0, 0, 0, 0, 0xFFFFFFFF, 0⟩, ⟨0, 0, 0, 0, 0, 0, 0xFFFF007F, 0⟩]⟩,
  ⟨"PROG", 0x04200000, 8, 0, 8192, 0, 0, 1, List.replicate 2 ⟨0, 0, 0, 0, 0, 0, 0xFFFFFFFF, 0⟩⟩,
  ⟨"SLOT", 0x04300000, 16, 0, 4096, 0, 0, 1, List.replicate 4 ⟨0, 0, 0, 0, 0, 0, 0xFFFFFFFF, 0⟩⟩,
  ⟨"ENG_CTX0", 0x04001000, 0, 0, 1, 0, 0, 1, List.replicate 8 ⟨0, 0, 0, 0, 0, 0, 0, 0⟩⟩,
  ⟨"ENG_CTX0_RATE", 0x04002000, 0, 0, 1, 0, 0, 1, [⟨0, 0, 0, 0, 0, 0, 0, 0⟩]⟩,
  ⟨"ENG_SCH0", 0x04010000, 128, 0, 4, 0, 0, 1, List.replicate 20 ⟨0, 0, 0, 0, 0, 0, 0, 0⟩⟩]

def regTable4 : List RegDesc := regTable4_0 ++ regTable4_1

def regTable5_0 : List RegDesc := [
  ⟨"GRD_CTL", 0x05000000, 0, 0, 1, 0, 0, 1, [⟨0, 0x00000104, 0x0000003B, 0, 0, 0, 0, 0x00000104⟩]⟩,
  ⟨"GRD_STATUS", 0x05000004, 0, 0, 1, 0, 0, 1, [⟨0, 0x0003F7FF, 0, 0x00000800, 0, 0, 0, 0⟩]⟩,
  ⟨"GRD_ERR_CNT", 0x05000008, 0, 0, 1, 0, 0, 1, [⟨0, 0, 0, 0, 0x00FFFFFF, 0, 0, 0⟩]⟩,
  ⟨"GRD_IN_CFG", 0x05000010, 0, 0, 1, 0, 0, 1, [⟨0, 0x0000003F, 0, 0, 0, 0, 0, 0x0000003F⟩]⟩,
  ⟨"GRD_IN", 0x05000020, 16, 0, 3, 0, 0, 1, [⟨0, 0x000001FF, 0, 0, 0, 0, 0, 0x000001FF⟩, ⟨0, 0x000FFFFF, 0, 0, 0, 0, 0, 0x000FFFFF⟩, ⟨0, 0xFFFFFFFF, 0, 0, 0, 0, 0, 0xFFFFFFFF⟩]⟩,
  ⟨"GRD_SYNC_CFG", 0x05000060, 0, 0, 1, 0, 0, 1, [⟨0x00140000, 0, 0xFFFFFFFF, 0, 0, 0, 0, 0⟩, ⟨0x03E80000, 0, 0xFFFFFFFF, 0, 0, 0, 0, 0⟩, ⟨0x199A051F, 0, 0xFFFFFFFF, 0, 0, 0, 0, 0⟩, ⟨0x199A0050, 0, 0xFFFFFFFF, 0, 0, 0, 0, 0⟩]⟩,
  ⟨"GRD_PROJ", 0x05000080, 4, 0, 7, 0, 0, 1, [⟨0, 0x0000001F, 0, 0, 0, 0, 0, 0x0000001F⟩]⟩,
  ⟨"GRD_RT_CFG", 0x05000100, 0, 0, 1, 0, 0, 1, [⟨0x00641412, 0, 0xFFFFFF1F, 0, 0, 0, 0, 0⟩, ⟨0x00000014, 0, 0x0000FFFF, 0, 0, 0, 0, 0⟩, ⟨0, 0, 0x3FFFFFFF, 0, 0, 0, 0, 0⟩]⟩,
  ⟨"GRD_CURVE", 0x05000200, 128, 0, 6, 8, 0, 16, List.replicate 2 ⟨0, 0, 0xFFFFFFFF, 0, 0, 0, 0, 0⟩⟩,
  ⟨"GRD_RT_STAT", 0x05000500, 0, 0, 1, 0, 0, 1, [⟨0, 0xFFFF0000, 0, 0x000000FF, 0x0000FF00, 0, 0, 0⟩]⟩,
  ⟨"GRD_PAS_CFG", 0x05000600, 0, 0, 1, 0, 0, 1, [⟨0x00028000, 0, 0xFFFFFFFF, 0, 0, 0, 0, 0⟩, ⟨0x00140028, 0, 0xFFFFFFFF, 0, 0, 0, 0, 0⟩, ⟨0x00640320, 0, 0xFFFFFFFF, 0, 0, 0, 0, 0⟩, ⟨0x002F8000, 0, 0xFFFFFFFF, 0, 0, 0, 0, 0⟩, ⟨0x00338000, 0, 0xFFFFFFFF, 0, 0, 0, 0, 0⟩, ⟨0x36666666, 0, 0xFFFFFFFF, 0, 0, 0, 0, 0⟩, ⟨0x46666666, 0, 0xFFFFFFFF, 0, 0, 0, 0, 0⟩, ⟨0x00000064, 0, 0x0000FFFF, 0, 0, 0, 0, 0⟩]⟩,
  ⟨"GRD_PAS_STAT", 0x05000620, 0, 0, 1, 0, 0, 1, [⟨0, 0, 0, 0x0000000F, 0, 0, 0, 0⟩, ⟨0, 0xFFFFFFFF, 0, 0, 0, 0, 0, 0⟩]⟩,
  ⟨"GRD_SPR_CFG", 0x05000700, 0, 0, 1, 0, 0, 1, [⟨0x000100FF, 0x00000100, 0xFFFF00FF, 0, 0, 0, 0, 0x00000100⟩, ⟨0x0051EB85, 0, 0xFFFFFFFF, 0, 0, 0, 0, 0⟩, ⟨0x00800000, 0, 0xFFFFFFFF, 0, 0, 0, 0, 0⟩, ⟨0x00000400, 0x00070000, 0x0000FFFF, 0, 0, 0, 0, 0x00070000⟩]⟩,
  ⟨"GRD_SPR_STAT", 0x05000710, 0, 0, 1, 0, 0, 1, [⟨0, 0xFFFFFFFF, 0, 0, 0, 0, 0, 0⟩, ⟨0, 0xFFFFFFFF, 0, 0, 0, 0, 0, 0⟩, ⟨0, 0x000000FF, 0, 0, 0x00FFFF00, 0, 0, 0⟩]⟩,
  ⟨"GRD_SUP_CFG", 0x05000800, 0, 0, 1, 0, 0, 1, [⟨0x012C0000, 0, 0xFFFF007F, 0, 0, 0, 0, 0⟩, ⟨0x03E801F4, 0, 0xFFFFFFFF, 0, 0, 0, 0, 0⟩, ⟨0x000001F4, 0x0FFF0000, 0x0000FFFF, 0, 0, 0, 0, 0x0FFF0000⟩, ⟨0, 0, 0xFFFFFFFF, 0, 0, 0, 0, 0⟩, ⟨0, 0, 0xFFFFFFFF, 0, 0, 0, 0, 0⟩, ⟨0, 0, 0x0000FFFF, 0, 0, 0, 0, 0⟩]⟩,
  ⟨"GRD_SUP_CURVE", 0x05000900, 64, 0, 4, 8, 0, 8, List.replicate 2 ⟨0, 0, 0xFFFFFFFF, 0, 0, 0, 0, 0⟩⟩,
  ⟨"GRD_FORM_CFG", 0x05000A00, 0, 0, 1, 0, 0, 1, [⟨0x00040000, 0, 0xFFFFFFFF, 0, 0, 0, 0, 0⟩, ⟨0x00140000, 0, 0xFFFFFFFF, 0, 0, 0, 0, 0⟩, ⟨0, 0x00FFFFFF, 0, 0, 0, 0, 0, 0x00FFFFFF⟩, ⟨0x03333333, 0, 0xFFFFFFFF, 0, 0, 0, 0, 0⟩, ⟨0, 0, 0xFFFFFFFF, 0, 0, 0, 0, 0⟩, ⟨0x40000000, 0, 0xFFFFFFFF, 0, 0, 0, 0, 0⟩]⟩,
  ⟨"GRD_XCHK_CFG", 0x05000B00, 0, 0, 1, 0, 0, 1, [⟨0x00000414, 0, 0x00000FFF, 0, 0, 0, 0, 0⟩]⟩,
  ⟨"GRD_XCHK_STAT", 0x05000B04, 0, 0, 1, 0, 0, 1, [⟨0, 0x00000002, 0, 0x00000001, 0x0000FF00, 0, 0, 0⟩, ⟨0, 0xFFFFFFFF, 0, 0, 0, 0, 0, 0⟩, ⟨0, 0xFFFFFFFF, 0, 0, 0, 0, 0, 0⟩]⟩]

def regTable5 : List RegDesc := regTable5_0

def regTable6_0 : List RegDesc := [
  ⟨"MOD_STATUS", 0x06000000, 0, 0, 1, 0, 0, 1, [⟨0, 0x00001200, 0, 0x00000DFF, 0, 0, 0, 0⟩]⟩,
  ⟨"MOD_ERR_CNT", 0x06000004, 0, 0, 1, 0, 0, 1, [⟨0, 0, 0, 0, 0xFFFFFFFF, 0, 0, 0⟩]⟩,
  ⟨"MOD_CAL", 0x06000008, 0, 0, 1, 0, 0, 1, [⟨0, 0x000001FF, 0, 0, 0xFFFF0000, 0, 0, 0⟩]⟩,
  ⟨"MOD_CRUMB_CNT", 0x0600000C, 0, 0, 1, 0, 0, 1, [⟨0, 0, 0, 0, 0x0000FFFF, 0, 0, 0⟩]⟩,
  ⟨"MOD_CG_CFG", 0x06000100, 32, 0, 8, 0, 0, 1, [⟨0x00000040, 0x0000000F, 0, 0, 0, 0, 0x00000FF0, 0x0000000F⟩]⟩,
  ⟨"MOD_CG_PERIOD", 0x06000104, 32, 0, 8, 0, 0, 1, [⟨0, 0x7FFFFFFF, 0, 0, 0, 0, 0, 0x7FFFFFFF⟩]⟩,
  ⟨"MOD_CG_OFFSET", 0x06000108, 32, 0, 8, 0, 0, 1, [⟨0, 0, 0, 0, 0, 0, 0x00FFFFFF, 0⟩]⟩,
  ⟨"MOD_CG_STAT", 0x0600010C, 32, 0, 8, 0, 0, 1, [⟨0, 0x01FFFFFF, 0, 0, 0, 0, 0, 0⟩]⟩,
  ⟨"MOD_CG_COUNT", 0x06000110, 32, 0, 8, 0, 0, 1, [⟨0, 0x7FFFFFFF, 0, 0, 0, 0, 0, 0⟩]⟩,
  ⟨"MOD_CG_ERR", 0x06000114, 32, 0, 8, 0, 0, 1, [⟨0, 0, 0, 0, 0x00FFFFFF, 0, 0, 0⟩]⟩,
  ⟨"MOD_LEG_CFG", 0x06001000, 128, 0, 48, 0, 0, 1, [⟨0x00001000, 0x01FFE33B, 0, 0, 0, 0, 0x00001CC4, 0x01FFE33B⟩]⟩,
  ⟨"MOD_LEG_CMP", 0x06001004, 128, 0, 48, 0, 0, 1, List.replicate 2 ⟨0, 0x7FFFFFFF, 0, 0, 0, 0, 0, 0x7FFFFFFF⟩⟩,
  ⟨"MOD_LEG_TIME", 0x0600100C, 128, 0, 48, 0, 0, 1, [⟨0x00030D40, 0, 0, 0, 0, 0, 0x00FFFFFF, 0⟩, ⟨0x001E8480, 0, 0, 0, 0, 0, 0x00FFFFFF, 0⟩, ⟨0x0000C350, 0, 0, 0, 0, 0, 0x00FFFFFF, 0⟩, ⟨0x0007A120, 0, 0, 0, 0, 0, 0x00FFFFFF, 0⟩, ⟨0x002DC6C0, 0, 0, 0, 0, 0, 0x00FFFFFF, 0⟩, ⟨0x001E8480, 0, 0, 0, 0, 0, 0x00FFFFFF, 0⟩]⟩,
  ⟨"MOD_LEG_BOOT", 0x06001024, 128, 0, 48, 0, 0, 1, [⟨0, 0, 0, 0, 0, 0, 0x0000FFFF, 0⟩]⟩,
  ⟨"MOD_LEG_IMIN", 0x06001028, 128, 0, 48, 0, 0, 1, [⟨0x7FFFFFFF, 0, 0, 0, 0, 0, 0xFFFFFFFF, 0⟩]⟩,
  ⟨"MOD_LEG_DTM", 0x0600102C, 128, 0, 48, 4, 0, 4, [⟨0, 0x001FFFFF, 0, 0, 0, 0, 0, 0⟩]⟩,
  ⟨"MOD_LEG_CRUMB", 0x0600103C, 128, 0, 48, 0, 0, 1, [⟨0, 0xFFFFFFFF, 0, 0, 0, 0, 0, 0⟩]⟩,
  ⟨"MOD_LEG_STAT", 0x06001040, 128, 0, 48, 0, 0, 1, [⟨0, 0, 0, 0x00000007, 0xFFFFFF00, 0, 0, 0⟩]⟩]

def regTable6 : List RegDesc := regTable6_0

def regTable7_0 : List RegDesc := [
  ⟨"GTP_STATUS", 0x07000000, 0, 0, 1, 0, 0, 1, [⟨0, 0x000007BF, 0, 0x00000040, 0, 0, 0, 0⟩]⟩,
  ⟨"GTP_ERR_CNT", 0x07000004, 0, 0, 1, 0, 0, 1, [⟨0, 0, 0, 0, 0xFFFFFFFF, 0, 0, 0⟩]⟩,
  ⟨"GTP_RING", 0x07000008, 0, 0, 1, 0, 0, 1, [⟨0x000003E8, 0x0000FFFF, 0, 0, 0xFFFF0000, 0, 0, 0⟩]⟩,
  ⟨"GTP_PD_CFG", 0x07000010, 4, 0, 4, 0, 0, 1, [⟨0, 0x00000FFF, 0, 0, 0, 0, 0, 0x0000003F⟩]⟩,
  ⟨"GTP_CHOP_CFG", 0x07000020, 8, 0, 2, 0, 0, 1, [⟨0x000000FE, 0x000FFFFF, 0, 0, 0, 0, 0, 0x000FFFFF⟩]⟩,
  ⟨"GTP_CHOP_STAT", 0x07000024, 8, 0, 2, 0, 0, 1, [⟨0, 0x0000000F, 0, 0, 0xFFFFFF00, 0, 0, 0⟩]⟩,
  ⟨"GTP_FB_TH", 0x07000100, 4, 0, 64, 0, 0, 1, [⟨0, 0x000001FF, 0, 0, 0, 0, 0, 0x000000FF⟩]⟩,
  ⟨"GTP_NODE_TH", 0x07000200, 4, 0, 48, 0, 0, 1, [⟨0, 0x000001FF, 0, 0, 0, 0, 0, 0x000000FF⟩]⟩,
  ⟨"GTP_LEG_CFG", 0x07001000, 64, 0, 48, 0, 0, 1, [⟨0x03E83004, 0x0000001F, 0, 0, 0, 0, 0xFFFFFFE0, 0x0000001F⟩]⟩,
  ⟨"GTP_LEG_TIME", 0x07001004, 64, 0, 48, 0, 0, 1, [⟨0x00C85028, 0x0001FF00, 0, 0, 0, 0, 0x01FE00FF, 0x0001FF00⟩]⟩,
  ⟨"GTP_LEG_LIM", 0x07001008, 64, 0, 48, 0, 0, 1, [⟨0, 0, 0, 0, 0, 0, 0x000000FF, 0⟩]⟩,
  ⟨"GTP_LEG_STAT", 0x0700100C, 64, 0, 48, 0, 0, 1, [⟨0, 0x00001FFF, 0, 0xFFFF0000, 0, 0, 0, 0⟩]⟩,
  ⟨"GTP_LEG_LINK", 0x07001010, 64, 0, 48, 0, 0, 1, [⟨0, 0x00FFFFFF, 0, 0, 0, 0, 0, 0⟩]⟩,
  ⟨"GTP_LEG_CNT", 0x07001014, 64, 0, 48, 0, 0, 1, [⟨0, 0, 0, 0, 0xFFFFFFFF, 0, 0, 0⟩]⟩]

def regTable7 : List RegDesc := regTable7_0

def regTable8_0 : List RegDesc := [
  ⟨"MTR_STATUS", 0x08000000, 0, 0, 1, 0, 0, 1, [⟨0, 0x00000C00, 0, 0x000013FF, 0, 0, 0, 0⟩]⟩,
  ⟨"MTR_ERR_CNT", 0x08000004, 0, 0, 1, 0, 0, 1, [⟨0, 0, 0, 0, 0xFFFFFFFF, 0, 0, 0⟩]⟩,
  ⟨"MTR_CFG", 0x08000010, 0, 0, 1, 0, 0, 1, [⟨0x000008FC, 0x0001FFFF, 0, 0, 0, 0, 0, 0x0001FFFF⟩, ⟨0, 0xFFFFFFFF, 0, 0, 0, 0, 0, 0xFFFFFFFF⟩, ⟨0x000F4240, 0xFFFFFFFF, 0, 0, 0, 0, 0, 0xFFFFFFFF⟩]⟩,
  ⟨"MTR_CH_CAL", 0x08000100, 16, 0, 8, 0, 0, 1, [⟨0x01000000, 0, 0xFFFFFFFF, 0, 0, 0, 0, 0⟩, ⟨0, 0, 0x00FFFFFF, 0, 0, 0, 0, 0⟩, ⟨0x00000400, 0, 0x000007FF, 0, 0, 0, 0, 0⟩]⟩,
  ⟨"MTR_NOLOAD", 0x08000200, 0, 0, 1, 0, 0, 1, [⟨0x00640064, 0, 0xFFFFFFFF, 0, 0, 0, 0, 0⟩]⟩,
  ⟨"MTR_SNAP", 0x08000300, 8, 0, 4, 0, 0, 1, [⟨0, 0x0000FF06, 0, 0, 0, 0x00000001, 0, 0⟩, ⟨0, 0xFFFFFFFF, 0, 0, 0, 0, 0, 0⟩]⟩,
  ⟨"MTR_E", 0x08001000, 256, 0, 4, 8, 0, 24, List.replicate 2 ⟨0, 0xFFFFFFFF, 0, 0, 0, 0, 0, 0⟩⟩,
  ⟨"MTR_EVT_CFG", 0x08000400, 0, 0, 1, 0, 0, 1, [⟨0x044C0384, 0, 0xFFFFFFFF, 0, 0, 0, 0, 0⟩, ⟨0x00140032, 0, 0xFFFFFFFF, 0, 0, 0, 0, 0⟩]⟩,
  ⟨"MTR_EVT_STAT", 0x08000408, 0, 0, 1, 0, 0, 1, [⟨0, 0x000001FF, 0, 0, 0x00FF0000, 0, 0, 0⟩]⟩,
  ⟨"MTR_DEMAND_CFG", 0x08000500, 0, 0, 1, 0, 0, 1, [⟨0x0000000F, 0x0000003F, 0x00003FC0, 0, 0, 0, 0, 0x0000003F⟩]⟩,
  ⟨"MTR_DEMAND", 0x08000800, 64, 0, 8, 0, 0, 1, [⟨0, 0xFFFFFFFF, 0, 0, 0, 0, 0, 0⟩, ⟨0, 0x00000007, 0, 0, 0, 0, 0, 0⟩, ⟨0, 0xFFFFFFFF, 0, 0, 0, 0, 0, 0⟩, ⟨0, 0xFFFFFFFF, 0, 0, 0, 0, 0, 0⟩, ⟨0, 0xFFFFFFFF, 0, 0, 0, 0, 0, 0⟩, ⟨0, 0xFFFFFFFF, 0, 0, 0, 0, 0, 0⟩, ⟨0, 0xFFFFFFFF, 0, 0, 0, 0, 0, 0⟩, ⟨0, 0xFFFFFFFF, 0, 0, 0, 0, 0, 0⟩, ⟨0, 0xFFFFFFFF, 0, 0, 0, 0, 0, 0⟩, ⟨0, 0xFFFFFFFF, 0, 0, 0, 0, 0, 0⟩]⟩,
  ⟨"MTR_PI_CFG", 0x08000600, 16, 0, 4, 0, 0, 1, [⟨0x000F4240, 0, 0xFFFFFFFF, 0, 0, 0, 0, 0⟩, ⟨0x03E8000A, 0, 0xFFFF00FF, 0, 0, 0, 0, 0⟩, ⟨0x0000003C, 0x00010000, 0x0000FFFF, 0, 0, 0, 0, 0x00010000⟩]⟩,
  ⟨"MTR_PI_STAT", 0x0800060C, 16, 0, 4, 0, 0, 1, [⟨0, 0xFFFF0006, 0, 0x00000001, 0x0000FF00, 0, 0, 0⟩]⟩,
  ⟨"MTR_PO_CFG", 0x08000700, 8, 0, 2, 0, 0, 1, [⟨0x00000780, 0x0000003F, 0x00003FC0, 0, 0, 0, 0, 0x0000003F⟩, ⟨0x000F4240, 0, 0xFFFFFFFF, 0, 0, 0, 0, 0⟩]⟩,
  ⟨"MTR_EXPORT_CFG", 0x08000780, 0, 0, 1, 0, 0, 1, [⟨0x03E80000, 0x00000007, 0xFFFF0000, 0, 0, 0, 0, 0x00000007⟩, ⟨0, 0, 0xFFFFFFFF, 0, 0, 0, 0, 0⟩]⟩,
  ⟨"MTR_HARM", 0x08002000, 256, 0, 8, 4, 1, 50, [⟨0, 0xFFFFFFFF, 0, 0, 0, 0, 0, 0⟩]⟩]

def regTable8 : List RegDesc := regTable8_0

def regTable9_0 : List RegDesc := [
  ⟨"SEQ_STATUS", 0x09000000, 0, 0, 1, 0, 0, 1, [⟨0, 0x00FFFFFF, 0, 0, 0, 0, 0, 0⟩]⟩,
  ⟨"SEQ_CFG", 0x09000004, 0, 0, 1, 0, 0, 1, [⟨0, 0x0000000F, 0, 0, 0, 0, 0, 0x0000000F⟩]⟩,
  ⟨"SEQ_REQ", 0x09000008, 0, 0, 1, 0, 0, 1, [⟨0, 0, 0x00000077, 0, 0, 0x00000188, 0, 0⟩]⟩,
  ⟨"SEQ_ERR_CNT", 0x0900000C, 0, 0, 1, 0, 0, 1, [⟨0, 0, 0, 0, 0xFFFFFFFF, 0, 0, 0⟩]⟩,
  ⟨"SEQ_GLAZE", 0x09000100, 4, 0, 16, 0, 0, 1, [⟨0, 0x0FFFFFFF, 0, 0, 0, 0, 0, 0⟩]⟩,
  ⟨"SEQ_TIMER", 0x09000200, 8, 0, 32, 0, 0, 1, [⟨0, 0, 0, 0, 0, 0, 0x7FFFFFFF, 0⟩, ⟨0, 0xFFFFFFFF, 0, 0, 0, 0, 0, 0⟩]⟩,
  ⟨"SEQ_RULE", 0x09001000, 8, 0, 256, 0, 0, 1, [⟨0, 0, 0, 0, 0, 0, 0x03FFFFFF, 0⟩, ⟨0, 0, 0, 0, 0, 0, 0xFFFF0FFF, 0⟩]⟩,
  ⟨"GOV_CFG", 0x09008000, 0, 0, 1, 0, 0, 1, [⟨0x00051900, 0xFFFFFFFF, 0, 0, 0, 0, 0, 0xFFFFFFFF⟩]⟩,
  ⟨"GOV_IN", 0x09008004, 0, 0, 1, 0, 0, 1, [⟨0, 0x7FFFFFFF, 0, 0, 0, 0, 0, 0x7FFFFFFF⟩, ⟨0, 0x0FFFFFFF, 0, 0, 0, 0, 0, 0x0FFFFFFF⟩, ⟨0, 0x00000FFF, 0, 0, 0, 0, 0, 0x00000FFF⟩]⟩,
  ⟨"GOV_TH", 0x09008020, 0, 0, 1, 0, 0, 1, List.replicate 11 ⟨0, 0, 0, 0, 0, 0, 0xFFFFFFFF, 0⟩⟩,
  ⟨"GOV_LADDER", 0x09008100, 4, 0, 8, 0, 0, 1, [⟨0, 0x0000000F, 0, 0, 0, 0, 0xFFFFFFF0, 0x0000000F⟩]⟩,
  ⟨"GOV_BRIDGE", 0x09008140, 8, 1, 4, 0, 0, 1, [⟨0, 0x00000FFF, 0, 0, 0, 0, 0, 0x00000FFF⟩, ⟨0, 0, 0, 0, 0, 0, 0xFFFFFFFF, 0⟩]⟩,
  ⟨"GOV_DEFER", 0x09008170, 0, 0, 1, 0, 0, 1, List.replicate 2 ⟨0, 0, 0, 0, 0, 0, 0xFFFFFFFF, 0⟩⟩,
  ⟨"GOV_STAT", 0x09008180, 0, 0, 1, 0, 0, 1, [⟨0, 0x00000FFF, 0, 0, 0, 0, 0, 0⟩]⟩,
  ⟨"GOV_CNT", 0x09008184, 0, 0, 1, 0, 0, 1, [⟨0, 0, 0, 0, 0xFFFFFFFF, 0, 0, 0⟩]⟩]

def regTable9 : List RegDesc := regTable9_0

def regTable10_0 : List RegDesc := [
  ⟨"FAB_CFG", 0x0A000000, 0, 0, 1, 0, 0, 1, [⟨0, 0x000000FF, 0, 0, 0, 0, 0, 0x000000FF⟩]⟩,
  ⟨"FAB_STATUS", 0x0A000004, 0, 0, 1, 0, 0, 1, [⟨0x00800000, 0x0FFFFFFF, 0, 0, 0, 0, 0, 0⟩]⟩,
  ⟨"FAB_PORT", 0x0A000010, 4, 0, 4, 0, 0, 1, [⟨0, 0x007FFFFF, 0, 0, 0xFF000000, 0, 0, 0⟩]⟩,
  ⟨"FAB_ERR_CNT", 0x0A000020, 0, 0, 1, 0, 0, 1, [⟨0, 0, 0, 0, 0xFFFFFFFF, 0, 0, 0⟩]⟩,
  ⟨"FAB_ERR_CNT2", 0x0A000024, 0, 0, 1, 0, 0, 1, [⟨0, 0, 0, 0, 0xFFFFFFFF, 0, 0, 0⟩]⟩,
  ⟨"FAB_TIME", 0x0A000028, 0, 0, 1, 0, 0, 1, List.replicate 2 ⟨0, 0xFFFFFFFF, 0, 0, 0, 0, 0, 0⟩⟩,
  ⟨"FAB_TIME_STAT", 0x0A000030, 0, 0, 1, 0, 0, 1, [⟨0, 0x0000FFFF, 0, 0, 0xFFFF0000, 0, 0, 0⟩]⟩,
  ⟨"FAB_BARRIER", 0x0A000034, 0, 0, 1, 0, 0, 1, [⟨0, 0x00000200, 0x000000FF, 0x00000400, 0x00FF0000, 0x00000100, 0, 0⟩]⟩,
  ⟨"FAB_FLOOD", 0x0A000038, 0, 0, 1, 0, 0, 1, [⟨0, 0x00FFFFFF, 0, 0, 0xFF000000, 0, 0, 0⟩]⟩,
  ⟨"FAB_SCHED_STAT", 0x0A00003C, 0, 0, 1, 0, 0, 1, [⟨0, 0x00007FFF, 0, 0, 0xFFFF0000, 0, 0, 0⟩]⟩,
  ⟨"FAB_SNAP", 0x0A000040, 0, 0, 1, 0, 0, 1, [⟨0, 0x000001FF, 0, 0, 0, 0, 0, 0⟩, ⟨0, 0xFFFFFFFF, 0, 0, 0, 0, 0, 0⟩, ⟨0, 0xFFFFFFFF, 0, 0, 0, 0, 0, 0⟩]⟩,
  ⟨"FAB_SNAP_FIDX", 0x0A000080, 4, 0, 16, 0, 0, 1, [⟨0, 0xFFFFFFFF, 0, 0, 0, 0, 0, 0⟩]⟩,
  ⟨"FAB_PLANT", 0x0A000100, 0, 0, 1, 0, 0, 1, [⟨0, 0xFFFFFFFF, 0, 0, 0, 0, 0, 0⟩, ⟨0, 0x0000FFFF, 0, 0, 0, 0, 0, 0⟩]⟩,
  ⟨"FAB_SCHED_TX", 0x0A000140, 0, 0, 1, 0, 0, 1, [⟨0, 0x00020000, 0x0000FF07, 0, 0, 0x00010000, 0, 0⟩, ⟨0, 0, 0xFFFFFFFF, 0, 0, 0, 0, 0⟩, ⟨0, 0, 0xFFFFFFFF, 0, 0, 0, 0, 0⟩, ⟨0, 0, 0xFFFFFFFF, 0, 0, 0, 0, 0⟩, ⟨0, 0, 0xFFFFFFFF, 0, 0, 0, 0, 0⟩, ⟨0, 0, 0x0000FFFF, 0, 0, 0, 0, 0⟩]⟩,
  ⟨"TWN_CFG", 0x0A010000, 0, 0, 1, 0, 0, 1, [⟨0, 0x00003FFF, 0, 0, 0, 0, 0, 0x00003FFF⟩]⟩,
  ⟨"TWN_PAIR", 0x0A010004, 0, 0, 1, 0, 0, 1, [⟨0, 0xFFFFFFFF, 0, 0, 0, 0, 0, 0xFFFFFFFF⟩]⟩,
  ⟨"TWN_STATUS", 0x0A010008, 0, 0, 1, 0, 0, 1, [⟨0, 0x000000FF, 0, 0, 0, 0, 0, 0⟩]⟩,
  ⟨"TWN_CTL", 0x0A01000C, 0, 0, 1, 0, 0, 1, [⟨0, 0, 0, 0, 0, 0x00000001, 0, 0⟩]⟩,
  ⟨"TWN_ERR_CNT", 0x0A010010, 0, 0, 1, 0, 0, 1, [⟨0, 0, 0, 0, 0xFFFFFFFF, 0, 0, 0⟩]⟩,
  ⟨"TWN_MIRROR_CFG", 0x0A010014, 0, 0, 1, 0, 0, 1, [⟨0, 0x0000FFFF, 0, 0, 0, 0, 0, 0x0000FFFF⟩]⟩]

def regTable10_1 : List RegDesc := [
  ⟨"TWN_MIRROR", 0x0A010100, 4, 0, 256, 0, 0, 1, [⟨0, 0x00001FFF, 0, 0, 0, 0, 0, 0x00001FFF⟩]⟩]

def regTable10 : List RegDesc := regTable10_0 ++ regTable10_1

def regTable11_0 : List RegDesc := [
  ⟨"CAN_CFG", 0x0B000000, 256, 0, 2, 0, 0, 1, [⟨0, 0x07FFFFFF, 0, 0, 0, 0, 0, 0x07FFFFFF⟩]⟩,
  ⟨"CAN_BT_NOM", 0x0B000004, 256, 0, 2, 0, 0, 1, [⟨0x0F9F7E01, 0x7FFFFFFF, 0, 0, 0, 0, 0, 0x7FFFFFFF⟩]⟩,
  ⟨"CAN_BT_DATA", 0x0B000008, 256, 0, 2, 0, 0, 1, [⟨0, 0x0003FFFF, 0, 0, 0, 0, 0, 0x0003FFFF⟩]⟩,
  ⟨"CAN_ALONE_CFG", 0x0B00000C, 256, 0, 2, 0, 0, 1, [⟨0x00006440, 0, 0x00FFFFFF, 0, 0, 0, 0, 0⟩]⟩,
  ⟨"CAN_CTL", 0x0B000010, 256, 0, 2, 0, 0, 1, [⟨0, 0, 0, 0, 0, 0x00000001, 0, 0⟩]⟩,
  ⟨"CAN_STATUS", 0x0B000014, 256, 0, 2, 0, 0, 1, [⟨0, 0x0FFFFFFF, 0, 0, 0, 0, 0, 0⟩]⟩,
  ⟨"CAN_ERR_CNT", 0x0B000018, 256, 0, 2, 0, 0, 1, [⟨0, 0, 0, 0, 0xFFFFFFFF, 0, 0, 0⟩]⟩,
  ⟨"CAN_ERR_CNT2", 0x0B00001C, 256, 0, 2, 0, 0, 1, [⟨0, 0, 0, 0, 0xFFFFFFFF, 0, 0, 0⟩]⟩,
  ⟨"CAN_EVT", 0x0B000800, 4, 0, 8, 0, 0, 1, [⟨0, 0x00007FFF, 0, 0, 0, 0, 0, 0x00007FFF⟩]⟩]

def regTable11 : List RegDesc := regTable11_0

def regTable12_0 : List RegDesc := [
  ⟨"AON_STATUS", 0x0C000000, 0, 0, 1, 0, 0, 1, [⟨0, 0x000FFF5F, 0, 0x00000020, 0, 0, 0, 0⟩]⟩,
  ⟨"AON_CFG", 0x0C000004, 0, 0, 1, 0, 0, 1, [⟨0x0004A02F, 0, 0x0007FFFF, 0, 0, 0, 0, 0⟩]⟩,
  ⟨"AON_ERR_CNT", 0x0C000008, 0, 0, 1, 0, 0, 1, [⟨0, 0, 0, 0, 0xFFFFFFFF, 0, 0, 0⟩]⟩,
  ⟨"AON_RTC", 0x0C00000C, 0, 0, 1, 0, 0, 1, [⟨0, 0, 0xFFFFFFFF, 0, 0, 0, 0, 0⟩, ⟨0, 0x00007FFF, 0, 0, 0, 0, 0, 0⟩]⟩,
  ⟨"AON_TAMPER_CFG", 0x0C000014, 0, 0, 1, 0, 0, 1, [⟨0x0000000F, 0, 0x0000000F, 0, 0, 0, 0, 0⟩]⟩,
  ⟨"AON_TAMPER_STAT", 0x0C000018, 0, 0, 1, 0, 0, 1, [⟨0, 0x00000F0F, 0, 0x000000F0, 0, 0, 0, 0⟩]⟩,
  ⟨"AON_RF_CNT", 0x0C00001C, 0, 0, 1, 0, 0, 1, [⟨0, 0, 0, 0, 0xFFFFFFFF, 0, 0, 0⟩]⟩]

def regTable12 : List RegDesc := regTable12_0

def regTable13_0 : List RegDesc := [
  ⟨"OBS_CTL", 0x0D000000, 0, 0, 1, 0, 0, 1, [⟨0, 0, 0x00000001, 0, 0, 0x00000002, 0, 0⟩]⟩,
  ⟨"OBS_STATUS", 0x0D000004, 0, 0, 1, 0, 0, 1, [⟨0, 0x00000003, 0, 0x00000004, 0, 0, 0, 0⟩]⟩,
  ⟨"OBS_ERR_CNT", 0x0D000008, 0, 0, 1, 0, 0, 1, [⟨0, 0, 0, 0, 0xFFFFFFFF, 0, 0, 0⟩]⟩,
  ⟨"OBS_SNAP", 0x0D00000C, 0, 0, 1, 0, 0, 1, [⟨0, 0x0000FF02, 0, 0, 0, 0x00000001, 0, 0⟩]⟩,
  ⟨"OBS_CNT_CFG", 0x0D000100, 4, 0, 64, 0, 0, 1, [⟨0, 0, 0x01FFFFFF, 0, 0, 0, 0, 0⟩]⟩,
  ⟨"OBS_CNT", 0x0D001000, 8, 0, 64, 0, 0, 1, [⟨0, 0xFFFFFFFF, 0, 0, 0, 0, 0, 0⟩, ⟨0, 0x0000FFFF, 0, 0x80000000, 0, 0, 0, 0⟩]⟩,
  ⟨"OBS_LCA", 0x0D001400, 8, 0, 5, 0, 0, 1, [⟨0, 0xFFFFFFFF, 0, 0, 0, 0, 0, 0⟩, ⟨0, 0x0000FFFF, 0, 0, 0, 0, 0, 0⟩]⟩,
  ⟨"OBS_PS_CFG", 0x0D002000, 0, 0, 1, 0, 0, 1, [⟨0, 0, 0xFFFFFFFF, 0, 0, 0, 0, 0⟩]⟩,
  ⟨"OBS_PS_STAT", 0x0D002004, 0, 0, 1, 0, 0, 1, [⟨0, 0x001FFFFF, 0, 0, 0, 0, 0, 0⟩]⟩,
  ⟨"OBS_REC_CTL", 0x0D003000, 0, 0, 1, 0, 0, 1, [⟨0, 0, 0x00000004, 0, 0, 0x00000003, 0, 0⟩]⟩,
  ⟨"OBS_DUMP_CFG", 0x0D003010, 0, 0, 1, 0, 0, 1, List.replicate 2 ⟨0, 0, 0xFFFFFFFF, 0, 0, 0, 0, 0⟩⟩,
  ⟨"OBS_DUMP_RANGE", 0x0D003040, 4, 0, 8, 0, 0, 1, [⟨0, 0, 0x7FFFFFFF, 0, 0, 0, 0, 0⟩]⟩,
  ⟨"OBS_DUMP_REGION", 0x0D003060, 4, 0, 8, 0, 0, 1, [⟨0, 0, 0x000000FF, 0, 0, 0, 0, 0⟩]⟩,
  ⟨"OBS_RAM_STAT", 0x0D003080, 0, 0, 1, 0, 0, 1, [⟨0, 0x00007FFF, 0, 0, 0, 0, 0, 0⟩]⟩,
  ⟨"OBS_RAM_RD", 0x0D003084, 0, 0, 1, 0, 0, 1, [⟨0, 0, 0x00007FFF, 0, 0, 0, 0, 0⟩]⟩,
  ⟨"OBS_CLKTEST", 0x0D003100, 0, 0, 1, 0, 0, 1, [⟨0, 0x00000038, 0x03FF0004, 0, 0, 0x00000003, 0, 0⟩]⟩,
  ⟨"OBS_DBG_CTL", 0x0D003200, 0, 0, 1, 0, 0, 1, [⟨0, 0, 0x000000FD, 0, 0, 0x00000002, 0, 0⟩]⟩,
  ⟨"OBS_DBG_STAT", 0x0D003204, 0, 0, 1, 0, 0, 1, [⟨0, 0x00000001, 0, 0x00000002, 0x0000FF00, 0, 0, 0⟩]⟩,
  ⟨"OBS_REC_CTX", 0x0D003004, 0, 0, 1, 0, 0, 1, [⟨0, 0, 0xFFFFFFFE, 0, 0, 0, 0, 0⟩, ⟨0, 0, 0xFFFFFFFF, 0, 0, 0, 0, 0⟩]⟩,
  ⟨"OBS_PS", 0x0D004000, 16, 0, 1024, 0, 0, 1, List.replicate 4 ⟨0, 0xFFFFFFFF, 0, 0, 0, 0, 0, 0⟩⟩]

def regTable13 : List RegDesc := regTable13_0

/-- The registers of the region whose addresses have the top byte `top` (R37). -/
def regRegion (top : Nat) : List RegDesc :=
  match top with
  | 0 => regTable0
  | 1 => regTable1
  | 2 => regTable2
  | 3 => regTable3
  | 4 => regTable4
  | 5 => regTable5
  | 6 => regTable6
  | 7 => regTable7
  | 8 => regTable8
  | 9 => regTable9
  | 10 => regTable10
  | 11 => regTable11
  | 12 => regTable12
  | 13 => regTable13
  | _ => []

/-- Where an aligned address falls in a register: first index, second index and word. -/
structure RegHit where
  desc : RegDesc
  i : Nat
  j : Nat
  word : Nat
  wd : WordDesc
  deriving DecidableEq, Repr

/-- The place of `a` in register `d`, if it lies there. -/
def RegDesc.hit (d : RegDesc) (a : Nat) : Option RegHit :=
  if a < d.base then none
  else
    let off := a - d.base
    let i := if d.s1 = 0 then 0 else off / d.s1
    let r1 := if d.s1 = 0 then off else off % d.s1
    let j := if d.s2 = 0 then 0 else r1 / d.s2
    let r2 := if d.s2 = 0 then r1 else r1 % d.s2
    if d.l1 ≤ i ∧ i < d.l1 + d.n1 ∧ d.l2 ≤ j ∧ j < d.l2 + d.n2 then
      match d.words[r2 / 4]? with
      | some wd => some ⟨d, i, j, r2 / 4, wd⟩
      | none => none
    else none

/-- The register word at an address, if the spec's tables give one. -/
def regFind (a : Nat) : Option RegHit :=
  if a % 4 = 0 then (regRegion (a / 2 ^ 24)).findSome? (fun d => d.hit a) else none

/-- What an unlisted address of the register map reads as: the reset value of its word (R9, R11). -/
def regReset (a : Nat) : Word :=
  match regFind a with
  | some h => BitVec.ofNat 32 h.wd.reset
  | none => 0

end Sys2Proof.Machine
end

