-- ==== Sys2Proof/Machine/State.lean ====
section
/-!
DEFINITION. The block's state as plain data: the register map with the engine stores (R9, R37, R147), the
byte-addressed memories, the state that no register shows, chapter by chapter, and the queue of waiting commands.
Every default below is the value in State.reset; NOTES.md and the assumption log say which of them the spec gives.
-/

namespace Sys2Proof.Machine

/-- Why a command could stop the model. No meaning of this model answers with it (NOTES.md, Stops). -/
inductive Fault where
  /-- No command raises it: the spec gives the block no stop of this kind. Safe. -/
  | none
  deriving DecidableEq, Repr

/-- Why the model could refuse a command. -/
inductive Refusal where
  /-- Raised by the dispatch alone, for a command whose meaning is not written. Safe. -/
  | notModelled (mnemonic : String)
  deriving DecidableEq, Repr

/-- What a link was last answered: the access code (R79), the words and the bytes. -/
structure Answer where
  code : Nat := 0
  words : List Word := []
  bytes : List Byte := []
  deriving DecidableEq, Repr

/-- One entry of the section table (R47). -/
structure Section where
  type : Nat := 0
  flags : Nat := 0
  offset : Nat := 0
  length : Nat := 0
  target : Nat := 0
  deriving DecidableEq, Repr

/-- One range of ROLES or PUBLIC (R498). -/
structure Grant where
  low : Nat := 0
  high : Nat := 0
  keys : Nat := 0
  deriving DecidableEq, Repr

/-- The header fields of the image being loaded or running (R46). -/
structure Header where
  svn : Nat := 0
  flags : Nat := 0
  imageLength : Nat := 0
  flashDiv : Nat := 0
  slowestEplan : Nat := 0
  bootPolicy : Nat := 0
  buildId : List Byte := []
  deriving DecidableEq, Repr

/-- The fuses (R58). -/
structure Fuses where
  vendorRootHash : BitVec 384 := 0
  integratorHash : BitVec 384 := 0
  integratorValid : Bool := false
  rollback : Nat := 0
  identityKey : BitVec 384 := 0
  serial : BitVec 64 := 0
  debugLock : Bool := false
  deriving DecidableEq, Repr

/-- Where the loader stands (R41, R43, R54, R56, R63, R67). -/
inductive BootStage where
  | inReset | waitSfdp | waitSynA | waitHeader | streaming | waitChecks | waitFuses | waitReady | running | noImage
  deriving DecidableEq, Repr

/-- The loader (chapter Image, Boot and Trust): its stage and slot, what SFDP gave, the header, section table and section data
read so far, the bytes that the store writer has taken of the section that streams, Q28 with its entries of one word, the PLANS
hash that the band searches belong to, the searches still to run with each plan's N × 2^20 and the bands found, the chain's
results and the vendor root key that passed step 1; the fuses; a flash command that runs; what ROLES and PUBLIC give. -/
structure BootS where
  stage : BootStage := .inReset
  slot : Nat := 0
  density : Option Nat := none
  readCmd : Nat := 0
  addrBytes : Nat := 0
  dummies : Nat := 0
  header : Header := { }
  sections : List Section := []
  raw : List Byte := []
  nextSection : Nat := 0
  sectionData : Tbl (List Byte) := []
  part : List Byte := []
  q28 : List (List Byte) := []
  plansHash : Option (BitVec 384) := none
  searches : List (Nat × Nat) := []
  bands : Tbl Nat := []
  imageHash : BitVec 384 := 0
  integratorKey : List Byte := []
  rootKey : List Byte := []
  fuses : Fuses := { }
  flashStopped : Bool := false
  flashRun : Option Nat := none
  flashAddr : Nat := 0
  flashSlot : Nat := 0
  flashPage : List Byte := []
  rebootScheduled : Bool := false
  operatorKeys : List (List Byte) := []
  grants : List Grant := []
  publicRanges : List Grant := []
  publicAttest : Bool := false
  deriving DecidableEq, Repr

/-- One request of the signing engine (R72). -/
inductive SignJob where
  | attest (link node prio seq : Nat) (nonce : List Byte)
  | verify (link node prio seq challenge : Nat) (signature : List Byte)
  deriving DecidableEq, Repr

/-- What a link holds beside BOOT_SESSION (R73 to R76): the pending challenge with what it was asked for, the earlier challenges
with their keys, newest first, and the failures in a row. -/
structure LinkS where
  challenge : List Byte := []
  earlier : List (List Byte × List Byte) := []
  number : Nat := 0
  reqRole : Nat := 0
  reqKey : Nat := 0
  reqNode : Nat := 0
  reqCertKey : List Byte := []
  failures : Nat := 0
  deriving DecidableEq, Repr

/-- Sessions, the signing engine and the 64-bit shadows of each link (R72 to R76, R369). -/
structure SessS where
  links : Tbl LinkS := []
  challenges : Nat := 0
  jobs : List SignJob := []
  readShadow : Tbl Nat := []
  writeShadow : Tbl Nat := []
  deriving DecidableEq, Repr

/-- One synthesizer beside CLK_STATUS (R86 to R95). -/
structure SynS where
  goodWindows : Nat := 0
  hopping : Bool := false
  hopTarget : Nat := 0
  pendingHop : Option Nat := none
  atTime : Bool := false
  syncDeferred : Bool := false
  poweredDown : Bool := false
  deriving DecidableEq, Repr

/-- The clocks and the time: synthesizers (0 SYN_M, 1 SYN_E, 2 SYN_A), SYN_A's band (R83), SYN_M tick count, plant time (R90,
R365). -/
structure ClkS where
  syn : Tbl SynS := []
  bandA : Nat := 0
  syncTarget : Nat := 0
  modTick : Nat := 0
  plantTime : Nat := 0
  plantFrac : Nat := 0
  elapsed : Nat := 0
  deriving DecidableEq, Repr

/-- A result register's live values (R104). -/
structure ResS where
  last : Nat := 0
  count : Nat := 0
  sum : Nat := 0
  deriving DecidableEq, Repr

/-- One converter beside ACQ_SEQ_CTL (R99 to R117): `slot` is the table that its slot under way belongs to, its own or its retired
partner's (R112); `urgChan` the channel of its urgent conversion (R115). -/
structure ConvS where
  stopped : Bool := true
  len : Nat := 0
  slot : Option Nat := none
  discard : Bool := false
  idle : Bool := false
  urgentOf : Option Nat := none
  urgChan : Nat := 0
  heldOwn : Bool := false
  heldHost : Bool := false
  requested : Bool := false
  restored : Bool := false
  deriving DecidableEq, Repr

/-- What a pair's joint slot is wanted for (R110, R111, R113). -/
inductive PairWant where
  | nothing | check | reference | restore
  deriving DecidableEq, Repr

/-- One entry of Q29 (R118). -/
structure UrgentResult where
  cv : Nat
  code : Nat
  seq : Nat
  deriving DecidableEq, Repr

/-- Acquisition: converters, live result registers (key 32 × cv + e), pairs, Q29. -/
structure AcqS where
  conv : Tbl ConvS := []
  res : Tbl ResS := []
  pair : Tbl PairWant := []
  q29 : List UrgentResult := []
  deriving DecidableEq, Repr

/-- One comparator beside WIN_STATUS: the sides not resolved, its test window, blanking (R126, R127, R135). -/
structure CmpS where
  hiUnres : Bool := false
  loUnres : Bool := false
  window : Bool := false
  blankHi : Bool := false
  blankLo : Bool := false
  deriving DecidableEq, Repr

/-- What the comparator test engine runs (R134 to R138). -/
inductive WinTestRun where
  | readback (n : Nat) | tie (n : Nat) | matrix (src : Nat)
  deriving DecidableEq, Repr

/-- Comparators and the comparator test engine. -/
structure WinS where
  cmp : Tbl CmpS := []
  started : Bool := false
  run : Option WinTestRun := none
  runAuto : Bool := false
  manualWaits : Bool := false
  sweepPos : Nat := 0
  outcome : Option Nat := none
  deriving DecidableEq, Repr

/-- One filter's state, per route (R143); `fresh` until the source first changes after the entry was written (R142). -/
structure FiltS where
  fresh : Bool := false
  out : Bool := false
  inp : Bool := false
  timing : Bool := false
  edges : List Nat := []
  minimum : Bool := false
  deriving DecidableEq, Repr

/-- The event router: levels, unsampled pulses and rising edges of the sources, last samples, filters, destination levels, and the
words still in force of entries written since the last router sample (R144). -/
structure EvrS where
  level : Tbl Bool := []
  pulse : Tbl Bool := []
  rises : Tbl Nat := []
  prev : Tbl Bool := []
  filt : Tbl FiltS := []
  held : Tbl Bool := []
  dst : Tbl Bool := []
  wrote : Tbl Word := []
  deriving DecidableEq, Repr

/-- Frame sources beside ENG_FSRC, ENG_FT and ENG_FIDX: wrap dividers, frame-timer counts, latches that have come
and are not yet processed, those whose publication step is done, and every source's latches since SAFE-ready, which no
plant reset zeroes, with the count at which the indices were last zeroed (R16, R17, R166). -/
structure FrmS where
  div : Tbl Nat := []
  timer : Tbl Nat := []
  due : Tbl Bool := []
  published : Tbl Bool := []
  total : Tbl Nat := []
  base : Tbl Nat := []
  deriving DecidableEq, Repr

/-- Where a context's frame stands (R165 to R170, R250). -/
inductive Phase where
  | idle | copying | ready | running | waiting | completed | faulted
  deriving DecidableEq, Repr

/-- One OUT of a frame: the value, its format and its generation (R172). -/
structure OutWrite where
  value : Nat := 0
  abs : Bool := false
  gen : Nat := 0
  deriving DecidableEq, Repr

/-- One schedule in a frame: region in force, desired region or fade destination, fade frame, and the
region R187 desires at the frame's start (R187, R188). -/
structure SchF where
  region : Nat := 0
  desired : Nat := 0
  fading : Bool := false
  j : Nat := 0
  changed : Bool := false
  want : Nat := 0
  deriving DecidableEq, Repr

/-- A frame of a context from its latch to its commit point: the index it carries, its latch's number and tick, the plan
it carries, its copies, what it has written (R17, R165, R169, R173), the tracked slots that its group has written meanwhile (R194), and the words that it goes on seeing as they were before a glaze
that swapped in at a latch which the context skips (R29, R203). -/
structure FrameS where
  phase : Phase := .idle
  index : Nat := 0
  latchNo : Nat := 0
  tick : Nat := 0
  plan : Nat := 0
  deadline : Nat := 0
  rate : Nat := 1
  pointDone : Bool := true
  imports : Tbl Word := []
  records : Tbl Nat := []
  inputs : Tbl Bool := []
  lane : Nat := 0
  pc : Nat := 0
  cycles : Nat := 0
  work : Tbl Word := []
  shadow : Tbl Word := []
  outs : Tbl OutWrite := []
  evt : Tbl Bool := []
  minsel : List (Nat × Int) := []
  sat : List Nat := []
  satLines : List Nat := []
  track : Tbl Word := []
  old : Tbl Word := []
  sch : Tbl SchF := []
  newIdx : Tbl (Nat × Nat) := []
  samples : List Nat := []
  taped : Bool := false
  deriving DecidableEq, Repr

/-- One context beside its registers: its record, its owned signals in OWNERS order, its pending values, its frame
(R164, R169). -/
structure CtxS where
  present : Bool := false
  imports : List Nat := []
  owned : List Nat := []
  pend : Tbl Word := []
  frame : FrameS := { }
  deriving DecidableEq, Repr

/-- One frame of a competing-loop group that has not resolved: the number, index and tick of its latch, its participating context members, its
members' values and limits, those still to commit, whether a member failed (R192 to R195). -/
structure GrpFrame where
  latchNo : Nat := 0
  index : Nat := 0
  tick : Nat := 0
  parts : List Nat := []
  vals : Tbl Int := []
  lims : Tbl (Int × Int) := []
  left : List Nat := []
  failed : Bool := false
  deriving DecidableEq, Repr

/-- One competing-loop group: its frames that are not resolved, oldest first, of which there are several where a member of a lower
rate has until a later latch (R203), and the resolved output that waits for publication (R192 to R196). -/
structure GrpS where
  frames : List GrpFrame := []
  pend : Option Word := none
  deriving DecidableEq, Repr

/-- The engine beside its registers and stores. Keys: schedule 4 × ctx + sch; ECC words by address. -/
structure EngS where
  ctx : Tbl CtxS := []
  param : Tbl Nat := []
  paramPend : Tbl Word := []
  sigOwner : Tbl Nat := []
  outOwner : Tbl Nat := []
  evtOwner : Tbl Nat := []
  evtHolder : Tbl Nat := []
  schPresent : Tbl Bool := []
  schIdx : Tbl (Nat × Nat) := []
  grp : Tbl GrpS := []
  poisoned : Tbl Bool := []
  writeBack : List Nat := []
  scrubPos : Tbl Nat := []
  degrade : List Nat := []
  degradeAsked : List Nat := []
  pubOf : Tbl Nat := []
  deriving DecidableEq, Repr

/-- A write that a rule holds until a later instant (R211, R333): its word, value, field mask, and whether a glaze makes it. -/
structure HeldWrite where
  addr : Nat := 0
  value : Word := 0
  mask : Word := 0
  glaze : Bool := false
  deriving DecidableEq, Repr

/-- A grid sample from its latch to its update instant: the phase count and plant time at the latch, the three records,
p of the support curves, p and q of the forming law as a reader latching there reads them (R209, R212, R236, R239). -/
structure GridLatch where
  phase : Nat := 0
  time : Nat := 0
  index : Nat := 0
  recs : List Nat := []
  p : Int := 0
  pForm : Int := 0
  q : Int := 0
  deriving DecidableEq, Repr

/-- One Sprinkle chip of the estimator: its value, the means of R231, whether all of it ran unpaused. -/
structure ChipS where
  sign : Int := 0
  r : Int := 0
  x : Int := 0
  ok : Bool := false
  deriving DecidableEq, Repr

/-- The grid unit beside its registers (R208 to R242). f and integ are in Hz × 2^48, dw in pu × 2^48, times in ps; the
trip-curve timers have key 16 × curve + point; chips and samples stand newest first. -/
structure GrdS where
  phase : Nat := 0
  inc : Nat := 0
  sector : Nat := 0
  sample : Option GridLatch := none
  dpf : Int := 0
  qpf : Int := 0
  dnf : Int := 0
  qnf : Int := 0
  dp1 : Int := 0
  qp1 : Int := 0
  vpos : Int := 0
  vneg : Int := 0
  integ : Int := 0
  fSync : Int := 0
  f : Int := 0
  fGs : Int := 0
  fHist : List Int := []
  rocof : Int := 0
  lockRun : Nat := 0
  unlockRun : Nat := 0
  dw : Int := 0
  window : List (List Int) := []
  nh : Nat := 0
  hcMax : Int := 0
  hcMin : Int := 0
  timers : Tbl Nat := []
  firedPts : Tbl Bool := []
  excursion : Nat := 0
  calm : Nat := 0
  peakRun : Tbl Nat := []
  devRun : Tbl Nat := []
  pasTimers : Tbl Nat := []
  pasFired : Tbl Bool := []
  phiGs : Option Int := none
  code : Nat := 255
  share : Nat := 1
  chip : Option Nat := none
  chips : List ChipS := []
  accN : Nat := 0
  accR : Int := 0
  accX : Int := 0
  chipPaused : Bool := false
  estimates : List Int := []
  qOut : Int := 0
  pOut : Int := 0
  dOut : Int := 0
  vRef : Int := 0
  formV : Int := 0
  writes : List HeldWrite := []
  q30 : List (List Int) := []
  mtrWindow : List (List Int) := []
  xRun : Nat := 0
  xHeld : Bool := false
  gsSeq : Nat := 0
  deriving DecidableEq, Repr

/-- One committed value on its way to its target (R173, R250): a leg compare (kind 0 turn-on, 1 turn-off) or a group
period (kind 2), its format, generation and commit-point tag: a MOD tick, if the offset gives one, and the frame of context `ctx`,
by the number `latch` of its latch (R168, R173). -/
structure Commit where
  kind : Nat := 0
  idx : Nat := 0
  value : Nat := 0
  abs : Bool := false
  gen : Nat := 0
  tick : Option Nat := none
  ctx : Nat := 0
  latch : Nat := 0
  deriving DecidableEq, Repr

/-- One glaze patch. -/
structure Patch where
  addr : Nat := 0
  value : Nat := 0
  mask : Nat := 0
  deriving DecidableEq, Repr

/-- One carrier group beside its registers: pending periods, a MOD_SPLIT, a wrap that has come and is not yet processed, the ticks by
which the running period is lengthened, the tap count in force for it, patches that wait for the next wrap (R243 to R255, R265,
R270). -/
structure GroupS where
  running : Bool := false
  slots : List Commit := []
  split : Bool := false
  wrapDue : Bool := false
  lengthen : Nat := 0
  taps : Nat := 0
  patches : List Patch := []
  deriving DecidableEq, Repr

/-- One leg in the modulator (R247 to R263): pending compares, the duties of compares that follow the period (R252), the window in
force and whether it reached its period's end, the crumb to discard at the next wrap or, where `crumbHold`, at the one after it, the
bin of the period, dead-time filters, the edge in progress with its instant and the end of its dead time in fine steps, its measurement
with the bin it began in, and the tap of its last edge (R264). `active` says that the leg has a window, `wrapAt` at which instant its
period began, `riseH` and `riseL` when a command that was on there rose, and `lastEdge` which rise was taken last (R244, R248, R259). -/
structure ModLeg where
  onSlots : List Commit := []
  offSlots : List Commit := []
  fracOn : Option Nat := none
  fracOff : Option Nat := none
  winOn : Nat := 0
  winEnd : Nat := 0
  winTop : Bool := false
  active : Bool := false
  wrapAt : Nat := 0
  riseH : Nat := 0
  riseL : Nat := 0
  lastEdge : Option (Bool × Nat) := none
  swapped : Bool := false
  hRun : Nat := 0
  crumbDrop : Bool := false
  crumbHold : Bool := false
  binNeg : Bool := false
  lowCurrent : Bool := false
  meas : Tbl (List Nat) := []
  edge : Option Bool := none
  edgeAt : Nat := 0
  dtUntil : Nat := 0
  dtDone : Bool := false
  measuring : Bool := false
  measToH : Bool := false
  measNeg : Bool := false
  tap : Nat := 0
  deriving DecidableEq, Repr

/-- The modulator: queues Q00 to Q03, groups, legs, delay-line measurements. -/
structure ModS where
  queues : Tbl (List Commit) := []
  groups : Tbl GroupS := []
  legs : Tbl ModLeg := []
  tapSamples : List Nat := []
  tapsNew : Option Nat := none
  tapsOf : Tbl Nat := []
  calLeft : Nat := 0
  deriving DecidableEq, Repr

/-- One leg in the gate-port block (R271 to R304): the MOD ticks until which blanking and the node watchdogs run (R284, R287); `seen` are
the causes since its fault latch set (R302), `exitSafe` says that a mode transition has come whose patches have yet to reach the leg
(R269), `position` and `cycle` are its stagger position and the ring cycle in which it entered step 1 (R293). -/
structure GateLeg where
  gh : Bool := false
  gl : Bool := false
  gsoft : Bool := false
  cmdH : Bool := false
  cmdL : Bool := false
  startedH : Bool := false
  startedL : Bool := false
  gateClosed : Bool := false
  blankUntil : Nat := 0
  wdH : Bool := false
  wdL : Bool := false
  wdHUntil : Nat := 0
  wdLUntil : Nat := 0
  lockH : Bool := false
  lockL : Bool := false
  safeHeld : Bool := false
  exitSafe : Bool := false
  seen : Nat := 0
  badRun : Nat := 0
  goodRun : Nat := 0
  seqSeen : Bool := false
  position : Nat := 0
  cycle : Nat := 0
  faultTimes : List Nat := []
  deriving DecidableEq, Repr

/-- The gate-port block: legs, stagger positions, trip assist of chopper c by domain d under 4c + d (R298), chopper latches, the FB
comparators, those of ports 64 to 95, whose threshold word the address map gives to GTP_NODE_TH, among them. -/
structure GtpS where
  legs : Tbl GateLeg := []
  nextPos : Tbl Nat := []
  assist : Tbl Bool := []
  assistEnding : Tbl Bool := []
  chopLatch : Tbl Bool := []
  fbHigh : Tbl Bool := []
  chopTicks : Tbl Nat := []
  deriving DecidableEq, Repr

/-- One power-quality condition (R326 to R329): active, its phases, half cycles and samples since its start, its extreme, and
the run of cycles that enters or leaves it. -/
structure PqEvt where
  active : Bool := false
  mask : Nat := 0
  hc : Nat := 0
  samples : Nat := 0
  extreme : Nat := 0
  run : Nat := 0
  deriving DecidableEq, Repr

/-- One pulse input (R321 to R323), times in ms. -/
structure PulseInS where
  high : Nat := 0
  low : Nat := 0
  since : Nat := 0
  pulses : Nat := 0
  energy : Nat := 0
  power : Nat := 0
  interval : Nat := 0
  deriving DecidableEq, Repr

/-- What a pulse output's timer runs for (R325). -/
inductive PulsePhase where
  | idle | high | gap
  deriving DecidableEq, Repr

/-- One pulse output (R325). -/
structure PulseOutS where
  acc : Nat := 0
  owed : Nat := 0
  phase : PulsePhase := .idle
  deriving DecidableEq, Repr

/-- Metering beside its registers (R306 to R330): the last samples of eight channels newest first, filters, powers in µW and
µvar, 24 energy registers with wrap counters and fine accumulators, demand increments, events, the fundamentals of VA to VC
at the last sample, the last positive-going zero crossing in 2^−32 samples and its phase, the half cycle under way, the second of the
last close of a demand interval, the running window, the values of the last window, pulse inputs and outputs. -/
structure MtrS where
  hist : List (List Int) := []
  prev : List Int := []
  hpIn : Tbl Int := []
  hpOut : Tbl Int := []
  f : Nat := 0
  samples : Nat := 0
  ovldAge : Tbl Nat := []
  p : List Int := []
  q : List Int := []
  reg : Tbl Nat := []
  wraps : Tbl Nat := []
  acc : Tbl Nat := []
  noLoad : Tbl Bool := []
  loadRun : Tbl Nat := []
  dem : Tbl Nat := []
  demPartial : Bool := true
  evts : Tbl PqEvt := []
  urms : List Nat := []
  fund : List (Int × Int) := []
  crossAt : Option Nat := none
  crossOf : Nat := 0
  heldRun : Nat := 0
  negHalf : Bool := false
  demAt : Option Nat := none
  winCycles : Nat := 0
  win : List (List Int) := []
  winFrom : Nat := 0
  winN : Nat := 0
  winSq : Tbl Nat := []
  winP : Int := 0
  winNo : Nat := 0
  rms : Tbl Nat := []
  resid : Nat := 0
  pf : Int := 0
  thd : Tbl Nat := []
  negRatio : Nat := 0
  expRun : Nat := 0
  expRaised : Bool := false
  ins : Tbl PulseInS := []
  outs : Tbl PulseOutS := []
  writes : List HeldWrite := []
  deriving DecidableEq, Repr

/-- A composition being applied or waiting to swap (R336 to R341): target mode, auxiliary slots, whether the shadow is
complete, the shadow's words, the sources still to swap, for a word that several sources read its old value for those
that have not swapped, and the composition's number, by which a pair's completions name it (R397). -/
structure CompS where
  mode : Nat := 0
  aux : List Nat := []
  modeAsked : Bool := false
  applied : Bool := false
  shadow : Tbl Word := []
  done : List Nat := []
  sources : List Nat := []
  swapped : List Nat := []
  old : Tbl Word := []
  goAt : Option Nat := none
  partnerDone : Bool := false
  no : Nat := 0
  deriving DecidableEq, Repr

/-- The sequencer and the glaze applier beside their registers (R334 to R348): the modes that follow the pending composition, a
follower's next composition, the number of the last one, the timers whose step is due (R346, R347) and the plant time that each has
counted of its present unit (R347, R368), `acts`, the words with WO bits that a glaze has written since the last tick, and the hosts'
requests in arrival order. -/
structure SeqS where
  q04 : List Nat := []
  q05 : List Nat := []
  glazes : Tbl (List Patch) := []
  base : Tbl Word := []
  wordMask : Tbl Nat := []
  comp : Option CompS := none
  nextModes : List Nat := []
  heldComp : Option (Nat × List Nat × Nat) := none
  compNo : Nat := 0
  auxHeld : Tbl Bool := []
  entryStep : Bool := false
  timersDue : List Nat := []
  acts : List (Nat × Word) := []
  timerFrac : Tbl Nat := []
  hostModes : List Nat := []
  hostAux : List (Nat × Bool) := []
  deriving DecidableEq, Repr

/-- The governor beside its registers (R349 to R356): what it publishes at the next latch, the hops it writes there, the
times of the last hops and bridge moves in plant time. -/
structure GovS where
  pub : Tbl Word := []
  last : Word := 0x40000000
  hopM : Option Nat := none
  hopE : Option Nat := none
  lastHopM : Option Nat := none
  lastHopE : Option Nat := none
  lastBridge : Option Nat := none
  lastLatch : Option Nat := none
  received : Tbl Word := []
  deriving DecidableEq, Repr

/-- An ordered set or packet that a fabric port or twin lane sent (table "Ordered sets", R370). -/
inductive FabSet where
  | hello (role port sender level : Nat)
  | probe | echo
  | mark (time : Nat) (valid : Bool) (level : Nat)
  | trip (origin seq : Nat)
  | barrier (release : Bool) (number : Nat)
  | status (bits : Nat)
  | packet (bytes : List Byte)
  deriving DecidableEq, Repr

/-- One fabric port beside FAB_PORT (R363, R364, R377, R378): hellos heard and sent, the neighbour's hello, probe round trips
newest first, echoes owed and sent, a child's last status and barrier arrival, LOS. -/
structure FabPort where
  heard : Nat := 0
  told : Nat := 0
  peerRole : Nat := 0
  peerPort : Nat := 0
  peerId : Nat := 0
  peerLevel : Nat := 0
  trips : List Int := []
  awaited : Bool := false
  echoDue : Bool := false
  echoes : Nat := 0
  status : Option Nat := none
  arrived : Option Nat := none
  deriving DecidableEq, Repr

/-- A scheduled operation (table "Scheduled-operation payload"). -/
structure SchedOp where
  op : Nat := 0
  id : Nat := 0
  t : Nat := 0
  arg0 : Nat := 0
  arg1 : Nat := 0
  deriving DecidableEq, Repr

/-- The fabric beside its registers (R358 to R386): the sets due on each port in the order in which they go out and what the port sent
last (R360), the part of a fabric clock cycle that has passed and the error that the trim still has to remove (R365, R366), floods, ports, a waiting FAB_TIME write, the time
marks' runs, the barrier, pending operations in arrival order, the queues Q16, Q17, Q18 (with the port), Q19, Q20 and Q21, and whether the
control plane waits for room in Q21 (R374). -/
structure FabS where
  due : Tbl (List FabSet) := []
  sent : Tbl FabSet := []
  cycleFrac : Nat := 0
  trim : Int := 0
  floodSeq : Nat := 0
  lastFlood : Option Nat := none
  ports : Tbl FabPort := []
  timeWrite : Option Nat := none
  stepArmed : Bool := false
  marked : Bool := false
  markAt : Option Nat := none
  goodMarks : Nat := 0
  badMarks : Nat := 0
  timeLost : Bool := false
  barrierNum : Nat := 0
  barrierSent : Bool := false
  sched : List SchedOp := []
  q16 : List (List Byte) := []
  q17 : List (List Byte) := []
  q18 : List (Nat × List Byte) := []
  q19 : List (List Byte) := []
  q20 : List (List Byte) := []
  q21 : List (List Byte) := []
  q21Wait : Bool := false
  deriving DecidableEq, Repr

/-- A mirror entry or a control message on the twin link (R388, R390, R395, R397). -/
inductive TwinMsg where
  | mirror (fsrc frame signal : Nat) (value : Word)
  | modeAsk (mode : Nat)
  | auxAsk (slot : Nat) (on : Bool)
  | compose (mode : Nat) (aux : List Nat) (no : Nat)
  | compDone (no : Nat)
  | go (time : Nat)
  | start (time : Nat)
  | gov (words : List Word)
  | hop (syn plan time : Nat)
  deriving DecidableEq, Repr

/-- One twin lane (R389): aligned, valid heartbeats in a row. -/
structure LaneS where
  aligned : Bool := false
  good : Nat := 0
  deriving DecidableEq, Repr

/-- The twin lanes and the partner (R388 to R402): cross-trips sent, the domain masks of the last one sent and the last one received,
lanes, the queues Q22 to Q25, control messages and
mirror entries of groups that wait for room, what was sent last, totals, the partner's last heartbeat, the start time, sources that wait for mirror entries with
the frame they wait in, and the signals that the partner mirrors. -/
structure TwnS where
  crossSent : Nat := 0
  crossMask : Nat := 0
  crossFrom : Nat := 0
  lanes : Tbl LaneS := []
  q22 : List TwinMsg := []
  q23 : List TwinMsg := []
  q24 : List TwinMsg := []
  q25 : List (Nat × List Nat) := []
  waitingCtl : List TwinMsg := []
  waitingMirror : List TwinMsg := []
  sent : Option TwinMsg := none
  markSent : Option FabSet := none
  beat : List (Nat × Nat × Nat) := []
  missTotal : Nat := 0
  crossTotal : Nat := 0
  partnerMode : Nat := 0
  partnerRole : Nat := 0
  partnerState : Nat := 0
  partnerLocked : Bool := false
  startAt : Option Nat := none
  held : Tbl Bool := []
  heldFrame : Tbl Nat := []
  mirrored : Tbl Bool := []
  deriving DecidableEq, Repr

/-- One CAN frame: identifier and data (R412, R414); in a transmit queue whether its message was returned as not sent (R411); as sent
its bit-rate switch and error-state bits (R403). -/
structure CanFrame where
  id : Nat := 0
  fd : Bool := false
  data : List Byte := []
  last : Bool := true
  notSent : Bool := false
  brs : Bool := false
  esi : Bool := false
  deriving DecidableEq, Repr

/-- A message of the message set, received whole or in progress, with the frames it took (R412 to R415). -/
structure CanMsg where
  prio : Nat := 0
  fn : Nat := 0
  seq : Nat := 0
  peer : Nat := 0
  ilen : Nat := 0
  segs : Nat := 0
  body : List Byte := []
  deriving DecidableEq, Repr

/-- One receive queue with its reassembly (R408, R415): frames held, the message in progress, and the whole message that waits for
the control plane, behind which the frames wait. -/
structure CanRx where
  frames : List CanFrame := []
  cur : Option CanMsg := none
  whole : Option CanMsg := none
  deriving DecidableEq, Repr

/-- One CAN channel beside its registers (R403 to R417): transmit and receive queues, the segments sent of the head message,
ACK errors in a row, the lone node's attempt, the event sequence, the frame last sent, and the time in 125 ps for which bus
integration still lasts (R403). -/
structure CanS where
  txHigh : List CanFrame := []
  txLow : List CanFrame := []
  partHigh : List CanFrame := []
  partLow : List CanFrame := []
  rxHigh : CanRx := { }
  rxLow : CanRx := { }
  ackErrors : Nat := 0
  attempt : Bool := false
  evtSeq : Nat := 0
  onBus : Option CanFrame := none
  integ : Nat := 0
  deriving DecidableEq, Repr

/-- The two channels, and per entry of CAN_EVT the rising edges of its source that it has reported or passed over, and its count. -/
structure CansS where
  ch : Tbl CanS := []
  seen : Tbl Nat := []
  edges : Tbl Nat := []
  deriving DecidableEq, Repr

/-- The always-on domain beside its registers and the retention memory (R420 to R441): supplies, queues Q06, Q07 and Q31,
RTC sub-second, harvesting stages, tamper debouncing, the RF quiet state, the slot of the last Inventory answer. -/
structure AonS where
  powered : Bool := false
  main : Bool := false
  vcell : Nat := 0
  q06 : List (List Byte) := []
  q07 : List (Nat × List Byte) := []
  q31 : List (Nat × Nat × Nat × Bool) := []
  sub : Nat := 0
  rtcFrac : Nat := 0
  boost : Bool := false
  vrectOpen : Nat := 0
  ckptSeq : Nat := 0
  ckptSlot : Nat := 0
  tamperRun : Tbl Nat := []
  refusedSince : Nat := 0
  tampers : Nat := 0
  quiet : Bool := false
  slot : Nat := 0
  deriving DecidableEq, Repr

/-- Observability beside its registers (R443 to R462): `clkTestAt` is the elapsed time at which a clock test's power-down completed,
`dumpAt` the interval of plant time that the last dump by time belongs to. -/
structure ObsS where
  cnt : Tbl Nat := []
  ovf : Tbl Bool := []
  lca : Tbl Nat := []
  psCountdown : Nat := 0
  psPlan : Tbl Nat := []
  q27 : List (Nat × List Word) := []
  q27Wait : Bool := false
  q26 : List (List Byte) := []
  lostSinceGap : Nat := 0
  recording : Bool := false
  needOrigin : Tbl Bool := []
  dumpCount : Nat := 0
  clkTestPoweredDown : Bool := false
  clkTestAbort : Bool := false
  clkTestAt : Nat := 0
  dumpAt : Option Nat := none
  stepPending : Option Nat := none
  stepping : Option Nat := none
  engFrac : Nat := 0
  deriving DecidableEq, Repr

/-- The registers that a TAP instruction puts between TDI and TDO (R458). -/
inductive TapReg where
  | idcode | boundary | debug | bypass
  deriving DecidableEq, Repr

/-- The test access port: instruction, register in circuit, what the balls carry, the 72-bit DEBUG register. -/
structure TapS where
  ir : Nat := 1
  sel : TapReg := .idcode
  boundary : List Bool := []
  driving : Bool := false
  acTest : Bool := false
  highZ : Bool := false
  debug : Nat := 0
  deriving DecidableEq, Repr

/-- Rails, pins and the reset that two-step turn-off extends (R474 to R481): which of VDD_CORE, VDD_SRAM, VDD_SER, VDD_ANA,
VDD_PLL and VDD_IO are good, and the elapsed time at which each became so, the TEST balls, whether RESET_N is high, whether XIN oscillates;
the levels of AIN000 to AIN127, of the 96 FB pins (H of leg l is 2l, L is 2l + 1) and of the 48 NODE pins in units of 2.5 V / 1,024,000 (R121, R122, R282, R283),
which DESAT pins are high (R271) and whether EXT_TRIP_N is low (R133). -/
structure PinS where
  rails : Tbl Bool := []
  goodAt : Tbl Nat := []
  resetN : Bool := false
  test : Nat := 0
  xin : Bool := false
  extended : Bool := false
  ain : Tbl Nat := []
  fb : Tbl Nat := []
  node : Tbl Nat := []
  desat : Tbl Bool := []
  extTrip : Bool := false
  los : Tbl Bool := []
  deriving DecidableEq, Repr

/-- The whole block. -/
structure State where
  regs : Tbl Word := []
  ram : List Host.Cell := []
  boot : BootS := { }
  sess : SessS := { }
  clk : ClkS := { }
  acq : AcqS := { }
  win : WinS := { }
  evr : EvrS := { }
  frm : FrmS := { }
  eng : EngS := { }
  grd : GrdS := { }
  mod : ModS := { }
  gtp : GtpS := { }
  mtr : MtrS := { }
  seq : SeqS := { }
  gov : GovS := { }
  fab : FabS := { }
  twn : TwnS := { }
  can : CansS := { }
  aon : AonS := { }
  obs : ObsS := { }
  tap : TapS := { }
  pins : PinS := { }
  answers : Tbl Answer := []
  freeCtr : Nat := 0
  pending : List Instr := []
  deriving DecidableEq, Repr

/-- Right after reset: every register at the value of its table (R9), the engine stores and byte memories unlisted, every
queue and table empty, the device waiting for the reset release (R474). Values the spec does not give are zero (assumption
log, entry 4). -/
def State.reset : State := { }

end Sys2Proof.Machine
end

