-- ==== Sys2Proof/Machine/Ops.lean ====
section
/-!
DEFINITION. The named operations over State: register words and fields, byte memories, queues, event sources, counters.
-/

namespace Sys2Proof.Machine

/-- What a command answers. -/
abbrev Out := Host.Outcome State Fault Refusal

/-- A command whose enabling condition `c` holds takes `t`; one whose condition does not hold is no event of the block
and changes nothing (DESIGN CHOICE, log entry 6). -/
def when (c : Bool) (s t : State) : Out := .next (if c then t else s)

/-- Take `t` if `c` holds. -/
def ite' (c : Bool) (s t : State) : State := if c then t else s

/-! ### Bit fields -/

/-- The value of a field in a word. -/
def Fld.of (f : Fld) (w : Word) : Nat := (w.extractLsb' f.lo f.w).toNat

/-- The bits of a field. -/
def Fld.mask (f : Fld) : Word := (BitVec.allOnes f.w).setWidth 32 <<< f.lo

/-- A word with one field replaced; the value is taken modulo the field's width. -/
def Fld.ins (f : Fld) (w : Word) (n : Nat) : Word :=
  (w &&& ~~~ f.mask) ||| ((BitVec.ofNat f.w n).setWidth 32 <<< f.lo)

/-- A number of `w` bits read as two's complement. -/
def signed (w n : Nat) : Int := (BitVec.ofNat w n).toInt

/-- The two's complement of `i` in `w` bits. -/
def unsigned (w : Nat) (i : Int) : Nat := (BitVec.ofInt w i).toNat

/-! ### Register words -/

/-- A register or store word. -/
def State.word (s : State) (a : Nat) : Word := mget regReset s.regs a

/-- Write a register or store word. -/
def State.setWord (s : State) (a : Nat) (w : Word) : State := { s with regs := mput regReset s.regs a w }

/-- A field's value. -/
def State.get (s : State) (f : Fld) : Nat := f.of (s.word f.addr)

/-- Whether a field is not zero. -/
def State.on (s : State) (f : Fld) : Bool := s.get f != 0

/-- A field as two's complement. -/
def State.getI (s : State) (f : Fld) : Int := signed f.w (s.get f)

/-- Set a field. -/
def State.put (s : State) (f : Fld) (n : Nat) : State := s.setWord f.addr (f.ins (s.word f.addr) n)

/-- Set a flag. -/
def State.putB (s : State) (f : Fld) (b : Bool) : State := s.put f b.toNat

/-- Set a field from a signed value, in two's complement. -/
def State.putI (s : State) (f : Fld) (i : Int) : State := s.put f (unsigned f.w i)

/-- Add to a counter that saturates at its largest value. -/
def State.bumpBy (s : State) (f : Fld) (n : Nat) : State := s.put f (min (s.get f + n) (2 ^ f.w - 1))

/-- Count one in a saturating counter. -/
def State.bump (s : State) (f : Fld) : State := s.bumpBy f 1

/-- Count one in a counter that wraps. -/
def State.bumpWrap (s : State) (f : Fld) : State := s.put f (s.get f + 1)

/-- Two words as one value, low word first. -/
def State.word64 (s : State) (a : Nat) : Nat := (s.word a).toNat + 2 ^ 32 * (s.word (a + 4)).toNat

/-- Write two words, low word first. -/
def State.setWord64 (s : State) (a n : Nat) : State :=
  (s.setWord a (BitVec.ofNat 32 n)).setWord (a + 4) (BitVec.ofNat 32 (n / 2 ^ 32))

/-- Write a list of words from an address upwards. -/
def State.setWords (s : State) (a : Nat) : List Word → State
  | [] => s
  | w :: r => State.setWords (s.setWord a w) (a + 4) r

/-- Read `n` words from an address upwards. -/
def State.words (s : State) (a n : Nat) : List Word := (List.range n).map (fun k => s.word (a + 4 * k))

/-- The RW bits of a register word; every bit of a word outside the register table, such as the signal board's. -/
def rwMask (a : Nat) : Word :=
  match regFind a with
  | some h => BitVec.ofNat 32 h.wd.rw
  | none => BitVec.allOnes 32

/-- The bits that a glaze may write: RW and "RW by glaze" (R207, R357). -/
def glazeMask (a : Nat) : Word :=
  match regFind a with
  | some h => BitVec.ofNat 32 h.wd.rw ||| BitVec.ofNat 32 h.wd.gl
  | none => BitVec.allOnes 32

/-- Bits of `m` replaced in a word. -/
def maskIn (w v m : Word) : Word := (w &&& ~~~ m) ||| (v &&& m)

/-! ### Byte memories -/

/-- What an unlisted byte reads as (DESIGN CHOICE, log entry 4). -/
def byteReset (_ : Nat) : Byte := 0

/-- The byte memory's canonical form. -/
def Memory.wf (m : List Host.Cell) : Bool := mwf byteReset m

/-- Read one byte. -/
def State.byte (s : State) (a : Nat) : Byte := mget byteReset s.ram a

/-- Write one byte. -/
def State.setByte (s : State) (a : Nat) (b : Byte) : State := { s with ram := mput byteReset s.ram a b }

/-- Read `n` bytes from an address upwards. -/
def State.bytes (s : State) (a n : Nat) : List Byte := (List.range n).map (fun k => s.byte (a + k))

/-- Write bytes from an address upwards. -/
def State.setBytes (s : State) (a : Nat) : List Byte → State
  | [] => s
  | b :: r => State.setBytes (s.setByte a b) (a + 1) r

/-- A little-endian number of bytes (R9). -/
def leNat : List Byte → Nat
  | [] => 0
  | b :: r => b.toNat + 256 * leNat r

/-- `n` bytes of a number, little-endian (R9). -/
def leBytes : Nat → Nat → List Byte
  | 0, _ => []
  | k + 1, v => BitVec.ofNat 8 v :: leBytes k (v / 256)

/-- `n` bytes of a number, big-endian (keys, hashes and signatures, R45). -/
def beBytes (n v : Nat) : List Byte := (leBytes n v).reverse

/-- `n` bytes of `b` from offset `off`. -/
def slice (b : List Byte) (off n : Nat) : List Byte := (b.drop off).take n

/-- A little-endian number of `n` bytes at offset `off`. -/
def leAt (b : List Byte) (off n : Nat) : Nat := leNat (slice b off n)

/-- The 32-bit words of a byte string, little-endian. -/
def leWords (b : List Byte) (n : Nat) : List Word := (List.range n).map (fun k => BitVec.ofNat 32 (leAt b (4 * k) 4))

/-! ### Free values -/

/-- A fresh free number (log entry 3). -/
def State.freshNat (s : State) : Nat := Config.freeNat s.freeCtr

/-- A fresh free yes or no. -/
def State.freshBool (s : State) : Bool := Config.freeBool s.freeCtr

/-- Use up the free value just read. -/
def State.burn (s : State) : State := { s with freeCtr := s.freeCtr + 1 }

/-! ### Event sources (R39, R139) -/

/-- The rising edges of the sources if source `n` is asserted now (R417). -/
def EvrS.rise (e : EvrS) (n : Nat) : Tbl Nat := if tbit e.level n then e.rises else tset e.rises n (tnum e.rises n + 1)

/-- Raise a source for one cycle; it is held until the router samples it. -/
def State.raise (s : State) (n : Nat) : State :=
  { s with evr := { s.evr with pulse := tset s.evr.pulse n true, rises := s.evr.rise n } }

/-- Raise a source if `c`. -/
def State.raiseIf (s : State) (c : Bool) (n : Nat) : State := ite' c s (s.raise n)

/-- Drive a source's level; an assertion is held until the router samples it. -/
def State.drive (s : State) (n : Nat) (b : Bool) : State :=
  let e := s.evr
  let rises := if b then e.rise n else e.rises
  { s with evr := { e with level := tset e.level n b, pulse := tset e.pulse n (b || tbit e.pulse n), rises := rises } }

/-- A destination's level. -/
def State.dst (s : State) (d : Nat) : Bool := tbit s.evr.dst d

/-! ### Performance counters (R443 to R445) -/

/-- Whether counter `n` counts event `code` with argument `arg` on context `ctx` (R444: the filter restricts codes 0x00 and 0x08
to 0x2F; ENG cycles themselves, code 0x00 with no context, count for no filter). -/
def State.counts (s : State) (n code arg ctx : Nat) : Bool :=
  s.on (R.OBS_CNT_CFG_en n) && s.get (R.OBS_CNT_CFG_event n) == code && !(s.on (R.OBS_CNT_CFG_chain n) && n % 2 == 1)
  && (!(code == 0xC0 || code == 0xC1) || s.get (R.OBS_CNT_CFG_arg n) == arg)
  && (!(8 ≤ code && code < 0x30) || s.get (R.OBS_CNT_CFG_ctx n) == 0 || s.get (R.OBS_CNT_CFG_ctx n) == ctx)
  && (code != 0 || s.get (R.OBS_CNT_CFG_ctx n) == ctx)

/-- Add `k` to live counter `n`, modulo 2^48, setting its ovf bit and carrying into a chained odd counter (R443, R445). -/
def ObsS.addCnt (o : ObsS) (n k : Nat) (chained : Bool) : ObsS :=
  let v := tnum o.cnt n + k
  let o1 := { o with cnt := tset o.cnt n (v % 2 ^ 48) }
  if v < 2 ^ 48 then o1
  else
    let o2 := { o1 with ovf := tset o1.ovf n true }
    if chained then
      let c := tnum o2.cnt (n + 1) + v / 2 ^ 48
      { o2 with cnt := tset o2.cnt (n + 1) (c % 2 ^ 48), ovf := tset o2.ovf (n + 1) (2 ^ 48 ≤ c || tbit o2.ovf (n + 1)) }
    else o2

/-- Count event `code` (argument `arg`, context `ctx`) `k` times, while the counters run. -/
def State.countFor (s : State) (code arg ctx k : Nat) : State :=
  if s.on R.OBS_CTL_cnt_run then
    { s with obs := forUpTo 64 (fun n o =>
        if s.counts n code arg ctx then
          o.addCnt n k (n % 2 == 0 && s.on (R.OBS_CNT_CFG_chain (n + 1)) && s.on (R.OBS_CNT_CFG_en (n + 1)))
        else o) s.obs }
  else s

/-- Count event `code` once. -/
def State.count (s : State) (code : Nat) : State := s.countFor code 0 0 1

/-- Count event `code` `k` times. -/
def State.countN (s : State) (code k : Nat) : State := s.countFor code 0 0 k

/-! ### Queues (R14) -/

/-- Whether a queue of depth `d` has room. -/
def hasRoom {α : Type} (q : List α) (d : Nat) : Bool := q.length < d

/-- The last answer on a link. -/
def State.answer (s : State) (link : Nat) (a : Answer) : State := { s with answers := tset s.answers link a }

/-! ### The running image -/

/-- Whether the device is past SAFE-ready with an image (R64). -/
def State.live (s : State) : Bool := s.boot.stage == .running

/-- Whether the device runs in SAFE without an image (R67). -/
def State.bare (s : State) : Bool := s.boot.stage == .noImage

end Sys2Proof.Machine
end

