-- ==== Sys2Proof/Machine/GlazeView.lean ====
section
/-!
DEFINITION. How a composition that waits to swap is seen, source by source (R29, R340, R397).
-/

namespace Sys2Proof.Machine

/-- Whether the device runs as half of a pair (R391). -/
def State.paired (s : State) : Bool := s.get R.TWN_STATUS_state == 3

/-- Whether the leader's go lets the composition swap: at least 4 µs after it, which is 32,000 units of plant time; a
single device needs none (R397). -/
def State.goPassed (s : State) (c : CompS) : Bool :=
  !s.paired || (match c.goAt with
    | some t => decide (t + 32000 ≤ s.clk.plantTime)
    | none => false)

/-- The complete composition that source `f` swaps at a latch now, if any (R340). -/
def State.swapsAt (s : State) (f : Nat) : Option CompS :=
  match s.seq.comp with
  | some c => if c.applied && c.sources.contains f && !c.swapped.contains f && s.goPassed c then some c else none
  | none => none

/-- Whether some glaze of the image patches word `a`, which then has no other writer (R337). -/
def State.glazed (s : State) (a : Nat) : Bool := s.seq.glazes.any (fun g => g.2.any (fun p => p.addr == a))

/-- Whether word `a` belongs to source `f`'s part of a glaze (R338). -/
def State.wordOf (s : State) (a f : Nat) : Bool := tnum s.seq.wordMask a / 2 ^ f % 2 = 1

/-- Word `a` as contexts of source `f` see it: the old value while `f` has not swapped it (R29). -/
def State.wordFor (s : State) (f a : Nat) : Word :=
  match s.seq.comp with
  | some c => if c.swapped.contains f then s.word a else tget c.old a (s.word a)
  | none => s.word a

/-- A field as contexts of source `f` see it. -/
def State.getFor (s : State) (f : Nat) (x : Fld) : Nat := x.of (s.wordFor f x.addr)

end Sys2Proof.Machine
end

