-- ==== Sys2Proof/Machine/Acq.lean ====
section
/-!
DEFINITION. Acquisition: converters, sequences, result registers, frame records, pair checks, retirement, urgent
conversions (chapter Acquisition, R96 to R120).
-/

namespace Sys2Proof.Machine

/-- The nearest code to 65,536 × `dv` ÷ `vref`, clamped to 0 to 65,535: what a converter makes of a channel that stands `dv` above
AGND_S, with VREFP at `vref` in the same unit (R97). Which neighbour a tie takes is free (log entry 3). -/
def adcCode (dv : Int) (vref : Nat) : Nat :=
  let n := 2 * 65536 * dv + vref
  let d : Int := 2 * vref
  let q := if n % d = 0 && !Config.roundUp 97 dv vref then n / d - 1 else n / d
  (max 0 (min 65535 q)).toNat

/-- The level of channel `code` of pair `p`: the pin AIN(16p + code), or the level `v` at which the surroundings hold an internal
channel (R96, R98). -/
def State.channelLevel (s : State) (p code : Nat) (v : Int) : Int := if code < 16 then (tnum s.pins.ain (16 * p + code) : Int) else v

/-- Converter `cv`. -/
def State.conv (s : State) (cv : Nat) : ConvS := tget s.acq.conv cv { }

/-- Replace converter `cv`. -/
def State.setConv (s : State) (cv : Nat) (c : ConvS) : State :=
  { s with acq := { s.acq with conv := tset s.acq.conv cv c } }

/-- The live result register of entry `e` of converter `cv` (R104). -/
def State.res (s : State) (cv e : Nat) : ResS := tget s.acq.res (32 * cv + e) { }

/-- Replace a live result register. -/
def State.setRes (s : State) (cv e : Nat) (r : ResS) : State :=
  { s with acq := { s.acq with res := tset s.acq.res (32 * cv + e) r } }

/-- What pair `p` wants its joint slot for. -/
def State.want (s : State) (p : Nat) : PairWant := tget s.acq.pair p .nothing

/-- Set what pair `p` wants. -/
def State.setWant (s : State) (p : Nat) (w : PairWant) : State :=
  { s with acq := { s.acq with pair := tset s.acq.pair p w } }

/-- The other converter of the pair (R96). -/
def partnerOf (cv : Nat) : Nat := if cv % 2 = 0 then cv + 1 else cv - 1

/-- Whether a channel code of pair `p` can be converted on A1 (R98). -/
def chanOk (p code : Nat) : Bool :=
  code ≤ 0x17 || (0x20 ≤ code && code ≤ 0x2B) || (0x30 ≤ code && code ≤ 0x3B && 12 * p + (code - 0x30) < 80)

/-- Whether a channel code may be used by an ordinary entry: AIN127 is taken while pair 7 checks (R114). -/
def State.entryOk (s : State) (cv code : Nat) : Bool :=
  chanOk (cv / 2) code && !(cv / 2 == 7 && code == 0x0F && s.on (R.ACQ_PAIR_CFG_chk_en 7))

/-- Whether converter `cv` is retired. -/
def State.retired (s : State) (cv : Nat) : Bool := s.on (R.ACQ_SEQ_CTL_retired cv)

/-- The table entry of converter `cv`'s slot under way: of its own table, or of its retired partner's (R112). -/
def State.current (s : State) (cv : Nat) : Option (Nat × Nat) := (s.conv cv).slot.map (fun t => (t, s.get (R.ACQ_SEQ_CTL_pos t)))

/-- The table of converter `cv`'s next slot after one of table `last`: its own and its retired partner's in turn, or the one of them
that runs (R112). -/
def State.nextTable (s : State) (cv : Nat) (last : Option Nat) : Option Nat :=
  let q := partnerOf cv
  let own := !(s.conv cv).stopped
  let host := s.retired q && !(s.conv q).stopped
  if s.retired cv then none
  else if host && (last == some cv || !own) then some q
  else if own then some cv
  else none

/-- ACQ_STATUS.running of converter `cv` recomputed. -/
def State.acqRunning (s : State) (cv : Nat) : State :=
  s.put ⟨R.ACQ_STATUS, cv, 1⟩ (s.current cv).isSome.toNat

/-- Converter `cv` begins a slot, its last one having been of table `last`. -/
def State.beginSlot (s : State) (cv : Nat) (last : Option Nat) : State :=
  (s.setConv cv { s.conv cv with slot := s.nextTable cv last }).acqRunning cv

/-- Converter `cv` begins a slot if it has none under way. -/
def State.wakeSlot (s : State) (cv : Nat) : State := ite' (s.conv cv).slot.isNone s (s.beginSlot cv none)

/-- Record a length of 33 to 63 (R100). -/
def State.badLen (s : State) (cv : Nat) : State := s.put ⟨R.ACQ_STATUS, 16 + cv, 1⟩ 1

/-- End a retirement: the converter runs its own table again, its partner its own alone (R113). -/
def State.unretire (s : State) (cv : Nat) : State :=
  let p := cv / 2
  let s1 := (s.putB (R.ACQ_SEQ_CTL_retired cv) false).putB (R.ACQ_SEQ_CTL_host (partnerOf cv)) false
  let s2 := if cv % 2 = 0 then s1.putB (R.ACQ_PAIR_STAT_retired_lo p) false else s1.putB (R.ACQ_PAIR_STAT_retired_hi p) false
  let s3 := (s2.setConv cv { s2.conv cv with restored := false, idle := false, discard := false }).beginSlot cv none
  ite' ((s3.conv (partnerOf cv)).slot == some cv) s3 (s3.beginSlot (partnerOf cv) (some cv))

/-- A pass of table `t` starts: the length field takes effect and a restored converter returns (R100, R113). -/
def State.passStart (s : State) (t : Nat) : State :=
  let len := s.get (R.ACQ_SEQ_CTL_len t)
  let s1 := s.put (R.ACQ_SEQ_CTL_pos t) 0
  let s2 := ite' (33 ≤ len) s1 (s1.badLen t)
  let s3 := s2.setConv t { s2.conv t with len := len, stopped := len = 0 || 33 ≤ len }
  let s4 := ite' ((s3.conv t).restored && s3.retired t) s3 (s3.unretire t)
  s4.wakeSlot (if s4.retired t then partnerOf t else t)

/-- Table `t` moves to its next entry; a length of 0 stops it at once (R99, R100). -/
def State.advanceTable (s : State) (t : Nat) : State :=
  let pos := s.get (R.ACQ_SEQ_CTL_pos t) + 1
  if s.get (R.ACQ_SEQ_CTL_len t) = 0 || (s.conv t).len ≤ pos then s.passStart t
  else s.put (R.ACQ_SEQ_CTL_pos t) pos

/-- The slot of converter `cv`, of table `t`, ends: the table advances and the turn passes to the other table (R112). -/
def State.endSlot (s : State) (cv t : Nat) : State :=
  let s1 := s.advanceTable t
  (s1.setConv cv { s1.conv cv with discard := false }).beginSlot cv (some t)

/-- One code added to a result register: at 16,777,215 sum and count stop (R104). -/
def ResS.add (r : ResS) (code : Nat) : ResS :=
  if r.count = 16777215 then { r with last := code } else ⟨code, r.count + 1, r.sum + code⟩

/-- Accumulate a completed conversion into entry (t, e) (R104). -/
def State.accumulate (s : State) (t e code : Nat) : State :=
  let r := (s.res t e).add code
  ite' (r.count = 16777215) (s.setRes t e r) ((s.setRes t e r).putB (R.ACQ_SEQ_CTL_cnt_sat t) true)

/-- Whether converter `cv` is converting an entry: the one of a conversion that a write has outdated, or the next that names a
usable channel. -/
def State.converting (s : State) (cv : Nat) : Bool :=
  let c := s.conv cv
  !c.idle && c.urgentOf.isNone && (c.discard || (match s.current cv with
    | some (t, e) => s.entryOk t (s.get (R.ACQ_SEQ_chan t e))
    | none => false))

/-- Whether converter `cv` gives up its next slot: to its pair's check or test (R110, R111, R113), or to a readback test of a
comparator of the pair on the even converter (R134). -/
def State.slotWanted (s : State) (cv : Nat) : Bool :=
  s.want (cv / 2) != .nothing
  || (match s.win.run with | some (.readback n) => cv == 2 * (n / 12) && s.win.outcome.isNone | _ => false)

/-- A slot of converter `cv` is over: it idles where its next slot is wanted, else that one begins (R110, R134). -/
def State.slotOver (s : State) (cv t : Nat) : State :=
  let s1 := s.endSlot cv t
  s1.setConv cv { s1.conv cv with idle := s1.slotWanted cv }

/-- CONVERSION_DONE (R97, R104): converter `cv` ends the conversion of its current entry, with AGND_S at `agnd` and VREFP at `vref`, and
an internal channel at `v`. An entry that was rewritten since its acquisition started updates nothing (R102). -/
def execConversionDone (cv : Nat) (v agnd : Int) (vref : Nat) (s : State) : Out :=
  match s.current cv with
  | none => .next s
  | some (t, e) =>
    let code := adcCode (s.channelLevel (cv / 2) (s.get (R.ACQ_SEQ_chan t e)) v - agnd) vref
    let s1 := ite' (!(s.conv cv).discard) s (s.accumulate t e code)
    when (s.live && cv < 16 && 0 < vref && s.converting cv) s (s1.slotOver cv t)

/-- Converter `cv` skips entries that name a reserved or unavailable channel, one per SYN_A cycle, of which `n` pass: each sets
bad_entry of its table, a retired partner's while that is converted (DESIGN CHOICE, log entry 27), and counts; where the converter's slot
is wanted it idles instead (R98, R110, R114). -/
def State.skipBad (s : State) (cv : Nat) : Nat → State
  | 0 => s
  | n + 1 =>
    match s.current cv with
    | none => s
    | some (t, e) =>
      if (s.conv cv).idle || s.entryOk t (s.get (R.ACQ_SEQ_chan t e)) then s
      else (((s.putB (R.ACQ_SEQ_CTL_bad_entry t) true).bump R.ACQ_ERR_CNT_skipped).slotOver cv t).skipBad cv n

/-- Each converter whose current entry names an unusable channel skips through `n` SYN_A cycles (R98). -/
def State.passSkips (s : State) (n : Nat) : State :=
  forUpTo 16 (fun cv t => ite' ((t.conv cv).urgentOf.isSome || (t.conv cv).discard) (t.skipBad cv n) t) s

/-- A write of an entry: a changed chan or acq restarts its accumulation, and a conversion of it in progress updates
nothing (R102). -/
def State.seqEntryWrite (s : State) (cv e : Nat) (w : Word) : State :=
  let changed := (R.ACQ_SEQ_chan cv e).of w != s.get (R.ACQ_SEQ_chan cv e) || (R.ACQ_SEQ_acq cv e).of w != s.get (R.ACQ_SEQ_acq cv e)
  let conv := if s.retired cv then partnerOf cv else cv
  let under := s.current conv == some (cv, e) && s.converting conv
  let s1 := s.setWord (R.ACQ_SEQ cv e) (w &&& 0x001FFFFF)
  if changed then
    let s2 := s1.setRes cv e { s1.res cv e with count := 0, sum := 0 }
    ite' under s2 (s2.setConv conv { s2.conv conv with discard := true })
  else s1

/-- SEQ_ENTRY_WRITE (R102), of an entry that no glaze patches (R337). -/
def execSeqEntryWrite (cv e : Nat) (w : Word) (s : State) : Out :=
  when (s.live && cv < 16 && e < 32 && !s.glazed (R.ACQ_SEQ cv e)) s (s.seqEntryWrite cv e w)

/-- A written length: 33 to 63 sets bad_len, and a stopped converter starts a pass (R100). -/
def State.seqLenWritten (s : State) (cv : Nat) : State :=
  let len := s.get (R.ACQ_SEQ_CTL_len cv)
  let s1 := ite' (33 ≤ len) s (s.badLen cv)
  ite' (s1.live && (s1.conv cv).stopped && 1 ≤ len && len ≤ 32) s1 (s1.passStart cv)

/-- 16 × sum ÷ count, rounded half to even (R107). -/
def mean16 (sum count : Nat) : Nat :=
  let q := 16 * sum / count
  let r := 16 * sum % count
  if count < 2 * r || (2 * r = count && q % 2 = 1) then q + 1 else q

/-- The frame record of entry (cv, e) (R107, ACQ_FB). -/
def State.frameRecord (s : State) (cv e : Nat) : Nat :=
  let r := s.res cv e
  let p := cv / 2
  let m := if r.count = 0 then 16 * r.last else mean16 r.sum r.count
  r.last + 2 ^ 16 * m + 2 ^ 36 * r.count + 2 ^ 60 * (decide (r.count = 0)).toNat
    + 2 ^ 61 * (s.retired (2 * p) || s.retired (2 * p + 1)).toNat
    + 2 ^ 62 * (decide (r.count = 16777215)).toNat + 2 ^ 63 * s.get (R.ACQ_PAIR_STAT_check_fail p)

/-- The entries bound to frame source `f`. A word that the register map does not list reads as zero, which binds
nothing, so the listed words of ACQ_SEQ are all that can be bound (R103). -/
def State.boundEntries (s : State) (f : Nat) : List (Nat × Nat) :=
  s.regs.filterMap (fun p =>
    if R.ACQ_SEQ 0 0 ≤ p.1 && p.1 < R.ACQ_SEQ 16 0 && (R.ACQ_SEQ_bind 0 0).of p.2 == 1 && (R.ACQ_SEQ_fsrc 0 0).of p.2 == f then
      some ((p.1 - R.ACQ_SEQ 0 0) / 0x80, (p.1 - R.ACQ_SEQ 0 0) % 0x80 / 4)
    else none)

/-- RECORD_FORMATION: every entry bound to `f` forms its record, and its sum and count restart (R105). -/
def State.formRecords (s : State) (f : Nat) : State :=
  (s.boundEntries f).foldl (fun t ce =>
    (t.setWord64 (R.ACQ_FB ce.1 ce.2) (t.frameRecord ce.1 ce.2)).setRes ce.1 ce.2
      { t.res ce.1 ce.2 with count := 0, sum := 0 }) s

/-- Both converters of pair `p` return to their sequences. -/
def State.pairResume (s : State) (p : Nat) : State :=
  let s1 := s.setWant p .nothing
  let s2 := s1.setConv (2 * p) { s1.conv (2 * p) with idle := false }
  s2.setConv (2 * p + 1) { s2.conv (2 * p + 1) with idle := false }

/-- Whether a converter stands ready for a joint slot: idle (R110), or without a table that runs. -/
def State.joint (s : State) (cv : Nat) : Bool :=
  let c := s.conv cv
  (c.idle || (c.slot.isNone && !c.discard)) && c.urgentOf.isNone

/-- The channel that pair `p` checks: AIN127 on pair 7 (R110, R114). -/
def State.checkChan (s : State) (p : Nat) : Nat := if p = 7 then 0x0F else s.get (R.ACQ_PAIR_CFG_chk_src p)

/-- Whether a converter of pair `p` is stopped or retired, so that its check is not run (R113). -/
def State.pairOut (s : State) (p : Nat) : Bool :=
  (s.conv (2 * p)).stopped || (s.conv (2 * p + 1)).stopped || s.retired (2 * p) || s.retired (2 * p + 1)

/-- PAIR_CHECK_DUE (R110): the check is wanted, or skipped with chk_skip. -/
def execPairCheckDue (p : Nat) (s : State) : Out :=
  let unusable := !chanOk p (s.checkChan p)
  when (s.live && p < 8 && s.on (R.ACQ_PAIR_CFG_chk_en p)) s
    (if s.want p != .nothing || s.pairOut p || unusable then s.putB (R.ACQ_PAIR_STAT_chk_skip p) true else s.setWant p .check)

/-- PAIR_CHECK (R97, R110): both converters sample the check channel, an internal one standing at `v`, with AGND_S at `agnd` and VREFP at
`vref`; CV(2p) sees it off by `eLo` and CV(2p + 1) by `eHi`, and the two codes are compared. A check whose converter has stopped since
it fell due is not run (R113). -/
def execPairCheck (p : Nat) (v agnd eLo eHi : Int) (vref : Nat) (s : State) : Out :=
  let d := s.channelLevel p (s.checkChan p) v - agnd
  let lo := adcCode (d + eLo) vref
  let hi := adcCode (d + eHi) vref
  when (s.live && p < 8 && 0 < vref && s.want p == .check && (s.pairOut p || (s.joint (2 * p) && s.joint (2 * p + 1)))) s
    (if s.pairOut p then (s.putB (R.ACQ_PAIR_STAT_chk_skip p) true).pairResume p
    else if s.get (R.ACQ_PAIR_TOL_chk_tol p) < lo - hi + (hi - lo) then
      (s.bump (R.ACQ_PAIR_STAT_mismatches p)).setWant p .reference
    else ((s.put (R.ACQ_PAIR_STAT_last_outcome p) 0).putB (R.ACQ_PAIR_STAT_check_fail p) false).pairResume p)

/-- Whether a reference code lies outside 32,768 ± ref_tol (R111). -/
def State.refOut (s : State) (p code : Nat) : Bool :=
  let tol := s.get (R.ACQ_PAIR_TOL_ref_tol p)
  code + tol < 32768 || 32768 + tol < code

/-- RETIREMENT of a converter: its partner takes over its table in alternate slots (R112). -/
def State.retire (s : State) (cv : Nat) : State :=
  let p := cv / 2
  let s1 := (s.putB (R.ACQ_SEQ_CTL_retired cv) true).putB (R.ACQ_SEQ_CTL_host (partnerOf cv)) true
  let s2 := if cv % 2 = 0 then s1.putB (R.ACQ_PAIR_STAT_retired_lo p) true else s1.putB (R.ACQ_PAIR_STAT_retired_hi p) true
  let s3 := s2.setConv cv { s2.conv cv with restored := false, discard := false }
  let s4 := s3.setConv (partnerOf cv) { s3.conv (partnerOf cv) with discard := false }
  (s4.beginSlot cv none).beginSlot (partnerOf cv) none

/-- REFERENCE_TEST (R97, R111): the internal reference stood `dLo` above AGND_S for CV(2p) and `dHi` for CV(2p + 1); the outcome is recorded, source 384 + p is raised, and a named converter retires. -/
def execReferenceTest (p : Nat) (dLo dHi : Int) (vref : Nat) (s : State) : Out :=
  let oLo := s.refOut p (adcCode dLo vref)
  let oHi := s.refOut p (adcCode dHi vref)
  let s1 := (s.pairResume p).raise (384 + p)
  let failed (t : State) : State := t.putB (R.ACQ_PAIR_STAT_check_fail p) true
  let s2 :=
    if oLo && oHi then failed (s1.put (R.ACQ_PAIR_STAT_last_outcome p) 3)
    else if oLo || oHi then
      let s3 := s1.put (R.ACQ_PAIR_STAT_last_outcome p) 1
      if s.on (R.ACQ_PAIR_CFG_retire_en p) then s3.retire (if oLo then 2 * p else 2 * p + 1) else failed s3
    else failed (s1.put (R.ACQ_PAIR_STAT_last_outcome p) 2)
  when (s.live && p < 8 && 0 < vref && s.want p == .reference && s.joint (2 * p) && s.joint (2 * p + 1)) s s2

/-- A write of ACQ_PAIR_STAT.restore (R113). -/
def State.restoreRequest (s : State) (p : Nat) : State :=
  ite' (s.retired (2 * p) || s.retired (2 * p + 1)) s (s.setWant p .restore)

/-- RESTORE_REQUEST (R113). -/
def execRestoreRequest (p : Nat) (s : State) : Out := when (s.live && p < 8) s (s.restoreRequest p)

/-- RESTORE_TEST (R97, R113): the internal reference stood `dv` above AGND_S; a retired converter within ref_tol returns at its next
pass start. -/
def execRestoreTest (p : Nat) (dv : Int) (vref : Nat) (s : State) : Out :=
  let cv := if s.retired (2 * p) then 2 * p else 2 * p + 1
  let s1 := s.pairResume p
  let s2 :=
    if s.refOut p (adcCode dv vref) then s1
    else if (s1.conv cv).stopped then s1.unretire cv
    else s1.setConv cv { s1.conv cv with restored := true }
  when (s.live && p < 8 && 0 < vref && s.want p == .restore && s.retired cv && s.joint (partnerOf cv)) s s2

/-- A rising edge at destination 54 + cv reaches the converter's synchroniser (R115, R116). -/
def State.urgentEdge (s : State) (cv : Nat) : State := s.setConv cv { s.conv cv with requested := true }

/-- Converter `v` starts the urgent conversion of `cv`, aborting the one in progress or a check (R115, R117); a readback test
waits for the converter's next slot. -/
def State.startUrgent (s : State) (v cv : Nat) : State :=
  let c := s.conv v
  let s1 := s.setConv v { c with urgentOf := some cv, urgChan := s.get (R.ACQ_URG_CFG_chan cv), discard := false, idle := false }
  if c.idle && s.want (v / 2) != .nothing then
    let s2 := s1.bump R.ACQ_ERR_CNT_chk_abort
    ite' (s2.want (v / 2) == .reference) s2 (s2.setWant (v / 2) .check)
  else s1

/-- URGENT_REQUEST (R115, R117): start, hold one deep, merge, or turn away an unusable channel. DESIGN CHOICE (log entry 27): a converter
that serves its retired partner holds one request of each, and a held request's channel is judged when it arrives. -/
def execUrgentRequest (cv : Nat) (s : State) : Out :=
  let v := if s.retired cv then partnerOf cv else cv
  let s1 := s.setConv cv { s.conv cv with requested := false }
  let c := s1.conv v
  let held := if v = cv then c.heldOwn else c.heldHost
  let s2 :=
    if !chanOk (cv / 2) (s.get (R.ACQ_URG_CFG_chan cv)) then
      (s1.putB (R.ACQ_SEQ_CTL_bad_entry cv) true).bump R.ACQ_ERR_CNT_skipped
    else if c.urgentOf.isNone then s1.startUrgent v cv
    else if held then s1.bump R.ACQ_ERR_CNT_urg_merged
    else s1.setConv v (if v = cv then { c with heldOwn := true } else { c with heldHost := true })
  when (s.live && cv < 16 && (s.conv cv).requested) s s2

/-- Push an urgent result into Q29, or drop and count it (R118). -/
def State.pushQ29 (s : State) (r : UrgentResult) : State :=
  if hasRoom s.acq.q29 16 then { (s.count (0x80 + 29)) with acq := { s.acq with q29 := s.acq.q29 ++ [r] } }
  else (s.bump R.ACQ_ERR_CNT_q29_drop).count (0x60 + 29)

/-- The event router and the sequencer read Q29's oldest entry (R118), which has no other effect that a rule states. -/
def State.urgDrain (s : State) : State := { s with acq := { s.acq with q29 := s.acq.q29.drop 1 } }

/-- URGENT_DONE (R97, R115, R116, R117): converter `v` ends an urgent conversion, with AGND_S at `agnd` and VREFP at `vref`, and an internal
channel at `u`; a held request starts. -/
def execUrgentDone (v : Nat) (u agnd : Int) (vref : Nat) (s : State) : Out :=
  match (s.conv v).urgentOf with
  | none => .next s
  | some cv =>
    let c := s.conv v
    let next := if c.heldOwn then some v else if c.heldHost then some (partnerOf v) else none
    let chan := match next with | some w => s.get (R.ACQ_URG_CFG_chan w) | none => c.urgChan
    let code := adcCode (s.channelLevel (v / 2) c.urgChan u - agnd) vref
    let s1 := s.setConv v { c with
      urgentOf := next, urgChan := chan, heldOwn := false, heldHost := c.heldOwn && c.heldHost }
    let s2 := ((s1.put (R.ACQ_URG_code cv) code).putB (R.ACQ_URG_new cv) true).putB (R.ACQ_URG_by_partner cv) (v != cv)
    let s3 := (s2.bumpWrap (R.ACQ_URG_seq cv)).raise (392 + cv / 2)
    when (s.live && v < 16 && 0 < vref) s
      ((s3.pushQ29 ⟨cv, code, s3.get (R.ACQ_URG_seq cv)⟩).count 0xA6)

/-- A read of ACQ_RES word 0: copy to the shadow; an unbound entry restarts (R119, R109). -/
def State.resultSnapshot (s : State) (cv e : Nat) : State :=
  let r := s.res cv e
  let s1 := (s.put (R.ACQ_RES_last cv e) r.last).put (R.ACQ_RES_count cv e) r.count
  let s2 := (s1.put (R.ACQ_RES_sum_lo cv e) r.sum).put (R.ACQ_RES_sum_hi cv e) (r.sum / 2 ^ 32)
  ite' (!s.on (R.ACQ_SEQ_bind cv e)) s2 (s2.setRes cv e { r with count := 0, sum := 0 })

/-- The converters start at SAFE-ready (R64, R99). -/
def State.startConverters (s : State) : State := forUpTo 16 (fun cv t => t.passStart cv) s

end Sys2Proof.Machine
end

