-- ==== Sys2Proof/Machine/Num.lean ====
section
/-!
DEFINITION. Exact arithmetic and its roundings: shr_round and sat32 (R153), round half to even of a quotient (R107,
R159), CRC-4 (R278) and CRC-32 (R370), and the rounding to a neighbour that the spec does not fix (log entry 3).
-/

namespace Sys2Proof.Machine

/-- shr_round: drop `k` low bits, rounding half to even (R153). -/
def shrRound (v : Int) (k : Nat) : Int :=
  if k = 0 then v
  else
    let q := v / 2 ^ k
    let r := v - q * 2 ^ k
    let h : Int := 2 ^ (k - 1)
    if h < r || (r == h && q % 2 == 1) then q + 1 else q

/-- A quotient rounded half to even; the divisor is positive. -/
def divRound (v : Int) (d : Nat) : Int :=
  let q := v / d
  let r := v - q * d
  if (d : Int) < 2 * r || (2 * r == d && q % 2 == 1) then q + 1 else q

/-- The largest signal value. -/
def satMax : Int := 2147483647

/-- The smallest signal value. -/
def satMin : Int := -2147483648

/-- sat32 (R153). -/
def sat32 (v : Int) : Int := if satMax < v then satMax else if v < satMin then satMin else v

/-- Whether sat32 saturates. -/
def saturates (v : Int) : Bool := satMax < v || v < satMin

/-- A quotient of natural numbers rounded up. -/
def ceilDiv (n d : Nat) : Nat := (n + d - 1) / d

/-- A quotient whose rounding the spec does not state: one of the two neighbours, freely, and exact where it divides
(log entry 3). -/
def freeDiv (site : Nat) (n d : Int) : Int :=
  if d = 0 then Config.realFn site [n, d]
  else if n % d = 0 then n / d
  else if Config.roundUp site n d then n / d + 1 else n / d

/-- The integer square root by bits. -/
def isqrtAux : Nat → Nat → Nat → Nat
  | 0, _, r => r
  | b + 1, n, r =>
    let t := r + 2 ^ b
    isqrtAux b n (if t * t ≤ n then t else r)

/-- ⌊√n⌋ for n below 2^128. -/
def isqrt (n : Nat) : Nat := isqrtAux 64 n 0

/-- √n rounded to nearest; a half cannot occur. -/
def sqrtRound (n : Nat) : Nat :=
  let r := isqrt n
  if r * r + r < n then r + 1 else r

/-- The square root of the quotient n ÷ d whose rounding the spec does not state: exact where it can be, else one of the two
neighbours, freely (log entry 3). -/
def freeSqrt (site : Nat) (n d : Nat) : Nat :=
  let r := isqrt (n / d)
  if r * r * d = n then r else if Config.roundUp site n d then r + 1 else r

/-- One step of the CRC-4 register of R278. -/
def crc4Step (r : Nat) (b : Bool) : Nat :=
  let fb := (8 ≤ r) != b
  let t := 2 * r % 16
  if fb then t ^^^ 3 else t

/-- The CRC-4 register after the low `n` bits of `v`, most significant first (R278). -/
def crc4 : Nat → Nat → Nat → Nat
  | 0, _, r => r
  | n + 1, v, r => crc4 n v (crc4Step r (v / 2 ^ n % 2 = 1))

/-- One bit of the IEEE 802.3 frame check sequence, reflected (R370). -/
def crc32Bit (r : Nat) : Nat := if r % 2 = 1 then (r / 2) ^^^ 0xEDB88320 else r / 2

/-- The IEEE 802.3 frame check sequence of a byte string (R370). -/
def crc32 (b : List Byte) : Nat :=
  (b.foldl (fun r x => crc32Bit (crc32Bit (crc32Bit (crc32Bit (crc32Bit (crc32Bit (crc32Bit (crc32Bit (r ^^^ x.toNat))))))))) 0xFFFFFFFF)
    ^^^ 0xFFFFFFFF

end Sys2Proof.Machine
end

