-- ==== Sys2Proof/Machine/Time.lean ====
section
/-!
DEFINITION. Clock arithmetic: plan frequencies (R80, R81), picoseconds in fine steps (R266), times in MOD ticks, plant
time (R90, R365).
-/

namespace Sys2Proof.Machine

/-- The frequency of a reference in Hz: XIN 25 MHz, REFIN as the board feeds it, fabric UP 125 MHz (R80, R81). -/
def refHz (sel : Nat) : Nat := if sel = 0 then 25000000 else if sel = 1 then Config.refinHz else 125000000

/-- N × 2^20 of plan `i` (R81). -/
def State.planN (s : State) (i : Nat) : Nat := s.get (R.CLK_PLAN_n_int i) * 2 ^ 20 + s.get (R.CLK_PLAN_FRAC_n_frac i)

/-- SYN_M's reference divider (R81). -/
def State.rDivM (s : State) : Nat := s.get R.CLK_REF_SEL_r_div_m + 1

/-- The output frequency of MPLAN `i` as numerator and denominator in Hz (R81). -/
def State.planHz (s : State) (i : Nat) : Nat × Nat :=
  (refHz (s.get R.CLK_REF_SEL_ref_m) * s.planN i, s.rDivM * max 1 (s.get (R.CLK_PLAN_out_div i)) * 2 ^ 20)

/-- The MPLAN in force. -/
def State.mplan (s : State) : Nat := s.get R.CLK_STATUS_mplan

/-- k_i = ⌊2^48 × 128 × f_i ÷ 10^12⌋ (R266). -/
def State.psFactor (s : State) (i : Nat) : Nat :=
  let f := s.planHz i
  2 ^ 48 * 128 * f.1 / (f.2 * 10 ^ 12)

/-- `x` ps in fine steps at plan `i`, rounded up (R266). -/
def State.fineAt (s : State) (i x : Nat) : Nat := ceilDiv (x * s.psFactor i) (2 ^ 48)

/-- `x` ps in fine steps at the plan in force. -/
def State.fine (s : State) (x : Nat) : Nat := s.fineAt s.mplan x

/-- `ns` nanoseconds in MOD ticks at the plan in force, rounded up (R143, R284, R287). -/
def State.nsTicks (s : State) (ns : Nat) : Nat :=
  let f := s.planHz s.mplan
  ceilDiv (ns * f.1) (f.2 * 10 ^ 9)

/-- Whether the node is the root of a fabric or joined to one (R361, R362). -/
def State.inPlant (s : State) : Bool := s.on R.FAB_CFG_en && (s.on R.FAB_CFG_root || s.on R.FAB_STATUS_joined)

/-- Whether the device takes plant time from its leader: the follower of a pair, once pairing (R392). -/
def State.leaderTime (s : State) : Bool :=
  s.get R.TWN_CFG_role == 2 && (s.get R.TWN_STATUS_state == 2 || s.get R.TWN_STATUS_state == 3)

/-- Whether plant time counts from SYN_M: neither the root of a fabric, nor a joined node, nor a follower on its leader's time
(R361, R365, R392). -/
def State.standaloneTime (s : State) : Bool := !s.inPlant && !s.leaderTime

/-- Whether the fabric transmit clock of a root runs: its reference, XIN or with root_ref REFIN, is present (R365; log entry 18). -/
def State.rootClock (s : State) : Bool := s.get R.CLK_STATUS_ref_present / 2 ^ s.get R.FAB_CFG_root_ref % 2 == 1

end Sys2Proof.Machine
end

