-- ==== Sys2Proof/Machine/Retention.lean ====
section
/-!
DEFINITION. The retention memory and the queues into the always-on domain (R424 to R433, tables Retention map, Checkpoint
slot, Event-log entry): queues Q06 and Q07, burst admission, header, log entries.
-/

namespace Sys2Proof.Machine

/-! ### Memory (R427) -/

/-- The retention memory's first byte in the window of R427. -/
def retBase : Nat := 0x0C004000

/-- Block `b`'s first byte. -/
def retBlock (b : Nat) : Nat := retBase + 4 * b

/-- A little-endian number of `n` bytes at a block. -/
def State.retNum (s : State) (b n : Nat) : Nat := leNat (s.bytes (retBlock b) n)

/-- Write `n` bytes of a number at a block. -/
def State.setRet (s : State) (b n v : Nat) : State := s.setBytes (retBlock b) (leBytes n v)

/-- Bits [hi:lo] of block 3. -/
def State.retLog (s : State) (lo w : Nat) : Nat := s.retNum 3 4 / 2 ^ lo % 2 ^ w

/-- Rewrite the header's CRC over blocks 0 to 4. -/
def State.retCrc (s : State) : State := s.setRet 5 4 (crc32 (s.bytes retBase 20))

/-- Write block 3 from its fields, and the CRC. -/
def State.setRetLog (s : State) (head count thead tcount : Nat) : State :=
  (s.setRet 3 4 (head % 512 + 2 ^ 9 * count + 2 ^ 19 * (thead % 32) + 2 ^ 24 * tcount)).retCrc

/-- Whether the header is valid (R429). -/
def State.retValid (s : State) : Bool :=
  s.retNum 0 4 == leNat [0x54, 0x47, 0x41, 0x4F] && s.retNum 5 4 == crc32 (s.bytes retBase 20)

/-- The boot counter, block 2 (R63, R427). -/
def State.bootCount (s : State) : Nat := s.retNum 2 4

/-- BOOT_COUNTER_INCREMENT (R63): it saturates. -/
def State.bootCountUp (s : State) : State := (s.setRet 2 4 (min (s.bootCount + 1) (2 ^ 32 - 1))).retCrc

/-! ### Queues (R430, R431) -/

/-- A checkpoint enters Q06; a full queue counts it as skipped (R430). -/
def State.q06Push (s : State) (b : List Byte) : State :=
  if hasRoom s.aon.q06 16 then { s with aon := { s.aon with q06 := s.aon.q06 ++ [b] } }.count (0x80 + 6)
  else (s.bump R.AON_ERR_CNT_ckpt_skip).count (0x60 + 6)

/-- A record of kind `kind` enters Q07; a full queue drops it (R431). The payload is padded to 16 bytes. -/
def State.logPush (s : State) (kind : Nat) (p : List Byte) : State :=
  if hasRoom s.aon.q07 16 then
    { s with aon := { s.aon with q07 := s.aon.q07 ++ [(kind, (p ++ List.replicate 16 0).take 16)] } }.count (0x80 + 7)
  else (s.bump R.AON_ERR_CNT_log_drop).count (0x60 + 7)

/-! ### Bursts (R424 to R426) -/

/-- c_store in µF: 47 to 470. -/
def State.cStore (s : State) : Nat := min 470 (max 47 (s.get R.AON_CFG_c_store))

/-- reserve in µJ, at least 20. -/
def State.reserve (s : State) : Nat := max 20 (s.get R.AON_CFG_reserve)

/-- Whether the stored energy at VSTORE = `mv` is at least `nj` nanojoules: E = ½ C V² (R424). -/
def State.holds (s : State) (mv nj : Nat) : Bool := 2 * 1000 * nj ≤ s.cStore * mv * mv

/-- AON_LOW: the main supply is present and E is below the reserve plus 52 µJ (R426). -/
def State.aonLow (s : State) : State :=
  let low := s.aon.main && !s.holds (s.get R.AON_STATUS_vstore) (1000 * (s.reserve + 52))
  (s.putB R.AON_STATUS_low low).drive 506 low

/-- The payload of an AON record of code `code` (table Log payloads, kind 5). -/
def State.aonRecord (s : State) (code count : Nat) : List Byte :=
  leBytes 1 code ++ leBytes 1 (s.get R.AON_STATUS_src) ++ leBytes 2 (min count 65535) ++ leBytes 2 (s.get R.AON_STATUS_vstore)

/-- An admitted burst after refusals leaves a record of them (table Log payloads, kind 5 code 2). -/
def State.refusalRecord (s : State) : State :=
  let t := s.logPush 5 (s.aonRecord 2 s.aon.refusedSince)
  if s.aon.refusedSince = 0 then s else { t with aon := { t.aon with refusedSince := 0 } }

/-- The cost of a burst in nJ (table "Burst costs"): kind 0 a command of the first row, 1 a read of a single block, 2 of `n` blocks,
3 a commit. -/
def burstCost (kind n : Nat) : Nat := if kind = 0 then 4000 else if kind = 1 then 5500 else if kind = 2 then 4000 + 1500 * n else 3000

/-- VSTORE is measured: `v` mV, clamped at 4.1 V; the 12 bits of the register show up to 4,095 (R421, R424). Below 1.4 V the boost
charger stops (R422). -/
def State.measureStore (s : State) (v : Nat) : State :=
  let s1 := (s.put R.AON_STATUS_vstore (min 4095 (min 4100 v))).aonLow
  { s1 with aon := { s1.aon with boost := s1.aon.boost && 1400 ≤ v } }

/-- A burst of cost `nj` is requested with VSTORE measured at `v`: the state after, and whether it is admitted (R424,
R425). -/
def State.burst (s : State) (nj v : Nat) : State × Bool :=
  let mv := min 4100 v
  let s1 := s.measureStore v
  if s1.aon.main || s1.holds mv (nj + 1000 * s1.reserve) then (s1.refusalRecord, true)
  else if s1.on R.AON_CFG_cell_burst && 2500 ≤ s1.aon.vcell then ((s1.bump R.AON_ERR_CNT_cell_bursts).refusalRecord, true)
  else
    let s2 := s1.bump R.AON_ERR_CNT_refused
    ({ s2 with aon := { s2.aon with refusedSince := s2.aon.refusedSince + 1 } }, false)

/-! ### Log entries (R433, R436) -/

/-- One bit of CRC-8 with polynomial x⁸ + x² + x + 1. -/
def crc8Bit (r : Nat) : Nat := if 128 ≤ r then (2 * r % 256) ^^^ 7 else 2 * r

/-- The CRC-8 of a byte string from 0xFF (table Event-log entry). -/
def crc8 (b : List Byte) : Nat :=
  b.foldl (fun r x => crc8Bit (crc8Bit (crc8Bit (crc8Bit (crc8Bit (crc8Bit (crc8Bit (crc8Bit (r ^^^ x.toNat))))))))) 255

/-- The sub-second with rtc_valid in bit 15. -/
def State.subStamp (s : State) : Nat := s.aon.sub % 32768 + (if s.on R.AON_STATUS_rtc_valid then 32768 else 0)

/-- The 24 bytes of an event-log entry (R433). -/
def State.logEntry (s : State) (kind : Nat) (p : List Byte) : List Byte :=
  let h := leBytes 4 (s.get R.AON_RTC_seconds) ++ leBytes 2 s.subStamp ++ leBytes 1 kind
  h ++ leBytes 1 (crc8 (h ++ p)) ++ p

/-- Write an entry at log_head; a full ring overwrites its oldest (R433). -/
def State.logWrite (s : State) (kind : Nat) (p : List Byte) : State :=
  let head := s.retLog 0 9
  let s1 := s.setBytes (retBlock (1024 + 6 * head)) (s.logEntry kind p)
  let s2 := s1.setRet 4 4 (s.retNum 4 4 + 1)
  s2.setRetLog (head + 1) (min 512 (s.retLog 9 10 + 1)) (s.retLog 19 5) (s.retLog 24 6)

/-- Write the tamper entry of `mask` and post its log record (R436). -/
def State.tamperWrite (s : State) (mask : Nat) : State :=
  let head := s.retLog 19 5
  let tail := leBytes 2 s.subStamp ++ leBytes 1 mask ++ leBytes 1 (s.get R.AON_STATUS_src) ++ leBytes 4 (s.retNum 2 4)
    ++ leBytes 4 (s.aon.tampers + 1)
  let s1 := s.setBytes (retBlock (144 + 4 * head)) (leBytes 4 (s.get R.AON_RTC_seconds) ++ tail)
  let s2 := { s1 with aon := { s1.aon with tampers := s1.aon.tampers + 1 } }
  (s2.setRetLog (s.retLog 0 9) (s.retLog 9 10) (head + 1) (min 32 (s.retLog 24 6 + 1))).logPush 4 (tail.take 12)

end Sys2Proof.Machine
end

