-- ==== Sys2Proof/Machine/Gate.lean ====
section
/-!
DEFINITION. Gate ports, protection domains and choppers as shared operations: effective enable, two-step turn-off, leg
faults, domain trips, UVLO response, chopper latches (chapter Gate Ports, R271 to R305; R128 to R131, R393).
-/

namespace Sys2Proof.Machine

/-- Leg `l` of the gate-port block. -/
def State.gleg (s : State) (l : Nat) : GateLeg := tget s.gtp.legs l { }

/-- Replace leg `l`. -/
def State.setGleg (s : State) (l : Nat) (g : GateLeg) : State :=
  { s with gtp := { s.gtp with legs := tset s.gtp.legs l g } }

/-- Leg `l` of the modulator. -/
def State.mleg (s : State) (l : Nat) : ModLeg := tget s.mod.legs l { }

/-- Replace modulator leg `l`. -/
def State.setMleg (s : State) (l : Nat) (m : ModLeg) : State :=
  { s with mod := { s.mod with legs := tset s.mod.legs l m } }

/-- Carrier group `g`. -/
def State.group (s : State) (g : Nat) : GroupS := tget s.mod.groups g { }

/-- Replace carrier group `g`. -/
def State.setGroup (s : State) (g : Nat) (v : GroupS) : State :=
  { s with mod := { s.mod with groups := tset s.mod.groups g v } }

/-! ### Effective enable and pins (R272 to R275) -/

/-- The domain of leg `l`, 4 for none. -/
def State.legDomain (s : State) (l : Nat) : Nat := s.get (R.GTP_LEG_CFG_pd l)

/-- Whether the leg's domain is tripped (R303). -/
def State.domainTripped (s : State) (l : Nat) : Bool :=
  let d := s.legDomain l
  d < 4 && s.on (R.WIN_PD_tripped d)

/-- Whether the leg's domain has armed; START enables no gate port of a domain that has not (R128). -/
def State.domainArmed (s : State) (l : Nat) : Bool :=
  let d := s.legDomain l
  4 ≤ d || s.on (R.WIN_PD_armed d)

/-- R274 for the H port (`h`) or the L port of leg `l`; in START, mode 1, the leg's domain must have armed too (R128). -/
def State.effective (s : State) (l : Nat) (h : Bool) : Bool :=
  let g := s.gleg l
  s.on R.GTP_STATUS_outputs_on && (if h then s.on (R.GTP_LEG_CFG_en_h l) else s.on (R.GTP_LEG_CFG_en_l l))
  && !s.on (R.GTP_LEG_CFG_bypass l) && !g.safeHeld && !s.on (R.GTP_LEG_STAT_fault l) && !s.on (R.GTP_LEG_STAT_in_soft l)
  && !s.domainTripped l && (s.get R.SEQ_STATUS_mode != 1 || s.domainArmed l) && !(if h then g.lockH else g.lockL)

/-- Whether MOD_SPLIT applies to leg `l` (R255). -/
def State.splitApplies (s : State) (l : Nat) : Bool :=
  (s.group (s.get (R.MOD_LEG_CFG_cg l))).split && s.on (R.MOD_LEG_CFG_mod_evt l)

/-- The composite source's level (R290). -/
def State.composite (s : State) (l : Nat) : Bool :=
  s.on (R.GTP_LEG_STAT_fault l) || s.on (R.GTP_LEG_STAT_lockout l) || s.splitApplies l
  || (s.on (R.GTP_LEG_LINK_ot l) && s.on (R.GTP_LEG_CFG_ot_evt l) && !s.on (R.GTP_LEG_CFG_bypass l))

/-- Drive the composite source if its level changed (R290). -/
def State.driveComposite (s : State) (l : Nat) : State :=
  ite' (tbit s.evr.level (336 + l) != s.composite l) s (s.drive (336 + l) (s.composite l))

/-- Whether DESAT passes the leg's blanking gate (R284, R304). -/
def State.desatPasses (s : State) (l : Nat) : Bool :=
  tbit s.pins.desat l && !(s.gleg l).gateClosed && !s.on (R.GTP_LEG_CFG_bypass l)

/-- The source 192 + l falls with the output of leg `l`'s blanking gate (R284, R304). -/
def State.desatFalls (s : State) (l : Nat) : State :=
  ite' (tbit s.evr.level (192 + l) && !s.desatPasses l) s (s.drive (192 + l) false)

/-- Recompute what follows from the enable conditions of leg `l`: eff_h, eff_l, domain_held, the pins of ports that lost
their enable, and the composite source. A port that loses its enable outside two-step turn-off turns off at once; one
that gains it waits for its first rising edge; the watchdog of a port whose pin falls is disarmed (R274, R275, R285, R287). -/
def State.refreshLeg (s : State) (l : Nat) : State :=
  let eH := s.effective l true
  let eL := s.effective l false
  let soft := s.on (R.GTP_LEG_STAT_in_soft l)
  let g := s.gleg l
  let s1 := ((s.putB (R.GTP_LEG_STAT_eff_h l) eH).putB (R.GTP_LEG_STAT_eff_l l) eL).putB (R.GTP_LEG_STAT_domain_held l) (s.domainTripped l)
  let gh := if soft then g.gh else g.gh && eH && g.startedH
  let gl := if soft then g.gl else g.gl && eL && g.startedL
  let s2 := s1.setGleg l { g with
    startedH := g.startedH && eH, startedL := g.startedL && eL, gh := gh, gl := gl, wdH := g.wdH && (gh || !g.gh), wdL := g.wdL && (gl || !g.gl),
    gateClosed := g.gateClosed && (eH || eL) }
  (s2.driveComposite l).desatFalls l

/-! ### Choppers (R297 to R299) -/

/-- Whether trip assist of chopper `c` is active, for whichever domain (R298). -/
def State.assisted (s : State) (c : Nat) : Bool := (List.range 4).any (fun d => tbit s.gtp.assist (4 * c + d))

/-- Whether chopper `c` conducts (R298). -/
def State.chopOn (s : State) (c : Nat) : Bool :=
  s.live && s.on (R.GTP_CHOP_CFG_en c) && (tbit s.gtp.chopLatch c || s.dst (52 + c) || s.assisted c)

/-- Recompute the chopper's latch from its comparator, and its status and pin (R297, R298). -/
def State.refreshChop (s : State) (c : Nat) : State :=
  let n := s.get (R.GTP_CHOP_CFG_wc c)
  let q := tget s.win.cmp n { }
  let hi := n < 96 && s.on (R.WIN_STATUS_raw_hi n) && !q.hiUnres
  let lo := n < 96 && s.on (R.WIN_STATUS_raw_lo n) && !q.loUnres
  let latch := s.live && s.on (R.GTP_CHOP_CFG_en c) && (hi || (tbit s.gtp.chopLatch c && !lo))
  let s0 := { s with gtp := { s.gtp with chopLatch := tset s.gtp.chopLatch c latch } }
  let was := s0.on (R.GTP_CHOP_STAT_on c)
  let s1 := (s0.putB (R.GTP_CHOP_STAT_on c) (s0.chopOn c)).putB (R.GTP_CHOP_STAT_by_comp c) (tbit s0.gtp.chopLatch c)
  let s2 := (s1.putB (R.GTP_CHOP_STAT_by_route c) (s0.dst (52 + c))).putB (R.GTP_CHOP_STAT_by_trip c) (s0.assisted c)
  let s3 := ite' (s0.chopOn c && !was) s2 (s2.bump (R.GTP_CHOP_STAT_starts c))
  s3.put ⟨R.GTP_STATUS, 7 + c, 1⟩ (s0.chopOn c).toNat

/-- Both choppers. -/
def State.refreshChops (s : State) : State := (s.refreshChop 0).refreshChop 1

/-- Trip assist of domain `d` starts in every chopper that names it; that of a domain without legs ends chop_ext after it (R298). -/
def State.startAssist (s : State) (d : Nat) : State :=
  let one (c : Nat) (t : State) : State :=
    ite' (t.on (R.GTP_CHOP_CFG_en c) && t.get (R.GTP_CHOP_CFG_trip_assist c) / 2 ^ d % 2 = 1) t
      ({ t with gtp := { t.gtp with assist := tset t.gtp.assist (4 * c + d) true, assistEnding := tset t.gtp.assistEnding (4 * c + d) (t.get (R.GTP_PD_CFG_legs d) == 0) } }.refreshChop c)
  one 1 (one 0 s)

/-! ### Two-step turn-off (R291 to R295) -/

/-- Whether a leg of domain `d` is in step 1. -/
def State.domainSoft (s : State) (d : Nat) : Bool :=
  (List.range 48).any (fun l => s.legDomain l == d && s.on (R.GTP_LEG_STAT_in_soft l))

/-- The ring cycle of the present instant, 10 ns at the ring's nominal 100 MHz (R293; log entry 32). -/
def State.ringCycle (s : State) : Nat := s.clk.elapsed / 80

/-- Legs of domain `d` that entered step 1 in this ring cycle take the positions up to `last` in ascending leg number (R293). -/
def State.staggerOrder (s : State) (d last : Nat) : State :=
  let ls := (List.range 48).filter (fun l => s.legDomain l == d && s.on (R.GTP_LEG_STAT_in_soft l) && (s.gleg l).cycle == s.ringCycle)
  ls.zipIdx.foldl (fun t p => t.setGleg p.1 { t.gleg p.1 with position := last + 1 - ls.length + p.2 }) s

/-- Step 1 of leg `l`: GSOFT rises, the commands freeze, a stagger position is taken; a leg already in it keeps its
timing, and a bypassed leg holds GSOFT low (R291, R293, R295, R304). The blanking gate opens (R285). -/
def State.softStart (s : State) (l : Nat) : State :=
  if s.on (R.GTP_LEG_STAT_in_soft l) then s
  else
    let d := s.legDomain l
    let pos := if d < 4 then tnum s.gtp.nextPos d else 0
    let s1 := s.putB (R.GTP_LEG_STAT_in_soft l) true
    let s2 := { s1 with gtp := { s1.gtp with nextPos := if d < 4 then tset s1.gtp.nextPos d (pos + 1) else s1.gtp.nextPos } }
    let s3 := s2.setGleg l { s2.gleg l with
      gsoft := s2.on R.GTP_STATUS_outputs_on && !s2.on (R.GTP_LEG_CFG_bypass l), position := pos, cycle := s2.ringCycle, gateClosed := false, startedH := false, startedL := false }
    (ite' (d < 4) s3 ((s3.staggerOrder d pos).put ⟨R.GTP_STATUS, d, 1⟩ 1)).refreshLeg l

/-! ### Leg faults (R288 to R290, R302) -/

/-- LEG_FAULT: cause `c` of leg `l` (R288, R289). DEDUCED: the turn-off opens the blanking gate at once (R285), so a DESAT that
waited behind it coincides with `c`, and the lowest code is recorded. -/
def State.legFault (s : State) (l c : Nat) : State :=
  let s1 := s.put ⟨(R.GTP_LEG_STAT_causes l).addr, 16 + c, 1⟩ 1
  if s1.on (R.GTP_LEG_STAT_fault l) then s1.setGleg l { s1.gleg l with seen := (s1.gleg l).seen ||| 2 ^ c }
  else
    let first := if !s1.desatPasses l && (s1.softStart l).desatPasses l then min c 1 else c
    let s2 := ((s1.putB (R.GTP_LEG_STAT_fault l) true).put (R.GTP_LEG_STAT_first_cause l) first).bump (R.GTP_LEG_CNT_faults l)
    let g := s2.gleg l
    let s3 := s2.setGleg l { g with seen := 2 ^ c, faultTimes := (s2.clk.elapsed :: g.faultTimes).take 15 }
    (s3.softStart l).refreshLeg l

/-! ### Protection domains (R128 to R130, R393) -/

/-- Send a cross-trip on every twin lane that is up (R393). -/
def State.crossTripSend (s : State) : State :=
  let m := (List.range 4).foldl (fun a d => if s.on (R.WIN_PD_tripped d) then a + 2 ^ d else a) 0
  ite' (s.get R.TWN_STATUS_lanes_up != 0) s { s with twn := { s.twn with crossSent := s.twn.crossSent + 1, crossMask := m } }

/-- DOMAIN_TRIP: the trip latch of domain `d` sets on cause `src`; nothing happens while it is disarmed (unless forced by
a matrix test) or already tripped. Its legs enter two-step turn-off in ascending order, trip assist starts, and a
domain of tx_pd sends a cross-trip (R128 to R130, R293, R298, R393). -/
def State.domainTrip (s : State) (d src : Nat) (viaRoute viaTwin forced : Bool) : State :=
  if !(s.on (R.WIN_PD_armed d) || forced) || s.on (R.WIN_PD_tripped d) then s
  else
    let s1 := ((s.putB (R.WIN_PD_tripped d) true).put (R.WIN_PD_first_src d) src).putB (R.WIN_PD_via_route d) viaRoute
    let s2 := (s1.putB (R.WIN_PD_via_twin d) viaTwin).bump (R.WIN_PD_trips d)
    let s3 := forUpTo 48 (fun l t => ite' (t.legDomain l == d) t ((t.softStart l).refreshLeg l)) s2
    let s4 := s3.startAssist d
    ite' (s4.get R.TWN_CFG_tx_pd / 2 ^ d % 2 = 1) s4 s4.crossTripSend

/-- A matrix input with domain mask `m` asserts: every armed domain of the mask trips (R131). -/
def State.matrixAssert (s : State) (m src : Nat) : State :=
  forUpTo 4 (fun d t => ite' (m / 2 ^ d % 2 = 1) t (t.domainTrip d src false false false)) s

/-- DESAT of leg `l` passes the gate: source 192 + l, the matrix and the leg fault. They act at once: the legs of the tripped domains
take their stagger positions in ascending order, this leg among them (R286, R293). -/
def State.desatPass (s : State) (l : Nat) : State :=
  (((s.drive (192 + l) true).matrixAssert (s.get (R.WIN_TRIP_DESAT_pd l)) (192 + l)).legFault l 1).refreshLeg l

/-- Two-step turn-off opens the blanking gate, so a DESAT that was waiting passes (R285). -/
def State.softStartOpen (s : State) (l : Nat) : State :=
  let s1 := s.softStart l
  ite' (!s.desatPasses l && s1.desatPasses l) s1 (s1.desatPass l)

/-- After a trip or fault, pass every DESAT whose gate has just opened. -/
def State.passOpened (s0 s : State) : State :=
  forUpTo 48 (fun l t => ite' (!s0.desatPasses l && t.desatPasses l && !tbit t.evr.level (192 + l)) t (t.desatPass l)) s

/-- The MOD clock stops: every blanking gate opens at once (R285). -/
def State.openGates (s : State) : State :=
  State.passOpened s (forUpTo 48 (fun l t => t.setGleg l { t.gleg l with gateClosed := false }) s)

/-! ### UVLO by phase (R280, R281, R300, R301) -/

/-- Whether the STAT flags of leg `l` count: link in use and leg not bypassed (R281, R304). -/
def State.statInUse (s : State) (l : Nat) : Bool := s.on (R.GTP_LEG_CFG_stat_en l) && !s.on (R.GTP_LEG_CFG_bypass l)

/-- uvlo_l as the leg acts on it (R280). -/
def State.actUvloL (s : State) (l : Nat) : Bool := s.statInUse l && (s.on (R.GTP_LEG_LINK_uvlo_l l) || s.on (R.GTP_LEG_STAT_stat_lost l))

/-- uvlo_h as the leg acts on it (R280). -/
def State.actUvloH (s : State) (l : Nat) : Bool := s.statInUse l && (s.on (R.GTP_LEG_LINK_uvlo_h l) || s.on (R.GTP_LEG_STAT_stat_lost l))

/-- boot_code below a threshold of the leg's bootstrap high side; 0 is off (R300). -/
def State.bootBelow (s : State) (l th : Nat) : Bool := s.statInUse l && th != 0 && s.get (R.GTP_LEG_LINK_boot_code l) < th

/-- UVLO_RESPONSE (R300, R301): recorded in SAFE, lock-out in the lock-out phase, leg fault in service: causes 3 to 5 by what the last
good frame says, 6 while STAT is lost (R288). -/
def State.uvloResponse (s : State) (l : Nat) : State :=
  let boot := s.on (R.GTP_LEG_CFG_h_supply l)
  let lost := s.statInUse l && s.on (R.GTP_LEG_STAT_stat_lost l)
  let bootUv := boot && (s.actUvloH l || s.bootBelow l (s.get (R.GTP_LEG_LIM_boot_uvlo l)))
  let bootLow := boot && s.bootBelow l (s.get (R.MOD_LEG_BOOT_boot_low l))
  let isoUv := !boot && s.actUvloH l
  let cls := s.get R.GTP_STATUS_mode_class
  if cls = 2 then
    let uh := s.statInUse l && s.on (R.GTP_LEG_LINK_uvlo_h l)
    let s1 := ite' (s.statInUse l && s.on (R.GTP_LEG_LINK_uvlo_l l)) s (s.legFault l 3)
    let s2 := ite' (!boot && uh) s1 (s1.legFault l 4)
    let s3 := ite' (boot && (uh || s.bootBelow l (s.get (R.GTP_LEG_LIM_boot_uvlo l)))) s2 (s2.legFault l 5)
    let s4 := ite' lost s3 (s3.legFault l 6)
    let g := s4.gleg l
    ((s4.setGleg l { g with lockH := false, lockL := false }).putB (R.GTP_LEG_STAT_lockout l) false).refreshLeg l
  else
    let both := cls = 1 && (s.actUvloL l || isoUv || lost)
    let hOnly := cls = 1 && (bootUv || bootLow)
    let g := s.gleg l
    let entered := (both || hOnly) && !(g.lockH || g.lockL)
    let held := (g.gh && (both || hOnly) && !g.lockH) || (g.gl && both && !g.lockL)
    let s1 := s.setGleg l { g with lockH := both || hOnly, lockL := both }
    let s2 := ite' entered (s1.putB (R.GTP_LEG_STAT_lockout l) (both || hOnly))
      ((s1.putB (R.GTP_LEG_STAT_lockout l) true).bump R.GTP_ERR_CNT_lockouts)
    (ite' held s2 (s2.softStartOpen l)).refreshLeg l

/-! ### Fault clearing (R288, R302) -/

/-- Whether cause `c` of leg `l` is gone (table "Leg-fault causes"). -/
def State.causeGone (s : State) (l c : Nat) : Bool :=
  if c = 1 then !tbit s.pins.desat l
  else if c = 2 then !s.on (R.GTP_LEG_STAT_in_soft l)
  else if c = 3 then !s.on (R.GTP_LEG_LINK_uvlo_l l)
  else if c = 4 then !s.on (R.GTP_LEG_LINK_uvlo_h l)
  else if c = 5 then !s.on (R.GTP_LEG_LINK_uvlo_h l) && s.get (R.GTP_LEG_LIM_boot_uvlo l) + 5 ≤ s.get (R.GTP_LEG_LINK_boot_code l)
  else if c = 6 then !s.on (R.GTP_LEG_STAT_stat_lost l)
  else if c = 7 then !s.on (R.GTP_LEG_LINK_desat_h l) && !s.on (R.GTP_LEG_LINK_desat_l l)
  else if c = 8 then !s.dst l
  else if c = 9 then !s.on (R.GTP_LEG_LINK_ot l)
  else true

/-- Whether the causes that the leg's present latch has seen are gone, whatever has become of the W1C bits of `causes` (R289,
R302). -/
def State.causesGone (s : State) (l : Nat) : Bool :=
  (List.range 10).all (fun c => (s.gleg l).seen / 2 ^ c % 2 = 0 || s.causeGone l c)

/-- FAULT_LATCH_CLEAR at a rising command edge of leg `l` (R302): the latch clears unless fault_limit settings fall in
fault_window, which locks it. -/
def State.faultClear (s : State) (l : Nat) : State :=
  if !s.on (R.GTP_LEG_STAT_fault l) || s.on (R.GTP_LEG_STAT_locked l) || s.on (R.GTP_LEG_STAT_in_soft l) || !s.causesGone l then s
  else
    let g := s.gleg l
    let limit := max 1 (s.get (R.GTP_LEG_CFG_fault_limit l))
    let window := max 1 (s.get (R.GTP_LEG_CFG_fault_window l)) * 8000000
    let recent := (g.faultTimes.filter (fun t => s.clk.elapsed - t ≤ window)).length
    if limit ≤ recent then s.putB (R.GTP_LEG_STAT_locked l) true
    else (s.putB (R.GTP_LEG_STAT_fault l) false).refreshLeg l

/-- Entry to RECOVER: locks clear and the recorded settings are discarded; the latches clear at the next edges (R302). -/
def State.recoverLegs (s : State) : State :=
  forUpTo 48 (fun l t => (t.putB (R.GTP_LEG_STAT_locked l) false).setGleg l { t.gleg l with faultTimes := [] }) s

/-! ### Turning a port on (R259, R275, R284) -/

/-- t_blank in MOD ticks: 100 to 3,200 ns in 25 ns steps, rounded up (R284). -/
def State.blankTicks (s : State) (l : Nat) : Nat := s.nsTicks (25 * max 4 (min (s.get (R.GTP_LEG_TIME_t_blank l)) 128))

/-- A port's command after dead time rises: its pin follows if the port is started, and the blanking gate closes for t_blank. In
two-step turn-off the edge is ignored (R275, R284, R291). -/
def State.portOn (s : State) (l : Nat) (h : Bool) : State :=
  let g := s.gleg l
  if s.on (R.GTP_LEG_STAT_in_soft l) then s.setGleg l (if h then { g with cmdH := true } else { g with cmdL := true })
  else
    let up := if h then g.startedH else g.startedL
    let b := if up then { g with gateClosed := true, blankUntil := s.clk.modTick + s.blankTicks l } else g
    (s.setGleg l (if h then { b with cmdH := true, gh := up } else { b with cmdL := true, gl := up })).desatFalls l

/-- A port's command falls: its pin follows at once unless frozen, and its node watchdog is disarmed (R257, R287, R291). -/
def State.portOff (s : State) (l : Nat) (h : Bool) : State :=
  let g := s.gleg l
  let soft := s.on (R.GTP_LEG_STAT_in_soft l)
  s.setGleg l (if h then { g with cmdH := false, gh := soft && g.gh, wdH := false }
    else { g with cmdL := false, gl := soft && g.gl, wdL := false })

/-! ### Safe state (R268, R269) -/

/-- SAFE_STATE: every leg with en = 1 goes through two-step turn-off and rests held (R268). -/
def State.safeState (s : State) : State :=
  let s1 := forUpTo 48 (fun l t =>
    ite' (t.on (R.MOD_LEG_CFG_en l)) t
      (let u := t.setGleg l { t.gleg l with safeHeld := true }
       (u.softStartOpen l).refreshLeg l)) s
  s1.putB R.MOD_STATUS_safe true

/-- The patches of a mode transition have reached leg `l`: it leaves the safe state if en_h or en_l enables a port (R269). -/
def State.leaveLeg (s : State) (l : Nat) : State :=
  let g := s.gleg l
  if g.exitSafe then
    (s.setGleg l { g with exitSafe := false, safeHeld := g.safeHeld && !(s.on (R.GTP_LEG_CFG_en_h l) || s.on (R.GTP_LEG_CFG_en_l l)) }).refreshLeg l
  else s

/-- MOD_STATUS.safe recomputed (R268). -/
def State.safeShown (s : State) : State := s.putB R.MOD_STATUS_safe ((List.range 48).any (fun l => (s.gleg l).safeHeld))

/-- A mode transition is in force: legs in the safe state leave it when its patches have reached them, at their group's next wrap, or
at once where the group never wraps (R269, R270, R305). -/
def State.leaveSafe (s : State) : State :=
  (forUpTo 48 (fun l t =>
    if (t.gleg l).safeHeld then
      let u := t.setGleg l { t.gleg l with exitSafe := true }
      ite' (!(t.group (t.get (R.MOD_LEG_CFG_cg l))).running) u (u.leaveLeg l)
    else t) s).safeShown

/-! ### Commands of the gate ports -/

/-- The FB comparator of a port reads "on". -/
def State.fbOn (s : State) (port : Nat) : Bool := tbit s.gtp.fbHigh port

/-- STAT_LOST after three consecutive missing or bad frames (R280). -/
def State.statBad (s : State) (l : Nat) : State :=
  let g := s.gleg l
  let s1 := s.setGleg l { g with badRun := g.badRun + 1, goodRun := 0 }
  if g.badRun + 1 = 3 && !s1.on (R.GTP_LEG_STAT_stat_lost l) then
    ((s1.putB (R.GTP_LEG_STAT_stat_lost l) true).bump R.GTP_ERR_CNT_stat_lost).uvloResponse l
  else s1

/-- A good frame's 28 bits into GTP_LEG_LINK (R277, R279). On a bypassed leg the frame is recorded and decides nothing
(R304). Its causes act in ascending order, so that the lowest code is recorded (R289). -/
def State.statGood (s : State) (l bits : Nat) : State :=
  let seq := bits / 2 ^ 25 % 8
  let g := s.gleg l
  let s0 := ite' (g.seqSeen && seq != (s.get (R.GTP_LEG_LINK_seq l) + 1) % 8) s (s.bump (R.GTP_LEG_CNT_seq_err l))
  let flags := bits / 2 ^ 24 % 2 + 2 * (bits / 2 ^ 23 % 2) + 4 * (bits / 2 ^ 22 % 2) + 8 * (bits / 2 ^ 21 % 2) + 16 * (bits / 2 ^ 20 % 2)
  let s1 := s0.setWord (R.GTP_LEG_LINK l) (BitVec.ofNat 32
    (seq + 8 * flags + 2 ^ 8 * (bits / 2 ^ 12 % 256) + 2 ^ 16 * (bits / 2 ^ 4 % 256)))
  let good := g.goodRun + 1
  let s2 := s1.setGleg l { g with badRun := 0, goodRun := good, seqSeen := true }
  let s3 := ite' (3 ≤ good && s2.on (R.GTP_LEG_STAT_stat_lost l)) s2 (s2.putB (R.GTP_LEG_STAT_stat_lost l) false)
  let acts := s3.statInUse l
  let s4 := s3.uvloResponse l
  let s5 := ite' (acts && (s4.on (R.GTP_LEG_LINK_desat_h l) || s4.on (R.GTP_LEG_LINK_desat_l l))) s4 (s4.legFault l 7)
  (ite' (acts && s5.on (R.GTP_LEG_LINK_ot l) && s5.on (R.GTP_LEG_CFG_ot_fault l)) s5 (s5.legFault l 9)).driveComposite l

/-- Whether SYN_M is hopping, so that the MOD clock stands (R90). -/
def State.modStopped (s : State) : Bool := (tget s.clk.syn 0 { }).hopping || (tget s.clk.syn 0 { }).poweredDown

/-- The half bits of a level between two transitions, from its length in ps: 1 or 2, or 3 for a preamble half (table STAT receive timing,
R484); none is a coding violation. -/
def statClass (ps : Nat) : Option Nat :=
  if 8000 ≤ ps && ps ≤ 17000 then some 1 else if 20000 ≤ ps && ps ≤ 30000 then some 2 else if 33000 ≤ ps && ps ≤ 43000 then some 3 else none

/-- Whether the low level of a preamble that the first half bit of a 1 continues has this length: a preamble half and a half bit
(DEDUCED, log entry 32). -/
def statJoined (ps : Nat) : Bool := 43000 < ps && ps ≤ 60000

/-- The half bits of the levels that follow a preamble, from one of level `high` on; a longer level than a full bit is a violation, but for
the low line after the frame, of which the frame takes the one half bit that it still lacks. -/
def statHalves : Nat → Bool → List Nat → Option (List Bool)
  | 0, _, _ => some []
  | 1, false, [_] => some [false]
  | _ + 1, _, [] => none
  | n + 1, high, ps :: rest =>
    match statClass ps with
    | some 1 => (statHalves n (!high) rest).map (fun r => high :: r)
    | some 2 => if n = 0 then none else (statHalves (n - 1) (!high) rest).map (fun r => high :: high :: r)
    | _ => none

/-- The number that half bits code, most significant bit first: high then low is a 0, low then high a 1 (R276). -/
def statBits : List Bool → Nat → Option Nat
  | true :: false :: r, v => statBits r (2 * v)
  | false :: true :: r, v => statBits r (2 * v + 1)
  | [], v => some v
  | _, _ => none

/-- The 28 bits of a frame from the lengths in ps of its levels, the first one the preamble's high half; none with a coding violation or a
preamble inside (R276, R279, R484). -/
def statDecode : List Nat → Option Nat
  | hi :: lo :: rest =>
    if statClass hi != some 3 then none
    else if statClass lo = some 3 then (statHalves 56 true rest).bind (fun h => statBits h 0)
    else if statJoined lo then (statHalves 55 true rest).bind (fun h => statBits (false :: h) 0)
    else none
  | _ => none

/-- STAT_FRAME (R279): a frame of the levels `levels` ends. -/
def execStatFrame (l : Nat) (levels : List Nat) (s : State) : Out :=
  let bad := (s.bump (R.GTP_LEG_CNT_bad_frames l)).statBad l
  when (s.live && l < 48 && s.on (R.GTP_LEG_CFG_stat_en l) && !s.modStopped) s
    (State.passOpened s (match statDecode levels with
      | some bits => if crc4 28 bits 0xF = 0 then s.statGood l bits else bad
      | none => bad))

/-- STAT_FRAME_MISSING (R279): no preamble in time; nothing is missed while a hop stops the MOD clock (R280). -/
def execStatFrameMissing (l : Nat) (s : State) : Out :=
  when (s.live && l < 48 && s.on (R.GTP_LEG_CFG_stat_en l) && !s.modStopped) s
    (State.passOpened s ((s.bump (R.GTP_LEG_CNT_missing l)).statBad l))

/-- DESAT_ASSERT (R286): the DESAT pin takes the level `high`; a rise that the gate lets through acts at once. -/
def execDesatAssert (l : Nat) (high : Bool) (s : State) : Out :=
  let s1 := { s with pins := { s.pins with desat := tset s.pins.desat l high } }
  when (l < 48) s
    (if !s.live then s1
     else if high then ite' (s1.desatPasses l && !s.desatPasses l) s1 (State.passOpened s1 (s1.desatPass l))
     else s1.desatFalls l)

/-- The DESAT pins that are high at SAFE-ready pass their open gates (R284, R286). -/
def State.desatAtReady (s : State) : State := forUpTo 48 (fun l t => ite' (t.desatPasses l) t (t.desatPass l)) s

/-- BLANKING_END (R284): t_blank has passed; the gate opens, and a DESAT still high passes. -/
def execBlankingEnd (l : Nat) (s : State) : Out :=
  let s1 := s.setGleg l { s.gleg l with gateClosed := false }
  when (s.live && l < 48 && (s.gleg l).gateClosed && (s.gleg l).blankUntil ≤ s.clk.modTick) s
    (ite' (s1.desatPasses l) s1 (State.passOpened s1 (s1.desatPass l)))

/-- NODE_WATCHDOG_TIMEOUT (R287): t_node after it armed, the watchdog of the H or L port finds its level absent. -/
def execNodeWatchdogTimeout (l : Nat) (h : Bool) (s : State) : Out :=
  let g := s.gleg l
  let armed := if h then g.wdH && g.wdHUntil ≤ s.clk.modTick else g.wdL && g.wdLUntil ≤ s.clk.modTick
  let s1 := s.setGleg l (if h then { g with wdH := false } else { g with wdL := false })
  when (s.live && l < 48 && armed && s.on (R.GTP_NODE_TH_node_hi l) != h && !s.on (R.GTP_LEG_CFG_bypass l)) s
    (State.passOpened s1 (s1.legFault l 2))

/-- The end of step 1 of leg `l`: GH, GL and GSOFT fall together; the domain's positions restart after its last leg, and
an enable that was held waits on for the next rising command edge (R275, R287, R291, R293). -/
def State.finalStep (s : State) (l : Nat) : State :=
  let d := s.legDomain l
  let s1 := s.setGleg l { s.gleg l with gh := false, gl := false, gsoft := false, wdH := false, wdL := false, startedH := false, startedL := false }
  let s2 := s1.putB (R.GTP_LEG_STAT_in_soft l) false
  let last := d < 4 && !s2.domainSoft d
  let ending := forUpTo 2 (fun c t => if s2.get (R.GTP_CHOP_CFG_trip_assist c) / 2 ^ d % 2 = 1 then tset t (4 * c + d) true else t)
    s2.gtp.assistEnding
  let s3 := s2.put ⟨R.GTP_STATUS, d, 1⟩ 0
  let s4 := ite' last s2 { s3 with gtp := { s3.gtp with nextPos := tset s3.gtp.nextPos d 0, assistEnding := ending } }
  s4.refreshLeg l

/-- Whether every leg at a lower stagger position of the leg's domain has taken its final step (R293). -/
def State.myTurn (s : State) (l : Nat) : Bool :=
  let d := s.legDomain l
  4 ≤ d || (List.range 48).all (fun m => s.legDomain m != d || !s.on (R.GTP_LEG_STAT_in_soft m) || (s.gleg l).position ≤ (s.gleg m).position)

/-- Whether a reset leaves a register word alone: the always-on domain's, and the gate-port block's while two-step turn-off
extends the reset (R476, R477). -/
def resetKeeps (gates : Bool) (a : Nat) : Bool := a / 2 ^ 24 = 0x0C || (gates && a / 2 ^ 24 = 0x07)

/-- The device in reset: everything but the always-on domain, the fuses and the rails; the gate-port block too unless `gates`
(R476, R477); the elapsed time, a count of the model's own, runs on. -/
def State.inReset (s : State) (gates : Bool) : State :=
  let fresh : State := { }
  let kept : State := { fresh with
    regs := s.regs.filter (fun p => resetKeeps gates p.1), ram := s.ram.filter (fun p => p.1 / 2 ^ 24 = 0x0C),
    clk := { fresh.clk with elapsed := s.clk.elapsed }, aon := s.aon, pins := { s.pins with extended := gates }, answers := s.answers, freeCtr := s.freeCtr, pending := s.pending }
  { kept with boot := { kept.boot with fuses := s.boot.fuses }, gtp := if gates then s.gtp else { } }

/-- Whether a leg is in two-step turn-off. -/
def State.anySoft (s : State) : Bool := (List.range 48).any (fun l => s.on (R.GTP_LEG_STAT_in_soft l))

/-- After the last final step the gate-port block enters the reset that waited for it (R476). -/
def State.extensionEnd (s : State) : State := if s.pins.extended && !s.anySoft then s.inReset false else s

/-- FINAL_STEP (R293). -/
def execFinalStep (l : Nat) (s : State) : Out :=
  when (l < 48 && s.on (R.GTP_LEG_STAT_in_soft l) && s.myTurn l) s (s.finalStep l).extensionEnd

/-- RING_STOPPED (R294): every leg in step 1 takes its final step at once. -/
def execRingStopped (s : State) : Out :=
  let s1 := forUpTo 48 (fun l t => ite' (t.on (R.GTP_LEG_STAT_in_soft l)) t ((t.finalStep l).bump R.GTP_ERR_CNT_backstop))
    (s.putB R.GTP_STATUS_ring_stopped true)
  when (s.live || s.pins.extended) s s1.extensionEnd

/-- OUTPUTS_DRIVEN: the outputs become driven once START has come into force and the ring has been measured (R272). -/
def State.outputsDriven (s : State) : State :=
  if s.on R.GTP_STATUS_outputs_on || !s.on R.GTP_STATUS_ring_valid || !s.win.started then s
  else forUpTo 48 (fun l t => t.refreshLeg l) (s.putB R.GTP_STATUS_outputs_on true)

/-- RING_CALIBRATION (R292): the ring cycles counted in 10 µs of MOD ticks; frozen while the MOD clock is absent. -/
def execRingCalibration (cycles : Nat) (s : State) : Out :=
  when (s.live && cycles < 65536 && !s.modStopped) s
    (((s.put R.GTP_RING_cycles cycles).bump R.GTP_RING_updates).putB R.GTP_STATUS_ring_valid true).outputsDriven

/-- TRIP_ASSIST_END (R298): chop_ext has passed after the last final step of domain `d`; chopper `c`'s assist for it ends. -/
def execTripAssistEnd (c d : Nat) (s : State) : Out :=
  let k := 4 * c + d
  when (c < 2 && d < 4 && tbit s.gtp.assist k && tbit s.gtp.assistEnding k) s
    ({ s with gtp := { s.gtp with assist := tset s.gtp.assist k false, assistEnding := tset s.gtp.assistEnding k false } }.refreshChop c)

end Sys2Proof.Machine
end

