-- ==== Sys2Proof/Machine/Win.lean ====
section
/-!
DEFINITION. Window comparators, trip matrix, protection-domain arming and the comparator tests (R121 to R138).
-/

namespace Sys2Proof.Machine

/-- Comparator `n` beside its registers. -/
def State.cmp (s : State) (n : Nat) : CmpS := tget s.win.cmp n { }

/-- Replace comparator `n`. -/
def State.setCmp (s : State) (n : Nat) (c : CmpS) : State :=
  { s with win := { s.win with cmp := tset s.win.cmp n c } }

/-- Whether a tie test holds comparator `n` off its input (R135). -/
def State.tied (s : State) (n : Nat) : Bool := s.win.run == some (.tie n)

/-- WIN_STATUS.unresolved of comparator `n` recomputed (R127). -/
def State.unresolvedBit (s : State) (n : Nat) : State :=
  s.putB (R.WIN_STATUS_unresolved n)
    ((s.on (R.WIN_CFG_en_hi n) && (s.cmp n).hiUnres) || (s.on (R.WIN_CFG_en_lo n) && (s.cmp n).loUnres))

/-- COMPARATOR_LATCH_SET: a side's latch sets, counts and drives source n or 96 + n (R123). -/
def State.latchSide (s : State) (n : Nat) (hi : Bool) : State :=
  if hi then
    ite' (!s.on (R.WIN_STATUS_hi n)) s (((s.putB (R.WIN_STATUS_hi n) true).bump (R.WIN_STATUS_hi_cnt n)).drive n true)
  else
    ite' (!s.on (R.WIN_STATUS_lo n)) s (((s.putB (R.WIN_STATUS_lo n) true).bump (R.WIN_STATUS_lo_cnt n)).drive (96 + n) true)

/-- A side's latch clears and its source falls (R124). -/
def State.unlatchSide (s : State) (n : Nat) (hi : Bool) : State :=
  if hi then (s.putB (R.WIN_STATUS_hi n) false).drive n false else (s.putB (R.WIN_STATUS_lo n) false).drive (96 + n) false

/-- A write of `w` to WIN_STATUS[n]: its W1C bits; the latches clear so only in clear mode 0, and hold during a tie test (R124, R135). -/
def State.statusClear (s : State) (n : Nat) (w : Word) : State :=
  let s1 := s.setWord (R.WIN_STATUS n) (s.word (R.WIN_STATUS n) &&& ~~~ (w &&& 0xC0))
  let reg := !s.on (R.WIN_CFG_clr_mode n) && !s.tied n
  let s2 := ite' (reg && w.getLsbD 0) s1 (s1.unlatchSide n true)
  ite' (reg && w.getLsbD 1) s2 (s2.unlatchSide n false)

/-- The choppers that watch comparator `n` follow it (R297). -/
def State.chopsOf (s : State) (n : Nat) : State :=
  forUpTo 2 (fun c t => ite' (t.get (R.GTP_CHOP_CFG_wc c) == n) t (t.refreshChop c)) s

/-- A side's raw output asserts: the matrix acts, the latch sets unless a blanking window masks it (R123, R126, R131). -/
def State.sideAsserts (s : State) (n : Nat) (hi : Bool) : State :=
  let c := s.cmp n
  let s1 := if hi then s.putB (R.WIN_STATUS_raw_hi n) true else s.putB (R.WIN_STATUS_raw_lo n) true
  let s2 := if c.window then s1.setCmp n (if hi then { c with blankHi := true } else { c with blankLo := true }) else s1.latchSide n hi
  let s3 := if hi then s2.matrixAssert (s.get (R.WIN_CFG_pd_hi n)) n else s2.matrixAssert (s.get (R.WIN_CFG_pd_lo n)) (96 + n)
  State.passOpened s (s3.chopsOf n)

/-- A side's raw output deasserts. -/
def State.sideDeasserts (s : State) (n : Nat) (hi : Bool) : State :=
  let c := s.cmp n
  let s1 := s.setCmp n (if hi then { c with blankHi := false } else { c with blankLo := false })
  (if hi then s1.putB (R.WIN_STATUS_raw_hi n) false else s1.putB (R.WIN_STATUS_raw_lo n) false).chopsOf n

/-- Where an input stands against one side: past the hysteresis point, inside the band, or beyond the threshold (R122). -/
def State.sideInput (s : State) (n : Nat) (hi : Bool) (rel : Nat) : State :=
  let raw := if hi then s.on (R.WIN_STATUS_raw_hi n) else s.on (R.WIN_STATUS_raw_lo n)
  let c := s.cmp n
  let s1 := if rel = 1 then s else (s.setCmp n (if hi then { c with hiUnres := false } else { c with loUnres := false })).unresolvedBit n
  if rel = 2 && !raw then s1.sideAsserts n hi
  else if rel = 0 && raw then s1.sideDeasserts n hi
  else s1.chopsOf n

/-- Whether a side is enabled (R122). -/
def State.sideOn (s : State) (n : Nat) (hi : Bool) : Bool := if hi then s.on (R.WIN_CFG_en_hi n) else s.on (R.WIN_CFG_en_lo n)

/-- The relation of an input at level `v` to one side's threshold `th` (1,000 units of 2.5 V / 1,024,000 a step) and hysteresis
(1,024 units a step; 17 to 31 act as 16): 2 beyond the threshold, 0 past the hysteresis point, 1 inside the band (R122). -/
def sideRel (hi : Bool) (v th hyst : Nat) : Nat :=
  let t := 1000 * th
  let h := 1024 * min hyst 16
  if hi then (if t < v then 2 else if v + h < t then 0 else 1)
  else (if v < t then 2 else if t + h < v then 0 else 1)

/-- The number of the AIN input that comparator `n` watches (R121). -/
def State.ainOf (s : State) (n : Nat) : Nat := 16 * (n / 12) + s.get (R.WIN_CFG_src n)

/-- The relation of comparator `n`'s input to one of its sides (R122). -/
def State.relOf (s : State) (n : Nat) (hi : Bool) : Nat :=
  sideRel hi (tnum s.pins.ain (s.ainOf n)) (if hi then s.get (R.WIN_TH_th_hi n) else s.get (R.WIN_TH_th_lo n)) (s.get (R.WIN_TH_hyst n))

/-- One side compares its input: an enabled side follows it, a side whose enable is 0 is not asserted (R122). A tie test holds
the comparator off its input (R135). -/
def State.compareSide (s : State) (n : Nat) (hi : Bool) : State :=
  if s.tied n then s
  else if s.sideOn n hi then s.sideInput n hi (s.relOf n hi)
  else ite' (if hi then s.on (R.WIN_STATUS_raw_hi n) else s.on (R.WIN_STATUS_raw_lo n)) s (s.sideDeasserts n hi)

/-- Comparator `n` compares its input anew, after a change of its input, thresholds, hysteresis, source or enables (R122, R125). -/
def State.compare (s : State) (n : Nat) : State := ((s.compareSide n true).compareSide n false).unresolvedBit n

/-- The comparators of AIN `a`'s pair that watch it compare one side, in ascending order (R121, R130). -/
def State.compareAin (s : State) (a : Nat) (hi : Bool) : State :=
  forUpTo 12 (fun k t =>
    let n := 12 * (a / 16) + k
    ite' (t.ainOf n == a) t (t.compareSide n hi)) s

/-- THRESHOLD_CROSSING (R121, R122): AIN `a` comes to `level`, in units of 2.5 V / 1,024,000, and every comparator that watches it
compares; high sides come first, in the order of the source numbers (R130). -/
def execThresholdCrossing (a level : Nat) (s : State) : Out :=
  let s1 := { s with pins := { s.pins with ain := tset s.pins.ain a level } }
  when (a < 128) s (ite' s1.live s1 ((s1.compareAin a true).compareAin a false))

/-- A side that asserted in a blanking window which has ended, and is still asserted, sets its latch (R126). -/
def State.blankSettle (s : State) (n : Nat) : State :=
  let c := s.cmp n
  let s1 := s.setCmp n { c with blankHi := false, blankLo := false }
  let s2 := ite' (c.blankHi && s.on (R.WIN_STATUS_raw_hi n)) s1 (s1.latchSide n true)
  ite' (c.blankLo && s.on (R.WIN_STATUS_raw_lo n)) s2 (s2.latchSide n false)

/-- BLANKING_WINDOW_END (R126); the latches of a comparator in a tie test hold until it ends (R135). -/
def execBlankingWindowEnd (n : Nat) (s : State) : Out :=
  let s1 := s.setCmp n { s.cmp n with window := false }
  when (s.live && n < 96 && (s.cmp n).window) s (ite' (!s.tied n) s1 (s1.blankSettle n))

/-- Start the blanking windows that selector `sel` (1 wrap of a group, 2 command edge of a leg) and `target` name (R126). -/
def State.startWindows (s : State) (sel target : Nat) : State :=
  forUpTo 96 (fun n t =>
    ite' (t.get (R.WIN_BLANK_sel n) == sel && t.get (R.WIN_BLANK_target n) == target && t.get (R.WIN_BLANK_len n) != 0) t
      (t.setCmp n { t.cmp n with window := true })) s

/-- At a wrap of group `g`, latches in carrier mode clear where the raw output is deasserted (R124), but for a comparator whose
latches a tie test holds (R135). -/
def State.carrierClears (s : State) (g : Nat) : State :=
  forUpTo 96 (fun n t =>
    if t.on (R.WIN_CFG_clr_mode n) && t.get (R.WIN_CFG_clr_cg n) == g && !t.tied n then
      let t1 := ite' (t.on (R.WIN_STATUS_hi n) && !t.on (R.WIN_STATUS_raw_hi n)) t (t.unlatchSide n true)
      ite' (t1.on (R.WIN_STATUS_lo n) && !t1.on (R.WIN_STATUS_raw_lo n)) t1 (t1.unlatchSide n false)
    else t) s

/-- The domain mask of matrix input `src` (R131). -/
def State.matrixMask (s : State) (src : Nat) : Nat :=
  if src < 96 then s.get (R.WIN_CFG_pd_hi src)
  else if src < 192 then s.get (R.WIN_CFG_pd_lo (src - 96))
  else if src < 240 then s.get (R.WIN_TRIP_DESAT_pd (src - 192))
  else s.get R.WIN_TRIP_EXT_pd

/-- Whether matrix input `src` is asserted (R131). -/
def State.matrixInput (s : State) (src : Nat) : Bool :=
  if src < 96 then s.on (R.WIN_STATUS_raw_hi src)
  else if src < 192 then s.on (R.WIN_STATUS_raw_lo (src - 96))
  else if src < 240 then s.desatPasses (src - 192)
  else s.on R.WIN_TRIP_EXT_asserted

/-- The matrix inputs in source order (R131). -/
def matrixSources : List Nat := List.range 240 ++ [504]

/-- The asserted matrix inputs of domain `d`, lowest source first. -/
def State.assertedInputs (s : State) (d : Nat) : List Nat :=
  matrixSources.filter (fun src => s.matrixMask src / 2 ^ d % 2 = 1 && s.matrixInput src)

/-- Whether a comparator with a side mapped to domain `d` is unresolved (R128). -/
def State.domainUnresolved (s : State) (d : Nat) : Bool :=
  (List.range 96).any (fun n =>
    s.on (R.WIN_STATUS_unresolved n) && (s.get (R.WIN_CFG_pd_hi n) / 2 ^ d % 2 = 1 || s.get (R.WIN_CFG_pd_lo n) / 2 ^ d % 2 = 1))

/-- The mode in force (R51, R334). -/
def State.mode (s : State) : Nat := s.get R.SEQ_STATUS_mode

/-- The listed words of the route table. A word that is not listed reads as zero and is not valid (R141). -/
def State.routes (s : State) : List Nat :=
  s.regs.filterMap (fun p =>
    if R.EVR_ROUTE 0 ≤ p.1 && p.1 < R.EVR_ROUTE 4096 && p.1 % 4 == 0 && (R.EVR_ROUTE_valid 0).of p.2 == 1 then some ((p.1 - R.EVR_ROUTE 0) / 4) else none)

/-- Whether some level-mode route holds destination `d` (R141). -/
def State.dstHeld (s : State) (d : Nat) : Bool :=
  s.routes.any (fun i => s.get (R.EVR_ROUTE_dst i) == d && s.get (R.EVR_ROUTE_mode i) == 0 && tbit s.evr.held i)

/-- The word of route `i` that the router acts on: the old one of an entry written since its last sample (R144). -/
def State.routeNow (s : State) (i : Nat) : Word := tget s.evr.wrote i (s.word (R.EVR_ROUTE i))

/-- The source of a level-mode route that holds destination `d`: of several, the lowest (DESIGN CHOICE, log entry 38). -/
def State.holdingSource (s : State) (d : Nat) : Nat :=
  let holds (i : Nat) : Bool :=
    let w := s.routeNow i
    (R.EVR_ROUTE_valid 0).of w == 1 && (R.EVR_ROUTE_dst 0).of w == d && (R.EVR_ROUTE_mode 0).of w == 0 && tbit s.evr.held i
  (((s.routes ++ s.evr.wrote.map (fun p => p.1)).filter holds).map (fun i => (R.EVR_ROUTE_src 0).of (s.routeNow i))).foldl min 511

/-- DOMAIN_ARM (R128): in START, a domain arms once its comparators are resolved and none of its inputs is asserted. Its route
destination acts from then on, on its level (R129, R145). -/
def execDomainArm (d : Nat) (s : State) : Out :=
  let s1 := forUpTo 48 (fun l t => ite' (t.legDomain l == d) t (t.refreshLeg l)) (s.putB (R.WIN_PD_armed d) true)
  when (s.live && d < 4 && s.mode == 1 && !s.on (R.WIN_PD_armed d) && !s.domainUnresolved d && (s.assertedInputs d).isEmpty) s
    (ite' (s.dst (48 + d)) s1 (State.passOpened s (s1.domainTrip d (s.holdingSource (48 + d)) true false false)))

/-- Entry to RECOVER clears every trip latch; an input still asserted sets it again at once (R129, R303). -/
def State.recoverDomains (s : State) : State :=
  let s1 := forUpTo 4 (fun d t => t.putB (R.WIN_PD_tripped d) false) s
  let s2 := forUpTo 48 (fun l t => t.refreshLeg l) s1
  forUpTo 4 (fun d t =>
    match t.assertedInputs d with
    | src :: _ => t.domainTrip d src false false false
    | [] => ite' (t.dst (48 + d)) t (t.domainTrip d (t.holdingSource (48 + d)) true false false)) s2

/-- Whether a low pulse of `ps` ps on EXT_TRIP_N lasts for 3 MOD ticks, as source 504 needs it (R487). -/
def State.reaches504 (s : State) (ps : Nat) : Bool :=
  let f := s.planHz s.mplan
  3 * 10 ^ 12 * f.2 ≤ ps * f.1

/-- EXT_TRIP_N_FALL (R133, R487): the pin goes low for `ps` ps (or, with `low` false, high again). A pulse of less than 2 ns does
nothing, one of less than 3 MOD ticks acts on the matrix alone and is over at once. -/
def execExtTripNFall (low : Bool) (ps : Nat) (s : State) : Out :=
  let long := low && s.reaches504 ps
  let s0 := { s with pins := { s.pins with extTrip := long } }
  let s1 := (s0.putB R.WIN_TRIP_EXT_asserted long).drive 504 long
  let s2 := if low && !s.on R.WIN_TRIP_EXT_asserted then State.passOpened s1 (s1.matrixAssert (s.get R.WIN_TRIP_EXT_pd) 504) else s1
  when (!low || 2000 ≤ ps && !s.pins.extTrip) s (if s.live then s2 else s0)

/-! ### Comparator and matrix tests -/

/-- Whether every gate port is disabled. -/
def State.portsOff (s : State) : Bool :=
  (List.range 48).all (fun l => !s.on (R.GTP_LEG_STAT_eff_h l) && !s.on (R.GTP_LEG_STAT_eff_l l))

/-- Whether the device is in TEST with every gate port disabled (R136, R138, R457, R459). -/
def State.testMode (s : State) : Bool := s.mode == 6 && s.portsOff

/-- Whether a tie test of comparator `n` may run (R136). -/
def State.tieAllowed (s : State) (n : Nat) : Bool :=
  let p := s.get (R.WIN_CFG_partner n)
  (s.get (R.WIN_CFG_pd_hi n) == 0 && s.get (R.WIN_CFG_pd_lo n) == 0) || s.testMode
  || (p < 96 && p != n && !s.on (R.WIN_STATUS_unresolved p) && !s.on (R.WIN_STATUS_in_test p))

/-- Start a test; one that is not allowed returns result 2 at once (R136 to R138). -/
def State.beginTest (s : State) (t : WinTestRun) (auto : Bool) : State :=
  let go (u : State) : State := { (u.putB R.WIN_TEST_busy true) with win := { u.win with run := some t, runAuto := auto, outcome := none } }
  match t with
  | .readback n => go (s.putB (R.WIN_STATUS_in_test n) true)
  | .tie n => if s.tieAllowed n then go (s.putB (R.WIN_STATUS_in_test n) true) else s.put R.WIN_TEST_result 2
  | .matrix _ => if s.testMode then go s else s.put R.WIN_TEST_result 2

/-- The test that WIN_TEST's cmd and target name (R137; cmd 3 acts as 0), if the target exists. -/
def State.namedTest (s : State) : Option WinTestRun :=
  let n := s.get R.WIN_TEST_target
  let cmd := s.get R.WIN_TEST_cmd
  if cmd = 2 then (if n < 240 || n = 504 then some (.matrix n) else none)
  else if n < 96 then some (if cmd = 1 then .tie n else .readback n) else none

/-- A write of WIN_TEST.start: ignored while busy, but a manual start waits for an automatic test to end (R137). -/
def State.startTest (s : State) : State :=
  if s.on R.WIN_TEST_busy then { s with win := { s.win with manualWaits := s.win.manualWaits || s.win.runAuto } }
  else
    match s.namedTest with
    | some t => s.beginTest t false
    | none => s

/-- Start `t` if nothing runs. -/
def State.ensureTest (s : State) (t : WinTestRun) : State :=
  if s.on R.WIN_TEST_busy then s else s.beginTest t false

/-- Record the running test's outcome if the running test is `t`. -/
def State.outcomeOf (s : State) (t : WinTestRun) (r : Nat) : State :=
  ite' (s.win.run == some t) s { s with win := { s.win with outcome := some r } }

/-- READBACK_TEST (R97, R134): in a slot borrowed from CV(2p) the DACs stand `dHi` and `dLo` above AGND_S, with VREFP at `vref`; the
two codes are compared with 64 × setting, within rb_tol; WC80 to WC95 have no low side. A start that finds the converter busy
waits for its slot. -/
def execReadbackTest (n : Nat) (dHi dLo : Int) (vref : Nat) (s : State) : Out :=
  let hiCode := adcCode dHi vref
  let loCode := adcCode dLo vref
  let cv := 2 * (n / 12)
  let near (code set : Nat) : Bool := code - 64 * set + (64 * set - code) ≤ s.get R.WIN_TEST_CFG_rb_tol
  let hiOk := near hiCode (s.get (R.WIN_TH_th_hi n))
  let loOk := near loCode (s.get (R.WIN_TH_th_lo n))
  let r := if n < 80 then (if hiOk && loOk then 0 else 1) else if hiOk then 3 else 1
  let s1 := s.ensureTest (.readback n)
  let s2 := s1.outcomeOf (.readback n) r
  when (s.live && n < 96 && 0 < vref) s
    (ite' (s1.win.run == some (.readback n) && s1.win.outcome.isNone && s1.want (n / 12) == .nothing && s1.joint cv) s1
      (s2.setConv cv { s2.conv cv with idle := false }))

/-- TIE_TEST (R135): the raw outputs seen at VREFP and at AGND_S; a side that cannot assert at the tie is not tested. -/
def execTieTest (n : Nat) (hiSeen loSeen : Bool) (s : State) : Out :=
  let hiSkip := s.get (R.WIN_TH_th_hi n) == 1023 && s.get (R.WIN_TH_hyst n) != 0
  let loSkip := s.get (R.WIN_TH_th_lo n) == 0
  let r := if (hiSeen || hiSkip) && (loSeen || loSkip) then 0 else 1
  when (s.live && n < 96) s ((s.ensureTest (.tie n)).outcomeOf (.tie n) r)

/-- MATRIX_TEST (R138): one input is forced, and `seen` are the domains that its assertion reaches through the matrix (in a sound
device those of its mask); they trip as if armed, and stay tripped. The test passes if then the domains of the mask stand tripped
and no other does. -/
def execMatrixTest (src seen : Nat) (s : State) : Out :=
  let s1 := s.ensureTest (.matrix src)
  let m := s.matrixMask src
  let s2 := State.passOpened s1 (forUpTo 4 (fun d t => ite' (seen / 2 ^ d % 2 = 1) t (t.domainTrip d src false false true)) s1)
  let ok := (List.range 4).all (fun d => s2.on (R.WIN_PD_tripped d) == (m / 2 ^ d % 2 == 1))
  when (s.live && (src < 240 || src == 504)) s
    (ite' (s1.win.run == some (.matrix src)) s1 (s2.outcomeOf (.matrix src) (if ok then 0 else 1)))

/-- The failure flags of a failed comparator test (R137). -/
def State.testFailed (s : State) (t : WinTestRun) : State :=
  match t with
  | .readback n => (((s.putB (R.WIN_STATUS_rb_fail n) true).put R.WIN_TEST_STAT_last_fail n).bump R.WIN_TEST_STAT_fails).raise 511
  | .tie n => (((s.putB (R.WIN_STATUS_tie_fail n) true).put R.WIN_TEST_STAT_last_fail n).bump R.WIN_TEST_STAT_fails).raise 511
  | .matrix _ => (s.bump R.WIN_TEST_STAT_fails).raise 511

/-- The running test leaves the comparator. After a tie test each side resumes its state and then follows its input, and a
blanking window that has ended since acts (R135). -/
def State.endTest (s : State) (t : WinTestRun) : State :=
  let s1 := { (s.putB R.WIN_TEST_busy false) with win := { s.win with run := none, outcome := none } }
  match t with
  | .readback n => s1.putB (R.WIN_STATUS_in_test n) false
  | .tie n =>
    let s2 := s1.putB (R.WIN_STATUS_in_test n) false
    (ite' (!(s2.cmp n).window) s2 (s2.blankSettle n)).compare n
  | .matrix _ => s1

/-- After an automatic readback comes the tie of the same comparator; then, or where that tie is refused, a waiting manual start
(R137). -/
def State.nextTest (s : State) (t : WinTestRun) (auto : Bool) : State :=
  let s1 := match t, auto with
    | .readback n, true => s.beginTest (.tie n) true
    | _, _ => s
  ite' (s1.win.manualWaits && !s1.on R.WIN_TEST_busy) s1 ({ s1 with win := { s1.win with manualWaits := false } }.startTest)

/-- WIN_TEST_DONE (R137): result, failure flags and source 511. -/
def execWinTestDone (s : State) : Out :=
  match s.win.run, s.win.outcome with
  | some t, some r =>
    let s1 := (s.endTest t).put R.WIN_TEST_result r
    .next ((ite' (r = 1) s1 (s1.testFailed t)).nextTest t s.win.runAuto)
  | _, _ => .next s

/-- The next comparator with test_en at or after `k`, in ascending order and round. -/
def State.sweepNext (s : State) (k : Nat) : Option Nat :=
  (((List.range 96).map (fun i => (k + i) % 96)).find? (fun n => s.on (R.WIN_CFG_test_en n)))

/-- AUTO_SWEEP_STEP (R137). -/
def execAutoSweepStep (s : State) : Out :=
  match s.sweepNext s.win.sweepPos with
  | some n =>
    let s1 := s.beginTest (.readback n) true
    when (s.live && s.get R.WIN_TEST_CFG_auto_period != 0 && !s.on R.WIN_TEST_busy) s
      { s1 with win := { s1.win with sweepPos := (n + 1) % 96 } }
  | none => .next s

/-- COMPARATOR_POWER_UP of one side at SAFE-ready (R127): inside its band an enabled side starts as pu_assume says, beyond its
threshold it starts asserted and sets its latch, else it starts deasserted; with hysteresis 0 it is resolved at once. -/
def State.powerUpSide (s : State) (n : Nat) (hi : Bool) : State :=
  let on := s.sideOn n hi
  let band := on && s.relOf n hi == 1 && s.get (R.WIN_TH_hyst n) != 0
  let beyond := on && s.relOf n hi == 2
  let c := s.cmp n
  let s1 := (s.setCmp n (if hi then { c with hiUnres := band } else { c with loUnres := band })).unresolvedBit n
  let out := beyond || (band && !s.on (R.WIN_CFG_pu_assume n))
  let s2 := if hi then s1.putB (R.WIN_STATUS_raw_hi n) out else s1.putB (R.WIN_STATUS_raw_lo n) out
  ite' beyond s2 (s2.latchSide n hi)

/-- COMPARATOR_POWER_UP (R127), and EXT_TRIP_N as it stands (R131, R133). -/
def State.powerUpComparators (s : State) : State :=
  let s1 := forUpTo 96 (fun n t => ((t.powerUpSide n true).powerUpSide n false).chopsOf n) s
  ite' s1.pins.extTrip s1 ((s1.putB R.WIN_TRIP_EXT_asserted true).drive 504 true)

end Sys2Proof.Machine
end

