-- ==== Sys2Proof/Machine/Evr.lean ====
section
/-!
DEFINITION. The event router: sampling, filters, route modes and the destinations' actions (R139 to R145, R376).
-/

namespace Sys2Proof.Machine

/-- Queue the rising edge of sequencer condition `k`: SC0 to SC31 in Q04, SC32 to SC63 in Q05 (R145, R345). -/
def State.pushEdge (s : State) (k : Nat) : State :=
  if k < 32 then
    if hasRoom s.seq.q04 128 then { (s.count (0x80 + 4)) with seq := { s.seq with q04 := s.seq.q04 ++ [k] } }
    else (s.bump R.SEQ_ERR_CNT_q04_drop).count (0x60 + 4)
  else
    if hasRoom s.seq.q05 128 then { (s.count (0x80 + 5)) with seq := { s.seq with q05 := s.seq.q05 ++ [k] } }
    else (s.bump R.SEQ_ERR_CNT_q05_drop).count (0x60 + 5)

/-- The place of a set among those that are due in one symbol slot (R360). -/
def FabSet.rank : FabSet → Nat
  | .trip _ _ => 0
  | .mark _ _ _ => 1
  | .barrier _ _ => 2
  | .status _ => 3
  | .probe => 4
  | .echo => 4
  | .hello _ _ _ _ => 5
  | .packet _ => 6

/-- A set that becomes due goes behind those of its own and of an earlier place, before the others (R360). -/
def dueInsert (q : List FabSet) (x : FabSet) : List FabSet :=
  q.filter (fun y => y.rank ≤ x.rank) ++ [x] ++ q.filter (fun y => x.rank < y.rank)

/-- The sets due on fabric port `p`. -/
def State.fabDue (s : State) (p : Nat) : List FabSet := tget s.fab.due p []

/-- A set is due on fabric port `p`. -/
def State.fabSend (s : State) (p : Nat) (x : FabSet) : State :=
  { s with fab := { s.fab with due := tset s.fab.due p (dueInsert (s.fabDue p) x) } }

/-- A mark carries the plant time at which it leaves (R366). -/
def FabSet.leaving (t : Nat) : FabSet → FabSet
  | .mark _ v l => .mark t v l
  | x => x

/-- The first set due on port `p` goes out (R360). -/
def State.fabSlot (s : State) (p : Nat) : State :=
  match s.fabDue p with
  | x :: r => { s with fab := { s.fab with due := tset s.fab.due p r, sent := tset s.fab.sent p (x.leaving s.clk.plantTime) } }
  | [] => s

/-- Whether fabric port `p` is up. -/
def State.portUp (s : State) (p : Nat) : Bool := s.get R.FAB_STATUS_port_up / 2 ^ p % 2 = 1

/-- TRIP_FLOOD_START: a trip set on every port that is up, or a merge within 1 µs of the node's last flood (R376). A standalone node
takes part in nothing (R361). -/
def State.floodStart (s : State) : State :=
  let merged : Bool := match s.fab.lastFlood with
    | some t => decide (s.clk.elapsed < t + 8000)
    | none => false
  if !s.inPlant then s
  else if merged then s.bump R.FAB_ERR_CNT2_flood_merged
  else
    let q := (s.fab.floodSeq + 1) % 256
    let s1 := { s with fab := { s.fab with floodSeq := q, lastFlood := some s.clk.elapsed } }
    forUpTo 4 (fun p t => ite' (t.portUp p) t (t.fabSend p (.trip (s.get R.FAB_STATUS_node_id) q))) s1

/-- The action of destination `d` when its input rises, the cause being source `src` (R145); a received flood, source 480, starts
none (R376). -/
def State.dstRise (s : State) (d src : Nat) : State :=
  if d < 48 then s.legFault d 8
  else if d < 52 then s.domainTrip (d - 48) src true false false
  else if d < 54 then s.refreshChop (d - 52)
  else if d < 70 then s.urgentEdge (d - 54)
  else if d < 134 then (s.putB (R.ENG_EI_sticky (d - 70)) true).putB (R.ENG_EI_level (d - 70)) true
  else if d < 198 then s.pushEdge (d - 134)
  else if d = 198 then ite' (src != 480) s s.floodStart
  else if d = 206 then s.crossTripSend
  else s

/-- What follows when a destination's input falls: levels only (R145). -/
def State.dstFall (s : State) (d : Nat) : State :=
  if 52 ≤ d && d < 54 then s.refreshChop (d - 52)
  else if 70 ≤ d && d < 134 then s.putB (R.ENG_EI_level (d - 70)) false
  else s

/-- Drive destination `d` to level `b` because of source `src`. -/
def State.setDst (s : State) (d : Nat) (b : Bool) (src : Nat) : State :=
  let was := s.dst d
  let s1 := { s with evr := { s.evr with dst := tset s.evr.dst d b } }
  if b && !was then s1.dstRise d src else if !b && was then s1.dstFall d else s1

/-- One delivery of route `i`: its filtered input goes from `old` to `new` (R142, R145). A pulse acts for one tick. -/
def State.deliver (s : State) (i : Nat) (old new : Bool) : State :=
  let d := s.get (R.EVR_ROUTE_dst i)
  let mode := s.get (R.EVR_ROUTE_mode i)
  let src := s.get (R.EVR_ROUTE_src i)
  if 211 ≤ d then s
  else if mode = 0 then
    let s1 := { s with evr := { s.evr with held := tset s.evr.held i new } }
    (ite' (old != new) s1 (s1.count 0xA5)).setDst d (s1.dstHeld d) src
  else if (mode = 1 && new && !old) || (mode = 2 && old && !new) || (mode = 3 && old != new) then
    ((s.count 0xA5).setDst d true src).setDst d (s.dstHeld d) src
  else s

/-- A route entry takes a new word, which the router acts on from its next sample (R144). -/
def State.routeWrite (s : State) (i : Nat) (w : Word) : State :=
  let s1 := s.setWord (R.EVR_ROUTE i) (w &&& 0x80FFFFFF)
  { s1 with evr := { s1.evr with wrote := tset s1.evr.wrote i (s.routeNow i) } }

/-- The filter and the delivered level of a new entry: its input is the router's previous sample, inverted if so set. A debounce
or a stretch starts with an asserted input as at its assertion, and a count filter has seen no edge (R142, R143). -/
def State.freshRoute (s : State) (i : Nat) : State :=
  let k := s.get (R.EVR_ROUTE_filt i)
  let x := tbit s.evr.prev (s.get (R.EVR_ROUTE_src i)) != s.on (R.EVR_ROUTE_invert i)
  let ty := s.get (R.EVR_FILT_type k)
  let t := s.get (R.EVR_FILT_time k) != 0
  let out := x && ty != 1 && (ty == 2 || !t)
  let f : FiltS := { fresh := true, inp := x, timing := x && t && ty != 1 && ty != 2, out := out, minimum := x && t && ty == 2 }
  { s with evr := { s.evr with filt := tset s.evr.filt i f, held := tset s.evr.held i (if k = 0 then x else f.out) } }

/-- The entries written since the last router sample come into force, all at once (R144). -/
def State.routesNow (s : State) : State :=
  let ws := s.evr.wrote
  let s1 := ws.foldl (fun t p => t.freshRoute p.1) { s with evr := { s.evr with wrote := [] } }
  let ds := ws.flatMap (fun p => (R.EVR_ROUTE_dst 0).of p.2 :: (if s.on (R.EVR_ROUTE_valid p.1) then [s.get (R.EVR_ROUTE_dst p.1)] else []))
  (ds.filter (fun d => d < 211)).foldl (fun t d => t.setDst d (t.dstHeld d) (t.holdingSource d)) s1

/-- The image's routes come into force at the first router sample after SAFE-ready, as entries written before it (R64, R142 to R144). -/
def State.startRoutes (s : State) : State := { s with evr := { s.evr with wrote := s.routes.foldl (fun t i => tset t i 0) [] } }

/-- Filter `k`'s time in MOD ticks at the plan in force (R143). -/
def State.filtTicks (s : State) (k : Nat) : Nat := s.nsTicks (10 * s.get (R.EVR_FILT_time k))

/-- A filter after its input goes to `x` (R143). -/
def State.filterInput (s : State) (k : Nat) (f : FiltS) (x : Bool) : FiltS :=
  let ty := s.get (R.EVR_FILT_type k)
  let t := s.get (R.EVR_FILT_time k)
  let rise := x && !f.inp
  if ty = 1 then
    let w := max 1 (s.filtTicks k)
    let es := (if rise then s.clk.modTick :: f.edges else f.edges).filter (fun e => s.clk.modTick < e + w)
    { f with inp := x, edges := es, out := max 1 (s.get (R.EVR_FILT_n k)) ≤ es.length }
  else if ty = 2 then
    let m := if rise then t != 0 else f.minimum
    { f with inp := x, minimum := m, out := x || (f.out && m) }
  else
    { f with inp := x, timing := (rise && t != 0) || (x && f.timing), out := x && (f.out || (rise && t == 0)) }

/-- A filter when its time expires (R143). -/
def State.filterExpiry (s : State) (k : Nat) (f : FiltS) : FiltS :=
  let ty := s.get (R.EVR_FILT_type k)
  if ty = 1 then s.filterInput k f f.inp
  else if ty = 2 then { f with minimum := false, out := f.inp }
  else { f with timing := false, out := f.out || (f.timing && f.inp) }

/-- Route `i` sees its source go from sample `old` to sample `new` (R141 to R143). -/
def State.routeSample (s : State) (i : Nat) (old new : Bool) : State :=
  let inv := s.on (R.EVR_ROUTE_invert i)
  let k := s.get (R.EVR_ROUTE_filt i)
  if k = 0 then s.deliver i (old != inv) (new != inv)
  else
    let f := tget s.evr.filt i { }
    let g := s.filterInput k { f with fresh := f.fresh && new == old } (new != inv)
    ({ s with evr := { s.evr with filt := tset s.evr.filt i g } }).deliver i f.out g.out

/-- The router samples source `src` once: its level, or a held pulse (R139, R142). -/
def State.sampleSource (s : State) (src : Nat) : State :=
  let s0 := s.routesNow
  let new := tbit s0.evr.level src || tbit s0.evr.pulse src
  let old := tbit s0.evr.prev src
  let s1 := { s0 with evr := { s0.evr with prev := tset s0.evr.prev src new, pulse := tset s0.evr.pulse src false } }
  let s2 := ite' (new && !old) s1 (s1.countFor 0xC0 src 0 1)
  State.passOpened s ((s2.routes.filter (fun i => s2.get (R.EVR_ROUTE_src i) == src)).foldl (fun t i => t.routeSample i old new) s2)

/-- ROUTE_DELIVERY (R140): the sampled change of source `src` reaches the destinations of its routes. -/
def execRouteDelivery (src : Nat) (s : State) : Out :=
  when (s.live && src < 512 && !s.modStopped) s (s.sampleSource src)

/-- FILTER_EXPIRY (R143): the time of route `i`'s filter runs out. An edge mode passes nothing until the source has changed (R142). -/
def execFilterExpiry (i : Nat) (s : State) : Out :=
  let s0 := s.routesNow
  let f := tget s0.evr.filt i { }
  let g := s0.filterExpiry (s0.get (R.EVR_ROUTE_filt i)) f
  let s1 := { s0 with evr := { s0.evr with filt := tset s0.evr.filt i g } }
  when (s.live && i < 4096 && s.on (R.EVR_ROUTE_valid i) && s.on (R.EVR_ROUTE_filt i) && !s.modStopped) s
    (State.passOpened s (ite' (!f.fresh || s.get (R.EVR_ROUTE_mode i) == 0) s1 (s1.deliver i f.out g.out)))

/-- Whether a route word is refused: valid and naming a reserved destination (EVR_ROUTE, R497). -/
def routeRefused (w : Word) : Bool := (R.EVR_ROUTE_valid 0).of w == 1 && 211 ≤ (R.EVR_ROUTE_dst 0).of w

end Sys2Proof.Machine
end

