-- ==== Sys2Proof/Machine/Operands.lean ====
section
/-!
DEFINITION. Contexts, frames and the operand forms of the engine's instructions (R157 to R162, R169, R172, R183).
-/

namespace Sys2Proof.Machine

/-! ### Contexts and frames -/

/-- Context `c`. -/
def State.ctx (s : State) (c : Nat) : CtxS := tget s.eng.ctx c { }

/-- Replace context `c`. -/
def State.setCtx (s : State) (c : Nat) (x : CtxS) : State := { s with eng := { s.eng with ctx := tset s.eng.ctx c x } }

/-- The frame of context `c`. -/
def State.fr (s : State) (c : Nat) : FrameS := (s.ctx c).frame

/-- Replace the frame of context `c`. -/
def State.setFr (s : State) (c : Nat) (f : FrameS) : State := s.setCtx c { s.ctx c with frame := f }

/-- The frame source of context `c`. -/
def State.srcOf (s : State) (c : Nat) : Nat := s.get (R.ENG_CTX_CFG_fsrc c)

/-- The MPLAN index that a record's flags carry for context `c`. -/
def State.planOf (s : State) (c : Nat) : Nat := (s.fr c).plan

/-- A word as the frame of context `c` sees it: of a glaze that swapped in since the frame's latch, the old word (R29, R203). -/
def State.frameWord (s : State) (c a : Nat) : Word := tget (s.fr c).old a (s.wordFor (s.srcOf c) a)

/-- A field as the frame of context `c` sees it. -/
def State.frameGet (s : State) (c : Nat) (x : Fld) : Nat := x.of (s.frameWord c x.addr)

/-! ### Instruction words (R157) -/

/-- The instruction at address `a` of the program store, as context `c`'s frame sees it. -/
def State.insWord (s : State) (c a : Nat) : Nat := (s.frameWord c (R.PROG a)).toNat + 2 ^ 32 * (s.frameWord c (R.PROG a + 4)).toNat

/-- The program address of context `c`'s next instruction. -/
def State.insAddr (s : State) (c : Nat) : Nat := (s.get (R.ENG_CTX_PROG_prog_start c) + (s.fr c).pc) % 8192

/-- The instruction that context `c` executes next. -/
def State.ins (s : State) (c : Nat) : Nat := s.insWord c (s.insAddr c)

/-- opcode. -/
def insOp (w : Nat) : Nat := w / 2 ^ 58 % 64

/-- dst. -/
def insDst (w : Nat) : Nat := w / 2 ^ 46 % 4096

/-- srcA. -/
def insA (w : Nat) : Nat := w / 2 ^ 34 % 4096

/-- srcB. -/
def insB (w : Nat) : Nat := w / 2 ^ 22 % 4096

/-- imm. -/
def insImm (w : Nat) : Nat := w % 2 ^ 22

/-- Bits [lo + n − 1:lo] of imm. -/
def immBits (w lo n : Nat) : Nat := insImm w / 2 ^ lo % 2 ^ n

/-- imm bit `b`. -/
def immBit (w b : Nat) : Bool := immBits w b 1 = 1

/-- imm[15:0], sign-extended (R159). -/
def immSigned (w : Nat) : Int := signed 16 (immBits w 0 16)

/-! ### Signals as operands (R158) -/

/-- Whether context `c` owns signal `sig` (R26, R150). -/
def State.owns (s : State) (c sig : Nat) : Bool := sig < 4096 && tnum s.eng.sigOwner sig == c && c != 0

/-- Whether context `c` imports signal `sig`. -/
def State.importsSig (s : State) (c sig : Nat) : Bool := (s.ctx c).imports.contains sig

/-- Whether the context may read the signal. -/
def State.readable (s : State) (c sig : Nat) : Bool := s.owns c sig || s.importsSig c sig

/-- The value context `c` last committed for a signal it owns: pending, or published (R169). -/
def State.committedVal (s : State) (c sig : Nat) : Word := tget (s.ctx c).pend sig (s.word (R.S sig))

/-- An operand: the working value of an owned signal, the import buffer's value, else zero (R158). -/
def State.opnd (s : State) (c sig : Nat) : Int :=
  if s.owns c sig then (tget (s.fr c).work sig (s.committedVal c sig)).toInt
  else if s.importsSig c sig then (tget (s.fr c).imports sig 0).toInt
  else 0

/-- Operand A. -/
def State.opA (s : State) (c : Nat) : Int := s.opnd c (insA (s.ins c))

/-- Operand B, or the sign-extended immediate where imm[21] selects it (R159). -/
def State.opB (s : State) (c : Nat) : Int :=
  if immBit (s.ins c) 21 then immSigned (s.ins c) else s.opnd c (insB (s.ins c))

/-- The signals that operand B reads. -/
def State.readsB (s : State) (c : Nat) : List Nat := if immBit (s.ins c) 21 then [] else [insB (s.ins c)]

/-! ### Section state and coefficients (R154 to R156) -/

/-- Whether `n` slots from `j` belong to context `c` (R156). -/
def State.ownsSlots (s : State) (c j n : Nat) : Bool :=
  s.get (R.ENG_CTX_RES_first_slot c) ≤ j && j + n ≤ s.get (R.ENG_CTX_RES_first_slot c) + s.get (R.ENG_CTX_RES_sections c)

/-- Word `w` of slot `j` as the frame of context `c` has it: its shadow, else the store (R155, R169). -/
def State.slotW (s : State) (c j w : Nat) : Int := (tget (s.fr c).shadow (4 * j + w) (s.frameWord c (R.SLOT j w))).toInt

/-- Write a word of a slot into the frame's shadow. -/
def State.setSlotW (s : State) (c j w : Nat) (v : Int) : State :=
  s.setFr c { s.fr c with shadow := tset (s.fr c).shadow (4 * j + w) (BitVec.ofInt 32 v) }

/-- Word `w` of coefficient set `i` as context `c`'s frame sees it. -/
def State.coef (s : State) (c i w : Nat) : Word := s.frameWord c (R.COEF i w)

/-- sh of coefficient set `i`. -/
def State.coefSh (s : State) (c i : Nat) : Int := ((s.coef c i 5).extractLsb' 0 4).toInt

/-- The saturation line that set `i` drives, if any. -/
def State.coefLine (s : State) (c i : Nat) : Option Nat :=
  let w := (s.coef c i 5).toNat
  if w / 16 % 2 = 1 then some (w / 32 % 4) else none

/-- The tag of set `i`. -/
def State.coefTag (s : State) (c i : Nat) : Nat := (s.coef c i 5).toNat / 2 ^ 16

/-- One section's output before sat32: the exact sum and the one rounding (R154). -/
def State.sectionRaw (s : State) (c set slot : Nat) (x : Int) : Int :=
  let k (w : Nat) : Int := (s.coef c set w).toInt
  let acc := k 0 * x + k 1 * s.slotW c slot 0 + k 2 * s.slotW c slot 1 - k 3 * s.slotW c slot 2 - k 4 * s.slotW c slot 3
  shrRound acc (28 + s.coefSh c set).toNat

/-! ### The signals an instruction reads (R158, R160, R161, R185, R197) -/

/-- The signals that the next instruction of context `c` reads. -/
def State.signalsRead (s : State) (c : Nat) : List Nat :=
  let w := s.ins c
  let op := insOp w
  let a := insA w
  let b := insB w
  let i := 4 * c + immBits w 0 2
  if op = 0x01 then (if immBit w 12 then [a] else [])
  else if op = 0x02 || op = 0x03 || op = 0x08 || op = 0x09 || op = 0x0B then a :: s.readsB c
  else if op = 0x04 || op = 0x13 then [a, b]
  else if op = 0x05 then [a, b, insDst w]
  else if op = 0x06 || op = 0x07 || op = 0x0D || op = 0x0F || op = 0x14 || op = 0x17 then [a]
  else if op = 0x0A then [a, b, b + 1]
  else if op = 0x0C then [a, b, immBits w 0 12]
  else if op = 0x0E then
    (if s.get (R.ENG_SCH_CFG_src_a i) = 1 then [a] else []) ++ (if s.get (R.ENG_SCH_CFG_src_b i) = 1 then [b] else [])
  else if op = 0x10 then (if immBit w 0 && !immBit w 1 then [a, a + 1] else [a, a + 1, a + 2])
  else if op = 0x11 || op = 0x12 then [a, a + 1, b]
  else if op = 0x15 then [a, a + 1] ++ (List.range 7).map (fun k => immBits w 0 12 + k)
  else if op = 0x16 then a :: (if immBit w 0 then [b] else [])
  else []

/-! ### Schedules (R183 to R188) -/

/-- Schedule `k` of context `c` in its frame. -/
def State.schF (s : State) (c k : Nat) : SchF := tget (s.fr c).sch k { }

/-- Index count of axis A. -/
def State.schNa (s : State) (i : Nat) : Nat := s.get (R.ENG_SCH_CFG_na_m1 i) + 1

/-- Index count of axis B. -/
def State.schNb (s : State) (i : Nat) : Nat := s.get (R.ENG_SCH_CFG_nb_m1 i) + 1

/-- The crossfade exponent; 7 acts as 6. -/
def State.schXf (s : State) (i : Nat) : Nat := min 6 (s.get (R.ENG_SCH_CFG_xf i))

/-- The plan-axis index for MPLAN `p` (R186). -/
def State.planIdx (s : State) (i p : Nat) : Nat := s.get (R.ENG_SCH_MAP_plan_map i) / 16 ^ p % 16

/-- The region of the axis indices, a plan axis taking its index from plan `p` and an axis of no source 0 (R184). -/
def State.regionOf (s : State) (i ia ib p : Nat) : Nat :=
  let ax (src x : Nat) : Nat := if src = 1 then x else if src = 2 then s.planIdx i p else 0
  (ax (s.get (R.ENG_SCH_CFG_src_a i)) ia + s.schNa i * ax (s.get (R.ENG_SCH_CFG_src_b i)) ib) % 16

/-- The upward scan of R185. -/
def axisUp (bp : List Int) (h v : Int) : Nat → Nat → Nat
  | 0, i => i
  | k + 1, i => if bp.getD i 0 + h ≤ v then axisUp bp h v k (i + 1) else i

/-- The downward scan of R185. -/
def axisDown (bp : List Int) (h v : Int) : Nat → Nat
  | 0 => 0
  | i + 1 => if v < bp.getD i 0 - h then axisDown bp h v i else i + 1

/-- axis_index of R185 from index `i` on an axis of `n` indices. -/
def axisIndex (i : Nat) (v : Int) (bp : List Int) (h : Int) (n : Nat) : Nat :=
  axisDown bp h v (axisUp bp h v (n - 1 - i) i)

/-- The breakpoints of axis A (`b` false) or B of schedule `i` of context `c`: axis A's come first (R183). -/
def State.schBps (s : State) (c i : Nat) (b : Bool) : List Int :=
  let na := if s.get (R.ENG_SCH_CFG_src_a i) = 1 then s.schNa i - 1 else 0
  let n := if b then s.schNb i - 1 else na
  (List.range n).map (fun k => signed 32 (s.frameGet c (R.ENG_SCH_BP_bp i ((if b then na else 0) + k))))

/-! ### Angles (R161) -/

/-- sin of an angle of 2^32 per turn, scaled by 2^30 (R161). -/
def sinA (th : Nat) : Int :=
  let i := th / 2 ^ 20 % 4096
  sinT i + shrRound ((sinT (i + 1) - sinT i) * (th % 2 ^ 20 : Nat)) 20

/-- cos θ = sin(θ + 2^30). -/
def cosA (th : Nat) : Int := sinA ((th + 2 ^ 30) % 2 ^ 32)

/-- K3, 2^28 ÷ 3 (R160). -/
def clarkeK3 : Int := 89478485

/-- Ks, 2^28 ÷ √3 to nearest (R160). -/
def clarkeKs : Int := 154981283

/-- Kh, 2^28 × √3 ÷ 2 to nearest (R160). -/
def clarkeKh : Int := 232471924

/-- CLARKE forward of (a, b, c), with γ if `z` (R160). -/
def clarkeFwd (a b c : Int) (z : Bool) : List Int :=
  [shrRound ((2 * a - b - c) * clarkeK3) 28, shrRound ((b - c) * clarkeKs) 28]
    ++ (if z then [shrRound ((a + b + c) * clarkeK3) 28] else [])

/-- CLARKE inverse of (α, β, γ) (R160). -/
def clarkeInv (al be ga : Int) : List Int :=
  [al + ga, shrRound (be * clarkeKh - al * 2 ^ 27) 28 + ga, shrRound (-(be * clarkeKh) - al * 2 ^ 27) 28 + ga]

/-- ROT of (α, β) by an angle (R161). -/
def rotA (al be : Int) (th : Nat) : Int × Int :=
  (shrRound (al * cosA th + be * sinA th) 30, shrRound (be * cosA th - al * sinA th) 30)

/-- IROT of (d, q) by an angle (R161). -/
def irotA (d q : Int) (th : Nat) : Int × Int :=
  (shrRound (d * cosA th - q * sinA th) 30, shrRound (d * sinA th + q * cosA th) 30)

/-! ### OUT targets (R172) -/

/-- Whether an OUT target is reserved. -/
def outReserved (t : Nat) : Bool :=
  if 2048 ≤ t then t / 8 % 256 != 0 else t / 128 % 16 != 0 || 96 ≤ t % 128

/-- Whether the target is a group's period. -/
def outIsPeriod (t : Nat) : Bool := 2048 ≤ t

/-- The carrier group of a target. -/
def State.outGroup (s : State) (t : Nat) : Nat :=
  if outIsPeriod t then t % 8 else s.get (R.MOD_LEG_CFG_cg (t / 2 % 64))

end Sys2Proof.Machine
end

