-- ==== Sys2Proof/Machine/Mod.lean ====
section
/-!
DEFINITION. The modulator: commits and generations, windows, minimum pulse and crumbs, refresh, dead time and interlock,
calibration, the safe state (chapter Modulator, R243 to R270).
-/

namespace Sys2Proof.Machine

/-! ### Pending slots (R250, R251, R254) -/

/-- Whether an entry's commit point has come: its tick, or the commit point of the frame that wrote it, which a later frame of its
context has left behind (R25, R168, R251). The latches of a wrap's tick come before the wrap puts entries in force. -/
def State.isDue (s : State) (c : Commit) : Bool :=
  (match c.tick with
   | some t => decide (t ≤ s.clk.modTick)
   | none => false) || (s.fr c.ctx).latchNo != c.latch || (s.fr c.ctx).pointDone

/-- Put an entry into pending slots; the oldest of four gives way and counts (R251). -/
def pushSlot (l : List Commit) (c : Commit) : List Commit × Bool :=
  if l.length < 4 then (l ++ [c], false) else (l.drop 1 ++ [c], true)

/-- At a wrap the latest due entry is taken and stands first; earlier due ones are discarded (R251). -/
def State.pruneSlots (s : State) (l : List Commit) : List Commit × Nat :=
  let due := l.filter s.isDue
  (due.getLast?.toList ++ l.filter (fun c => !s.isDue c), due.length - 1)

/-- The due entry at the head of pruned slots. -/
def State.dueHead (s : State) (l : List Commit) : Option Commit :=
  match l with
  | c :: _ => if s.isDue c then some c else none
  | [] => none

/-- MOD_CG_STAT.pending and pending_gen from the period slots (R254). -/
def State.groupPending (s : State) (g : Nat) : State :=
  match ((s.group g).slots.filter (fun c => c.gen != s.get (R.MOD_CG_STAT_gen g))).getLast? with
  | some c => (s.putB (R.MOD_CG_STAT_pending g) true).put (R.MOD_CG_STAT_pending_gen g) c.gen
  | none => (s.putB (R.MOD_CG_STAT_pending g) false).put (R.MOD_CG_STAT_pending_gen g) 0

/-- One queue entry reaches its target's pending slots; a period with T below 400 is discarded (R243, R251). -/
def State.placeCommit (s : State) (c : Commit) : State :=
  if c.kind = 2 then
    if c.value / 128 % 2 ^ 24 < 400 then s.bump R.MOD_ERR_CNT_bad_period
    else
      let gr := s.group c.idx
      let q := pushSlot gr.slots c
      ((ite' q.2 s (s.bump R.MOD_ERR_CNT_superseded)).setGroup c.idx { gr with slots := q.1 }).groupPending c.idx
  else
    let m := s.mleg c.idx
    let q := pushSlot (if c.kind = 0 then m.onSlots else m.offSlots) c
    (ite' q.2 s (s.bump R.MOD_ERR_CNT_superseded)).setMleg c.idx
      (if c.kind = 0 then { m with onSlots := q.1 } else { m with offSlots := q.1 })

/-- The commit queue Q00 to Q03 of index `q`. -/
def State.commitQueue (s : State) (q : Nat) : List Commit := tget s.mod.queues q []

/-- COMMIT_QUEUE_DRAIN (R251): one entry per MOD tick; the queue stands while a hop stops the clock. -/
def execCommitQueueDrain (q : Nat) (s : State) : Out :=
  match s.commitQueue q with
  | c :: r => when (s.live && q < 4 && !s.modStopped) s
      ({ s with mod := { s.mod with queues := tset s.mod.queues q r } }.placeCommit c)
  | [] => .next s

/-! ### Dead time (R257, R258) -/

/-- dt_max in fine steps. -/
def State.dtMax (s : State) (l : Nat) : Nat := s.fine (s.get (R.MOD_LEG_TIME_dt_max l))

/-- The dead time of direction and bin `k`, and whether dt_max is used (R257, R258). -/
def State.deadTime (s : State) (l k : Nat) : Nat × Bool :=
  let m := s.mleg l
  let q := tget m.meas k []
  let hi := s.dtMax l
  let lo := min (s.fine (s.get (R.MOD_LEG_TIME_dt_min l))) hi
  if !s.on (R.MOD_LEG_CFG_adapt_en l) || m.lowCurrent || q.length < 8 then (hi, true)
  else
    let v := (divRound (q.foldl (fun a b => a + b) 0 : Nat) 8).toNat + s.fine (s.get (R.MOD_LEG_TIME_dt_margin l))
    (max lo (min v hi), false)

/-- MOD_LEG_DTM of leg `l` recomputed. -/
def State.refreshDt (s : State) (l : Nat) : State :=
  forUpTo 4 (fun k t => (t.put (R.MOD_LEG_DTM_dt l k) (s.deadTime l k).1).putB (R.MOD_LEG_DTM_fixed l k) (s.deadTime l k).2) s

/-- The instant of fine position `sub` of the present tick, in fine steps. -/
def State.fineNow (s : State) (sub : Nat) : Nat := 128 * s.clk.modTick + sub

/-- TRANSITION_MEASURED: the time since the outgoing port's turn-off, in fine steps, enters the filter of the edge's direction and bin,
once per edge. One that ends while a hop stops the MOD clock enters none, since the filters restart with the clock (R258, R267). -/
def State.measured (s : State) (l sub : Nat) : State :=
  let m := s.mleg l
  let k := (if m.measToH then 2 else 0) + m.measNeg.toNat
  if !m.measuring then s
  else if s.modStopped then s.setMleg l { m with measuring := false }
  else
    (s.setMleg l { m with measuring := false, meas := tset m.meas k (((s.fineNow sub - m.edgeAt) :: tget m.meas k []).take 8) }).refreshDt l

/-! ### Windows (R248, R249, R252, R260 to R263) -/

/-- A leg's period in fine steps. -/
def State.period (s : State) (g : Nat) : Nat := (s.word (R.MOD_CG_PERIOD g)).toNat % 2 ^ 31

/-- What the minimum-pulse rule delivers (R260): the pulse length, the crumb, a short case, a clip. -/
structure Pulse where
  t : Int
  crumb : Int
  short : Bool
  clip : Bool
  deriving DecidableEq, Repr

/-- The clip of a crumb at one period (R260). -/
def clipCrumb (p crumb : Int) : Int × Bool :=
  if p < crumb then (p, true) else if crumb < -p then (-p, true) else (crumb, false)

/-- The length that a short pulse gets: CRUMB and DROP 0, STRETCH thr within w (R260). -/
def shortLen (policy : Nat) (thr w : Int) : Int := if policy = 1 then min thr w else 0

/-- MINIMUM_PULSE: the rule of R260; policy 1 STRETCH, 2 DROP, else CRUMB. -/
def minPulse (policy : Nat) (p on off thr crumb : Int) : Pulse :=
  let w := p - on
  let want := max (min off p - on) 0 + crumb
  let r : Int × Int × Bool :=
    if want ≤ 0 then (0, want, false)
    else if w ≤ want then (w, want - w, false)
    else if want < thr then (shortLen policy thr w, want - shortLen policy thr w, true)
    else if w - want < thr then
      let t := if policy = 1 then max (w - thr) 0 else w
      (t, want - t, true)
    else (want, 0, false)
  let c := clipCrumb p (if policy = 2 then 0 else r.2.1)
  ⟨r.1, c.1, r.2.2, c.2⟩

/-- The threshold of leg `l` (R260). -/
def State.thr (s : State) (l : Nat) : Nat := max (s.fine (s.get (R.MOD_LEG_TIME_min_pulse l))) (s.dtMax l)

/-- Whether a refresh is due on leg `l` whose window would be [on, on + t) (R262). -/
def State.refreshDue (s : State) (l : Nat) (on t : Int) : Bool :=
  let n := s.get (R.MOD_LEG_BOOT_boot_max_periods l)
  s.on (R.MOD_LEG_CFG_refresh_en l) && 0 < t && on == 0
  && ((n != 0 && n ≤ (s.mleg l).hRun)
      || s.bootBelow l (s.get (R.MOD_LEG_BOOT_boot_low l)))

/-- A crumb that a glaze or a hop has left to discard is discarded at the leg's first wrap after it, be the leg enabled or not (R261).
DEDUCED: a glaze that comes into force at a wrap's own latches is followed first by the next wrap. -/
def State.discardCrumb (s : State) (l : Nat) : State :=
  let m := s.mleg l
  let s1 := s.setMleg l { m with crumbDrop := m.crumbHold, crumbHold := false }
  ite' (m.crumbDrop && s.get (R.MOD_LEG_CRUMB_crumb l) != 0) s1 ((s1.put (R.MOD_LEG_CRUMB_crumb l) 0).bump R.MOD_CRUMB_CNT_discards)

/-- Whether port `h` is the one that the leg's window names: H, but L for the lower-clamp leg in negative polarity (R248, R249). -/
def ModLeg.names (m : ModLeg) (h : Bool) : Bool := h != m.swapped

/-- When the command of port `h` that was on at the beginning of the period rose. -/
def ModLeg.rise (m : ModLeg) (h : Bool) : Nat := if h then m.riseH else m.riseL

/-- The rise of port `h`'s command, if it is on at the end of the leg's period: of the named port inside the window, of the other
outside it (R248). -/
def ModLeg.endRise (m : ModLeg) (h : Bool) : Option Nat :=
  let full := m.winTop && m.winOn < m.winEnd
  if !m.active then none
  else if m.names h then (if full then some (if m.winOn = 0 then m.rise h else m.wrapAt + m.winOn) else none)
  else if full then none
  else some (if m.winOn < m.winEnd then m.wrapAt + m.winEnd else m.rise h)

/-- A period begins at instant `w`: a command that was on goes on, another rises there if it is on. -/
def ModLeg.periodAt (m : ModLeg) (w : Nat) : ModLeg :=
  { m with active := true, wrapAt := w, riseH := (m.endRise true).getD w, riseL := (m.endRise false).getD w }

/-- The instant of the wrap of group `g` in the present tick, in fine steps (R244). -/
def State.wrapInstant (s : State) (g : Nat) : Nat := 128 * s.clk.modTick + s.get (R.MOD_CG_COUNT_wrap_fine g)

/-- The window of leg `l` for the period that starts: minimum pulse, refresh (R260 to R263). A window that ends with a lengthened
period's own part turns H off before the wrap (R246, R262). -/
def State.windowLeg (s : State) (l p on off : Nat) (swapped : Bool) : State :=
  let m0 := s.mleg l
  let policy := s.get (R.MOD_LEG_CFG_short_pulse l)
  let thr := s.thr l
  let on' := min on p
  let r := minPulse policy p on' off thr (s.getI (R.MOD_LEG_CRUMB_crumb l))
  let hRun := if m0.swapped != swapped then 0
    else if m0.winTop && m0.winOn < m0.winEnd then (if m0.winOn = 0 then m0.hRun + 1 else 1) else 0
  let s2 := s.setMleg l { m0.periodAt (s.wrapInstant (s.get (R.MOD_LEG_CFG_cg l))) with swapped := swapped, hRun := hRun }
  let due := s2.refreshDue l on' r.t
  let tr : Int := max (s2.fine (s2.get (R.MOD_LEG_TIME_t_refresh l)) : Int) thr
  let start : Int := if due then max (on' : Int) (min tr p) else on'
  let rest : Int := if due then max ((on' : Int) + r.t - start) 0 else r.t
  let again := due && rest < thr
  let rest2 := if again then shortLen policy thr (p - start) else rest
  let c0 := if policy = 2 then 0 else r.crumb + (r.t - rest) + (rest - rest2)
  let c := if due then clipCrumb p c0 else (r.crumb, false)
  let s3 := s2.setMleg l { s2.mleg l with winOn := start.toNat, winEnd := (start + rest2).toNat, winTop := start + rest2 = p && (s2.group (s2.get (R.MOD_LEG_CFG_cg l))).lengthen = 0, hRun := (if due then 0 else hRun) }
  let s4 := s3.putI (R.MOD_LEG_CRUMB_crumb l) c.1
  let s5 := ite' r.short s4 (s4.bump (R.MOD_LEG_STAT_short_cnt l))
  let s6 := ite' again s5 (s5.bump (R.MOD_LEG_STAT_short_cnt l))
  let s7 := ite' due s6 ((s6.putB (R.MOD_LEG_STAT_refresh_seen l) true).bump (R.MOD_LEG_STAT_refresh_cnt l))
  ite' (r.clip || c.2) s7 (((s7.putB (R.MOD_LEG_STAT_crumb_clip l) true).bump (R.MOD_LEG_STAT_clip_cnt l)).putB R.MOD_STATUS_crumb_clip true)

/-- The compares of leg `l` in force (MOD_LEG_CMP). -/
def State.setCmps (s : State) (l on off : Nat) : State := (s.put (R.MOD_LEG_CMP_on l) on).put (R.MOD_LEG_CMP_off l) off

/-- A leg with en = 0 has no window, and its H command is off (R247, R262). -/
def State.noWindow (s : State) (l : Nat) : State := s.setMleg l { s.mleg l with winOn := 0, winEnd := 0, winTop := false, active := false, hRun := 0 }

/-- A window for leg `l`, if it is enabled; its compares are in force either way (R247). -/
def State.legWindow (s : State) (l p on off : Nat) (swapped : Bool) : State :=
  let s1 := s.setCmps l on off
  if s.on (R.MOD_LEG_CFG_en l) then s1.windowLeg l p on off swapped else s1.noWindow l

/-- The three windows of an ANPC master for the period `p` (R249). -/
def State.anpcWindows (s : State) (l p : Nat) : State :=
  let d : Int := (s.mleg l).fracOff.getD 0
  if 0x40000000 ≤ d then
    let w := (shrRound ((2 * d - 2 ^ 31) * p) 31).toNat
    let b := (shrRound ((p : Int) - w) 1).toNat
    ((s.legWindow l p b (b + w) false).legWindow (l + 1) p 0 p false).legWindow (l + 2) p 0 p false
  else
    let u := p - (shrRound (2 * d * p) 31).toNat
    let b := (shrRound ((p : Int) - u) 1).toNat
    ((s.legWindow l p 0 0 false).legWindow (l + 1) p 0 0 false).legWindow (l + 2) p b (b + u) true

/-- A fraction duty scaled by the period (R252). -/
def scaleDuty (d p : Nat) : Nat := (shrRound ((d : Int) * p) 31).toNat

/-- One compare of leg `l` (turn-off if `off`) at a wrap of period `p` and generation `gen` (R252, R254). A fraction compare follows
whichever period is in force (DEDUCED from R172 and R254). -/
def State.wrapCompare (s : State) (l : Nat) (off : Bool) (p gen : Nat) : State :=
  let m := s.mleg l
  let q := s.pruneSlots (if off then m.offSlots else m.onSlots)
  let s1 := s.bumpBy R.MOD_ERR_CNT_superseded q.2
  let keep (l' : List Commit) (t : State) : State :=
    t.setMleg l (if off then { t.mleg l with offSlots := l' } else { t.mleg l with onSlots := l' })
  let frac (d : Option Nat) (t : State) : State := t.setMleg l (if off then { t.mleg l with fracOff := d } else { t.mleg l with fracOn := d })
  let f := if off then R.MOD_LEG_CMP_off l else R.MOD_LEG_CMP_on l
  let follow (t : State) : State := match if off then m.fracOff else m.fracOn with
    | some d => t.put f (scaleDuty d p)
    | none => t
  match s.dueHead q.1 with
  | none => follow (keep q.1 s1)
  | some c =>
    if c.abs then
      if c.gen = gen then frac none ((keep (q.1.drop 1) s1).put f c.value)
      else follow ((keep q.1 s1).bump R.MOD_ERR_CNT_gen_wait)
    else
      let d := if 2 ^ 31 ≤ c.value then 0 else c.value
      frac (some d) ((keep (q.1.drop 1) s1).put f (scaleDuty d p))

/-- Whether every absolute compare of group `g`'s legs has a due entry of generation `gen` (R254). -/
def State.setComplete (s : State) (g gen : Nat) : Bool :=
  (List.range 48).all (fun l =>
    s.get (R.MOD_LEG_CFG_cg l) != g ||
      ((!s.on (R.MOD_LEG_CFG_abs_on l) || (s.dueHead (s.pruneSlots (s.mleg l).onSlots).1).any (fun c => c.gen == gen))
      && (!s.on (R.MOD_LEG_CFG_abs_off l) || (s.dueHead (s.pruneSlots (s.mleg l).offSlots).1).any (fun c => c.gen == gen))))

/-- Put a period in force. -/
def State.newPeriod (s : State) (g : Nat) (c : Commit) : State :=
  (s.setWord (R.MOD_CG_PERIOD g) (BitVec.ofNat 32 (c.value % 2 ^ 31))).put (R.MOD_CG_STAT_gen g) c.gen

/-- The period step of a wrap (R254, R255): a period of a new generation needs its whole set, else the wrap splits. -/
def State.wrapPeriod (s : State) (g : Nat) : State :=
  let q := s.pruneSlots (s.group g).slots
  let s0 := (s.bumpBy R.MOD_ERR_CNT_superseded q.2)
  let s1 := s0.setGroup g { s0.group g with slots := q.1 }
  let whole (t : State) : State := (t.put (R.MOD_CG_STAT_split_run g) 0).setGroup g { t.group g with split := false }
  let s2 := match s.dueHead q.1 with
    | none => whole s1
    | some c =>
      if c.gen = s.get (R.MOD_CG_STAT_gen g) || s.setComplete g c.gen then
        whole ((s1.setGroup g { s1.group g with slots := q.1.drop 1 }).newPeriod g c)
      else
        let s3 := ((s1.put ⟨R.MOD_STATUS, g, 1⟩ 1).bump (R.MOD_CG_ERR_split_wraps g)).bump (R.MOD_CG_STAT_split_run g)
        let lim := max 1 (s.get (R.MOD_CG_CFG_split_limit g))
        s3.setGroup g { s3.group g with split := lim ≤ s3.get (R.MOD_CG_STAT_split_run g) }
  s2.groupPending g

/-- The current bin of leg `l` sampled at the wrap (R257). -/
def State.sampleBin (s : State) (l : Nat) : State :=
  let i := (s.word (R.S (s.get (R.MOD_LEG_CFG_i_sig l)))).toInt
  let m := s.mleg l
  (s.setMleg l { m with binNeg := i < 0, lowCurrent := i.natAbs < s.get (R.MOD_LEG_IMIN_dt_adapt_imin l) }).refreshDt l

/-- One leg of the wrapping group: its compares, then its window or, for a master, the three of its pattern. -/
def State.wrapLeg (s : State) (g l : Nat) : State :=
  if s.get (R.MOD_LEG_CFG_cg l) != g then s
  else
    let p := s.period g
    let gen := s.get (R.MOD_CG_STAT_gen g)
    let pat := s.get (R.MOD_LEG_CFG_pattern l)
    let s1 := (s.sampleBin l).driveComposite l
    if pat = 2 then s1
    else if pat = 1 then (s1.wrapCompare l true p gen).anpcWindows l p
    else
      let s2 := (s1.wrapCompare l false p gen).wrapCompare l true p gen
      s2.legWindow l p (s2.get (R.MOD_LEG_CMP_on l)) (s2.get (R.MOD_LEG_CMP_off l)) false

/-! ### The gate feedback and node comparators (R258, R259, R282, R283, R287) -/

/-- The incoming port of the leg's edge turns on (R259). -/
def State.edgeDone (s : State) (l : Nat) (toH : Bool) : State :=
  (s.setMleg l { s.mleg l with edge := none, dtDone := false }).portOn l toH

/-- The port number of a leg's H or L port (GTP_FB_TH). -/
def portOf (l : Nat) (h : Bool) : Nat := if h then 2 * l else 2 * l + 1

/-- Whether the FB comparator of `port` reads "on" at the level of its pin: above its threshold of th × 3.0 V ÷ 256; once on, until the
level has fallen 20 mV below it (R282; the hysteresis lies below the threshold, log entry 38). -/
def State.fbReads (s : State) (port : Nat) : Bool :=
  let t := 4800 * s.get (R.GTP_FB_TH_th port)
  let v := tnum s.pins.fb port
  t < v || (s.fbOn port && t ≤ v + 8192)

/-- Whether the NODE comparator of leg `l` reads "high" at the level of its pin: above th × 2.5 V ÷ 256, with 25 mV of hysteresis below
the threshold (R283; log entry 38). -/
def State.nodeReads (s : State) (l : Nat) : Bool :=
  let t := 4000 * s.get (R.GTP_NODE_TH_th l)
  let v := tnum s.pins.node l
  t < v || (s.on (R.GTP_NODE_TH_node_hi l) && t ≤ v + 10240)

/-- What the FB comparator of `port` shows (GTP_FB_TH; log entry 28). -/
def State.showFb (s : State) (port : Nat) (b : Bool) : State :=
  let s0 := { s with gtp := { s.gtp with fbHigh := tset s.gtp.fbHigh port b } }
  ite' (port < 64) s0 (s0.putB (R.GTP_FB_TH_fb_on port) b)

/-- t_node in MOD ticks: 40 to 2,550 ns in 10 ns steps (R287). -/
def State.nodeTicks (s : State) (l : Nat) : Nat := s.nsTicks (10 * max 4 (s.get (R.GTP_LEG_TIME_t_node l)))

/-- The FB comparator of `port` reads "on": the node watchdog of its port arms and looks for its level (R287). -/
def State.fbRises (s : State) (port : Nat) : State :=
  let l := port / 2
  let h := port % 2 == 0
  let g := s.gleg l
  let wd := (if h then s.on (R.GTP_LEG_CFG_node_wd_h l) else s.on (R.GTP_LEG_CFG_node_wd_l l)) && s.on (R.GTP_NODE_TH_node_hi l) != h
    && !s.on (R.GTP_LEG_CFG_bypass l)
  let t := s.clk.modTick + s.nodeTicks l
  s.setGleg l (if h then { g with wdH := wd, wdHUntil := t } else { g with wdL := wd, wdLUntil := t })

/-- The FB comparator of `port` reads "off" at fine position `sub`: it ends the measurement of an edge away from its port, and lets the
incoming port on if its dead time has passed and the MOD clock runs (R90, R258, R259). -/
def State.fbFalls (s : State) (port sub : Nat) : State :=
  let l := port / 2
  let h := port % 2 == 0
  let s1 := ite' ((s.mleg l).measToH != h) s (s.measured l sub)
  match (s1.mleg l).edge with
  | some toH => ite' (toH != h && (s1.mleg l).dtDone && !s1.modStopped) s1 (s1.edgeDone l toH)
  | none => s1

/-- The FB comparator of `port` compares its pin's level anew (R282). -/
def State.senseFb (s : State) (port sub : Nat) : State :=
  let b := s.fbReads port
  if b = s.fbOn port then s
  else if b then (s.showFb port b).fbRises port else (s.showFb port b).fbFalls port sub

/-- The NODE comparator of leg `l` compares its pin's level anew: a change ends the measurement of the edge, and the level that a
watchdog waits for disarms it (R258, R283, R287). -/
def State.senseNode (s : State) (l sub : Nat) : State :=
  let b := s.nodeReads l
  if b = s.on (R.GTP_NODE_TH_node_hi l) then s
  else
    let s1 := (s.putB (R.GTP_NODE_TH_node_hi l) b).measured l sub
    let g := s1.gleg l
    s1.setGleg l (if b then { g with wdH := false } else { g with wdL := false })

/-- The comparators at SAFE-ready read the levels of their pins. -/
def State.senseStart (s : State) : State :=
  forUpTo 48 (fun l t => t.putB (R.GTP_NODE_TH_node_hi l) (t.nodeReads l)) (forUpTo 96 (fun p t => t.showFb p (t.fbReads p)) s)

/-- FB_COMPARATOR_CHANGE (R282): the FB pin of `port` comes to `level`, in units of 2.5 V / 1,024,000, at fine position `sub` of the
tick. -/
def execFbComparatorChange (port level sub : Nat) (s : State) : Out :=
  let s1 := { s with pins := { s.pins with fb := tset s.pins.fb port level } }
  when (port < 96 && sub < 128) s (ite' s1.live s1 (s1.senseFb port sub))

/-- NODE_COMPARATOR_CHANGE (R283): the NODE pin of leg `l` comes to `level`, in units of 2.5 V / 1,024,000, at fine position `sub` of
the tick. -/
def execNodeComparatorChange (l level sub : Nat) (s : State) : Out :=
  let s1 := { s with pins := { s.pins with node := tset s.pins.node l level } }
  when (l < 48 && sub < 128) s (ite' s1.live s1 (s1.senseNode l sub))

/-! ### Glaze patches to modulator and gate-port words (R246, R270, R275, R304, R305) -/

/-- A word after a patch (R52). -/
def patchWord (w : Word) (value mask : Nat) : Word := (w &&& ~~~ BitVec.ofNat 32 mask) ||| (BitVec.ofNat 32 value &&& BitVec.ofNat 32 mask)

/-- What a changed word of the modulator or of the gate ports brings about: ports commanded off, enables remembered in
two-step turn-off, comparators and conditions recomputed. -/
def State.legPatched (s old : State) (a : Nat) : State :=
  if R.MOD_LEG_CFG 0 ≤ a && a < R.MOD_LEG_CFG 48 then
    let l := (a - R.MOD_LEG_CFG 0) / 0x80
    let off := (s.setMleg l { s.mleg l with edge := none, dtDone := false }).noWindow l
    let s1 := ite' (!s.on (R.MOD_LEG_CFG_en l)) s ((off.portOff l true).portOff l false)
    (s1.refreshDt l).driveComposite l
  else if R.GTP_LEG_CFG 0 ≤ a && a < R.GTP_LEG_CFG 48 then
    let l := (a - R.GTP_LEG_CFG 0) / 0x40
    let rose := (s.on (R.GTP_LEG_CFG_en_h l) && !old.on (R.GTP_LEG_CFG_en_h l)) || (s.on (R.GTP_LEG_CFG_en_l l) && !old.on (R.GTP_LEG_CFG_en_l l))
    let s1 := ite' (rose && s.on (R.GTP_LEG_STAT_in_soft l)) s ((s.putB (R.GTP_LEG_STAT_enable_pending l) true).bump R.GTP_ERR_CNT_enable_held)
    let s2 := ite' (s.on (R.GTP_LEG_CFG_bypass l)) s1 (s1.setGleg l { s1.gleg l with gsoft := false, wdH := false, wdL := false })
    State.passOpened old ((s2.uvloResponse l).refreshLeg l)
  else if R.GTP_NODE_TH 0 ≤ a && a < R.GTP_NODE_TH 48 then
    let l := (a - R.GTP_NODE_TH 0) / 4
    ite' (l < 32) (s.senseNode l 0) ((s.senseNode l 0).senseFb (l + 64) 0)
  else if R.GTP_FB_TH 0 ≤ a && a < R.GTP_FB_TH 64 then s.senseFb ((a - R.GTP_FB_TH 0) / 4) 0
  else s

/-- Apply one patch to a word and what follows from it. -/
def State.applyPatch (s : State) (p : Patch) : State :=
  (s.setWord p.addr (patchWord (s.word p.addr) p.value p.mask)).legPatched s p.addr

/-! ### The wrap (R16, R244, R254) -/

/-- The sources that divide group `g`'s wrap count it, from zero at image load: the first wrap is a latch, and then every Nth
(R15, R16). -/
def State.wrapSources (s : State) (g : Nat) : State :=
  forUpTo 16 (fun f t =>
    if t.get (R.ENG_FSRC_type f) == 0 && t.get (R.ENG_FSRC_sel f) == g then
      let n := tnum t.frm.div f
      let next := if t.get (R.ENG_FSRC_div f) ≤ n then 0 else n + 1
      { t with frm := { t.frm with div := tset t.frm.div f next, due := if n = 0 then tset t.frm.due f true else t.frm.due } }
    else t) s

/-- Group `g` takes the newest tap count at its own wrap; the register shows it from the first group's wrap on (R265). -/
def State.takeTaps (s : State) (g : Nat) : State :=
  let s1 := match s.mod.tapsNew with
    | some n => { ((s.put R.MOD_CAL_taps n).putB R.MOD_CAL_valid true).bump R.MOD_CAL_updates with mod := { s.mod with tapsNew := none } }
    | none => s
  s1.setGroup g { s1.group g with taps := s1.get R.MOD_CAL_taps }

/-- Every group takes the tap count of the plan in force (R264, R267). -/
def State.tapsAll (s : State) : State := forUpTo 8 (fun g t => t.setGroup g { t.group g with taps := t.get R.MOD_CAL_taps }) s

/-- The tap of an edge of group `g` at fine position `f`: round_half_even(f × n ÷ 128) (R264). -/
def State.tapOf (s : State) (g f : Nat) : Nat := (divRound (f * (s.group g).taps : Nat) 128).toNat

/-- The carrier group of a modulator or gate-port word: the group's own, or its leg's (R270, R305). -/
def State.carrierOf (s : State) (a : Nat) : Option Nat :=
  let leg (l : Nat) : Option Nat := some (s.get (R.MOD_LEG_CFG_cg l))
  if R.MOD_CG_CFG 0 ≤ a && a < R.MOD_CG_CFG 8 then some ((a - R.MOD_CG_CFG 0) / 0x20)
  else if R.MOD_LEG_CFG 0 ≤ a && a < R.MOD_LEG_CFG 48 then leg ((a - R.MOD_LEG_CFG 0) / 0x80)
  else if R.GTP_LEG_CFG 0 ≤ a && a < R.GTP_LEG_CFG 48 then leg ((a - R.GTP_LEG_CFG 0) / 0x40)
  else if R.GTP_NODE_TH 0 ≤ a && a < R.GTP_NODE_TH 48 then leg ((a - R.GTP_NODE_TH 0) / 4)
  else if R.GTP_FB_TH 0 ≤ a && a < R.GTP_FB_TH 64 then leg ((a - R.GTP_FB_TH 0) / 8)
  else none

/-- Whether an enabled group has a period below 4 µs at the plan in force (R265). -/
def State.calDegraded (s : State) : Bool :=
  let f := s.planHz s.mplan
  (List.range 8).any (fun g => s.on (R.MOD_CG_CFG_en g) && s.period g * f.2 * 1000000 < 4 * 128 * f.1)

/-- MOD_STATUS.cal_degraded recomputed (R265). -/
def State.refreshCal (s : State) : State := s.putB R.MOD_STATUS_cal_degraded s.calDegraded

/-- The ticks from the wrap of the running period of group `g` to its next one: ⌊W_{k+1} ÷ 128⌋ − ⌊W_k ÷ 128⌋, and what a changed
offset adds (R244, R246). -/
def State.wrapTicks (s : State) (g : Nat) : Nat := (s.get (R.MOD_CG_COUNT_wrap_fine g) + s.period g) / 128 + (s.group g).lengthen

/-- One MOD tick of the running group `g`: its counter counts, and at W_{k+1} it wraps, the wrap event of its sources occurs and what
the wrap puts in force is due (R243, R244, R246). -/
def State.carrierTick (s : State) (g : Nat) : State :=
  let n := s.get (R.MOD_CG_COUNT_count g) + 1
  if n < s.wrapTicks g then s.put (R.MOD_CG_COUNT_count g) n
  else
    let s1 := (s.put (R.MOD_CG_COUNT_wrap_fine g) ((s.get (R.MOD_CG_COUNT_wrap_fine g) + s.period g) % 128)).put (R.MOD_CG_COUNT_count g) 0
    (s1.setGroup g { s1.group g with lengthen := 0, wrapDue := true }).wrapSources g

/-- The legs of group `g` in the safe state whose transition's patches have now reached them leave it (R269, R305). -/
def State.leaveAtWrap (s : State) (g : Nat) : State :=
  (forUpTo 48 (fun l t => ite' (t.get (R.MOD_LEG_CFG_cg l) == g) t (t.leaveLeg l)) s).safeShown

/-- A changed offset lengthens the period that begins by (new − old) mod T ticks; `old` is the offset before the wrap's patches (R246;
DEDUCED: the next period is the one that starts at the wrap at which the patch takes effect, R270). -/
def State.lengthenBy (s : State) (g old : Nat) : State :=
  let d := ((s.get (R.MOD_CG_OFFSET_offset g) : Int) - old) % max 1 (s.get (R.MOD_CG_PERIOD_ticks g))
  ite' (d != 0) s ((s.setGroup g { s.group g with lengthen := d.toNat }).bump (R.MOD_CG_ERR_lengthened g))

/-- CARRIER_WRAP of group `g` (R244), once the latches of its tick have published and swapped: patches, period, compares and windows,
comparator clears and blanking. -/
def State.carrierWrap (s : State) (g : Nat) : State :=
  let s1 := (s.setGroup g { s.group g with wrapDue := false }).takeTaps g
  let ps := (s1.group g).patches
  let s2 := s1.setGroup g { s1.group g with patches := [] }
  let s3 := (ps.foldl State.applyPatch s2).leaveAtWrap g
  let s3' := forUpTo 48 (fun l t => ite' (t.get (R.MOD_LEG_CFG_cg l) == g) t (t.discardCrumb l)) s3
  let s4 := forUpTo 48 (fun l t => t.wrapLeg g l) ((s3'.wrapPeriod g).lengthenBy g (s.get (R.MOD_CG_OFFSET_offset g))).refreshCal
  State.passOpened s ((s4.carrierClears g).startWindows 1 g)

/-- CARRIER_START: every enabled group starts in one tick; another group's reference than its own puts its first wrap offset ticks
after it (R245). DEDUCED: the position (P − offset) mod P is kept in fine steps, so that the first wrap falls on that tick exactly. -/
def State.startCarriers (s : State) : State :=
  forUpTo 8 (fun g t =>
    if t.on (R.MOD_CG_CFG_en g) then
      let p := max 1 (t.period g)
      let x := if t.get (R.MOD_CG_CFG_ref g) = g then 0 else (((p : Int) - 128 * t.get (R.MOD_CG_OFFSET_offset g)) % p).toNat
      let t1 := (t.put (R.MOD_CG_COUNT_count g) (ceilDiv x 128)).put (R.MOD_CG_COUNT_wrap_fine g) ((128 - x % 128) % 128)
      let t2 := t1.setGroup g { t1.group g with running := true, wrapDue := false, lengthen := 0 }
      let now := 128 * t2.clk.modTick
      forUpTo 48 (fun l u => ite' (u.get (R.MOD_LEG_CFG_cg l) == g) u
        (u.setMleg l { u.mleg l with wrapAt := t2.wrapInstant g - 128 * t2.get (R.MOD_CG_COUNT_count g), riseH := now, riseL := now })) t2
    else t) s

/-! ### Edges, interlock, comparators (R248, R257 to R259, R275, R282, R283, R302) -/

/-- The instants of leg `l`'s window in the running period, from the tick of its wrap, in fine steps (R244, R248). -/
def State.winBounds (s : State) (l : Nat) : Nat × Nat :=
  let wf := s.get (R.MOD_CG_COUNT_wrap_fine (s.get (R.MOD_LEG_CFG_cg l)))
  (wf + (s.mleg l).winOn, wf + (s.mleg l).winEnd)

/-- Whether the command of leg `l`'s port `h` is on in the present tick by the window in force: [on, off) for the port that it names,
the rest of the period for the other. A tick in which the window begins or ends counts to both (R244, R248). -/
def State.commanded (s : State) (l : Nat) (h : Bool) : Bool :=
  let m := s.mleg l
  let n := s.get (R.MOD_CG_COUNT_count (s.get (R.MOD_LEG_CFG_cg l)))
  let a := (s.winBounds l).1 / 128
  let b := (s.winBounds l).2 / 128
  if m.names h then m.winOn < m.winEnd && a ≤ n && (n < b || (a == b && n == a))
  else m.winEnd ≤ m.winOn || n < a || b ≤ n

/-- The instant in fine steps at which the command of port `h`, on in the present tick, rose: W_k plus the compare at which the window
starts or ends, or an earlier one from which the command has been on (R244, R248). -/
def State.edgeTime (s : State) (l : Nat) (h : Bool) : Nat :=
  let m := s.mleg l
  let n := s.get (R.MOD_CG_COUNT_count (s.get (R.MOD_LEG_CFG_cg l)))
  if m.names h then (if m.winOn = 0 then m.rise h else m.wrapAt + m.winOn)
  else if m.winOn < m.winEnd && (s.winBounds l).2 / 128 ≤ n then m.wrapAt + m.winEnd
  else m.rise h

/-- COMMAND_EDGE (R248): the H command of leg `l` rises (`toH`) or the L command; the outgoing port turns off and dead
time starts, in the bin of the period; the delay line's tap makes the edge (R257, R258, R264). A clear fault latch and a newly enabled
port act at this rising edge, the one that a turn-off held among them (R275, R302). -/
def State.commandEdge (s : State) (l : Nat) (toH : Bool) : State :=
  let s1 := s.faultClear l
  let g := s1.gleg l
  let s2 := ite' (s1.effective l toH) s1 (s1.setGleg l (if toH then { g with startedH := true } else { g with startedL := true }))
  let s3 := (ite' (!s2.on (R.GTP_LEG_STAT_in_soft l)) s2 (s2.putB (R.GTP_LEG_STAT_enable_pending l) false)).portOff l (!toH)
  let m := s3.mleg l
  let t := s3.edgeTime l toH
  let dt := (s3.deadTime l ((if toH then 2 else 0) + m.binNeg.toNat)).1
  let s4 := s3.setMleg l { m with
    edge := some toH, edgeAt := t, dtUntil := t + dt, dtDone := false, measuring := true, measToH := toH, measNeg := m.binNeg,
    tap := s3.tapOf (s3.get (R.MOD_LEG_CFG_cg l)) (t % 128), lastEdge := some (toH, t) }
  s4.startWindows 2 l

/-- Whether the incoming port of an edge is already commanded on or waited for, or this very edge has been taken: after an interlock
timeout the port waits for the leg's next one (R259). -/
def State.edgeSeen (s : State) (l : Nat) (toH : Bool) : Bool :=
  (if toH then (s.gleg l).cmdH else (s.gleg l).cmdL) || (s.mleg l).edge == some toH || (s.mleg l).lastEdge == some (toH, s.edgeTime l toH)

/-- Whether leg `l`'s carrier group runs, and has put in force what its last wrap brought. -/
def State.legRuns (s : State) (l : Nat) : Bool :=
  let g := s.group (s.get (R.MOD_LEG_CFG_cg l))
  s.on (R.MOD_LEG_CFG_en l) && g.running && !g.wrapDue && !s.modStopped

/-- COMMAND_EDGE (R248): the edge of a port whose window has come. -/
def execCommandEdge (l : Nat) (toH : Bool) (s : State) : Out :=
  when (s.live && l < 48 && s.legRuns l && s.commanded l toH && !s.edgeSeen l toH) s (s.commandEdge l toH)

/-- Whether the fine-step instant `t` falls in the present MOD tick or has passed. -/
def State.reached (s : State) (t : Nat) : Bool := t / 128 ≤ s.clk.modTick

/-- DEAD_TIME_EXPIRY (R257, R259): the dead time has passed since the edge; the incoming port turns on if the outgoing FB reads off, and
waits otherwise. -/
def execDeadTimeExpiry (l : Nat) (s : State) : Out :=
  match (s.mleg l).edge with
  | some toH =>
    when (s.live && l < 48 && !(s.mleg l).dtDone && !s.modStopped && s.reached (s.mleg l).dtUntil) s
      (if s.fbOn (portOf l (!toH)) then s.setMleg l { s.mleg l with dtDone := true } else s.edgeDone l toH)
  | none => .next s

/-- t_il of leg `l` in fine steps: 20 ns to 5 µs (R259, R266). -/
def State.interlockTime (s : State) (l : Nat) : Nat := s.fine (max 20000 (min (s.get (R.MOD_LEG_TIME_t_il l)) 5000000))

/-- INTERLOCK_TIMEOUT (R259): the outgoing FB has not read off within t_il of the edge; the incoming port stays off, the outgoing
port's source is raised. -/
def execInterlockTimeout (l : Nat) (s : State) : Out :=
  match (s.mleg l).edge with
  | some toH =>
    let s1 := s.setMleg l { s.mleg l with edge := none, dtDone := false }
    when (s.live && l < 48 && s.fbOn (portOf l (!toH)) && !s.modStopped && s.reached ((s.mleg l).edgeAt + s.interlockTime l)) s
      ((s1.raise (240 + portOf l (!toH))).putB (R.MOD_LEG_STAT_il_timeout l) true)
  | none => .next s

/-! ### Calibration, clock stop, hop (R265, R267 to R269) -/

/-- CALIBRATION_MEASUREMENT (R265): a tap count is measured; 16 are averaged. On A1 a short period stops it between swaps: then the 16
measurements after each source's swap, and those while a swap is under way, are taken (log entry 32). -/
def execCalibrationMeasurement (taps : Nat) (s : State) : Out :=
  let deg := s.calDegraded
  let r := s.refreshCal
  let s1 := { r with mod := { r.mod with calLeft := r.mod.calLeft - 1 } }
  let q := taps :: s.mod.tapSamples
  let avg := (freeDiv 265 (q.foldl (fun a b => a + b) 0 : Nat) 16).toNat
  let s2 :=
    if deg && !s.on R.SEQ_STATUS_swapping && s.mod.calLeft = 0 then s1
    else if q.length < 16 then { s1 with mod := { s1.mod with tapSamples := q } }
    else { s1 with mod := { s1.mod with tapSamples := [], tapsNew := some avg, tapsOf := tset s1.mod.tapsOf s.mplan avg } }
  when (s.live && 96 ≤ taps && taps ≤ 160 && !s.modStopped) s s2

/-- MOD_CLOCK_STOP (R269): the legs go to the safe state and every blanking gate opens (R285). -/
def State.modClockStop (s : State) : State :=
  (s.putB R.MOD_STATUS_clk_stop true).openGates.safeState

/-- MOD_CLOCK_STOP (R269). -/
def execModClockStop (s : State) : Out := when s.live s s.modClockStop

/-- Every leg discards its crumb at its next wrap, a wrap of this very tick that is still to be evaluated not counted (R261). -/
def State.dropCrumbs (s : State) : State :=
  forUpTo 48 (fun l t =>
    let m := t.mleg l
    t.setMleg l (if (t.group (t.get (R.MOD_LEG_CFG_cg l))).wrapDue then { m with crumbHold := true } else { m with crumbDrop := true })) s

/-- An edge whose outgoing FB has fallen while the MOD clock stood goes on with the clock (R90, R259). -/
def State.edgeResumes (s : State) (l : Nat) : State :=
  match (s.mleg l).edge with
  | some toH => ite' ((s.mleg l).dtDone && !s.fbOn (portOf l (!toH))) s (s.edgeDone l toH)
  | none => s

/-- The MOD clock returns after a hop: the target plan's tap count, fresh dead-time filters, crumbs to discard; the
missing-frame timers restart (R261, R267, R280). -/
def State.modAfterHop (s : State) : State :=
  let n := tnum s.mod.tapsOf s.mplan
  let s1 := (s.put R.MOD_CAL_taps n).putB R.MOD_CAL_valid (n != 0)
  let s2 := ({ s1 with mod := { s1.mod with tapSamples := [], tapsNew := none } }).tapsAll
  forUpTo 48 (fun l t => ((t.setMleg l { t.mleg l with meas := [] }).refreshDt l).edgeResumes l) s2.refreshCal.dropCrumbs
/-- The modulator at SAFE-ready: a tap count of every MPLAN, measured in the band searches, whose value is free within 96 to 160
(R264, R265; log entry 3), and every dead time at dt_max (R258). -/
def State.modStart (s : State) : State :=
  let s1 := forUpTo 8 (fun i t =>
    if t.on (R.CLK_PLAN_defined i) then { t with mod := { t.mod with tapsOf := tset t.mod.tapsOf i (96 + t.freshNat % 65) } }.burn else t) s
  let s2 := ((s1.put R.MOD_CAL_taps (tnum s1.mod.tapsOf s1.mplan)).putB R.MOD_CAL_valid true).tapsAll
  forUpTo 48 (fun l t => t.refreshDt l) s2.refreshCal

end Sys2Proof.Machine
end

