-- ==== Sys2Proof/Machine/Clock.lean ====
section
/-!
DEFINITION. Clock synthesis: lock windows, references, plan hops, divider synchronisation (chapter Clock Synthesis, R80 to
R95).
-/

namespace Sys2Proof.Machine

/-! ### Synthesizers and lock (R86 to R88) -/

/-- Synthesizer `i`: 0 SYN_M, 1 SYN_E, 2 SYN_A. -/
def State.syn (s : State) (i : Nat) : SynS := tget s.clk.syn i { }

/-- Replace synthesizer `i`. -/
def State.setSyn (s : State) (i : Nat) (x : SynS) : State := { s with clk := { s.clk with syn := tset s.clk.syn i x } }

/-- The plan register of plan `p` of synthesizer `i`. -/
def planReg (i p : Nat) : Nat := if i = 0 then p else 8 + p

/-- The plan in force of synthesizer `i`. -/
def State.planIn (s : State) (i : Nat) : Nat := if i = 0 then s.mplan else s.get R.CLK_STATUS_eplan

/-- N × 2^20 that synthesizer `i` is loaded with: its plan's or hop target's, and SYN_A's fixed 96 (R80, R81, R89). -/
def State.synN (s : State) (i : Nat) : Nat :=
  if i = 2 then 96 * 2 ^ 20
  else s.planN (planReg i (if (s.syn i).hopping then (s.syn i).hopTarget else s.planIn i))

/-- The locked bit of synthesizer `i`. -/
def lockedFld (i : Nat) : Fld := ⟨R.CLK_STATUS, 5 + i, 1⟩

/-- The loss-of-lock bit of synthesizer `i`. -/
def lolFld (i : Nat) : Fld := ⟨R.CLK_STATUS, i, 1⟩

/-- CLK_LOCK_CFG.lock_tol, 0 acting as 1. -/
def State.lockTol (s : State) : Nat := max 1 (s.get R.CLK_LOCK_CFG_lock_tol)

/-- CLK_LOCK_CFG.lol_tol, below lock_tol acting as lock_tol. -/
def State.lolTol (s : State) : Nat := max s.lockTol (s.get R.CLK_LOCK_CFG_lol_tol)

/-- Whether synthesizer `i` runs: SYN_A once its search is over, the others once an accepted image has loaded their plans (R64,
R83). -/
def State.synRuns (s : State) (i : Nat) : Bool :=
  match s.boot.stage with
  | .inReset | .waitSfdp | .waitSynA => false
  | .waitFuses | .waitReady | .running => i < 3
  | _ => i == 2

/-- LOSS_OF_LOCK: the sticky flag and its source, raised at every loss, whether or not the flag still stands (R86, R87; DESIGN
CHOICE, log entry 37). -/
def State.loseLock (s : State) (i : Nat) : State :=
  let s1 := ((s.putB (lolFld i) true).putB (lockedFld i) false).raise (400 + i)
  s1.setSyn i { s1.syn i with goodWindows := 0 }

/-- |C − E| × 2^20 for a window of 16 phase-detector cycles: E = 2 × N (R86). -/
def State.lockError (s : State) (i c : Nat) : Nat := ((c * 2 ^ 20 : Nat) - (2 * s.synN i : Nat) : Int).natAbs

/-- Whether a window's count is within lock_tol of the expected one (R86). -/
def State.goodWindow (s : State) (i c : Nat) : Bool := s.lockError i c ≤ s.lockTol * 2 ^ 20

/-- Whether windows with the counts `cs`, the first after the synthesizer has settled, declare lock: two good ones in a row (R86). -/
def State.locksOn (s : State) (i : Nat) (cs : List Nat) : Bool := (cs.zip (cs.drop 1)).any (fun p => s.goodWindow i p.1 && s.goodWindow i p.2)

/-- Whether synthesizer `i` uses reference `r`; SYN_A uses XIN (R80). -/
def State.usesRef (s : State) (i r : Nat) : Bool :=
  if i = 0 then s.get R.CLK_REF_SEL_ref_m == r else if i = 1 then s.get R.CLK_REF_SEL_ref_e == r else r == 0

/-- Whether reference `r` is present (CLK_STATUS). -/
def State.refPresent (s : State) (r : Nat) : Bool := s.get R.CLK_STATUS_ref_present / 2 ^ r % 2 == 1

/-- Whether synthesizer `i` holds its tuning because its reference is absent (R88). -/
def State.holdover (s : State) (i : Nat) : Bool := (List.range 3).any (fun r => s.usesRef i r && !s.refPresent r)

/-- LOCK_WINDOW_END (R86): the window of synthesizer `i` counted `c`; lock takes two good windows, and one bad window loses
it. -/
def execLockWindowEnd (i c : Nat) (s : State) : Out :=
  let x := s.syn i
  let err := s.lockError i c
  let n := if s.goodWindow i c then x.goodWindows + 1 else 0
  let t :=
    if s.on (lockedFld i) then ite' (s.lolTol * 2 ^ 20 < err) s (s.loseLock i)
    else ite' (2 ≤ n) (s.setSyn i { x with goodWindows := n }) ((s.setSyn i { x with goodWindows := n }).putB (lockedFld i) true)
  when (s.synRuns i && !x.poweredDown && !s.holdover i) s t

/-- REFERENCE_LOSS (R88): reference `r` is lost; those that use it hold their tuning while it is absent. LOR is raised at every loss (DESIGN CHOICE, log
entry 37). -/
def State.refLost (s : State) (r : Nat) : State :=
  let s1 := s.put ⟨R.CLK_STATUS, 14 + r, 1⟩ 0
  let used := (List.range 3).any (fun i => s.usesRef i r)
  let s2 := ite' used s1 ((s1.putB R.CLK_STATUS_lor true).raise 403)
  forUpTo 3 (fun i t => ite' (t.usesRef i r) t (t.setSyn i { t.syn i with goodWindows := 0 })) s2

/-- REFERENCE_LOSS (R88): seen by a monitor that runs whenever the device is out of reset. -/
def execReferenceLoss (r : Nat) (s : State) : Out :=
  when (s.boot.stage != .inReset && r < 3 && s.refPresent r) s (s.refLost r)

/-- REFERENCE_RETURN (R88): the synthesizers that use `r` relock on their bands. -/
def execReferenceReturn (r : Nat) (s : State) : Out :=
  let s1 := s.put ⟨R.CLK_STATUS, 14 + r, 1⟩ 1
  when (s.boot.stage != .inReset && r < 3 && !s.refPresent r) s
    (forUpTo 3 (fun i t => ite' (t.usesRef i r) t ((t.setSyn i { t.syn i with goodWindows := 0 }).putB (lockedFld i) false)) s1)

/-! ### Hops (R89 to R93) -/

/-- CLK_STATUS.hop_busy recomputed. -/
def State.hopBusy (s : State) : State :=
  s.putB R.CLK_STATUS_hop_busy ((List.range 2).any (fun i => (s.syn i).hopping || (s.syn i).pendingHop.isSome))

/-- Count a discarded request (R93). -/
def State.hopNull (s : State) : State := s.bump R.CLK_HOP_CNT_null

/-- A hop request of synthesizer `i` for plan `p`, at CLK_HOP_TIME or immediate; one made while a hop executes waits (R93). -/
def State.hopRequest (s : State) (i p : Nat) (atTime : Bool) : State :=
  let x := s.syn i
  if !s.on (R.CLK_PLAN_defined (planReg i p)) || (i == 1 && s.boot.header.slowestEplan < p) then s.hopNull
  else if p = s.planIn i ∧ !x.hopping then ((s.setSyn i { x with pendingHop := none }).hopNull).hopBusy
  else
    let late := atTime && decide (s.word64 R.CLK_HOP_TIME < s.clk.plantTime)
    let s1 := s.setSyn i { x with pendingHop := some p, atTime := atTime && !late }
    (ite' late s1 (s1.bump R.CLK_HOP_CNT_late)).hopBusy

/-- HOP_REQUEST_M (R93). -/
def execHopRequestM (p : Nat) (atTime : Bool) (s : State) : Out := when (s.live && p < 8) s (s.hopRequest 0 p atTime)

/-- HOP_REQUEST_E (R93). -/
def execHopRequestE (p : Nat) (atTime : Bool) (s : State) : Out := when (s.live && p < 4) s (s.hopRequest 1 p atTime)

/-- HOP_INSTANT (R89): the output is gated off and the target plan loaded; a SYN_M hop stops the MOD domain, which opens
the blanking gates (R90, R285). A request for a plant time waits until plant time has reached CLK_HOP_TIME as that register then
stands (R93; DESIGN CHOICE, log entry 37). -/
def execHopInstant (i : Nat) (s : State) : Out :=
  let x := s.syn i
  match x.pendingHop with
  | none => .next s
  | some p =>
    let s1 := s.setSyn i { x with hopping := true, hopTarget := p, pendingHop := none, atTime := false, goodWindows := 0 }
    let s2 := (s1.putB (lockedFld i) false).hopBusy
    let now := some s.clk.plantTime
    let s3 := { s2 with gov := if i = 0 then { s2.gov with lastHopM := now } else { s2.gov with lastHopE := now } }
    let due := !x.atTime || decide (s.word64 R.CLK_HOP_TIME ≤ s.clk.plantTime)
    when (s.live && i < 2 && !x.hopping && !x.poweredDown && due) s (ite' (i == 0) s3 s3.openGates)

/-- An armed synchronisation of synthesizer `i` executes: the arm bit clears and SYNC_DONE is raised (R94). -/
def State.syncExec (s : State) (i : Nat) : State :=
  ((s.put ⟨R.CLK_SYNC_CTL, i, 1⟩ 0).setSyn i { s.syn i with syncDeferred := false }).raise 407

/-- The output of synthesizer `i` is released on its hop target: the plan comes into force, waiting requests and a deferred
synchronisation act, also one disarmed since its event (R89, R93, R95, R267; DESIGN CHOICE, log entry 37). -/
def State.hopRelease (s : State) (i : Nat) : State :=
  let x := s.syn i
  let s1 := s.setSyn i { x with hopping := false, pendingHop := if x.pendingHop = some x.hopTarget then none else x.pendingHop }
  let s2 := ite' (x.pendingHop = some x.hopTarget) s1 s1.hopNull
  let s3 := if i = 0 then (s2.put R.CLK_STATUS_mplan x.hopTarget).modAfterHop else s2.put R.CLK_STATUS_eplan x.hopTarget
  let s4 := ite' x.syncDeferred s3 (s3.syncExec i)
  (s4.count 0xA4).hopBusy

/-- HOP_DONE (R89). CLK_HOP_CNT.done counts the hops that end with lock, HOP_DONE_M and HOP_DONE_E likewise (DESIGN CHOICE, log
entry 37). -/
def execHopDone (i : Nat) (s : State) : Out :=
  when (s.live && i < 2 && (s.syn i).hopping && s.on (lockedFld i)) s
    (((s.hopRelease i).bump R.CLK_HOP_CNT_done).raise (404 + i))

/-- HOP_FAIL (R92): the output is released unlocked. -/
def execHopFail (i : Nat) (s : State) : Out :=
  when (s.live && i < 2 && (s.syn i).hopping && !s.on (lockedFld i)) s
    ((((s.hopRelease i).putB R.CLK_STATUS_hop_fail true).raise 406).loseLock i)

/-! ### Divider synchronisation (R94, R95) -/

/-- The target plant time of mark_lsb `m` at plant time `now` (R94). -/
def syncTarget (now m : Nat) : Nat :=
  let t := now / 2 ^ 56 * 2 ^ 56 + m * 2 ^ 28
  if t + 2 ^ 55 < now then (t + 2 ^ 56) % 2 ^ 64 else t

/-- A write to CLK_SYNC_CTL (R94). -/
def State.syncArm (s : State) (w : Word) : State :=
  let s1 := s.setWord R.CLK_SYNC_CTL w
  { s1 with clk := { s1.clk with syncTarget := syncTarget s1.clk.plantTime (s1.get R.CLK_SYNC_CTL_mark_lsb) } }

/-- SYNC_ARM (R94). -/
def execSyncArm (w : Word) (s : State) : Out := when s.live s (s.syncArm w)

/-- A synchronisation event: each armed synthesizer's divider resets, deferred while it hops (R94, R95). -/
def State.syncEvent (s : State) (mark : Bool) (time : Nat) : State :=
  let ok := s.on R.CLK_SYNC_CTL_source == mark && (!mark || s.clk.syncTarget ≤ time)
  if !ok then s
  else forUpTo 3 (fun i t =>
    if t.get ⟨R.CLK_SYNC_CTL, i, 1⟩ = 0 then t
    else if (t.syn i).hopping then t.setSyn i { t.syn i with syncDeferred := true }
    else t.syncExec i) s

/-- SYNC_EVENT (R94): a rising edge of SYNC_IN, or the time mark of plant time `time` (`mark`). -/
def execSyncEvent (mark : Bool) (time : Nat) (s : State) : Out := when s.live s (s.syncEvent mark time)

end Sys2Proof.Machine
end

