-- ==== Sys2Proof/Machine/Flags.lean ====
section
/-!
DEFINITION. The flags an instruction leaves: satf and its causes, ENG_ERR_CNT, and the checked reads and writes that set
them (R26, R153, R158, R173, R182, R500).
-/

namespace Sys2Proof.Machine

/-- A saturation of context `c` (R153). -/
def State.satFlag (s : State) (c : Nat) : State := (s.putB (R.ENG_CTX_STAT_satf c) true).putB (R.ENG_CTX_STAT_sat_seen c) true

/-- An operand fault or invalid read of context `c` (R158, R500). -/
def State.opFault (s : State) (c : Nat) : State :=
  ((s.putB (R.ENG_CTX_STAT_satf c) true).putB (R.ENG_CTX_STAT_op_seen c) true).bump R.ENG_ERR_CNT_op_err

/-- An ownership fault of context `c` (R26, R173, R174). -/
def State.ownFault (s : State) (c : Nat) : State :=
  ((s.putB (R.ENG_CTX_STAT_satf c) true).putB (R.ENG_CTX_STAT_own_seen c) true).bump R.ENG_ERR_CNT_own_err

/-- satFlag if `v` does not fit a signal. -/
def State.satIf (s : State) (c : Nat) (v : Int) : State := ite' (saturates v) s (s.satFlag c)

/-- The operand signals of an instruction are read: each unreadable one counts (R158). -/
def State.readAll (s : State) (c : Nat) (sigs : List Nat) : State :=
  sigs.foldl (fun t x => ite' (!s.readable c x) t (t.opFault c)) s

/-- Write `v` through sat32 to signal `dst`: its working value, or an ownership fault that writes nothing and raises
BOARD_FAULT (R23, R26, R146, R153, R169). -/
def State.wr (s : State) (c dst : Nat) (v : Int) : State :=
  let t := s.satIf c v
  if s.owns c dst then t.setFr c { t.fr c with work := tset (t.fr c).work dst (BitVec.ofInt 32 (sat32 v)) }
  else (t.ownFault c).raise 445

end Sys2Proof.Machine
end

