-- ==== Sys2Proof/Machine/Record.lean ====
section
/-!
DEFINITION. What the observation path writes on its own: records into the observation RAM through Q26 (R450 to R453),
precise samples (R447, R448) and lane-cycle classes (R449).
-/

namespace Sys2Proof.Machine

/-! ### Observation RAM and records (R450, R451) -/

/-- The observation RAM's first byte and its length in 8-byte units (R450). -/
def obsRam : Nat := 0x0D040000

/-- Units of the observation RAM. -/
def obsUnits : Nat := 32768

/-- Units written and not read; the ring keeps one unit free, because rd = wr means that nothing is unread. -/
def State.obsUsed (s : State) : Nat := (s.get R.OBS_RAM_STAT_wr + obsUnits - s.get R.OBS_RAM_RD_rd) % obsUnits

/-- Whether a record of `b` bytes fits in front of the read pointer (R450). -/
def State.obsFits (s : State) (b : List Byte) : Bool := s.obsUsed + b.length / 8 < obsUnits

/-- Write whole units at the write pointer, which advances around the ring. -/
def State.obsPutUnits (s : State) (b : List Byte) : Nat → State
  | 0 => s
  | n + 1 =>
    let wr := s.get R.OBS_RAM_STAT_wr
    ((s.setBytes (obsRam + 8 * wr) (b.take 8)).put R.OBS_RAM_STAT_wr ((wr + 1) % obsUnits)).obsPutUnits (b.drop 8) n

/-- A record goes into the RAM and counts as written. -/
def State.obsStore (s : State) (b : List Byte) : State := (s.obsPutUnits b (b.length / 8)).count 0xAE

/-- The units that wait in Q26. -/
def State.q26Units (s : State) : Nat := s.obs.q26.foldl (fun n b => n + b.length / 8) 0

/-- OBS_STATUS.q26_full recomputed. -/
def State.q26Flag (s : State) : State := s.putB R.OBS_STATUS_q26_full (64 ≤ s.q26Units)

/-- Pass a record on: into the RAM if nothing waits and it fits, else into Q26 if it has room. The Boolean says
whether it was taken (R450). -/
def State.obsTake (s : State) (b : List Byte) : State × Bool :=
  if s.obs.q26.isEmpty && s.obsFits b then ((s.countN (0x80 + 26) (b.length / 8)).obsStore b, true)
  else if s.q26Units + b.length / 8 ≤ 64 then
    (({ s with obs := { s.obs with q26 := s.obs.q26 ++ [b] } }.countN (0x80 + 26) (b.length / 8)).q26Flag, true)
  else ((s.countN (0x60 + 26) (b.length / 8)).q26Flag, false)

/-- The records that wait in Q26 enter the RAM, oldest first, as far as they fit (R450). -/
def State.q26Drain (s : State) : Nat → State
  | 0 => s
  | n + 1 =>
    match s.obs.q26 with
    | [] => s
    | b :: r => if s.obsFits b then (({ s with obs := { s.obs with q26 := r } }.obsStore b).q26Flag).q26Drain n else s

/-- Pad a payload to whole units. -/
def padUnits (b : List Byte) : List Byte := b ++ List.replicate ((8 - b.length % 8) % 8) 0

/-- A record's bytes (R451). A record longer than 255 units has no stated length byte: it is `free`. -/
def recordBytes (ty subj flags idx free : Nat) (payload : List Byte) : List Byte :=
  let p := padUnits payload
  let n := p.length / 8 + 1
  leBytes 1 ty ++ leBytes 1 (if n < 256 then n else free) ++ leBytes 1 subj ++ leBytes 1 flags ++ leBytes 4 idx ++ p

/-- Whether context `c` is recorded: selected in OBS_REC_CTX while recording (R452). -/
def State.recorded (s : State) (c : Nat) : Bool :=
  s.obs.recording && (s.word64 R.OBS_REC_CTX) / 2 ^ c % 2 = 1

/-- Whether the grid unit is recorded. -/
def State.gridRecorded (s : State) : Bool := s.obs.recording && s.on R.OBS_REC_CTL_grid

/-- The subjects whose record sequence ends where a record of type `ty` and subject byte `subj` is lost: a swap's and a published
parameter's subject byte is a frame source, and every recorded subject that uses it is affected (R451 to R453). -/
def State.lostSubjects (s : State) (ty subj : Nat) : List Nat :=
  if ty == 4 || (ty == 5 && subj != 64) then
    (List.range 64).filter (fun c => s.recorded c && s.srcOf c == subj)
      ++ (if s.gridRecorded && s.get R.GRD_IN_CFG_fsrc == subj then [64] else [])
  else [subj]

/-- Write one record; a lost one counts and the next that fits is preceded by a gap record (R450, R453). -/
def State.record (s : State) (ty subj flags idx : Nat) (payload : List Byte) : State :=
  let s0 := s.burn
  let b := recordBytes ty subj flags idx s.freshNat payload
  let lost (t : State) : State :=
    let u := (t.bump R.OBS_ERR_CNT_rec_lost).count 0xAF
    { u with obs := { u.obs with lostSinceGap := u.obs.lostSinceGap + 1,
                                 needOrigin := (s.lostSubjects ty subj).foldl (fun o c => tset o c true) u.obs.needOrigin } }
  if s0.obs.lostSinceGap = 0 then
    let r := s0.obsTake b
    if r.2 then r.1 else lost r.1
  else
    let gap := recordBytes 7 subj flags idx 0 (leBytes 4 s0.obs.lostSinceGap)
    let room := (s0.obs.q26.isEmpty && s0.obsFits (gap ++ b)) || s0.q26Units + (gap ++ b).length / 8 ≤ 64
    if room then
      let g := (s0.obsTake gap).1
      ({ g with obs := { g.obs with lostSinceGap := 0 } }.obsTake b).1
    else lost (s0.countN (0x60 + 26) (b.length / 8))

/-- A cover break of recorded context `c` with cause `k` (R452, R453). -/
def State.coverBreak (s : State) (c k idx plan : Nat) : State :=
  if s.recorded c then
    let t := s.record 8 c plan idx (leBytes 1 k)
    { t with obs := { t.obs with needOrigin := tset t.obs.needOrigin c true } }
  else s

/-! ### Precise samples (R447, R448) -/

/-- Add an entry to the ring of 1,024, of a frame of plan `p`; a full ring loses the new or the oldest unread entry. Answers the
place, if any. -/
def State.psStore (s : State) (e p : Nat) : State × Option Nat :=
  let h := s.get R.OBS_PS_STAT_head
  let n := s.get R.OBS_PS_STAT_count
  let put (t : State) : State :=
    let u := ((t.setWord64 (R.OBS_PS h) e).setWord64 (R.OBS_PS h + 8) (e / 2 ^ 64)).put R.OBS_PS_STAT_head ((h + 1) % 1024)
    { u with obs := { u.obs with psPlan := tset u.obs.psPlan h p } }
  if n < 1024 then ((put s).put R.OBS_PS_STAT_count (n + 1), some h)
  else
    let t := (s.bump R.OBS_ERR_CNT_ps_lost).count 0xAD
    if s.on R.OBS_PS_CFG_wrap then (put t, some h) else (t, none)

/-- One retired instruction of context `c`, in a frame of plan `p`: counted, and sampled at the end of each period (R447). -/
def State.psRetire (s : State) (c e p : Nat) : State × Option Nat :=
  let f := s.get R.OBS_PS_CFG_ctx
  if s.on R.OBS_PS_CFG_en && (f == 0 || f == c) then
    if max 1 (s.get R.OBS_PS_CFG_period) ≤ s.obs.psCountdown + 1 then
      ({ s with obs := { s.obs with psCountdown := 0 } }.count 0xAC).psStore e p
    else ({ s with obs := { s.obs with psCountdown := s.obs.psCountdown + 1 } }, none)
  else (s, none)

/-- The overrun bit of entries whose frame is abandoned at its commit point (R447). -/
def State.psOverrun (s : State) (c idx : Nat) (places : List Nat) : State :=
  places.foldl (fun t h =>
    let w := t.word64 (R.OBS_PS h)
    if w % 64 = c && (t.word (R.OBS_PS h + 12)).toNat = idx && w / 2 ^ 60 % 2 = 0 then t.setWord64 (R.OBS_PS h) (w + 2 ^ 60) else t) s

/-! ### Taking the counters (R446) -/

/-- OBS_SNAP_TAKE (R446): every counter and accumulator into the shadow. -/
def State.obsTakeSnap (s : State) : State :=
  let s1 := forUpTo 64 (fun n t =>
    let v := tnum s.obs.cnt n
    (t.put (R.OBS_CNT_count_lo n) (v % 2 ^ 32)).put (R.OBS_CNT_count_hi n) (v / 2 ^ 32)) s
  let s2 := forUpTo 5 (fun c t =>
    let v := tnum s.obs.lca c
    (t.put (R.OBS_LCA_cycles_lo c) (v % 2 ^ 32)).put (R.OBS_LCA_cycles_hi c) (v / 2 ^ 32)) s1
  (s2.bumpWrap R.OBS_SNAP_seq).putB R.OBS_SNAP_pending false

/-! ### Lane-cycle accounting (R443, R444, R449) -/

/-- Add `n` lane-cycles of class `c` (4 is discarded) to its accumulator and to the counters of its codes; `ctx` is the
context they were spent on, 0 for none. -/
def State.laneCycles (s : State) (c lane ctx n : Nat) : State :=
  if n = 0 then s
  else
    let s1 := ite' (s.on R.OBS_CTL_cnt_run) s { s with obs := { s.obs with lca := tset s.obs.lca c ((tnum s.obs.lca c + n) % 2 ^ 48) } }
    let s2 := s1.countFor (8 + c) 0 ctx n
    let s3 := ite' (c < 4 && ctx != 0) s2 (s2.countFor 0 0 ctx n)
    if c < 4 then s3.countFor (0x10 + 4 * lane + c) 0 ctx n else s3

end Sys2Proof.Machine
end

