-- ==== Sys2Proof/Machine/Engine.lean ====
section
/-!
DEFINITION. Frames in the engine: memory errors, dispatch, commit, competing-loop groups, commit points and overruns
(R22, R165 to R175, R180 to R205, R250, R390, R395).
-/

namespace Sys2Proof.Machine

/-! ### Memory errors (R180 to R182) -/

/-- The key of a word in the table of poisoned words: its store's number and its address or index. -/
def eccKey (store addr : Nat) : Nat := store * 2 ^ 32 + addr

/-- The key of the engine-store or signal word at address `a`; the program store's is that of its whole instruction (R180). -/
def storeKey (a : Nat) : Nat :=
  if a < 0x04200000 then eccKey 0 a else if a < 0x04300000 then eccKey 1 (a / 8 * 8) else if a < 0x04400000 then eccKey 2 a else eccKey 3 a

/-- Whether a word is poisoned. -/
def State.poisonedAt (s : State) (k : Nat) : Bool := tbit s.eng.poisoned k

/-- A word is rewritten and is no longer poisoned (R182). -/
def State.heal (s : State) (k : Nat) : State := { s with eng := { s.eng with poisoned := tset s.eng.poisoned k false } }

/-- A corrected single-bit error: counted, and its word joins the write-back queue. A full queue stalls the reader until its
oldest entry has drained (R180). -/
def State.eccSingle (s : State) (k : Nat) (lane : Bool) : State :=
  let t := (s.bump R.ENG_ECC_STAT_single).count 0xA1
  if t.eng.writeBack.length < 16 then { t with eng := { t.eng with writeBack := t.eng.writeBack ++ [k] } }
  else
    let u := (ite' lane t (t.bump R.ENG_ERR_CNT_ecc_stall)).putB R.ENG_ECC_STAT_wb_full true
    { u with eng := { u.eng with writeBack := u.eng.writeBack.drop 1 ++ [k] } }

/-- The word of key `k` takes a value that nothing states: two of its bits have changed (R182; free, log entry 3). -/
def State.corrupt (s : State) (k : Nat) : State :=
  let a := k % 2 ^ 32
  let w := BitVec.ofNat 32 s.freshNat
  if k / 2 ^ 32 = 1 then (s.setWord64 a s.freshNat).burn
  else if k / 2 ^ 32 = 4 then (s.setWord (R.ACQ_FB (a / 64) (a / 2 % 32) + 4 * (a % 2)) w).burn
  else if k / 2 ^ 32 = 5 then
    match (s.ctx (a / 64)).imports[a % 64]? with
    | some x => (s.setFr (a / 64) { s.fr (a / 64) with imports := tset (s.fr (a / 64)).imports x w }).burn
    | none => s
  else (s.setWord a w).burn

/-- A double-bit error: the word is poisoned, its address recorded, the error counted, source 444 raised (R182). -/
def State.eccDouble (s : State) (k : Nat) : State :=
  let v := s.corrupt k
  let t := { v with eng := { v.eng with poisoned := tset v.eng.poisoned k true } }
  let u := ((t.put R.ENG_ECC_ADDR_addr (k % 2 ^ 32)).bump R.ENG_ECC_STAT_double).put R.ENG_ECC_STAT_store (k / 2 ^ 32)
  (u.raise 444).count 0xA2

/-- Words of each store that the scrubber reads in turn (R147, R180, R181). -/
def scrubWords (store : Nat) : Nat :=
  if store = 0 then 73728 else if store = 1 then 8192 else if store = 2 then 16384 else if store = 3 then 4096
  else if store = 4 then 1024 else if store = 5 then 4096 else obsUnits

/-- Every recorded context breaks its cover with cause 4 at an uncorrectable error, but those of `own`, which take the error as a
context fault of their own (R31, R182, R452). -/
def State.eccCover (s : State) (own : Nat → Bool) : State :=
  forUpTo 64 (fun c v => ite' (own c) (v.coverBreak c 4 (v.fr c).index (v.planOf c)) v) s

/-- The scrubber finds an error in unit `i` of the observation RAM: counted, and an uncorrectable one takes two of the unit's bits
with it and sets OBS_STATUS.ram_ecc (R443, R450, log entry 29). -/
def State.obsRamEcc (s : State) (i err : Nat) : State :=
  if err = 1 then s.count 0xA1
  else if err = 2 then ((s.setBytes (obsRam + 8 * i) (leBytes 8 s.freshNat)).burn.putB R.OBS_STATUS_ram_ecc true).count 0xA2
  else s

/-- The key of the scrubber's `i`th word of a store. -/
def scrubKey (store i : Nat) : Nat :=
  if store = 0 then eccKey 0 (R.COEF 0 0 + 4 * i) else if store = 1 then eccKey 1 (R.PROG i)
  else if store = 2 then eccKey 2 (R.SLOT 0 0 + 4 * i) else if store = 3 then eccKey 3 (R.S i)
  else eccKey store i

/-- SCRUB_READ (R181, R450): the scrubber reads the next word of `store`, an engine store (0 to 5) or the observation RAM (6), and
finds no error (0), a single-bit (1) or a double-bit error (2). -/
def execScrubRead (store err : Nat) (s : State) : Out :=
  let i := tnum s.eng.scrubPos store
  let k := scrubKey store i
  let t := { s with eng := { s.eng with scrubPos := tset s.eng.scrubPos store ((i + 1) % scrubWords store) } }
  let u := if store = 6 then t.obsRamEcc i err
    else if err = 1 then t.eccSingle k false
    else if err = 2 then (t.eccDouble k).eccCover (fun _ => false)
    else t
  when (s.live && store < 7) s u

/-- ECC_WRITE_BACK (R180): the oldest entry of the write-back queue is written back. -/
def execEccWriteBack (s : State) : Out :=
  when s.live s { s with eng := { s.eng with writeBack := s.eng.writeBack.drop 1 } }

/-! ### Lanes and readiness (R20, R147, R165, R170) -/

/-- Whether lane `l` runs a context. -/
def State.laneBusy (s : State) (l : Nat) : Bool := s.get R.ENG_STATUS_lane_busy / 2 ^ l % 2 = 1

/-- The lowest-numbered free lane. -/
def State.freeLane (s : State) : Option Nat := (List.range 8).find? (fun l => !s.laneBusy l)

/-- Mark a lane busy or free. -/
def State.setLane (s : State) (l : Nat) (b : Bool) : State := s.put ⟨R.ENG_STATUS, l, 1⟩ b.toNat

/-- The ready contexts. -/
def State.readyCtxs (s : State) : List Nat := (List.range 64).filter (fun c => (s.fr c).phase == .ready)

/-- ENG_STATUS.ready recomputed. -/
def State.readyCount (s : State) : State := s.put R.ENG_STATUS_ready s.readyCtxs.length

/-- Whether no ready context has an earlier deadline than `c`, ties going to the lower number (R20). -/
def State.firstDue (s : State) (c : Nat) : Bool :=
  s.readyCtxs.all (fun d => (s.fr c).deadline < (s.fr d).deadline || ((s.fr c).deadline == (s.fr d).deadline && c ≤ d))

/-- Whether the engine may run context `c`: not halted for debug, or stepping it (R461, R462). -/
def State.mayRun (s : State) (c : Nat) : Bool := !s.on R.ENG_STATUS_halted || s.obs.stepping == some c

/-- Whether context `c` waits for its mirror entries (R396). -/
def State.heldByMirror (s : State) (c : Nat) : Bool :=
  tbit s.twn.held (s.srcOf c) && (s.ctx c).imports.any (fun x => tbit s.twn.mirrored x)

/-- CONTEXT_READY (R165): the records and the import buffer of context `c` are complete. -/
def execContextReady (c : Nat) (s : State) : Out :=
  when (s.live && c < 64 && (s.fr c).phase == .copying && !s.heldByMirror c) s
    ((s.setFr c { s.fr c with phase := .ready }).readyCount)

/-! ### The schedules of a frame (R187, R189) -/

/-- Schedule `i` at the start of a frame that carries plan `p` (R187). -/
def State.schStart (s : State) (i p : Nat) : SchF :=
  let reg := s.get (R.ENG_SCH_STAT_region i)
  let idx := tget s.eng.schIdx i (0, 0)
  let want := s.regionOf i idx.1 idx.2 p
  if s.on (R.ENG_SCH_STAT_fading i) then
    ⟨reg, s.get (R.ENG_SCH_STAT_desired i), true, s.get (R.ENG_SCH_STAT_fade_j i) + 1, false, want⟩
  else if want = reg then ⟨reg, reg, false, 0, false, want⟩
  else if s.schXf i = 0 then ⟨want, want, false, 0, true, want⟩
  else ⟨reg, want, true, 1, false, want⟩

/-- The schedules of context `c` at the start of its frame. -/
def State.schStartAll (s : State) (c : Nat) : Tbl SchF :=
  forUpTo 4 (fun k t => if tbit s.eng.schPresent (4 * c + k) then tset t k (s.schStart (4 * c + k) (s.fr c).plan) else t) []

/-- What the registers of schedule `i` show from the start of the frame: the desired region, and one put in force without a
fade, which counts (R187). -/
def State.schShow (s : State) (i : Nat) (x : SchF) : State :=
  let s1 := s.put (R.ENG_SCH_STAT_desired i) x.desired
  ite' x.changed s1 ((s1.put (R.ENG_SCH_STAT_region i) x.region).bump (R.ENG_SCH_STAT_changes i))

/-- A schedule commits with its frame: indices, region, fade progress (R185, R188, R189). -/
def State.schCommit (s : State) (c k : Nat) : State :=
  let i := 4 * c + k
  if !tbit s.eng.schPresent i then s
  else
    let x := s.schF c k
    let s1 := match (s.fr c).newIdx.find? (fun q => q.1 == k) with
      | some q => { s with eng := { s.eng with schIdx := tset s.eng.schIdx i q.2 } }
      | none => s
    let last := x.fading && 2 ^ s.schXf i ≤ x.j
    let s2 := ((s1.put (R.ENG_SCH_STAT_region i) (if last then x.desired else x.region)).put (R.ENG_SCH_STAT_desired i) (if last then x.want else x.desired))
    let s3 := (s2.putB (R.ENG_SCH_STAT_fading i) (x.fading && !last)).put (R.ENG_SCH_STAT_fade_j i) x.j
    ite' last s3 (s3.bump (R.ENG_SCH_STAT_changes i))

/-- A drain resets a schedule to init_region with no fade (R189). -/
def State.schDrain (s : State) (i : Nat) : State :=
  let r := s.get (R.ENG_SCH_CFG_init_region i)
  let na := s.schNa i
  let s1 := (((s.put (R.ENG_SCH_STAT_region i) r).put (R.ENG_SCH_STAT_desired i) r).putB (R.ENG_SCH_STAT_fading i) false).put (R.ENG_SCH_STAT_fade_j i) 0
  { s1 with eng := { s1.eng with schIdx := tset s1.eng.schIdx i (r % na, r / na) } }

/-! ### Dispatch (R168 to R170, R182) -/

/-- A frame of context `c` ends on its lane: the lane is free. -/
def State.leaveLane (s : State) (c : Nat) : State :=
  let busy := (s.fr c).phase == .running || (s.fr c).phase == .waiting
  ite' busy s ((s.setLane (s.fr c).lane false).putB (R.ENG_CTX_CTL_running c) false)

/-- Whether the frame of context `c` is under way. -/
def Phase.underWay (p : Phase) : Bool := p == .copying || p == .ready || p == .running || p == .waiting

/-- The tracked slots that were written while the frame of context `c` ran take their values at its end (R194). -/
def State.trackNow (s : State) (c : Nat) : State :=
  let t := (s.fr c).track.foldl (fun t p => t.setWord (R.SLOT p.1 2) p.2) s
  t.setFr c { t.fr c with track := [] }

/-- A frame ends without a commit and leaves its lane; the overrun bit of its samples is set (R447). -/
def State.dropFrame (s : State) (c : Nat) (ph : Phase) : State :=
  let f := s.fr c
  let t := ((s.psOverrun c f.index f.samples).leaveLane c).trackNow c
  (t.setFr c { t.fr c with phase := ph, samples := [] }).readyCount

/-- A frame ends abandoned at its commit point or faulted: its lane-cycles count as discarded (R449). -/
def State.discardFrame (s : State) (c : Nat) (ph : Phase) : State :=
  let f := s.fr c
  (s.dropFrame c ph).laneCycles 4 f.lane c f.cycles

/-- CONTEXT_FAULT: the frame of context `c` has met a poisoned word; it is counted and 444 raised at once, the rest comes
at its commit point (R182). -/
def State.contextFault (s : State) (c : Nat) : State :=
  let f := s.fr c
  let t := ((s.discardFrame c .faulted).bump (R.ENG_CTX_STAT_ecc c)).raise 444
  t.coverBreak c 2 f.index f.plan

/-- Context `c` starts on lane `l`: 8 start cycles, its schedules formed (R170, R187). -/
def State.startOn (s : State) (c l : Nat) : State :=
  let sch := s.schStartAll c
  let s1 := ((s.setLane l true).putB (R.ENG_CTX_CTL_running c) true).laneCycles 1 l c 8
  let s2 := sch.foldl (fun t x => t.schShow (4 * c + x.1) x.2) s1
  (s2.setFr c { s2.fr c with phase := .running, lane := l, pc := 0, cycles := 8, sch := sch }).readyCount

/-- CONTEXT_DISPATCH (R170): the ready context of earliest deadline starts on the lowest free lane. -/
def execContextDispatch (c : Nat) (s : State) : Out :=
  match s.freeLane with
  | some l => when (s.live && c < 64 && (s.fr c).phase == .ready && s.firstDue c && s.mayRun c) s (s.startOn c l)
  | none => .next s

/-! ### Competing-loop groups (R190 to R196) -/

/-- Group `g` in its frame. -/
def State.grp (s : State) (g : Nat) : GrpS := tget s.eng.grp g { }

/-- Replace group `g`. -/
def State.setGrp (s : State) (g : Nat) (x : GrpS) : State := { s with eng := { s.eng with grp := tset s.eng.grp g x } }

/-- The members of group `g`, by number. -/
def State.members (s : State) (g : Nat) : List Nat := List.range (min 8 (s.get (R.ENG_GRP_CFG_members g)))

/-- Whether member `m` of group `g` is context `c`. -/
def State.memberIs (s : State) (g m c : Nat) : Bool :=
  !s.on (R.ENG_GRP_MEM_kind g m) && s.get (R.ENG_GRP_MEM_ctx g m) == c

/-- The group of which context `c` is a member. -/
def State.groupOf (s : State) (c : Nat) : Option Nat :=
  (List.range 16).find? (fun g => (s.members g).any (fun m => s.memberIs g m c))

/-- clamp(v, lo, hi); lo if lo exceeds hi (R193). -/
def clampLH (lo hi v : Int) : Int := if hi < lo then lo else max lo (min v hi)

/-- The limits of member `m` of group `g`. -/
def State.memLims (s : State) (g m : Nat) : Int × Int := (s.getI (R.ENG_GRP_MEM_lo g m), s.getI (R.ENG_GRP_MEM_hi g m))

/-- Member `m`'s clamp in the frame. -/
def GrpFrame.clamp (x : GrpFrame) (m : Nat) (v : Int) : Int := clampLH (tget x.lims m (0, 0)).1 (tget x.lims m (0, 0)).2 v

/-- Whether member `m`'s lower limit exceeds its upper one (R193). -/
def GrpFrame.bad (x : GrpFrame) (m : Nat) : Bool := (tget x.lims m (0, 0)).2 < (tget x.lims m (0, 0)).1

/-- Whether member `m` of group `g` takes part in the frame (R192). -/
def State.takesPart (s : State) (g m : Nat) (x : GrpFrame) : Bool :=
  s.on (R.ENG_GRP_MEM_kind g m) || x.parts.contains (s.get (R.ENG_GRP_MEM_ctx g m))

/-- Whether member `m` of group `g` is tracked: an enabled context, whether it participated or not (R194). -/
def State.tracked (s : State) (g m : Nat) : Bool :=
  !s.on (R.ENG_GRP_MEM_kind g m) && s.on (R.ENG_CTX_CTL_en (s.get (R.ENG_GRP_MEM_ctx g m)))

/-- The clamped values of the participating members, by member number. -/
def State.groupVals (s : State) (g : Nat) (x : GrpFrame) : List (Nat × Int) :=
  ((s.members g).filter (fun m => s.takesPart g m x)).map (fun m => (m, x.clamp m (tget x.vals m 0)))

/-- The least value of a list and the lowest member that has it. -/
def leastMember : List (Nat × Int) → Option (Nat × Int)
  | [] => none
  | p :: r =>
    match leastMember r with
    | some q => if q.2 < p.2 then some q else some p
    | none => some p

/-- y1 of slot `k` of context `c` takes a tracked value: at once, or with the end of the frame that the context still runs (R194). -/
def State.trackInto (s : State) (c k : Nat) (w : Word) : State :=
  if (s.fr c).phase.underWay then s.setFr c { s.fr c with track := tset (s.fr c).track k w } else s.setWord (R.SLOT k 2) w

/-- GROUP_TRACKING: y1 of every enabled context member's tracked slot takes the clamped output (R194). -/
def State.groupTrack (s : State) (g : Nat) (x : GrpFrame) (out : Int) : State :=
  (s.members g).foldl (fun t m =>
    ite' (t.tracked g m) t (t.trackInto (t.get (R.ENG_GRP_MEM_ctx g m)) (t.get (R.ENG_GRP_MEM_track_slot g m)) (BitVec.ofInt 32 (x.clamp m out)))) s

/-- A frame of group `g` ends. -/
def State.closeFrame (s : State) (g : Nat) (x : GrpFrame) : State :=
  s.setGrp g { s.grp g with frames := (s.grp g).frames.filter (fun y => y.latchNo != x.latchNo) }

/-- A mirror entry enters Q22, behind those that wait for room (R390, R395). -/
def State.sendMirror (s : State) (m : TwinMsg) : State :=
  if s.twn.waitingMirror.isEmpty && hasRoom s.twn.q22 256 then
    { s with twn := { s.twn with q22 := s.twn.q22 ++ [m] } }.count (0x80 + 22)
  else
    ({ s with twn := { s.twn with waitingMirror := s.twn.waitingMirror ++ [m] } }.bump R.TWN_ERR_CNT_tx_wait).count (0x60 + 22)

/-- Whether signal `x` is mirrored to the partner (R394). -/
def State.mirrors (s : State) (x : Nat) : Bool :=
  (List.range 256).any (fun i => s.on (R.TWN_MIRROR_valid i) && s.get (R.TWN_MIRROR_signal i) == x)

/-- The resolved output `w` of group `g` is sent, if it is mirrored, with the tag of its frame `idx` plus one (R395). -/
def State.groupMirror (s : State) (g idx : Nat) (w : Word) : State :=
  let x := s.get (R.ENG_GRP_CFG_out g)
  ite' (s.paired && s.mirrors x) s (s.sendMirror (.mirror (s.get (R.ENG_GRP_CFG_fsrc g)) ((idx + 1) % 2 ^ 32) x w))

/-- GROUP_RESOLUTION of a frame (R193); without any participating member the group is held (R193). A clamp whose lower limit exceeds
its upper one sets fault, a tracked member's too (R193, R194). Of two frames that resolve between two latches the next one publishes the
output of the one resolved last (DESIGN CHOICE, log entry 30). -/
def State.groupResolve (s : State) (g : Nat) (x : GrpFrame) : State :=
  let s0 := s.closeFrame g x
  match leastMember (s.groupVals g x) with
  | none => s0.putB (R.ENG_GRP_STAT_held g) true
  | some q =>
    let bad := (s.members g).any (fun m => (s.takesPart g m x || s.tracked g m) && x.bad m)
    let s1 := (s.members g).foldl (fun t m => t.putB (R.ENG_GRP_MEM_participated g m) (s.takesPart g m x)) s0
    let s2 := ite' (s1.get (R.ENG_GRP_STAT_winner g) != q.1) s1 (s1.bump (R.ENG_GRP_STAT_winner_changes g))
    let s3 := (s2.put (R.ENG_GRP_STAT_winner g) q.1).putB (R.ENG_GRP_STAT_held g) false
    let s4 := ite' bad s3 (s3.putB (R.ENG_GRP_STAT_fault g) true)
    let s5 := s4.putI (R.ENG_GRP_OUT_value g) q.2
    ((s5.setGrp g { s5.grp g with pend := some (BitVec.ofInt 32 q.2) }).groupTrack g x q.2).groupMirror g x.index (BitVec.ofInt 32 q.2)

/-- GROUP_FAULT of a frame (R195). -/
def State.groupFail (s : State) (g : Nat) (x : GrpFrame) : State :=
  let s1 := s.closeFrame g x
  ((((s1.putB (R.ENG_GRP_STAT_held g) true).putB (R.ENG_GRP_STAT_fault g) true).bump (R.ENG_GRP_STAT_faults g)).raise 446)

/-- The group and the group frame that context `c` takes part in with its frame. -/
def State.groupFrameOf (s : State) (c : Nat) : Option (Nat × GrpFrame) :=
  match s.groupOf c with
  | none => none
  | some g => ((s.grp g).frames.find? (fun x => x.latchNo == (s.fr c).latchNo && x.parts.contains c)).map (fun x => (g, x))

/-- A group frame's new value. -/
def State.putFrame (s : State) (g : Nat) (x : GrpFrame) : State :=
  s.setGrp g { s.grp g with frames := (s.grp g).frames.map (fun y => if y.latchNo = x.latchNo then x else y) }

/-- A participating context member has committed (R193, R195). -/
def State.groupMember (s : State) (c : Nat) (ms : List (Nat × Int)) : State :=
  match s.groupFrameOf c with
  | none => s
  | some (g, x) =>
    match ms.filter (fun p => p.1 == g) with
    | [p] =>
      let m := ((s.members g).find? (fun m => s.memberIs g m c)).getD 0
      let y := { x with vals := tset x.vals m p.2, left := x.left.filter (fun d => d != c) }
      if y.left.isEmpty && !y.failed then s.groupResolve g y else s.putFrame g y
    | _ => s.putFrame g { x with failed := true }

/-- What a group does at the commit point of its participating member `c`: a member that failed holds the group (R195). -/
def State.groupPoint (s : State) (c : Nat) (done : Bool) : State :=
  match s.groupFrameOf c with
  | none => s
  | some (g, x) => ite' (x.failed || !done) s (s.groupFail g x)

/-- The frames of group `g` without a participating context member resolve, those latched at tick `t` or before (R193). -/
def State.resolveEmpty (s : State) (g t : Nat) : State :=
  ((s.grp g).frames.filter (fun x => x.parts.isEmpty && x.tick ≤ t)).foldl (fun u x => u.groupResolve g x) s

/-! ### Commit (R169, R173, R250, R390, R395) -/

/-- The commit queue of an OUT target (R14). -/
def State.outQueue (s : State) (t : Nat) : Nat := s.outGroup t / 2 % 4

/-- The entry of one target: value, format, generation and the frame's commit-point tag (R168, R172, R173). -/
def State.outEntry (s : State) (c t : Nat) (o : OutWrite) : Commit :=
  let f := s.fr c
  let off := s.get (R.ENG_CTX_COMMIT_offset c)
  let tick := if off = 0 then none else some (f.tick + off)
  let kind := if outIsPeriod t then 2 else t % 2
  ⟨kind, if outIsPeriod t then t % 8 else t / 2 % 64, o.value, o.abs, o.gen, tick, c, f.latchNo⟩

/-- Whether signal `x` is the output of a group, which its resolution writes (R191, R193). -/
def State.groupOut (s : State) (x : Nat) : Bool := (List.range 16).any (fun g => !(s.members g).isEmpty && s.get (R.ENG_GRP_CFG_out g) == x)

/-- The mirror entries of a commit: the frame's values of the mirrored signals that `c` owns and writes, tagged with its index plus one
(R395). -/
def State.mirrorEntries (s : State) (c : Nat) : List TwinMsg :=
  if s.paired then
    (List.range 256).filterMap (fun i =>
      let x := s.get (R.TWN_MIRROR_signal i)
      if s.on (R.TWN_MIRROR_valid i) && s.owns c x && !s.groupOut x then
        some (.mirror (s.srcOf c) (((s.fr c).index + 1) % 2 ^ 32) x (tget (s.fr c).work x (s.committedVal c x))) else none)
  else []

/-- Whether every commit queue has room for the frame's entries (R250). -/
def State.queuesHaveRoom (s : State) (c : Nat) : Bool :=
  (List.range 4).all (fun q =>
    (s.commitQueue q).length + ((s.fr c).outs.filter (fun o => s.outQueue o.1 == q)).length ≤ 64
      || (s.fr c).outs.all (fun o => s.outQueue o.1 != q))

/-- Whether Q22 has room for the frame's mirror entries (R390). -/
def State.mirrorHasRoom (s : State) (c : Nat) : Bool := s.twn.q22.length + (s.mirrorEntries c).length ≤ 256

/-- Write the frame's entries to the commit queues, each counted (R173, R443). -/
def State.pushOuts (s : State) (c : Nat) : State :=
  (s.fr c).outs.foldl (fun t o =>
    let q := s.outQueue o.1
    { (t.count (0x80 + q)) with mod := { t.mod with queues := tset t.mod.queues q (t.commitQueue q ++ [s.outEntry c o.1 o.2]) } }) s

/-- The origin record's payload: state slots, owned signals, schedules as the frame found them (R451, R452). -/
def State.originBytes (s : State) (c : Nat) : List Byte :=
  let first := s.get (R.ENG_CTX_RES_first_slot c)
  let slots := (List.range (s.get (R.ENG_CTX_RES_sections c))).flatMap (fun j =>
    (s.words (R.SLOT (first + j) 0) 4).flatMap (fun w => leBytes 4 w.toNat))
  let sigs := (s.ctx c).owned.flatMap (fun x => leBytes 4 (s.committedVal c x).toNat)
  let sch := (List.range 4).flatMap (fun k =>
    let i := 4 * c + k
    let ix := tget s.eng.schIdx i (0, 0)
    if tbit s.eng.schPresent i then
      leBytes 1 ix.1 ++ leBytes 1 ix.2 ++ leBytes 1 (s.get (R.ENG_SCH_STAT_region i)) ++ leBytes 1 (s.get (R.ENG_SCH_STAT_desired i))
        ++ leBytes 4 (s.get (R.ENG_SCH_STAT_fade_j i))
    else [])
  slots ++ sigs ++ sch

/-- EVT lines as a mask. -/
def evtMask (t : Tbl Bool) : Nat := (List.range 16).foldl (fun n l => if tbit t l then n + 2 ^ l else n) 0

/-- The frame-output record's payload (R451). -/
def State.outputBytes (s : State) (c : Nat) : List Byte :=
  (s.ctx c).owned.flatMap (fun x => leBytes 4 (s.committedVal c x).toNat)
    ++ (s.fr c).outs.flatMap (fun o => leBytes 4 o.2.value) ++ leBytes 2 (evtMask (s.fr c).evt)

/-- The values of a completed frame take their places: pending signals, section state, schedules, ENG_SAT (R153, R169). -/
def State.commitValues (s : State) (c : Nat) : State :=
  let f := s.fr c
  let x := s.ctx c
  let s1 := s.setCtx c { x with pend := f.work.foldl (fun p w => tset p w.1 w.2) x.pend }
  let s2 := (f.shadow.foldl (fun t w => t.setWord (R.SLOT (w.1 / 4) (w.1 % 4)) w.2) s1).trackNow c
  let s3 := forUpTo 4 (fun k t => t.schCommit c k) s2
  f.sat.foldl (fun t j => t.put ⟨R.ENG_SAT (j / 32), j % 32, 1⟩ 1) s3

/-- CONTEXT_COMMIT when every queue has room: all of it in one step (R21, R169, R170, R173, R193, R452). -/
def State.doCommit (s : State) (c : Nat) : State :=
  let f := s.fr c
  let idx := f.index
  let s0 := if f.taped && s.recorded c && tget s.obs.needOrigin c false then
      { s with obs := { s.obs with needOrigin := tset s.obs.needOrigin c false } }.record 1 c f.plan idx (s.originBytes c)
    else s
  let s1 := s0.laneCycles 1 f.lane c 8
  let cyc := f.cycles + 8
  let s2 := (s1.pushOuts c).commitValues c
  let ms := s.mirrorEntries c
  let s3 := { (s2.countN (0x80 + 22) ms.length) with twn := { s2.twn with q22 := s2.twn.q22 ++ ms } }
  let s4 := (s3.leaveLane c).put (R.ENG_CTX_FRAME_last_done c) idx
  let s5 := (s4.put (R.ENG_CTX_CYC_max_seen c) (max (s4.get (R.ENG_CTX_CYC_max_seen c)) (min cyc 65535))).count (0x40 + s.srcOf c)
  let s6 := (s5.setFr c { s5.fr c with phase := .completed, cycles := cyc }).groupMember c f.minsel
  let s7 := ite' (f.taped && s6.recorded c) s6 (s6.record 3 c f.plan idx (s6.outputBytes c))
  if s7.obs.stepping == some c then { (s7.putB R.OBS_DBG_STAT_step_done true) with obs := { s7.obs with stepping := none } } else s7

/-- Commit if there is room, else wait; each wait counts once (R250, R390). -/
def State.tryCommit (s : State) (c : Nat) : State :=
  let f := s.fr c
  if s.queuesHaveRoom c && s.mirrorHasRoom c then s.doCommit c
  else if f.phase == .waiting then s
  else
    let s1 := s.setFr c { f with phase := .waiting }
    let full := (List.range 4).filter (fun q => 64 < (s.commitQueue q).length + (f.outs.filter (fun o => s.outQueue o.1 == q)).length)
    let s2 := full.foldl (fun t q => t.count (0x60 + q)) s1
    let s3 := ite' (!s.queuesHaveRoom c) s2 ((s2.bump R.MOD_ERR_CNT_q_full).count 0xA3)
    ite' (!s.mirrorHasRoom c) s3 ((s3.bump R.TWN_ERR_CNT_tx_wait).count (0x60 + 22))

/-- Whether the frame of context `c` has executed its whole program. -/
def State.programDone (s : State) (c : Nat) : Bool := (s.fr c).pc == s.get (R.ENG_CTX_PROG_len_m1 c) + 1

/-- CONTEXT_COMMIT (R169): the context has finished its program and commits, or waits for queue room. -/
def execContextCommit (c : Nat) (s : State) : Out :=
  when (s.live && c < 64 && (s.fr c).phase == .running && s.programDone c) s (s.tryCommit c)

/-- COMMIT_QUEUE_ROOM (R250): queues have drained; a waiting context whose queues all have room commits. -/
def execCommitQueueRoom (c : Nat) (s : State) : Out :=
  when (s.live && c < 64 && (s.fr c).phase == .waiting) s (s.tryCommit c)

/-- `n` ENG cycles pass: on the lane of a context whose commit step waits they are stall cycles of its frame (R250, R449). -/
def State.passWaits (s : State) (n : Nat) : State :=
  forUpTo 64 (fun c t =>
    if (t.fr c).phase == .waiting then
      let u := t.laneCycles 3 (t.fr c).lane c n
      u.setFr c { u.fr c with cycles := (u.fr c).cycles + n }
    else t) s

/-! ### Commit points and overruns (R22, R168, R174, R175, R200 to R202) -/

/-- The EVT lines of context `c` take the values of its completed frame; a line that it owns, or that it was the last to set and
nobody owns, takes 0 without an EVT (R174). -/
def State.evtLines (s : State) (c : Nat) : State :=
  forUpTo 16 (fun l t =>
    let o := tnum s.eng.evtOwner l
    let sets := (s.fr c).evt.any (fun p => p.1 == l)
    if o == c || sets || (o == 0 && tnum s.eng.evtHolder l == c) then
      let b := tbit (s.fr c).evt l
      let u := ite' sets t { t with eng := { t.eng with evtHolder := tset t.eng.evtHolder l c } }
      ite' (tbit u.evr.level (416 + l) != b) u (u.drive (416 + l) b)
    else t) s

/-- DEGRADE_REQUEST: the half-rate glaze is requested while it is neither in force nor requested (R201), be it of this device's
sequencer or, on a follower, of the leader's (R397). -/
def State.degradeRequest (s : State) (c : Nat) : State :=
  let g := s.get (R.ENG_CTX_CFG_half_rate_glaze c)
  let asked := s.eng.degradeAsked.contains g || tbit s.seq.auxHeld g || (match s.seq.comp with
    | some x => x.aux.contains g
    | none => false)
  if s.get (R.ENG_CTX_CFG_policy c) = 1 && 8 ≤ g && s.get R.SEQ_STATUS_aux_on / 2 ^ (g - 8) % 2 = 0 && !asked then
    { s with eng := { s.eng with degrade := s.eng.degrade ++ [g], degradeAsked := s.eng.degradeAsked ++ [g] } }
  else s

/-- The requests of glaze slots for which `f` holds are pending no longer (R201). -/
def State.degradeEnds (s : State) (f : Nat → Bool) : State :=
  { s with eng := { s.eng with degradeAsked := s.eng.degradeAsked.filter (fun g => !f g) } }

/-- OVERRUN: the frame is abandoned at its commit point, counted, and handled by its policy (R22, R170, R175, R200). -/
def State.overrun (s : State) (c : Nat) : State :=
  let f := s.fr c
  let s1 := s.discardFrame c .idle
  let s2 := (s1.bump (R.ENG_CTX_STAT_overruns c)).count (0x50 + s.srcOf c)
  let s3 := ite' (s2.on (R.ENG_CTX_CFG_ovr_en c)) s2 (s2.raise (432 + s2.get (R.ENG_CTX_CFG_ovr_line c)))
  (s3.coverBreak c 1 f.index f.plan).degradeRequest c

/-- COMMIT_POINT of context `c`: lines of a completed frame act, a frame still under way overruns, a faulted one is
handled by its policy; the group follows (R22, R168, R174, R175, R195). -/
def State.commitPoint (s : State) (c : Nat) : State :=
  let f := s.fr c
  if f.pointDone then s
  else
    let s1 :=
      if f.phase == .completed then f.satLines.foldl (fun t l => t.raise (440 + l)) (s.evtLines c)
      else if f.phase.underWay then (if s.on R.ENG_STATUS_halted then s.discardFrame c .idle else s.overrun c)
      else if f.phase == .faulted then s.degradeRequest c
      else s
    let s2 := s1.setFr c { s1.fr c with pointDone := true, phase := .idle }
    let s3 := if s2.obs.stepping == some c then { s2 with obs := { s2.obs with stepping := none } } else s2
    s3.groupPoint c (f.phase == .completed)

/-- COMMIT_POINT (R168, R193): the offset of context `c` has passed since its frame's latch, or since the latch of a frame of its
group in which no context runs. A commit point at a latch comes with the latch. -/
def execCommitPoint (c : Nat) (s : State) : Out :=
  let off := s.get (R.ENG_CTX_COMMIT_offset c)
  let s1 := ite' ((s.fr c).tick + off ≤ s.clk.modTick) s (s.commitPoint c)
  when (s.live && 1 ≤ c && c < 64 && (s.ctx c).present && off != 0) s
    (match s1.groupOf c with
    | some g => ite' (off ≤ s1.clk.modTick) s1 (s1.resolveEmpty g (s1.clk.modTick - off))
    | none => s1)

/-! ### Enable, drain (R171) -/

/-- A write of ENG_CTX_CTL[c].en (R171): without a record a 1 is ignored; clearing starts a drain. -/
def State.enableWrite (s : State) (c : Nat) (b : Bool) : State :=
  if c = 0 || 64 ≤ c then s
  else if b then ite' (s.ctx c).present s (s.putB (R.ENG_CTX_CTL_en c) true)
  else if s.on (R.ENG_CTX_CTL_en c) then (s.putB (R.ENG_CTX_CTL_en c) false).putB (R.ENG_CTX_CTL_draining c) true
  else s

/-- DRAIN: the context's slots are zeroed and its schedules reset (R171, R189, R199). -/
def State.drain (s : State) (c : Nat) : State :=
  let first := s.get (R.ENG_CTX_RES_first_slot c)
  let s1 := forUpTo (s.get (R.ENG_CTX_RES_sections c)) (fun j t =>
    forUpTo 4 (fun w u => (u.setWord (R.SLOT (first + j) w) 0).heal (eccKey 2 (R.SLOT (first + j) w))) t) s
  let s2 := forUpTo 4 (fun k t => if tbit t.eng.schPresent (4 * c + k) then t.schDrain (4 * c + k) else t) s1
  s2.putB (R.ENG_CTX_CTL_draining c) false

end Sys2Proof.Machine
end

