-- ==== Sys2Proof/Machine/Real.lean ====
section
/-!
DEFINITION. Real-valued results that the spec states by a formula, evaluated far beyond the grid of their format: 2π, e^(−x), the
angle of a vector, sine and cosine (R212, R215, R227, R237, R238, R309, R311).
-/

namespace Sys2Proof.Machine

/-- 2π × 2^128, rounded down. -/
def twoPi128 : Nat := 0x6487ed5110b4611a62633145c06e0e689

/-- ln 10 × 2^128, rounded down. -/
def ln10x128 : Nat := 0x24d763776aaa2b05ba95b58ae0b4c28a3

/-- The terms of 1 − e^(−z) from the `k`th on, for z in units of 2^−128: `t` is z^k ÷ k!, and `n` terms follow. -/
def expTerms : Nat → Nat → Nat → Nat → Int
  | 0, _, _, _ => 0
  | n + 1, k, z, t => (if k % 2 = 1 then (t : Int) else -t) + expTerms n (k + 1) z (t * z / 2 ^ 128 / (k + 1))

/-- round(2^32 × (1 − e^(−z))) for z in units of 2^−128 (R237). -/
def lagFactor (z : Nat) : Int := (expTerms 40 1 z z * 2 + 2 ^ 96) / 2 ^ 97

/-- The terms of e^(jz) from the `k`th on, for z in units of 2^−128, as cosine and sine: `t` is z^k ÷ k!, and `n` terms follow. -/
def cisTerms : Nat → Nat → Nat → Nat → Int × Int
  | 0, _, _, _ => (0, 0)
  | n + 1, k, z, t =>
    let r := cisTerms n (k + 1) z (t * z / 2 ^ 128 / (k + 1))
    if k % 4 = 0 then (r.1 + t, r.2) else if k % 4 = 1 then (r.1, r.2 + t) else if k % 4 = 2 then (r.1 - t, r.2) else (r.1, r.2 - t)

/-- Cosine and sine, times 2^128, of `n` ÷ `d` of a turn. -/
def cis (n d : Nat) : Int × Int := cisTerms 64 0 (twoPi128 * (n % d) / d) (2 ^ 128)

/-- The product of two complex numbers of scale 2^128. -/
def cisMul (a b : Int × Int) : Int × Int := ((a.1 * b.1 - a.2 * b.2) / 2 ^ 128, (a.1 * b.2 + a.2 * b.1) / 2 ^ 128)

/-- √3 × 2^128, rounded down. -/
def sqrt3x128 : Nat := 0x1bb67ae8584caa73b25742d7078b83b89

/-- A vector scaled so that the larger of its components takes 128 bits. -/
def scaleVec (x y : Int) : Int × Int :=
  let b := Nat.log2 (max x.natAbs y.natAbs) + 1
  if 128 ≤ b then (x / 2 ^ (b - 128), y / 2 ^ (b - 128)) else (x * 2 ^ (128 - b), y * 2 ^ (128 - b))

/-- `n` more bits of the angle of (x, y) in turns after the bits `acc`, and whether they are all of it: squaring a complex number
doubles its angle, and the half plane that it lies in is the next bit. -/
def turnBits : Nat → Int → Int → Nat → Nat × Bool
  | 0, _, y, acc => (acc, y == 0)
  | n + 1, x, y, acc =>
    let b := y < 0 || (y == 0 && x < 0)
    let v := scaleVec (x * x - y * y) (2 * x * y)
    turnBits n v.1 v.2 (2 * acc + b.toNat)

/-- atan2(y, x) as an angle of 2^32 per turn, signed: exact where it can be, else one of the two neighbours, freely (log entry 3); that
of a zero vector is free. -/
def atan2Turn (y x : Int) : Int :=
  if x = 0 && y = 0 then signed 32 (unsigned 32 (Config.realFn 227 [y, x]))
  else
    let v := scaleVec x y
    let r := turnBits 32 v.1 v.2 0
    signed 32 ((r.1 + (!r.2 && Config.roundUp 227 y x).toNat) % 2 ^ 32)

end Sys2Proof.Machine
end

