-- ==== Sys2Proof/Machine/Grid.lean ====
section
/-!
DEFINITION. The grid unit: synchroniser, ride-through, passive islanding, Sprinkle, support curves, forming law, GS
instants (chapter Grid Unit, R208 to R242). Internal number formats that the spec does not state are those of the fields of
GrdS; roundings it does not state are free (log entries 3 and 14).
-/

namespace Sys2Proof.Machine

/-! ### Units and inputs (R208 to R210) -/

/-- 1.0 pu in Q2.30. -/
def pu1 : Int := 1073741824

/-- The nominal frequency in Hz. -/
def State.fNom (s : State) : Int := if s.on R.GRD_CTL_f60 then 60 else 50

/-- A frequency of `hz` in the internal unit Hz × 2^48. -/
def hz48 (hz : Int) : Int := hz * 2 ^ 48

/-- The period of frame source `f` in fine steps: a divided carrier wrap, a frame timer; 0 for GS and off (R15, R16). -/
def State.srcFine (s : State) (f : Nat) : Nat :=
  let sel := s.get (R.ENG_FSRC_sel f)
  if s.get (R.ENG_FSRC_type f) = 0 then (s.get (R.ENG_FSRC_div f) + 1) * s.period sel
  else if s.get (R.ENG_FSRC_type f) = 1 then 128 * s.get (R.ENG_FT_period sel) else 0

/-- The grid sample source's period in fine steps. -/
def State.gridFine (s : State) : Nat := s.srcFine (s.get R.GRD_IN_CFG_fsrc)

/-- `x` fine steps in picoseconds at the plan in force. -/
def State.finePs (s : State) (x : Nat) : Nat :=
  let f := s.planHz s.mplan
  (freeDiv 209 ((x * f.2 * 10 ^ 12 : Nat) : Int) ((128 * f.1 : Nat) : Int)).toNat

/-- The increment of the phase count for frequency `f`: round(f × tick × 2^48) (R212). -/
def State.incFor (s : State) (f : Int) : Nat :=
  let h := s.planHz s.mplan
  (divRound (f * h.2) h.1).toNat

/-- The three per-unit phase voltages of three frame records (R210). -/
def State.gridVolts (s : State) (recs : List Nat) : List Int :=
  let v (x : Nat) : Int :=
    let r := recs.getD x 0
    let field : Nat := if s.on R.GRD_IN_CFG_use_last then r % 2 ^ 16 else r / 2 ^ 16 % 2 ^ 20
    sat32 (shrRound (((field : Int) - s.get (R.GRD_IN_zero16 x)) * s.getI (R.GRD_IN_gain x)) 16)
  if s.on R.GRD_IN_CFG_conn then
    [divRound (v 0 - v 2) 3, divRound (v 1 - v 0) 3, divRound (v 2 - v 1) 3]
  else [v 0, v 1, v 2]

/-- A 48-bit phase count as an angle of 2^32 per turn (R213). -/
def angleOf (phase : Nat) : Nat := phase / 2 ^ 16 % 2 ^ 32

/-- The clamp of the frequency at 40 and 72 Hz. -/
def clampHz (f : Int) : Int := clampLH (hz48 40) (hz48 72) f

/-! ### The synchroniser (R212 to R214) -/

/-- v_min in Q2.30. -/
def State.vMin (s : State) : Int := s.get R.GRD_SYNC_CFG_v_min * 2 ^ 14

/-- kp × e for the phase error qp1 ÷ den, in Hz × 2^48 (R212). -/
def State.kpE (s : State) (qp1 den : Int) : Int := freeDiv 2121 (s.get R.GRD_SYNC_CFG_kp * qp1 * 2 ^ 32) den

/-- ki × e × ts. -/
def State.kiETs (s : State) (qp1 den : Int) : Int :=
  let h := s.planHz s.mplan
  freeDiv 2122 (s.get R.GRD_SYNC_CFG_ki * qp1 * 2 ^ 32 * s.gridFine * h.2) (den * 128 * h.1)

/-- kf = 2π × f_c × ts with f_c = 0.35 × f_nom, times 2^96 (R212). -/
def State.sepFactor (s : State) : Nat :=
  let h := s.planHz s.mplan
  twoPi128 * (35 * s.fNom.toNat * s.gridFine * h.2) / (100 * 128 * h.1 * 2 ^ 32)

/-- SYNCHRONISER_UPDATE (R212): the sequences, their filters, the frequency. `th` is the angle at the window's centre. -/
def State.synchronise (s : State) (v : List Int) (th : Nat) : State :=
  let g := s.grd
  let ab := clarkeFwd (v.getD 0 0) (v.getD 1 0) (v.getD 2 0) false
  let p := rotA (ab.getD 0 0) (ab.getD 1 0) th
  let n := rotA (ab.getD 0 0) (ab.getD 1 0) (unsigned 32 (-(th : Int)))
  let th2 := 2 * th % 2 ^ 32
  let cn := rotA g.dnf g.qnf th2
  let cp := irotA g.dpf g.qpf th2
  let filt (x x1 : Int) : Int := sat32 (x + shrRound (s.sepFactor * (x1 - x)) 96)
  let dp1 := sat32 (p.1 - cn.1)
  let qp1 := sat32 (p.2 - cn.2)
  let dpf := filt g.dpf dp1
  let qpf := filt g.qpf qp1
  let dnf := filt g.dnf (sat32 (n.1 - cp.1))
  let qnf := filt g.qnf (sat32 (n.2 - cp.2))
  let vpos := sat32 (freeSqrt 2123 (dpf * dpf + qpf * qpf).toNat 1 : Nat)
  let vneg := sat32 (freeSqrt 2124 (dnf * dnf + qnf * qnf).toNat 1 : Nat)
  let den := max 1 (max vpos s.vMin)
  let low := vpos < s.vMin
  let kpe := s.kpE qp1 den
  let integ := g.integ + s.kiETs qp1 den
  let raw := hz48 s.fNom + kpe + integ
  let f := clampHz raw
  let clamped := !low && raw != f
  let g1 := { g with dpf := dpf, qpf := qpf, dnf := dnf, qnf := qnf, dp1 := dp1, qp1 := qp1, vpos := vpos, vneg := vneg }
  let g2 := if low then g1 else { g1 with integ := f - hz48 s.fNom - kpe, fSync := f }
  let small := qp1.natAbs * 2 ^ 16 < s.get R.GRD_SYNC_CFG_lock_tol * den.toNat
  let big := s.get R.GRD_SYNC_CFG_unlock_tol * den.toNat ≤ qp1.natAbs * 2 ^ 16
  let g3 := { g2 with lockRun := if small then g2.lockRun + 1 else 0, unlockRun := if big then g2.unlockRun + 1 else 0 }
  let m := max 1 (s.get R.GRD_SYNC_CFG_lock_n)
  let was := s.on R.GRD_STATUS_locked
  let lost := low || clamped || m ≤ g3.unlockRun
  let locked := !lost && (was || m ≤ g3.lockRun)
  let s1 := ite' (clamped && !s.on R.GRD_STATUS_f_clamped) s (s.bump R.GRD_ERR_CNT_clamps)
  let s2 := ((s1.putB R.GRD_STATUS_v_low low).putB R.GRD_STATUS_f_clamped clamped).putB R.GRD_STATUS_locked locked
  ({ s2 with grd := g3 }).raiseIf (was && !locked) 459

/-! ### Half-cycle RMS (R218) -/

/-- N_h for samples of `num ÷ den` per second at frequency `f` (R218). -/
def halfCycleN (f : Int) (num den : Nat) : Nat :=
  min 512 (max 8 (divRound ((num : Int) * 2 ^ 48) (max 1 (2 * f * den)).toNat).toNat)

/-- N_h of the grid samples at the plan in force. -/
def State.gridNh (s : State) (f : Int) : Nat :=
  let h := s.planHz s.mplan
  halfCycleN f (128 * h.1) (max 1 (s.gridFine * h.2))

/-- The voltage of quantity `x` of a sample: the phase, or the line-to-line voltage (R218). -/
def basisV (ll : Bool) (v : List Int) (x : Nat) : Int :=
  if ll then v.getD x 0 - v.getD ((x + 1) % 3) 0 else v.getD x 0

/-- V_hc of quantity `x` over the last `n` samples; `sq` is the square of the nominal peak in the samples' unit (R218). -/
def vHalf (ll : Bool) (w : List (List Int)) (n x sq : Nat) : Int :=
  let sum := ((w.take n).map (fun v => (basisV ll v x) * (basisV ll v x))).foldl (fun a b => a + b) 0
  sat32 (freeSqrt 218 (2 * sum.toNat * 2 ^ 60) (n * (if ll then 3 else 1) * sq) : Nat)

/-- The largest and the smallest of the three V_hc. -/
def hcMaxMin (ll : Bool) (w : List (List Int)) (n sq : Nat) : Int × Int :=
  let a := vHalf ll w n 0 sq
  let b := vHalf ll w n 1 sq
  let c := vHalf ll w n 2 sq
  (max a (max b c), min a (min b c))

/-! ### Ride-through (R217 to R222) -/

/-- Points of curve `c`. -/
def State.npts (s : State) (c : Nat) : Nat := min 16 (s.get R.GRD_RT_CFG_npts / 2 ^ (5 * c) % 32)

/-- The quantity of curve `c` and the size of 1.0 pu of it. -/
def State.curveQ (s : State) (c : Nat) : Int × Int :=
  if c = 4 || c = 5 then (s.grd.f, hz48 s.fNom) else if c % 2 = 0 then (s.grd.hcMax, pu1) else (s.grd.hcMin, pu1)

/-- The threshold of point `k` of curve `c` in the quantity's unit. -/
def State.curveTh (s : State) (c k : Nat) : Int :=
  let t := s.getI (R.GRD_CURVE_th c k)
  if c = 4 || c = 5 then t * 2 ^ 32 else t

/-- Whether the quantity of curve `c` is beyond point `k` (R217). -/
def State.beyond (s : State) (c k : Nat) : Bool :=
  if c % 2 = 0 then s.curveTh c k < (s.curveQ c).1 else (s.curveQ c).1 < s.curveTh c k

/-- Whether it lies inside point `k` by more than hyst (R219), or by at least hyst (R222). -/
def State.inside (s : State) (c k : Nat) (strict : Bool) : Bool :=
  let q := s.curveQ c
  let gap := 1000 * (if c % 2 = 0 then s.curveTh c k - q.1 else q.1 - s.curveTh c k)
  let h := s.get R.GRD_RT_CFG_hyst * q.2
  if strict then h < gap else h ≤ gap

/-- Whether curve `c` has points and its quantity is beyond point 0. -/
def State.beyond0 (s : State) (c : Nat) : Bool := 0 < s.npts c && s.beyond c 0

/-- The curves that run point timers: those that trip (R217, R219). -/
def isTripCurve (c : Nat) : Bool := c == 0 || c == 1 || c == 4 || c == 5

/-- The point timers of curve `c` after a sample of `ps` picoseconds (R219). -/
def State.tripTimers (s : State) (c ps : Nat) : State :=
  forUpTo (s.npts c) (fun k t =>
    let i := 16 * c + k
    let g := t.grd
    if t.beyond c k then { t with grd := { g with timers := tset g.timers i (tnum g.timers i + ps) } }
    else if t.inside c k true then { t with grd := { g with timers := tset g.timers i 0, firedPts := tset g.firedPts i false } }
    else t) s

/-- TRIP_CURVE_EXPIRY (R219): the timer of point `k` of curve `c` has reached its time. -/
def execTripCurveExpiry (c k : Nat) (s : State) : Out :=
  let i := 16 * c + k
  let due := tnum s.grd.timers i != 0 && s.get (R.GRD_CURVE_time c k) * 10 ^ 9 ≤ tnum s.grd.timers i && !tbit s.grd.firedPts i
  when (s.live && isTripCurve c && k < s.npts c && due) s
    (({ s with grd := { s.grd with firedPts := tset s.grd.firedPts i true } }.put ⟨R.GRD_RT_STAT, c, 1⟩ 1).raise (448 + c))

/-- fast_n. -/
def State.fastN (s : State) : Nat := max 1 (s.get R.GRD_RT_CFG_fast_n)

/-- FAST_DETECTOR (R221): run lengths for the sample `v` against the prediction `vh`; answers whether it fires as OV and as
UV. -/
def State.fastDetect (s : State) (v vh : List Int) : State × Bool × Bool :=
  let a (x : Nat) : Nat := (v.getD x 0).natAbs
  let b (x : Nat) : Nat := (vh.getD x 0).natAbs
  let peak (x : Nat) : Bool := decide (0 < s.npts 2) && decide (s.curveTh 2 0 < a x)
  let dev (x : Nat) : Bool := s.get R.GRD_RT_CFG_dev_th * 2 ^ 30 < 1000 * (v.getD x 0 - vh.getD x 0).natAbs
  let s1 := forUpTo 3 (fun x t =>
    let g := t.grd
    { t with grd := { g with
      peakRun := tset g.peakRun x (if peak x then tnum g.peakRun x + 1 else 0),
      devRun := tset g.devRun x (if dev x then tnum g.devRun x + 1 else 0) } }) s
  let fires (t : Tbl Nat) (x : Nat) : Bool := s.on R.GRD_RT_CFG_fast_en && s.fastN ≤ tnum t x
  let ov := (List.range 3).any (fun x => fires s1.grd.peakRun x || (fires s1.grd.devRun x && !decide (a x < b x)))
  let uv := (List.range 3).any (fun x => fires s1.grd.devRun x && decide (a x < b x))
  (s1, ov, uv)

/-- Points of the curve concerned that the half-cycle quantity is beyond (R220). -/
def State.rideRegion (s : State) (c : Nat) : Nat := ((List.range (s.npts c)).filter (fun k => s.beyond c k)).length

/-- The curve that the ride state concerns. -/
def State.rideCurve (s : State) : Nat := if s.on R.GRD_STATUS_ride_ov then 2 else 3

/-- GRD_STATUS.region and must_ride in the ride state (R220). -/
def State.rideStatus (s : State) : State :=
  if s.on R.GRD_STATUS_ride then
    let c := s.rideCurve
    let r := s.rideRegion c
    (s.put R.GRD_STATUS_region r).putB R.GRD_STATUS_must_ride
      (0 < r && s.grd.excursion < s.get (R.GRD_CURVE_time c (r - 1)) * 10 ^ 9)
  else s

/-- RIDE_ENTER and the ride state's timers for one sample (R220, R222). -/
def State.rideStep (s : State) (fov fuv : Bool) (ps : Nat) : State :=
  let ov := fov || s.beyond0 2
  let uv := fuv || s.beyond0 3
  let g := s.grd
  if s.on R.GRD_STATUS_ride then
    let okOv := s.npts 2 == 0 || s.inside 2 0 false
    let okUv := s.npts 3 == 0 || s.inside 3 0 false
    let calm := if okOv && okUv && !fov && !fuv then g.calm + ps else 0
    { s with grd := { g with excursion := g.excursion + ps, calm := calm } }.rideStatus
  else if ov || uv then
    let s1 := { s with grd := { g with excursion := 0, calm := 0 } }.putB R.GRD_STATUS_ride true
    let s2 := (s1.putB R.GRD_STATUS_ride_ov ov).bump R.GRD_RT_STAT_rides
    let s3 := ite' ov s2 ((s2.put ⟨R.GRD_RT_STAT, 6, 1⟩ 1).raise 450)
    (ite' uv s3 ((s3.put ⟨R.GRD_RT_STAT, 7, 1⟩ 1).raise 451)).rideStatus
  else s

/-- RIDE_EXIT (R222): exit_time has passed inside the limits. -/
def execRideExit (s : State) : Out :=
  let s1 := (((s.putB R.GRD_STATUS_ride false).putB R.GRD_STATUS_ride_ov false).put R.GRD_STATUS_region 0).putB R.GRD_STATUS_must_ride false
  when (s.live && s.on R.GRD_STATUS_ride && 0 < s.grd.calm && s.get R.GRD_RT_CFG_exit_time * 10 ^ 9 ≤ s.grd.calm) s
    ((s1.put R.GRD_RT_STAT_last_duration (min 65535 (s.grd.excursion / 10 ^ 9))).raise 460)

/-! ### Passive islanding (R227) -/

/-- The ROCOF window in samples. -/
def State.rocofN (s : State) (ps : Nat) : Nat :=
  max 2 (freeDiv 2271 ((s.get R.GRD_PAS_CFG_rocof_window * 10 ^ 9 : Nat) : Int) ((max 1 ps : Nat) : Int)).toNat

/-- ROCOF in Hz/s × 2^16 from the frequency history, newest first. -/
def State.rocofOf (s : State) (h : List Int) (ps : Nat) : Int :=
  let n := s.rocofN ps
  if h.length ≤ n then 0
  else freeDiv 2272 ((h.getD 0 0 - h.getD n 0) * 10 ^ 12) ((2 ^ 32 * max (s.get R.GRD_PAS_CFG_rocof_window * 10 ^ 9) (2 * ps) : Nat) : Int)

/-- Whether passive method `m` (0 ROCOF, 1 frequency window, 2 voltage window) sees its condition. -/
def State.pasCond (s : State) (m : Nat) : Bool :=
  if m = 0 then s.get R.GRD_PAS_CFG_rocof_th < s.grd.rocof.natAbs
  else if m = 1 then s.grd.f < s.get R.GRD_PAS_CFG_f_lo * 2 ^ 32 || s.get R.GRD_PAS_CFG_f_hi * 2 ^ 32 < s.grd.f
  else s.grd.hcMin < s.getI R.GRD_PAS_CFG_v_lo || s.getI R.GRD_PAS_CFG_v_hi < s.grd.hcMax

/-- The time that passive method `m` waits, in ms. -/
def State.pasTime (s : State) (m : Nat) : Nat :=
  if m = 0 then s.get R.GRD_PAS_CFG_rocof_hold else if m = 1 then s.get R.GRD_PAS_CFG_fwin_time else s.get R.GRD_PAS_CFG_vwin_time

/-- The timers of the passive methods after one sample. -/
def State.pasStep (s : State) (ps : Nat) : State :=
  forUpTo 3 (fun m t =>
    let g := t.grd
    if t.pasCond m then { t with grd := { g with pasTimers := tset g.pasTimers m (tnum g.pasTimers m + ps) } }
    else { t with grd := { g with pasTimers := tset g.pasTimers m 0, pasFired := tset g.pasFired m false } }) s

/-- The status bit of passive method `m`; 3 is the vector shift. -/
def pasBit (m : Nat) : Fld := ⟨R.GRD_PAS_STAT, if m = 0 then 0 else if m = 3 then 1 else m + 1, 1⟩

/-- The source of passive method `m`. -/
def pasSource (m : Nat) : Nat := if m = 0 then 454 else if m = 3 then 455 else 455 + m

/-- A passive method speaks: its bit and its source. -/
def State.pasFire (s : State) (m : Nat) : State :=
  ({ s with grd := { s.grd with pasFired := tset s.grd.pasFired m true } }.put (pasBit m) 1).raise (pasSource m)

/-- PASSIVE_TIMER_EXPIRY (R227): the condition of method `m` has held for its time. -/
def execPassiveTimerExpiry (m : Nat) (s : State) : Out :=
  when (s.live && m < 3 && tnum s.grd.pasTimers m != 0 && s.pasTime m * 10 ^ 9 ≤ tnum s.grd.pasTimers m && !tbit s.grd.pasFired m) s
    (s.pasFire m)

/-! ### Sprinkle (R228 to R235) -/

/-- Plant-time units of a chip: 0.8 ms (R229). -/
def chipLsb : Nat := 6400000

/-- The first 8 bits of the m-sequence, bit k being s(k): the register 0x01 shifted out from its low end. -/
def lfsrNext (r : Nat) : Nat :=
  let fb := (r ^^^ (r / 4) ^^^ (r / 8) ^^^ (r / 16)) % 2
  r / 2 + 128 * fb

/-- The LFSR after `k` steps from 0x01 (R228). -/
def lfsr : Nat → Nat
  | 0 => 1
  | k + 1 => lfsrNext (lfsr k)

/-- c_i(k): +1 or −1; index 255 injects nothing (R228). -/
def sprCode (i k : Nat) : Int := if i = 255 then 0 else if lfsr ((k + i) % 255) % 2 = 1 then 1 else -1

/-- The injection amplitude in Q2.30: 0.002 to 0.02 pu. -/
def State.sprAmp (s : State) : Int :=
  clampLH (divRound (2 * pu1) 1000) (divRound (20 * pu1) 1000) (s.get R.GRD_SPR_CFG_amp)

/-- Whether Sprinkle is enabled with a code that injects. -/
def State.sprOn (s : State) : Bool := s.on R.GRD_CTL_spr_en && s.grd.code != 255

/-- Whether Sprinkle is paused (R233). -/
def State.sprPaused (s : State) : Bool :=
  s.on R.GRD_CTL_spr_pause || s.on R.GRD_STATUS_ride || s.on R.GRD_CTL_form || !s.on R.GRD_STATUS_locked

/-- Whether the last 255 chips stand complete and unpaused. -/
def State.sprWhole (s : State) : Bool := s.grd.chips.length == 255 && s.grd.chips.all (fun c => c.ok)

/-- GRD_STATUS.spr_active, spr_paused and estimating recomputed. -/
def State.sprStatus (s : State) : State :=
  ((s.putB R.GRD_STATUS_spr_active (s.sprOn && !s.sprPaused)).putB R.GRD_STATUS_spr_paused s.sprPaused).putB R.GRD_STATUS_estimating
    (s.sprOn && s.sprWhole)

/-- The share count in force: with src = 1 the one that the last T0 took over (R234), else the register's, since a write acts at the
next GS instant (R211). -/
def State.sprShare (s : State) : Nat := max 1 (if s.on R.GRD_SPR_CFG_src then s.grd.share else s.get R.GRD_SPR_CFG_share)

/-- The estimate z_est in Q8.24 from the last 255 chips (R231). -/
def State.zEst (s : State) : Nat :=
  let cs := s.grd.chips
  let sum (f : ChipS → Int) : Int := cs.foldl (fun a c => a + f c) 0
  let corr (f : ChipS → Int) : Int := sum (fun c => c.sign * (255 * f c - sum f))
  let a := corr (fun c => c.r)
  let b := corr (fun c => c.x)
  let den := 255 * 255 * s.sprAmp.toNat * s.sprShare
  min (freeSqrt 231 ((a * a + b * b).toNat * 2 ^ 48) (den * den)) (2 ^ 32 - 1)

/-- ISLAND_DECLARED and the baseline (R232). -/
def State.islandJudge (s : State) (z : Nat) : State :=
  let above := if s.get R.GRD_SPR_CFG_z_isl < z then min 255 (s.get R.GRD_SPR_STAT_above + 1) else 0
  let base := s.get R.GRD_SPR_STAT_baseline
  let valid := s.on R.GRD_STATUS_baseline_valid
  let island := 2 ≤ above || (valid && s.get R.GRD_SPR_CFG_z_step * base < z * 2 ^ 8)
  let s1 := s.put R.GRD_SPR_STAT_above above
  let s2 := ite' island s1 ((s1.putB R.GRD_STATUS_island true).raise 458)
  if valid then
    ite' (!island) s2 (s2.put R.GRD_SPR_STAT_baseline ((base : Int) + divRound ((z : Int) - base) 8).toNat)
  else
    let es := (z : Int) :: s2.grd.estimates
    let s3 := { s2 with grd := { s2.grd with estimates := es } }
    ite' (es.length = 8) s3
      ((s3.put R.GRD_SPR_STAT_baseline (freeDiv 232 (es.foldl (fun a b => a + b) 0) 8).toNat).putB R.GRD_STATUS_baseline_valid true)

/-- SPRINKLE_ESTIMATE (R231): formed if none of the 255 chips was paused, else counted. -/
def State.sprEstimate (s : State) : State :=
  if !s.sprOn || s.grd.chips.length != 255 then s
  else if s.sprWhole then
    ((s.put R.GRD_SPR_STAT_z_last s.zEst).bump R.GRD_SPR_STAT_estimates).islandJudge s.zEst
  else s.bump R.GRD_SPR_STAT_discarded

/-- The chip under way ends: it joins the last 255; at the ends of chips 127 and 254 an estimate is formed (R231). -/
def State.closeChip (s : State) (cur now : Nat) : State :=
  let g := s.grd
  let k := cur % 255
  let mean (x : Int) : Int := freeDiv 2311 x (max 1 g.accN : Nat)
  let c : ChipS := ⟨sprCode g.code k, mean g.accR, mean g.accX, !g.chipPaused && 0 < g.accN⟩
  let old := if now = cur + 1 then (c :: g.chips).take 255 else []
  let s1 := { s with grd := { g with chip := some now, chips := old, accN := 0, accR := 0, accX := 0, chipPaused := false } }
  ite' (k == 127 || k == 254) s1 s1.sprEstimate

/-- One sample of the estimator (R231): it enters its chip's means if its latch lies in the chip's second half. -/
def State.sprStep (s : State) (latch : Nat) : State :=
  let g := s.grd
  let now := s.clk.plantTime / chipLsb
  let mag := freeSqrt 2312 (g.dp1 * g.dp1 + g.qp1 * g.qp1).toNat 1
  let x := freeDiv 2313 (g.vpos * g.qp1) (max 1 mag : Nat)
  match g.chip with
  | none => { s with grd := { g with chip := some now, chipPaused := true } }.sprStatus
  | some cur =>
    let inHalf := latch / chipLsb = cur && chipLsb / 2 ≤ latch % chipLsb
    let g1 := { g with chipPaused := g.chipPaused || s.sprPaused || !s.sprOn }
    let g2 := if inHalf then { g1 with accN := g1.accN + 1, accR := g1.accR + g1.vpos, accX := g1.accX + x } else g1
    let s1 := { s with grd := g2 }
    (ite' (now != cur) s1 (s1.closeChip cur now)).sprStatus

/-- SPRINKLE_PERIOD_START (R229): at T0 a changed code index takes effect and estimation restarts; a share count that the fabric
assigned acts (R234). -/
def execSprinklePeriodStart (s : State) : Out :=
  let c := s.get R.GRD_SPR_CFG_code
  let g := s.grd
  let g1 := { g with code := c, share := max 1 (s.get R.GRD_SPR_CFG_share), chips := if c = g.code then g.chips else [] }
  when (s.live && s.on R.GRD_CTL_en) s { s with grd := g1 }.sprStatus

/-! ### Support curves and forming (R236 to R240) -/

/-- Points of support curve `c`. -/
def State.supN (s : State) (c : Nat) : Nat :=
  let n := s.get R.GRD_SUP_CFG_npts / 2 ^ (4 * c) % 16
  if 2 ≤ n && n ≤ 8 then n else 0

/-- The support curve `c` at `x`, from point `k` on (R236). -/
def State.supFrom (s : State) (c : Nat) (x : Int) : Nat → Nat → Int
  | 0, k => s.getI (R.GRD_SUP_CURVE_y c k)
  | n + 1, k =>
    let x0 := s.getI (R.GRD_SUP_CURVE_x c k)
    let x1 := s.getI (R.GRD_SUP_CURVE_x c (k + 1))
    let y0 := s.getI (R.GRD_SUP_CURVE_y c k)
    let y1 := s.getI (R.GRD_SUP_CURVE_y c (k + 1))
    if x ≤ x0 then y0
    else if x < x1 then divRound (y0 * (x1 - x0) + (x - x0) * (y1 - y0)) (x1 - x0).toNat
    else s.supFrom c x n (k + 1)

/-- The value of support curve `c` at `x`; `off` if the curve is off. -/
def State.supCurve (s : State) (c : Nat) (x off : Int) : Int :=
  if s.supN c = 0 then off else s.supFrom c x (s.supN c - 1) 0

/-- round(2^32 × (1 − e^(−ts ÷ τ))) for τ = `ms` milliseconds ÷ (`x` × 2^−128) at the plan in force (R237). -/
def State.lagOf (s : State) (ms x : Nat) : Int :=
  let h := s.planHz s.mplan
  lagFactor (x * s.gridFine * h.2 * 1000 / (128 * h.1 * ms))

/-- One step of a first-order lag with T in 10 ms units, 0.1 to 90 s, and τ = T ÷ ln 10 (R237). -/
def State.lag (s : State) (t : Nat) (out target : Int) : Int :=
  sat32 (out + shrRound ((target - out) * s.lagOf (10 * min 9000 (max 10 t)) ln10x128) 32)

/-- SUPPORT_CURVE_UPDATE (R236 to R238). V_ref's lag takes vref_tau itself for its τ (DEDUCED). -/
def State.support (s : State) (p : Int) : State :=
  let g := s.grd
  let v := if s.on R.GRD_SUP_CFG_vsrc then g.hcMax else g.vpos
  let tau := min 5000 (max 300 (s.get R.GRD_SUP_CFG_vref_tau))
  let kr := s.lagOf (1000 * tau) (2 ^ 128)
  let vr := if s.on R.GRD_SUP_CFG_vref_en then
      clampLH (divRound (95 * pu1) 100) (divRound (105 * pu1) 100) (g.vRef + shrRound ((v - g.vRef) * kr) 32)
    else g.vRef
  let shift := if s.on R.GRD_SUP_CFG_vref_en then vr - pu1 else 0
  let mode := s.get R.GRD_SUP_CFG_qmode
  let q := if mode = 1 then s.supCurve 0 (v - shift) 0
    else if mode = 2 then s.supCurve 2 p 0
    else if mode = 3 then sat32 (shrRound (p * s.getI R.GRD_SUP_CFG_tan_phi) 30)
    else if mode = 4 then s.getI R.GRD_SUP_CFG_q_set else 0
  let f16 := sat32 (freeDiv 236 g.f (2 ^ 32))
  let pl := if s.on R.GRD_SUP_CFG_vw_en then s.lag (s.get R.GRD_SUP_CFG_t_p) g.pOut (s.supCurve 1 v pu1) else pu1
  let dr := if s.on R.GRD_SUP_CFG_droop_en then s.lag (s.get R.GRD_SUP_CFG_t_f) g.dOut (s.supCurve 3 f16 0) else 0
  { s with grd := { g with vRef := vr, qOut := s.lag (s.get R.GRD_SUP_CFG_t_q) g.qOut q, pOut := pl, dOut := dr } }

/-- FORMING_LAW (R239): dw, f and the voltage reference of one sample. -/
def State.formLaw (s : State) (p q : Int) : State :=
  let g := s.grd
  let h := s.planHz s.mplan
  let h10 : Nat := if s.get R.GRD_FORM_CFG_h = 0 then 65536 else 10 * s.get R.GRD_FORM_CFG_h
  let push := (s.getI R.GRD_FORM_CFG_p_set - p) * 2 ^ 34 - s.get R.GRD_FORM_CFG_d * g.dw
  let dw := g.dw + freeDiv 239 (push * s.gridFine * h.2 * 655360) ((2 ^ 24 * h.1 * h10 : Nat) : Int)
  let v := s.getI R.GRD_FORM_CFG_v_set - shrRound (s.getI R.GRD_FORM_CFG_mq * (q - s.getI R.GRD_SUP_CFG_q_set)) 30
  { s with grd := { g with dw := dw, f := clampHz (s.fNom * (2 ^ 48 + dw)), formV := sat32 v } }

/-! ### The update instant (R209) -/

/-- The work of one sample: GRID_UPDATE's results (R209 to R239). -/
def State.gridSample (s : State) (l : GridLatch) : State :=
  let v := s.gridVolts l.recs
  let back := (freeDiv 2125 ((s.grd.inc * s.gridFine : Nat) : Int) 256).toNat
  let th := angleOf ((l.phase + 2 ^ 48 - back % 2 ^ 48) % 2 ^ 48)
  let pa := irotA s.grd.dpf s.grd.qpf th
  let na := irotA s.grd.dnf s.grd.qnf (unsigned 32 (-(th : Int)))
  let vh := clarkeInv (pa.1 + na.1) (pa.2 + na.2) 0
  let ps := s.finePs s.gridFine
  let bad := l.recs.any (fun r => r / 2 ^ 63 % 2 = 1 || r / 2 ^ 61 % 2 = 1)
  let s1 := ({ s with grd := { s.grd with sample := none } }.putB R.GRD_STATUS_in_suspect bad).synchronise v th
  let w := (v :: s1.grd.window).take 512
  let hc := hcMaxMin (s.on R.GRD_CTL_rt_basis) w (max 1 s.grd.nh) (2 ^ 60)
  let s2 := { s1 with grd := { s1.grd with window := w, hcMax := hc.1, hcMin := hc.2 } }
  let s3 := if s2.on R.GRD_STATUS_form_active then s2.formLaw l.pForm l.q else { s2 with grd := { s2.grd with f := s2.grd.fSync } }
  let hist := (s3.grd.f :: s3.grd.fHist).take (s3.rocofN ps + 1)
  let s4 := { s3 with grd := { s3.grd with inc := s3.incFor s3.grd.f, fHist := hist, rocof := sat32 (s3.rocofOf hist ps) } }
  let fd := s4.fastDetect v vh
  let s5 := (((((fd.1.tripTimers 0 ps).tripTimers 1 ps).tripTimers 4 ps).tripTimers 5 ps).rideStep fd.2.1 fd.2.2 ps)
  ((s5.pasStep ps).sprStep l.time).support l.p

/-- GRID_UPDATE (R209): 1,024 ticks after the latch, the sample's results take effect. -/
def execGridUpdate (s : State) : Out :=
  match s.grd.sample with
  | some l => when (s.live && s.on R.GRD_CTL_en && !s.modStopped) s (s.gridSample l)
  | none => .next s

/-- The grid unit takes its sample at a latch of its source that carries frame index `idx` (R208, R209, R236, R239). -/
def State.gridLatch (s : State) (idx : Nat) : State :=
  let recs := (List.range 3).map (fun x => s.word64 (R.ACQ_FB (s.get (R.GRD_IN_cv x)) (s.get (R.GRD_IN_e x))))
  let sig (f : Fld) : Int := (s.word (R.S (s.get f))).toInt
  { s with grd := { s.grd with sample := some ⟨s.grd.phase, s.clk.plantTime, idx, recs, sig R.GRD_SUP_CFG_p_sig,
      sig R.GRD_FORM_CFG_p_sig, sig R.GRD_FORM_CFG_q_sig⟩ } }

/-! ### GS instants (R211, R213, R215, R216, R224, R225, R230, R240) -/

/-- The sector of the phase count: 32 or 16 per turn (R213). -/
def State.gsSector (s : State) : Nat := if s.on R.GRD_CTL_gs32 then s.grd.phase / 2 ^ 43 else s.grd.phase / 2 ^ 44

/-- The ticks from now to the `m`th latch, from 0, of carrier-wrap source `f` after its first one at or after now, by the carrier period
in force (R16, R216, R244). -/
def State.toLatchN (s : State) (f m : Nat) : Nat :=
  let g := s.get (R.ENG_FSRC_sel f)
  let d := s.get (R.ENG_FSRC_div f)
  let at0 := tnum s.frm.div f
  let first := if tbit s.frm.due f then 0 else if at0 = 0 then 1 else d + 2 - min d at0
  let n := first + m * (d + 1)
  (s.get (R.MOD_CG_COUNT_wrap_fine g) + n * s.period g) / 128 + (if n = 0 then 0 else (s.group g).lengthen) - s.get (R.MOD_CG_COUNT_count g)

/-- The ticks from now to the first latch of carrier-wrap source `f`, 0 for one that falls now (R216). -/
def State.toLatch (s : State) (f : Nat) : Nat := s.toLatchN f 0

/-- proj_θ and proj_step of slot `k`; 0 for an unused slot (R216). -/
def State.projOf (s : State) (k : Nat) : Word × Word :=
  if s.on (R.GRD_PROJ_valid k) then
    let f := s.get (R.GRD_PROJ_fsrc k)
    (BitVec.ofNat 32 ((s.grd.phase + s.grd.inc * s.toLatch f) / 2 ^ 16),
      BitVec.ofInt 32 (shrRound ((s.grd.inc * s.srcFine f : Nat) : Int) 23))
  else (0, 0)

/-- `n` MOD ticks in units of plant time at the plan in force. -/
def State.ticksLsb (s : State) (n : Nat) : Nat :=
  let f := s.planHz s.mplan
  n * f.2 * 8000000000 / f.1

/-- The code index of the chip with number `c` of plant time: one of a later code period takes a changed index (R229). -/
def State.sprIndex (s : State) (c : Nat) : Nat :=
  if c / 255 ≤ s.clk.plantTime / (255 * chipLsb) then s.grd.code else s.get R.GRD_SPR_CFG_code

/-- What Sprinkle injects in the chip with number `c` of plant time (R228, R230). -/
def State.sprInject (s : State) (c : Nat) : Int := s.sprAmp * sprCode (s.sprIndex c) (c % 255)

/-- spr_now, spr_next and spr_edge (R230). -/
def State.sprOut (s : State) : Int × Int × Nat :=
  let f := s.get (R.GRD_PROJ_fsrc (s.get R.GRD_SPR_CFG_slot))
  let latch (m : Nat) : Nat := s.clk.plantTime + s.ticksLsb (s.toLatchN f m)
  let k := latch 0 / chipLsb
  if s.on R.GRD_CTL_spr_en && !s.sprPaused && (s.sprIndex k != 255 || s.sprIndex (k + 1) != 255) then
    (s.sprInject k, s.sprInject (k + 1), ((List.range 255).find? (fun m => (k + 1) * chipLsb ≤ latch m)).getD 255)
  else (0, 0, 255)

/-- The values of S0000 to S0031 (R215). -/
def State.gridSignals (s : State) : List Word :=
  let g := s.grd
  let i (v : Int) : Word := BitVec.ofInt 32 (sat32 v)
  let th := angleOf g.phase
  let q := if s.on R.GRD_STATUS_form_active then g.formV else g.qOut
  let sp := s.sprOut
  [BitVec.ofNat 32 th, i (freeDiv 215 g.f (2 ^ 32)), i g.vpos, i g.vneg, BitVec.ofInt 32 (atan2Turn g.qnf g.dnf - th), i g.rocof,
    BitVec.ofNat 32 ((s.word R.GRD_STATUS).toNat % 2 ^ 18), i g.hcMax, i g.hcMin, i q, i g.pOut, i g.dOut, i sp.1, i sp.2.1,
    BitVec.ofNat 32 sp.2.2, BitVec.ofNat 32 g.gsSeq]
    ++ (List.range 7).flatMap (fun k => [(s.projOf k).1, (s.projOf k).2])
    ++ [i (s.word R.GRD_SPR_STAT).toNat, BitVec.ofInt 32 (atan2Turn g.qp1 g.dp1)]

/-- A word of the signal board takes a published value; writing it heals it (R181, R182). -/
def State.publishWord (s : State) (sig : Nat) (w : Word) : State := (s.setWord (R.S sig) w).heal (eccKey 3 (R.S sig))

/-- Publish a list of words from signal `sig` upwards. -/
def State.publishFrom (s : State) (sig : Nat) : List Word → State
  | [] => s
  | w :: r => State.publishFrom (s.publishWord sig w) (sig + 1) r

/-- METERING_CROSS_CHECK (R224, R225): the GS frame's sample sets against the ride-through values. -/
def State.crossCheck (s : State) : State :=
  let g := s.grd
  if g.q30.isEmpty then s.bump R.GRD_ERR_CNT_xchk_void
  else
    let ll := s.on R.GRD_CTL_rt_basis
    let w := (g.q30.reverse ++ g.mtrWindow).take 512
    let n := halfCycleN g.fGs 8000 1
    let hc := hcMaxMin ll w n (max 1 (20000 * s.get R.MTR_CFG_u_din * s.get R.MTR_CFG_u_din))
    let mx := hc.1
    let mn := hc.2
    let out (c : Nat) (v : Int) : Bool := 0 < s.npts c && (if c % 2 = 0 then s.curveTh c 0 < v else v < s.curveTh c 0)
    let k0x := out 2 g.hcMax != out 2 mx
    let k0n := out 3 g.hcMin != out 3 mn
    let off (a b : Int) : Bool := s.get R.GRD_XCHK_CFG_xchk_tol * 2 ^ 30 < 1000 * (a - b).natAbs
    let bad := k0x || k0n || off g.hcMax mx || off g.hcMin mn
    let run := if bad then g.xRun + 1 else 0
    let fire := bad && max 1 (s.get R.GRD_XCHK_CFG_xchk_n) ≤ run && !g.xHeld
    let s1 := { s with grd := { g with q30 := [], mtrWindow := w, xRun := run, xHeld := bad && (g.xHeld || fire) } }
    let useMax := k0x || (!k0n && off g.hcMax mx)
    let s2 := ((s1.putB R.GRD_XCHK_STAT_disagree true).putB R.GRD_XCHK_STAT_kind (!(k0x || k0n))).bump R.GRD_XCHK_STAT_count
    let s3 := (s2.putI R.GRD_XCHK_STAT_v_rt (if useMax then g.hcMax else g.hcMin)).putI R.GRD_XCHK_STAT_v_mtr (if useMax then mx else mn)
    ite' fire s1 (s3.raise 461)

/-- VECTOR_SHIFT (R227). -/
def State.vectorShift (s : State) : State :=
  let phi := atan2Turn s.grd.qp1 s.grd.dp1
  let s1 := { s with grd := { s.grd with phiGs := some phi } }
  match s.grd.phiGs with
  | none => s1
  | some old =>
    let vs := signed 32 (unsigned 32 (phi - old))
    let bad := s.get R.GRD_PAS_CFG_vs_th * 2 ^ 32 < 36000 * vs.natAbs
    let s2 := s1.putI R.GRD_PAS_STAT_vs_last vs
    if bad then ite' (!tbit s.grd.pasFired 3) s2 (s2.pasFire 3)
    else { s2 with grd := { s2.grd with pasFired := tset s2.grd.pasFired 3 false } }

/-- FORM_CHANGE (R240): a changed GRD_CTL.form takes effect without a step of the phase count. -/
def State.formChange (s : State) : State :=
  let g := s.grd
  let want := s.on R.GRD_CTL_form
  let s1 := s.putB R.GRD_STATUS_form_active want
  if want = s.on R.GRD_STATUS_form_active then s
  else if want then { s1 with grd := { g with dw := freeDiv 240 (g.fSync - hz48 s.fNom) s.fNom } }
  else
    let den := max 1 (max g.vpos s.vMin)
    let s2 := { s1 with grd := { g with fSync := g.f, integ := g.f - hz48 s.fNom - s.kpE g.qp1 den } }
    ite' (2 ^ 32 < 36 * (atan2Turn g.qp1 g.dp1).natAbs) s2 ((s2.putB R.GRD_STATUS_locked false).raise 459)

/-- The word after a held write. -/
def HeldWrite.on (h : HeldWrite) (w : Word) : Word := maskIn w h.value h.mask

/-- The frame index of the first GS source (R211). -/
def State.gsIndex (s : State) : Nat :=
  match (List.range 16).find? (fun f => s.get (R.ENG_FSRC_type f) == 2) with
  | some f => s.get (R.ENG_FIDX_index f)
  | none => s.grd.gsSeq

/-- The held writes take effect; those of other agents than a glaze are recorded (R211, R451). -/
def State.gridWrites (s : State) : State :=
  let s1 := s.grd.writes.foldl (fun t h =>
    let u := t.setWord h.addr (h.on (t.word h.addr))
    ite' (!h.glaze && u.gridRecorded) u (u.record 5 64 u.mplan u.gsIndex (leBytes 4 h.addr ++ leBytes 4 (u.word h.addr).toNat))) s
  { s1 with grd := { s1.grd with writes := [] } }

/-- GS sources latch: GS32 at every GS instant, GS16 where θ₊ is a multiple of 2^28 (R16, R213). -/
def State.gsSources (s : State) : State :=
  forUpTo 16 (fun f t =>
    ite' (t.get (R.ENG_FSRC_type f) == 2 && (t.on (R.ENG_FSRC_gs32 f) || !t.on R.GRD_CTL_gs32 || t.gsSector % 2 == 0)) t
      { t with frm := { t.frm with due := tset t.frm.due f true } }) s

/-- The metering sample sets of the GS frame, recorded if the grid unit is (R452). -/
def State.gsRecord (s : State) : State :=
  ite' s.gridRecorded s (s.record 2 64 s.mplan s.gsIndex (s.grd.q30.flatMap (fun v => v.flatMap (fun x => leBytes 4 (unsigned 32 x)))))

/-- A unit that a write has just disabled: S0000 to S0031 hold their reset values (GRD_CTL.en). -/
def State.gridOff (s : State) : State := ite' (!s.on R.GRD_CTL_en) s (s.publishFrom 0 (List.replicate 32 0))

/-- A GS instant has come: the phase count has entered a new sector while the unit is enabled (R213). -/
def State.gsDue (s : State) : Bool := s.on R.GRD_CTL_en && !s.modStopped && s.gsSector != s.grd.sector

/-- A GS instant: publication, cross-check, vector shift, N_h, held writes, form change, GS sources. -/
def State.gsInstant (s : State) : State :=
  let s0 := ((s.gsRecord.crossCheck).vectorShift).sprStatus
  let s1 := { s0 with grd := { s0.grd with sector := s0.gsSector, gsSeq := (s0.grd.gsSeq + 1) % 2 ^ 32, nh := s0.gridNh s0.grd.fGs, fGs := s0.grd.f } }
  let s2 := (s1.publishFrom 0 s1.gridSignals)
  (s2.gridWrites.formChange).gridOff.gsSources

/-- GS_INSTANT (R213): the phase count has entered a new sector. -/
def execGsInstant (s : State) : Out :=
  when (s.live && s.gsDue) s s.gsInstant

/-- Hold a write of a grid word until the next GS instant (R211). -/
def State.gridHold (s : State) (h : HeldWrite) : State := { s with grd := { s.grd with writes := s.grd.writes ++ [h] } }

/-- GRID_WRITE (R211, R242): a granted write to the RW fields of a GRD_ word that no glaze patches (R337). -/
def execGridWrite (a : Nat) (w : Word) (s : State) : Out :=
  when (s.live && !s.glazed a && R.GRD_CTL ≤ a && a < 0x05010000 && (regFind a).isSome && rwMask a != 0) s (s.gridHold ⟨a, w, rwMask a, false⟩)

/-- The grid unit at image load: phase count 0, increment for f_nom (R213). -/
def State.gridLoad (s : State) : State :=
  let f := hz48 s.fNom
  let g : GrdS := { }
  let g1 := { g with inc := s.incFor f, fSync := f, f := f, fGs := f, nh := s.gridNh f, pOut := pu1, vRef := pu1,
                     code := s.get R.GRD_SPR_CFG_code, share := max 1 (s.get R.GRD_SPR_CFG_share) }
  { s with grd := g1 }

end Sys2Proof.Machine
end

