-- ==== Sys2Proof/Machine/Meter.lean ====
section
/-!
DEFINITION. Metering and power quality (R306 to R333): calibration, powers, energy, snapshots, demand, pulse inputs and
outputs, events, windows, published values.
-/

namespace Sys2Proof.Machine

/-! ### Windows over the sample history (R309 to R311) -/

/-- The metering frequency in Hz × 2^16, never 0. -/
def State.mtrF (s : State) : Nat := max 1 s.mtr.f

/-- U_din in 0.1 V. -/
def State.uDin (s : State) : Nat := s.get R.MTR_CFG_u_din

/-- Channel `ch` of the sample `k` samples ago. -/
def histAt (h : List (List Int)) (ch k : Nat) : Int := (h.getD k []).getD ch 0

/-- T of `f` in whole samples. -/
def periodSamples (f : Nat) : Nat := 8000 * 65536 / f

/-- The sum of `v k` over exactly one period T of `f`, times f: whole samples, and the fraction of the oldest (R310). -/
def overT (f : Nat) (v : Nat → Int) : Int :=
  let n := periodSamples f
  (List.range n).foldl (fun a k => a + v k * f) 0 + v n * ((8000 * 65536 - n * f : Nat) : Int)

/-- p of phase `ph` in µW: the mean of v × i over T (R310). -/
def meanP (h : List (List Int)) (f ph : Nat) : Int :=
  freeDiv 310 (overT f (fun k => histAt h ph k * histAt h (ph + 4) k)) (8000 * 65536)

/-- 4 f times the voltage of phase `ph` a quarter period before sample `k`, interpolated between samples (R310). -/
def quarterV (h : List (List Int)) (f ph k : Nat) : Int :=
  let d := 8000 * 65536 / (4 * f)
  let r := 8000 * 65536 % (4 * f)
  histAt h ph (k + d) * ((4 * f - r : Nat) : Int) + histAt h ph (k + d + 1) * (r : Int)

/-- q of phase `ph` in µvar (R310). -/
def meanQ (h : List (List Int)) (f ph : Nat) : Int :=
  freeDiv 3101 (overT f (fun k => quarterV h f ph k * histAt h (ph + 4) k)) (4 * f * (8000 * 65536) : Nat)

/-- The RMS of channel `ch` over one cycle, in mV or mA (R311). -/
def cycleRms (h : List (List Int)) (f ch : Nat) : Nat :=
  freeSqrt 311 (overT f (fun k => histAt h ch k * histAt h ch k)).toNat (8000 * 65536)

/-- The scale of `phasor`: its weights sum to 8,000 × 2^16, and its angles have the scale 2^128. -/
def fundScale : Nat := 8000 * 65536 * 2 ^ 128

/-- The fundamental of channel `ch` over the last T as a phasor at the newest sample, times half of `fundScale`: its one-cycle Fourier
component, the oldest sample weighted as in R310 (log entry 15). -/
def phasor (h : List (List Int)) (f ch : Nat) : Int × Int :=
  let n := periodSamples f
  let e := cis f (8000 * 65536)
  let step (a : (Int × Int) × (Int × Int)) (k : Nat) : (Int × Int) × (Int × Int) :=
    let w := histAt h ch k * ((if k < n then f else 8000 * 65536 - n * f : Nat) : Int)
    (cisMul a.1 e, (a.2.1 + w * a.1.1, a.2.2 + w * a.1.2))
  ((List.range (n + 1)).foldl step ((2 ^ 128, 0), (0, 0))).2

/-- The square of a complex number's magnitude. -/
def power (a : Int × Int) : Nat := (a.1 * a.1 + a.2 * a.2).toNat

/-- The difference of two complex numbers. -/
def cSub (a b : Int × Int) : Int × Int := (a.1 - b.1, a.2 - b.2)

/-- The product of a complex number with another's conjugate. -/
def cConj (a b : Int × Int) : Int × Int := (a.1 * b.1 + a.2 * b.2, a.2 * b.1 - a.1 * b.2)

/-- |3 V₊|² and |3 V₋|² of three phasors, times 2^128 (R328). -/
def seqPowers (a b c : Int × Int) : Nat × Nat :=
  let ab := cConj a b
  let bc := cConj b c
  let ca := cConj c a
  let d := ((power a + power b + power c : Nat) : Int) - (ab.1 + bc.1 + ca.1)
  let e := ab.2 + bc.2 + ca.2
  ((d * 2 ^ 128 + e * sqrt3x128).toNat, (d * 2 ^ 128 - e * sqrt3x128).toNat)

/-- √(n ÷ d) as a natural number, freely one of the two nearest where it is not whole; a quotient by 0 is free. -/
def ratioRoot (site n d : Nat) : Nat := if d = 0 then unsigned 32 (Config.realFn site [n, d]) else freeSqrt site n d

/-! ### Calibration and overload (R307, R308) -/

/-- The phase field of a current channel. -/
def State.phaseOf (s : State) (ch : Nat) : Int := s.getI (R.MTR_CH_CAL_phase ch)

/-- The steps of 244.14 ns by which channel `ch` is delayed (R307). -/
def State.delayOf (s : State) (ch : Nat) : Nat :=
  if 4 ≤ ch then (max 0 (s.phaseOf ch)).toNat else (max 0 (-(s.phaseOf (ch + 4)))).toNat

/-- The high-pass filter of R307 at the input `y`, from the last input and output; outputs are in units of 2^−64. First order: one
pole a = (1 − t) ÷ (1 + t) with t = tan(π × 0.5 Hz ÷ 8 kHz), which puts the corner at 0.5 Hz, and unit gain at the top of the band
(DEDUCED, log entry 15). The constants are a × 2^64 and (1 + a) ÷ 2 × 2^64, rounded down. -/
def highPass (y last out : Int) : Int := 0xffe644e55e859733 * out / 2 ^ 64 + 0xfff32272af42cb99 * (y - last)

/-- One calibrated channel (R307): the state with its filter advanced, and x before the delay. -/
def State.calibrate (s : State) (ch : Nat) (code : Int) : State × Int :=
  let y := code - s.getI (R.MTR_CH_CAL_offset ch)
  let m := s.mtr
  let o := highPass y (tget m.hpIn ch 0) (tget m.hpOut ch 0)
  let s1 := { s with mtr := { m with hpIn := tset m.hpIn ch y, hpOut := tset m.hpOut ch o } }
  (s1, sat32 (shrRound ((if s.on (R.MTR_CH_CAL_hpf_en ch) then freeDiv 307 o (2 ^ 64) else y) * s.get (R.MTR_CH_CAL_gain ch)) 24))

/-- OVERLOAD (R308): the channel's bit; an entry after a grid cycle without it counts and raises 474. -/
def State.overload (s : State) (ch : Nat) (code : Int) : State :=
  let m := s.mtr
  let age := tget m.ovldAge ch (2 ^ 32)
  if 8388000 ≤ code.natAbs then
    let s1 := { s with mtr := { m with ovldAge := tset m.ovldAge ch 0 } }.put ⟨R.MTR_STATUS, ch, 1⟩ 1
    ite' (periodSamples s.mtrF ≤ age) s1 ((s1.bump R.MTR_ERR_CNT_ovld_cnt).raise 474)
  else { s with mtr := { m with ovldAge := tset m.ovldAge ch (min (2 ^ 32) (age + 1)) } }

/-- All eight channels of a sample: calibrated, delayed, put in front of the history. -/
def State.takeSample (s : State) (codes : List Int) : State :=
  let step (ch : Nat) (t : State × List Int) : State × List Int :=
    let r := (t.1.overload ch (codes.getD ch 0)).calibrate ch (codes.getD ch 0)
    (r.1, t.2 ++ [r.2])
  let r := forUpTo 8 step (s, [])
  let x := (List.range 8).map (fun ch =>
    let d := s.delayOf ch
    let cur := r.2.getD ch 0
    if d = 0 then cur else cur + freeDiv 3071 ((s.mtr.prev.getD ch 0 - cur) * d) 512)
  let m := r.1.mtr
  { r.1 with mtr := { m with hist := (x :: m.hist).take 512, prev := r.2, samples := m.samples + 1 } }

/-! ### Energy (R312 to R315, R325) -/

/-- NO_LOAD (R313): the no-load state of key `k` for the power `p` and the threshold field `f`; answers the contribution. -/
def State.noLoadStep (s : State) (k : Nat) (p : Int) (f : Fld) : State × Int :=
  let m := s.mtr
  let thr := s.get f * s.uDin * s.get (R.MTR_CFG_i_nom)
  let low := p.natAbs * 1000 < thr
  let run := if 12 * thr ≤ p.natAbs * 10000 then tnum m.loadRun k + 1 else 0
  let st := low || (tbit m.noLoad k && run < 8)
  ({ s with mtr := { m with noLoad := tset m.noLoad k st, loadRun := tset m.loadRun k run } }, if st then 0 else p)

/-- The register LSB in µWh, 0 acting as 1. -/
def State.mtrLsb (s : State) : Nat := max 1 (s.get R.MTR_CFG_lsb)

/-- ENERGY_WRAP (R315). -/
def State.energyWrap (s : State) (e : Nat) : State :=
  let w := (tnum s.mtr.wraps e + 1) % 65536
  let s1 := { s with mtr := { s.mtr with wraps := tset s.mtr.wraps e w } }
  (((s1.putB R.MTR_STATUS_wrap true).raise 470).bump R.MTR_ERR_CNT_wraps).logPush 1
    (leBytes 1 6 ++ leBytes 1 e ++ leBytes 10 0 ++ leBytes 4 w)

/-- The demand column of the total's registers: P import, P export, Q import, Q export (R320). -/
def demandOf (e : Nat) : Option Nat :=
  if e = 3 then some 0 else if e = 7 then some 1 else if e = 11 || e = 15 then some 2 else if e = 19 || e = 23 then some 3 else none

/-- PULSE_OWED (R325): the outputs that follow register `e` accumulate `c` µW for one sample. -/
def State.feedOutputs (s : State) (e c : Nat) : State :=
  forUpTo 2 (fun k t =>
    if t.on (R.MTR_PO_CFG_en k) && t.get (R.MTR_PO_CFG_e k) == e then
      let o := tget t.mtr.outs k { }
      let unit := 28800000000 * max 1 (t.get (R.MTR_PO_CFG_po_mwh k))
      let a := o.acc + c
      let n := a / unit
      let room := 255 - o.owed
      let t1 := { t with mtr := { t.mtr with outs := tset t.mtr.outs k { o with acc := a % unit, owed := o.owed + min n room } } }
      ite' (room < n) t1 ((t1.putB R.MTR_STATUS_po_over true).bumpBy R.MTR_ERR_CNT_po_over_cnt (n - room))
    else t) s

/-- ENERGY_ACCUMULATION (R314): `c` µW for one sample into register `e`. -/
def State.addEnergy (s : State) (e c : Nat) : State :=
  if c = 0 then s
  else
    let L := s.mtrLsb * 28800000
    let a := tnum s.mtr.acc e + c
    let v := tnum s.mtr.reg e + a / L
    let m := { s.mtr with acc := tset s.mtr.acc e (a % L), reg := tset s.mtr.reg e (v % 2 ^ 48) }
    let m1 := match demandOf e with
      | some d => { m with dem := tset m.dem d ((tnum m.dem d + a / L) % 2 ^ 64) }
      | none => m
    let s1 := { s with mtr := m1 }
    (ite' (2 ^ 48 ≤ v) s1 (s1.energyWrap e)).feedOutputs e c

/-- The reactive quantity of a contribution by the sign of the raw active power (table Energy quantities). -/
def quadrant (cq p : Int) : Nat := if 0 < cq then (if 0 ≤ p then 2 else 3) else (if p < 0 then 4 else 5)

/-- The contributions `c` and `cq` of phase or total `ph` with raw active power `p` (R314). -/
def State.contribute (s : State) (ph : Nat) (c cq p : Int) : State :=
  (s.addEnergy (4 * (if 0 < c then 0 else 1) + ph) c.natAbs).addEnergy (4 * quadrant cq p + ph) cq.natAbs

/-- Powers and energy of one sample (R310 to R314). -/
def State.energyStep (s : State) : State :=
  let h := s.mtr.hist
  let ps := (List.range 3).map (fun x => meanP h s.mtrF x)
  let qs := (List.range 3).map (fun x => meanQ h s.mtrF x)
  let sum (l : List Int) : Int := l.foldl (fun a b => a + b) 0
  let s1 := { s with mtr := { s.mtr with p := ps ++ [sum ps], q := qs ++ [sum qs] } }
  let step (x : Nat) (t : State × Int × Int) : State × Int × Int :=
    let a := t.1.noLoadStep x (ps.getD x 0) R.MTR_NOLOAD_noload_p
    let b := a.1.noLoadStep (4 + x) (qs.getD x 0) R.MTR_NOLOAD_noload_q
    (b.1.contribute x a.2 b.2 (ps.getD x 0), t.2.1 + a.2, t.2.2 + b.2)
  let r := forUpTo 3 step (s1, 0, 0)
  r.1.contribute 3 r.2.1 r.2.2 (sum ps)

/-! ### Events (R326 to R329) -/

/-- Event of type `ty` (1 sag, 2 swell, 3 interruption, 4 phase sequence, 5 lost neutral). -/
def State.pq (s : State) (ty : Nat) : PqEvt := tget s.mtr.evts ty { }

/-- Replace an event. -/
def State.setPq (s : State) (ty : Nat) (e : PqEvt) : State := { s with mtr := { s.mtr with evts := tset s.mtr.evts ty e } }

/-- Half to even of samples ÷ 8, in ms. -/
def samplesMs (n : Nat) : Nat := (divRound n 8).toNat

/-- PQ_EVENT_RECORD (R327): the start or end record of an event. -/
def State.pqRecord (s : State) (ty : Nat) (start : Bool) (e : PqEvt) : State :=
  let flags := start.toNat + (if ty = 3 then 2 else 0) + (if !start && 16777215 ≤ e.hc then 4 else 0)
  let d := if start then 0 else min 16777215 e.hc
  let ms := if start then 0 else samplesMs e.samples
  s.logPush 1 (leBytes 1 ty ++ leBytes 1 e.mask ++ leBytes 1 flags ++ leBytes 1 0 ++ leBytes 4 d ++ leBytes 4 ms ++ leBytes 4 e.extreme)

/-- The source raised at the start of an event. -/
def pqSource (ty : Nat) : Nat := if ty ≤ 3 then 463 + ty else 464 + ty

/-- An event starts. -/
def State.pqStart (s : State) (ty mask extreme : Nat) : State :=
  let e : PqEvt := { active := true, mask := mask, extreme := extreme }
  (((s.setPq ty e).bump R.MTR_EVT_STAT_events).raise (pqSource ty)).pqRecord ty true e

/-- An event ends. -/
def State.pqEnd (s : State) (ty : Nat) : State :=
  let s1 := (s.pqRecord ty false (s.pq ty)).setPq ty { }
  ite' (ty ≤ 3) s1 (s1.raise 467)

/-- One half-cycle update of an event that is judged on Urms(½) (R326): the phases concerned now, whether it starts, whether
it ends, the extreme now and whether it is a lowest. -/
def State.pqStep (s : State) (ty mask : Nat) (starts ends : Bool) (x : Nat) (low : Bool) : State :=
  let e := s.pq ty
  if e.active then
    let e1 := { e with hc := e.hc + 1, mask := e.mask ||| mask, extreme := if low then min e.extreme x else max e.extreme x }
    ite' ends (s.setPq ty e1) ((s.setPq ty e1).pqEnd ty)
  else ite' starts s (s.pqStart ty mask x)

/-- HALF_CYCLE_UPDATE (R326): Urms(½) of three phases, then sag, swell and interruption. -/
def State.halfCycle (s : State) : State :=
  let us := (List.range 3).map (fun x => cycleRms s.mtr.hist s.mtrF x)
  let u := max 1 s.uDin
  let below (th x : Nat) : Bool := 10 * x < th * u
  let above (th x : Nat) : Bool := th * u < 10 * x
  let maskOf (f : Nat → Bool) : Nat := (List.range 3).foldl (fun a k => if f (us.getD k 0) then a + 2 ^ k else a) 0
  let hundredth (x : Nat) : Nat := (freeDiv 326 ((100 * x : Nat) : Int) (u : Nat)).toNat
  let lo := hundredth (us.foldl min (us.getD 0 0))
  let hi := hundredth (us.foldl max 0)
  let hy := s.get R.MTR_EVT_CFG_hyst
  let sag := s.get R.MTR_EVT_CFG_sag_th
  let sw := s.get R.MTR_EVT_CFG_swell_th
  let it := s.get R.MTR_EVT_CFG_intr_th
  let aged (ty : Nat) (t : State) : State := if (t.pq ty).active then t.setPq ty { t.pq ty with hc := (t.pq ty).hc + 1 } else t
  let s1 := aged 5 (aged 4 { s with mtr := { s.mtr with urms := us } })
  let s2 := s1.pqStep 1 (maskOf (below sag)) (us.any (below sag)) (us.all (fun x => !below (sag + hy) x)) lo true
  let s3 := s2.pqStep 2 (maskOf (above sw)) (us.any (above sw)) (us.all (fun x => !above (sw - hy) x)) hi false
  let s4 := s3.pqStep 3 (maskOf (below it)) (us.all (below it)) (us.any (fun x => !below (it + hy) x)) lo true
  let s5 := s4.put R.MTR_EVT_STAT_sag (if (s4.pq 1).active then maskOf (below sag) else 0)
  let s6 := s5.put R.MTR_EVT_STAT_swell (if (s5.pq 2).active then maskOf (above sw) else 0)
  s6.putB R.MTR_EVT_STAT_intr (s6.pq 3).active

/-- A condition judged over consecutive cycles (R328, R329). -/
def State.cycleCond (s : State) (ty n extreme : Nat) (cond : Bool) (f : Fld) : State :=
  let e := s.pq ty
  if e.active then
    let run := if cond then 0 else e.run + 1
    let s1 := s.setPq ty { e with run := run, extreme := max e.extreme extreme }
    ite' (n ≤ run) s1 ((s1.pqEnd ty).putB f false)
  else
    let run := if cond then e.run + 1 else 0
    ite' (n ≤ run) (s.setPq ty { e with run := run }) ((s.pqStart ty 7 extreme).putB f true)

/-- PHASE_SEQUENCE and LOST_NEUTRAL at a cycle (R328, R329), from the fundamentals of VA to VC over that cycle. -/
def State.cycleUpdate (s : State) : State :=
  let h := s.mtr.hist
  let x (k : Nat) : Int × Int := phasor h s.mtrF k
  let u := 100 * s.uDin
  let sq := seqPowers (x 0) (x 1) (x 2)
  let half := 9 * (u * u) * (fundScale * fundScale) * 2 ^ 128
  let s1 := { s with mtr := { s.mtr with negRatio := ratioRoot 3280 (10 ^ 8 * sq.2) sq.1 } }
  let s2 := ite' (half ≤ 8 * max sq.1 sq.2) s1
    (s1.cycleCond 4 5 s1.mtr.negRatio (16 * sq.1 < 25 * sq.2) R.MTR_EVT_STAT_phseq)
  let us := (List.range 3).map (fun k => cycleRms h s.mtrF k)
  let ll := (List.range 3).all (fun k =>
    let d := 200 * power (cSub (x k) (x ((k + 1) % 3)))
    let g := 3 * (u * u) * (fundScale * fundScale)
    81 * g ≤ d && d ≤ 121 * g)
  let lost := decide (u < 5 * cycleRms h s.mtrF 3)
    || (us.any (fun v => decide (6 * u < 5 * v)) && us.any (fun v => decide (5 * v < 4 * u)) && ll)
  s2.cycleCond 5 10 0 lost R.MTR_EVT_STAT_lost_n

/-! ### Windows of 10 or 12 cycles (R311) -/

/-- The part `w`, in 2^−32, of the newest sample enters the running window. -/
def State.windowAdd (s : State) (w : Nat) : State :=
  let m := s.mtr
  let x (ch : Nat) : Int := histAt m.hist ch 0
  let sq (k : Nat) : Nat := if k < 8 then (x k * x k).toNat else ((x 4 + x 5 + x 6) * (x 4 + x 5 + x 6)).toNat
  { s with mtr := { m with winN := m.winN + w, winSq := forUpTo 9 (fun k t => tset t k (tnum t k + w * sq k)) m.winSq,
                           winP := m.winP + w * (x 0 * x 4 + x 1 * x 5 + x 2 * x 6) } }

/-- `n` points of a signal, `step` apart, each times `d`: interpolated linearly between the samples `l`, oldest first, from the place
`r`; places are in units of 1 ÷ `d` sample (log entry 15). -/
def resample (step d : Nat) : Nat → Nat → List Int → List Int
  | 0, _, _ => []
  | n + 1, r, l =>
    let t := l.drop (r / d)
    (t.getD 0 0 * ((d - r % d : Nat) : Int) + t.getD 1 0 * ((r % d : Nat) : Int)) :: resample step d n (r % d + step) t

/-- The sums over `n` cycles of 128 points each. -/
def foldCycles : Nat → List Int → List Int
  | 0, _ => List.replicate 128 0
  | n + 1, l => List.zipWith (fun a b => a + b) (l.take 128) (foldCycles n (l.drop 128))

/-- The DFT of 128 sums at order `h`, times 2^128. -/
def dft (bins : List Int) (roots : List (Int × Int)) (h : Nat) : Int × Int :=
  ((List.range 128).zip bins).foldl (fun a p => let c := roots.getD (h * p.1 % 128) (0, 0)
    (a.1 + p.2 * c.1, a.2 - p.2 * c.2)) (0, 0)

/-- The powers of orders 1 to 50 of channel `ch` in the window that ends, and the square of their scale over RMS: window samples at
128 points per cycle, `cyc` cycles (R311). -/
def State.harmPowers (s : State) (ch cyc : Nat) : List Nat × Nat :=
  let m := s.mtr
  let d := 2 ^ 32 * 128 * cyc
  let l := m.win.reverse.map (fun x => x.getD ch 0)
  let bins := foldCycles cyc (resample m.winN d (128 * cyc) ((2 ^ 32 - m.winFrom) * (128 * cyc)) l)
  let roots := (List.range 128).map (fun k => cis k 128)
  ((List.range 50).map (fun k => 2 * power (dft bins roots (k + 1))), (d * (128 * cyc) * 2 ^ 128) ^ 2)

/-- A harmonic's 16 bits; a magnitude that they do not hold is free (log entry 15). -/
def harmMag (v : Nat) : Nat := if v < 65536 then v else unsigned 16 (Config.realFn 3114 [v])

/-- The words of MTR_HARM of one channel, for the window count `no`, and its THD in 0.01 % (R311). -/
def State.harmonics (s : State) (ch cyc no : Nat) : List Word × Nat :=
  let q := s.harmPowers ch cyc
  let h1 := q.1.getD 0 0
  let mag (k : Nat) (v : Nat) : Nat := if k = 0 then freeSqrt 3115 v (100 * q.2) else ratioRoot 3116 (10 ^ 8 * v) h1
  (((List.range 50).zip q.1).map (fun p => BitVec.ofNat 32 (harmMag (mag p.1 p.2) + 65536 * no)),
    ratioRoot 3113 (10 ^ 8 * (q.1.drop 1).foldl (fun a b => a + b) 0) h1)

/-- HARMONIC_WINDOW (R311): RMS, power factor, THD and harmonics of the window of `cyc` cycles that ends. -/
def State.windowEnd (s : State) (cyc : Nat) : State :=
  let m := s.mtr
  let n := max 1 m.winN
  let rms := forUpTo 8 (fun k t => tset t k (freeSqrt 3110 (tnum m.winSq k) n)) []
  let va := (List.range 3).foldl (fun a k => a + tnum rms k * tnum rms (4 + k)) 0
  let pf := freeDiv 3111 (m.winP * 2 ^ 30) ((max 1 (n * va) : Nat) : Int)
  let no := (m.winNo + 1) % 65536
  let hs := (List.range 8).map (fun ch => s.harmonics ch cyc no)
  let s1 := forUpTo 8 (fun ch t => t.setWords (R.MTR_HARM ch 1) (hs.getD ch ([], 0)).1) s
  let thd := forUpTo 6 (fun k t => tset t k (hs.getD (if k < 3 then k else k + 1) ([], 0)).2) []
  { s1 with mtr := { m with rms := rms, resid := freeSqrt 3112 (tnum m.winSq 8) n, pf := pf, thd := thd, winNo := no } }

/-- A window starts at the positive-going crossing `a`, in 2^−32 samples, before the newest sample. -/
def State.windowStart (s : State) (a : Nat) : State :=
  let m := s.mtr
  { s with mtr := { m with win := [m.hist.getD 0 [], m.hist.getD 1 []], winFrom := a, winN := 0, winSq := [], winP := 0, winCycles := 0 } }.windowAdd a

/-- The newest sample enters the window under way. -/
def State.windowSample (s : State) (w : Nat) : State :=
  let m := s.mtr
  ite' (!m.win.isEmpty) s ({ s with mtr := { m with win := m.hist.getD 0 [] :: m.win } }.windowAdd w)

/-- A cycle ends `a`, in 2^−32 samples, before the newest sample: events by cycle, and the window after 10 cycles, or 12 at 60 Hz,
which the next one joins. -/
def State.cycleEnd (s : State) (a : Nat) : State :=
  let s1 := s.cycleUpdate
  let m := s1.mtr
  let n := m.winCycles + 1
  if m.win.isEmpty then s1.windowStart a
  else if n < (if s.on R.GRD_CTL_f60 then 12 else 10) then { s1 with mtr := { m with winCycles := n } }.windowSample (2 ^ 32)
  else ((s1.windowSample (2 ^ 32 - a)).windowEnd n).windowStart a

/-! ### The metering frequency (R309) -/

/-- The selected voltage: the first phase whose one-cycle RMS reaches 10 % of U_din (R309). -/
def State.mtrSelected (s : State) : Option Nat :=
  (List.range 3).find? (fun x => decide (10 * s.uDin ≤ cycleRms s.mtr.hist s.mtrF x))

/-- How a sample stands in the half cycles: none ends; one ends; a cycle ends, `ago` in 2^−32 samples before the newest sample. -/
inductive HalfEnd where
  | none | half | cycle (ago : Nat)
  deriving DecidableEq, Repr

/-- The crossing instant `t`, in 2^−32 samples, of phase `x`: the spacing to the last one of the same phase gives f, clamped to 40 to
72 Hz (R309). -/
def State.mtrCrossing (s : State) (x t : Nat) : State :=
  let m := s.mtr
  let f := match m.crossAt with
    | some t0 => if m.crossOf = x && t0 < t
        then min (72 * 65536) (max (40 * 65536) (freeDiv 309 (8000 * 65536 * 2 ^ 32 : Nat) ((t - t0 : Nat) : Int)).toNat) else m.f
    | none => m.f
  { s with mtr := { m with f := f, crossAt := some t, crossOf := x } }

/-- The half cycles at the newest sample (R309): a zero crossing of the selected voltage's fundamental, interpolated between samples;
while no phase qualifies f is held, and half cycles follow each other by T ÷ 2 (log entry 15). -/
def State.mtrHalf (s : State) : State × HalfEnd :=
  let sel := s.mtrSelected
  let new := (List.range 3).map (fun x => phasor s.mtr.hist s.mtrF x)
  let m := s.mtr
  let s1 := { s with mtr := { m with fund := new } }.putB R.MTR_STATUS_f_hold sel.isNone
  let run := m.heldRun + 2 * s.mtrF
  match sel with
  | some x =>
    let v0 := (m.fund.getD x (0, 0)).1
    let v := (new.getD x (0, 0)).1
    if v0 < 0 && 0 ≤ v then
      let a := v.toNat * 2 ^ 32 / (v - v0).toNat
      let s2 := s1.mtrCrossing x (m.samples * 2 ^ 32 - a)
      ({ s2 with mtr := { s2.mtr with heldRun := 0, negHalf := false } }, .cycle a)
    else if 0 ≤ v0 && v < 0 then ({ s1 with mtr := { s1.mtr with heldRun := 0, negHalf := true } }, .half)
    else ({ s1 with mtr := { s1.mtr with heldRun := run } }, .none)
  | none =>
    let m1 := { s1.mtr with crossAt := none }
    if run < 8000 * 65536 then ({ s1 with mtr := { m1 with heldRun := run } }, .none)
    else ({ s1 with mtr := { m1 with heldRun := run % (8000 * 65536), negHalf := !m.negHalf } }, if m.negHalf then .cycle 0 else .half)

/-! ### Snapshots, export, held writes (R316, R324, R333) -/

/-- SNAPSHOT_CAPTURE (R316): every pending bank takes the registers. -/
def State.captureSnaps (s : State) : State :=
  forUpTo 4 (fun l t =>
    if t.on (R.MTR_SNAP_pending l) then
      let t1 := forUpTo 24 (fun e u =>
        (u.setWord (R.MTR_E l e) (BitVec.ofNat 32 (tnum s.mtr.reg e))).setWord (R.MTR_E l e + 4)
          (BitVec.ofNat 32 (tnum s.mtr.reg e / 2 ^ 32 + 65536 * tnum s.mtr.wraps e))) t
      (((t1.putB (R.MTR_SNAP_pending l) false).putB (R.MTR_SNAP_done l) true).bumpWrap (R.MTR_SNAP_seq l)).put (R.MTR_SNAP_sample l) s.mtr.samples
    else t) s

/-- A write of 1 to MTR_SNAP[link].take (R316). -/
def State.snapTake (s : State) (l : Nat) : State :=
  if s.on (R.MTR_SNAP_pending l) then s.bump R.MTR_ERR_CNT_snap_merged
  else (s.putB (R.MTR_SNAP_pending l) true).putB (R.MTR_SNAP_done l) false

/-- SNAPSHOT_TAKE (R316). -/
def execSnapshotTake (l : Nat) (s : State) : Out := when (s.live && l < 4) s (s.snapTake l)

/-- The watched export power in µW, if any (R324). -/
def State.exportPower (s : State) : Option Nat :=
  let k := s.get R.MTR_EXPORT_CFG_src
  if k = 1 then some (-(s.mtr.p.getD 3 0)).toNat
  else if 2 ≤ k && k ≤ 5 then some (1000000 * (tget s.mtr.ins (k - 2) { }).power) else none

/-- The export watch for one sample: how long the power has exceeded its limit. -/
def State.exportStep (s : State) : State :=
  let m := s.mtr
  match s.exportPower with
  | some p => if 1000000 * s.get R.MTR_EXPORT_CFG_limit < p then { s with mtr := { m with expRun := m.expRun + 1 } }
      else { s with mtr := { m with expRun := 0, expRaised := false } }
  | none => { s with mtr := { m with expRun := 0, expRaised := false } }

/-- EXPORT_LIMIT (R324): the power has exceeded limit for time ms. -/
def execExportLimit (s : State) : Out :=
  when (s.live && 0 < s.mtr.expRun && 8 * s.get R.MTR_EXPORT_CFG_time ≤ s.mtr.expRun && !s.mtr.expRaised) s
    ({ s with mtr := { s.mtr with expRaised := true } }.raise 473)

/-- The frame source that the metering publisher is bound to. -/
def State.pubSrc (s : State) (k : Nat) : Nat := tnum s.eng.pubOf k

/-- Whether a recorded subject uses source `f` (R452). -/
def State.srcRecorded (s : State) (f : Nat) : Bool :=
  (List.range 64).any (fun c => s.recorded c && (s.ctx c).present && s.srcOf c == f)
    || (s.gridRecorded && s.get R.GRD_IN_CFG_fsrc == f)

/-! ### Demand (R320) -/

/-- The demand interval closes: its record enters MTR_DEMAND[0], DEMAND_END is raised (R320). -/
def State.demandClose (s : State) (part : Bool) : State :=
  let d (k : Nat) : Nat := tnum s.mtr.dem k
  let flags := (d 0 != 0 && d 1 != 0).toNat + 2 * (d 2 != 0 && d 3 != 0).toNat + 4 * (part || s.mtr.demPartial).toNat
  let s1 := forUpTo 7 (fun k t => t.setWords (R.MTR_DEMAND (7 - k)) (t.words (R.MTR_DEMAND (6 - k)) 10)) s
  let w (n : Nat) : List Word := [BitVec.ofNat 32 n, BitVec.ofNat 32 (n / 2 ^ 32)]
  let s2 := s1.setWords (R.MTR_DEMAND 0)
    ([s.word R.AON_RTC, BitVec.ofNat 32 flags] ++ w (d 0) ++ w (d 1) ++ w (d 2) ++ w (d 3))
  { s2 with mtr := { s2.mtr with dem := [], demPartial := false, demAt := some (s.get R.AON_RTC_seconds) } }.raise 472

/-- The local time in seconds (R320): the RTC's plus 900 × tz, a tz outside −48 to +56 acting as the nearer limit. -/
def State.localTime (s : State) : Int := s.get R.AON_RTC_seconds + 900 * max (-48) (min 56 (s.getI R.MTR_DEMAND_CFG_tz))

/-- DEMAND_CLOSE (R320): local time is a whole multiple of the demand length, and the interval has not closed at this second. -/
def execDemandClose (s : State) : Out :=
  when (s.live && s.on R.MTR_CFG_en && s.localTime % (60 * s.get R.MTR_DEMAND_CFG_length : Nat) == 0
    && s.mtr.demAt != some (s.get R.AON_RTC_seconds)) s (s.demandClose false)

/-- The held MTR_ writes take effect at a sample boundary (R333); a write to tz closes the demand interval (R320). -/
def State.mtrWrites (s : State) : State :=
  let f := s.pubSrc 0
  let s1 := s.mtr.writes.foldl (fun t h =>
    let u := t.setWord h.addr (h.on (t.word h.addr))
    let v := ite' (h.addr == R.MTR_DEMAND_CFG) u (u.demandClose true)
    ite' (!h.glaze && v.srcRecorded f) v
      (v.record 5 f v.mplan (v.get (R.ENG_FIDX_index f)) (leBytes 4 h.addr ++ leBytes 4 (v.word h.addr).toNat))) s
  { s1 with mtr := { s1.mtr with writes := [] } }

/-- Hold a write of a metering word until the next sample boundary (R333); while metering is off there is none, and the write
acts at once (log entry 15). -/
def State.mtrHold (s : State) (h : HeldWrite) : State :=
  if s.on R.MTR_CFG_en then { s with mtr := { s.mtr with writes := s.mtr.writes ++ [h] } }
  else s.setWord h.addr (h.on (s.word h.addr))

/-- A write to AON_RTC: the time is set at once and is valid, the demand interval closes (R434, R320). The sub-second is a
free value. -/
def State.rtcWrite (s : State) (sec : Nat) : State :=
  let s1 := (ite' (s.on R.MTR_CFG_en) s (s.demandClose true)).put R.AON_RTC_seconds sec
  let s2 := { s1 with aon := { s1.aon with sub := s1.freshNat % 32768 } }.burn
  (s2.putB R.AON_STATUS_rtc_valid true).setRet 1 4 0x00010001 |>.retCrc

/-! ### The sample (R306) -/

/-- The sample set of VA, VB and VC enters Q30, or is dropped (R224). -/
def State.q30Push (s : State) : State :=
  let v := (s.mtr.hist.getD 0 []).take 3
  if hasRoom s.grd.q30 32 then { s with grd := { s.grd with q30 := s.grd.q30 ++ [v] } }.count (0x80 + 30)
  else (s.bump R.GRD_ERR_CNT_q30_drop).count (0x60 + 30)

/-- The samples of the events under way. -/
def State.evtSamples (s : State) : State :=
  { s with mtr := { s.mtr with evts := s.mtr.evts.map (fun e => (e.1, { e.2 with samples := e.2.samples + e.2.active.toNat })) } }

/-- All of one metering sample. -/
def State.mtrSample (s : State) (codes : List Int) : State :=
  let r := (s.mtrWrites.takeSample codes).mtrHalf
  let s1 := r.1.energyStep.evtSamples.exportStep
  let s2 := match r.2 with
    | .none => s1.windowSample (2 ^ 32)
    | .half => s1.halfCycle.windowSample (2 ^ 32)
    | .cycle a => s1.halfCycle.cycleEnd a
  s2.captureSnaps.q30Push

/-- A 24-bit two's-complement code (R306). -/
def codeOk (c : Int) : Bool := decide (-8388608 ≤ c) && decide (c ≤ 8388607)

/-- METERING_SAMPLE (R306): the MTR domain runs from XIN alone, hops and clock stops included. -/
def execMeteringSample (codes : List Int) (s : State) : Out :=
  when (s.live && s.on R.MTR_CFG_en && codes.length == 8 && codes.all codeOk) s (s.mtrSample codes)

/-! ### Checkpoints and restore (R318, R319, R428) -/

/-- The fields of a checkpoint that metering gives, and the RTC seconds (table Checkpoint slot). -/
def State.ckptBytes (s : State) : List Byte :=
  (List.range 24).flatMap (fun e => leBytes 6 (tnum s.mtr.reg e) ++ leBytes 2 (tnum s.mtr.wraps e))
    ++ leBytes 4 (s.get R.MTR_CFG_lsb) ++ leBytes 4 s.mtr.samples ++ leBytes 4 (s.get R.AON_RTC_seconds)

/-- CHECKPOINT (R318). -/
def execCheckpoint (s : State) : Out := when (s.live && s.on R.MTR_CFG_en) s (s.q06Push s.ckptBytes)

/-- Whether checkpoint slot `k` is valid, by its CRC (R428). -/
def State.ckptOk (s : State) (k : Nat) : Bool :=
  let b := s.bytes (retBlock (16 + 64 * k)) 216
  crc32 (b.take 212) == leAt b 212 4 && leAt b 204 8 != 0

/-- The sequence of checkpoint slot `k`. -/
def State.ckptSeqOf (s : State) (k : Nat) : Nat := leNat (s.bytes (retBlock (16 + 64 * k) + 204) 8)

/-- The slot of the last valid checkpoint (R428). -/
def State.lastCkpt (s : State) : Option Nat :=
  match s.ckptOk 0, s.ckptOk 1 with
  | true, true => some (if s.ckptSeqOf 0 < s.ckptSeqOf 1 then 1 else 0)
  | true, false => some 0
  | false, true => some 1
  | false, false => none

/-- The restore at SAFE-ready (R319). -/
def State.mtrRestore (s : State) : State :=
  let m : MtrS := { f := if s.on R.GRD_CTL_f60 then 60 * 65536 else 50 * 65536 }
  let s0 := { s with mtr := m }
  match s0.lastCkpt with
  | none => (s0.putB R.MTR_STATUS_restore_fail true).logPush 1 (leBytes 1 7)
  | some k =>
    let b := s0.bytes (retBlock (16 + 64 * k)) 216
    let lsbOld := max 1 (leAt b 192 4)
    let val (e : Nat) : Nat :=
      let v := leAt b (8 * e + 6) 2 * 2 ^ 48 + leAt b (8 * e) 6
      if leAt b 192 4 = s0.get R.MTR_CFG_lsb then v else v * lsbOld / s0.mtrLsb
    let reg := forUpTo 24 (fun e t => tset t e (val e % 2 ^ 48)) []
    let wr := forUpTo 24 (fun e t => tset t e (val e / 2 ^ 48 % 65536)) []
    { s0 with mtr := { m with reg := reg, wraps := wr } }.putB R.MTR_STATUS_restored true

/-! ### Pulse inputs and outputs (R321 to R325) -/

/-- PI_FAULT (R323). -/
def State.piFault (s : State) (k : Nat) : State :=
  (((s.putB (R.MTR_PI_STAT_fault k) true).bump (R.MTR_PI_STAT_faults k)).raise 471).logPush 1 (leBytes 1 8 ++ leBytes 1 k)

/-- One pulse input sampled at 1 ms (R321 to R323). -/
def State.piStep (s : State) (k : Nat) (hi : Bool) : State :=
  let x := tget s.mtr.ins k { }
  let deb := min 25 (max 1 (s.get (R.MTR_PI_CFG_debounce k)))
  let high := if hi then x.high + 1 else 0
  let low := if hi then 0 else x.low + 1
  let lv := s.on (R.MTR_PI_STAT_level k)
  let accept := !lv && deb ≤ high
  let level := if lv then low < deb else accept
  let since := x.since + 1
  let mwh := max 1 (s.get (R.MTR_PI_CFG_pi_mwh k))
  let pulses := if accept then x.pulses + 1 else x.pulses
  let ivl := if accept && x.pulses != 0 then since else x.interval
  let now := if accept then 0 else since
  let tmo := max 1 (s.get (R.MTR_PI_CFG_timeout k)) * 1000 ≤ now
  let power := if pulses < 2 || tmo then 0 else mwh * 3600 / max 1 (max ivl now)
  let y : PulseInS := ⟨high, low, now, pulses, if accept then x.energy + mwh else x.energy, power, ivl⟩
  let s1 := { s with mtr := { s.mtr with ins := tset s.mtr.ins k y } }
  let s2 := ((s1.putB (R.MTR_PI_STAT_level k) level).put (R.MTR_PI_STAT_interval k) (min 65535 ivl)).putB (R.MTR_PI_STAT_timed_out k) tmo
  let s3 := ite' (accept && x.pulses != 0 && since < 55) s2 (s2.piFault k)
  ite' (high == s.get (R.MTR_PI_CFG_stuck k) + 1) s3 (s3.piFault k)

/-- PULSE_INPUT_SAMPLE (R321): bit k of `levels` is PIk. -/
def execPulseInputSample (levels : Nat) (s : State) : Out :=
  when (s.live && levels < 16) s
    (forUpTo 4 (fun k t => ite' (t.on (R.MTR_PI_CFG_en k)) t (t.piStep k (levels / 2 ^ k % 2 = 1))) s)

/-- PULSE_OUTPUT_TIMER (R325): output `k` starts an owed pulse, ends one, or ends its spacing. -/
def execPulseOutputTimer (k : Nat) (s : State) : Out :=
  let o := tget s.mtr.outs k { }
  let begin_ : PulseOutS := if o.owed = 0 then { o with phase := .idle } else { o with phase := .high, owed := o.owed - 1 }
  let o1 := match o.phase with
    | .idle => begin_
    | .high => { o with phase := .gap }
    | .gap => begin_
  when (s.live && k < 2 && s.on (R.MTR_PO_CFG_en k)) s { s with mtr := { s.mtr with outs := tset s.mtr.outs k o1 } }

/-! ### Published values (R330) -/

/-- S0032 to S0063. -/
def State.mtrSignals (s : State) : List Word :=
  let m := s.mtr
  let i (v : Int) : Word := BitVec.ofInt 32 (sat32 v)
  let n (v : Nat) : Word := i v
  let va := (List.range 3).foldl (fun a k => a + tnum m.rms k * tnum m.rms (4 + k)) 0
  (List.range 4).map (fun k => i (freeDiv 330 (m.p.getD k 0) 1000000))
    ++ (List.range 4).map (fun k => i (freeDiv 330 (m.q.getD k 0) 1000000))
    ++ [i (freeDiv 330 (va : Nat) 1000000), i m.pf]
    ++ (List.range 8).map (fun k => i (freeDiv 330 (tnum m.rms k) 10))
    ++ [i (freeDiv 330 m.resid 10), n m.f]
    ++ (List.range 6).map (fun k => n (tnum m.thd k))
    ++ [n m.negRatio, BitVec.ofNat 32 ((s.word R.MTR_EVT_STAT).toNat % 512), BitVec.ofNat 32 (tnum m.reg 3), BitVec.ofNat 32 (tnum m.reg 7), 0, 0]

/-- S0080 to S0095. -/
def State.pulseSignals (s : State) : List Word :=
  let x (k : Nat) : PulseInS := tget s.mtr.ins k { }
  (List.range 4).map (fun k => BitVec.ofInt 32 (sat32 (x k).power))
    ++ (List.range 4).map (fun k => BitVec.ofNat 32 ((x k).energy / 1000))
    ++ (List.range 4).map (fun k => BitVec.ofNat 32 (x k).pulses)
    ++ (List.range 4).map (fun k => BitVec.ofNat 32 ((s.word (R.MTR_PI_STAT k)).toNat % 8))

end Sys2Proof.Machine
end

