-- ==== Sys2Proof/Machine/TwinQueue.lean ====
section
/-!
DEFINITION. Control messages to the partner of a pair (R390): the transmit queue Q24, which makes the control plane wait
while it is full.
-/

namespace Sys2Proof.Machine

/-- Whether the device is the follower of a pair (R391, R397). -/
def State.follows (s : State) : Bool := s.get R.TWN_STATUS_state == 3 && s.get R.TWN_CFG_role == 2

/-- Whether the device is the leader of a pair. -/
def State.leads (s : State) : Bool := s.get R.TWN_STATUS_state == 3 && s.get R.TWN_CFG_role == 1

/-- Send a control message: into Q24, or behind those that wait for room, each wait counting once (R390). -/
def State.sendCtl (s : State) (m : TwinMsg) : State :=
  if s.twn.waitingCtl.isEmpty && hasRoom s.twn.q24 256 then
    { s with twn := { s.twn with q24 := s.twn.q24 ++ [m] } }.count (0x80 + 24)
  else
    let t := { s with twn := { s.twn with waitingCtl := s.twn.waitingCtl ++ [m] } }
    (t.bump R.TWN_ERR_CNT_tx_wait).count (0x60 + 24)

end Sys2Proof.Machine
end

