-- ==== Sys2Proof/Machine/Seq.lean ====
section
/-!
DEFINITION. Modes, glazes, the sequencer (R334 to R348): compositions, application and swap, requests, rules, timers.
-/

namespace Sys2Proof.Machine

/-! ### Composition (R336, R339) -/

/-- The patches of a glaze slot. -/
def State.glaze (s : State) (k : Nat) : List Patch := tget s.seq.glazes k []

/-- The auxiliary slots in force, ascending. -/
def State.auxOn (s : State) : List Nat := (List.range 8).filterMap (fun k => if s.get R.SEQ_STATUS_aux_on / 2 ^ k % 2 = 1 then some (k + 8) else none)

/-- A set of auxiliary slots as the bits of SEQ_STATUS. -/
def auxMask (l : List Nat) : Nat := (List.range 8).foldl (fun a k => if l.contains (k + 8) then a + 2 ^ k else a) 0

/-- The composed value of a word: base, mode glaze, auxiliary glazes in ascending slot order (R336). -/
def State.composed (s : State) (mode : Nat) (aux : List Nat) (a : Nat) : Word :=
  let slots := mode :: (List.range 8).filterMap (fun k => if aux.contains (k + 8) then some (k + 8) else none)
  slots.foldl (fun w k => ((s.glaze k).filter (fun p => p.addr == a)).foldl (fun v p => patchWord v p.value p.mask) w)
    (tget s.seq.base a (s.word a))

/-- The words that the outgoing or the incoming set of glazes patches (R339). -/
def State.compWords (s : State) (mode : Nat) (aux : List Nat) : List Nat :=
  let slots := s.mode :: mode :: s.auxOn ++ aux
  (slots.flatMap (fun k => (s.glaze k).map (fun p => p.addr))).eraseDups

/-- The sources that a list of words affects (R338). -/
def State.wordSources (s : State) (ws : List Nat) : List Nat := (List.range 16).filter (fun f => ws.any (fun a => s.wordOf a f))

/-- An application of `mode` with `aux` starts (R339), in place of a pending one and of the modes that were to follow it (R341). -/
def State.startComp (s : State) (mode : Nat) (aux : List Nat) (asked : Bool) : State :=
  let ws := s.compWords mode aux
  let c : CompS := { mode := mode, aux := aux, modeAsked := asked, sources := s.wordSources ws,
                     shadow := ws.foldl (fun t a => tset t a (s.composed mode aux a)) [], no := s.seq.compNo + 1 }
  let s1 := { s with seq := { s.seq with comp := some c, nextModes := [], heldComp := none, compNo := c.no } }
  let s2 := ((s1.put R.SEQ_STATUS_target mode).putB R.SEQ_STATUS_busy true).putB R.SEQ_STATUS_swapping false
  ite' s2.leads s2 (s2.sendCtl (.compose mode aux c.no))

/-! ### Requests (R335, R341, R348, R397) -/

/-- Whether mode `m` may follow mode `was`: TEST only SAFE, and SAFE only TEST after it (R335). -/
def mayEnter (m was : Nat) : Bool := (was != 6 || m == 0 || m == 6) && (m != 6 || was == 0 || was == 6)

/-- SEQ_STATUS.aux_req recomputed. -/
def State.auxReqFlags (s : State) : State :=
  s.put R.SEQ_STATUS_aux_req ((List.range 8).foldl (fun a k => if s.seq.auxHeld.any (fun p => p.1 == k + 8) then a + 2 ^ k else a) 0)

/-- The set of slots after the held requests. -/
def State.auxAfter (s : State) : List Nat :=
  (List.range 8).filterMap (fun k => if tget s.seq.auxHeld (k + 8) (s.auxOn.contains (k + 8)) then some (k + 8) else none)

/-- Held auxiliary requests become a composition of their own when none is pending; one that changes nothing is discarded
(R341). -/
def State.flushAux (s : State) : State :=
  if s.seq.comp.isSome || s.seq.auxHeld.isEmpty then s
  else
    let aux := s.auxAfter
    let s1 := { s with seq := { s.seq with auxHeld := [] } }.auxReqFlags
    if auxMask aux = s.get R.SEQ_STATUS_aux_on then s1 else s1.startComp s1.mode aux false

/-- Hold an auxiliary request; the last one for a slot wins (R341). A request of DEGRADE that an off request replaces is pending no
longer. -/
def State.holdAux (s : State) (k : Nat) (on : Bool) : State :=
  ite' (!on) { s with seq := { s.seq with auxHeld := tset s.seq.auxHeld k on } }.auxReqFlags
    ({ s with seq := { s.seq with auxHeld := tset s.seq.auxHeld k on } }.auxReqFlags.degradeEnds (fun g => g == k))

/-- An auxiliary request of this device; a follower sends it to the leader (R341, R397). -/
def State.auxRequest (s : State) (k : Nat) (on : Bool) : State :=
  if s.follows then s.sendCtl (.auxAsk k on) else (s.holdAux k on).flushAux

/-- The mode from which the next transition starts: the mode in force while a pending composition can still be replaced, else the mode
that the pending one brings (R335, R341). -/
def State.fromMode (s : State) : Nat :=
  match s.seq.comp with
  | some c => if c.swapped.isEmpty then s.mode else c.mode
  | none => s.mode

/-- The modes that follow a pending composition of mode `m0` once mode `m` is requested behind it: `m` alone where it may follow
`m0`, else behind the SAFE that leads to it (R335, R341). -/
def modesAfter (m0 m : Nat) (held : List Nat) : List Nat :=
  if m = m0 then [] else if mayEnter m m0 then [m] else if held.head? = some 0 then (if m = 0 then [0] else [0, m]) else held

/-- REQUEST_REPLACED or the start of a mode request (R341); one for the mode that a pending composition has anyway leaves that
composition as it is, and no mode follows it. A rule's request that may follow the pending mode and not the mode in force waits for
the pending composition (R335; DESIGN CHOICE, log entry 39). -/
def State.modeRequest (s : State) (m : Nat) : State :=
  if s.follows then s.sendCtl (.modeAsk m)
  else
    match s.seq.comp with
    | none => if m = s.mode then s else s.startComp m s.auxOn true
    | some c =>
      if c.swapped.isEmpty && c.mode != m && mayEnter m s.mode then (s.startComp m c.aux true).bump R.SEQ_ERR_CNT_replaced
      else
        let ms := modesAfter c.mode m s.seq.nextModes
        { s with seq := { s.seq with nextModes := ms } }.put R.SEQ_STATUS_target (ms.getLastD c.mode)

/-- A host's mode request waits for the next step, behind those that wait (R348). -/
def State.hostMode (s : State) (m : Nat) : State := { s with seq := { s.seq with hostModes := s.seq.hostModes ++ [m] } }

/-- A host's auxiliary request waits for the next step (R348). -/
def State.hostAux (s : State) (k : Nat) (on : Bool) : State := { s with seq := { s.seq with hostAux := s.seq.hostAux ++ [(k, on)] } }

/-- The target mode: the mode in force, or the pending target (R345). -/
def State.target (s : State) : Nat := s.get R.SEQ_STATUS_target

/-! ### Swap and force (R29, R270, R335, R338, R340) -/

/-- What follows at once from a word that has just been written, by a glaze or by another register agent: a converter's length
(R100), a comparator's source, enables, thresholds and hysteresis (R121, R122, R125), the synchronisation target (R94), the reserve's effect on AON_LOW (R426). -/
def State.written (s : State) (a : Nat) : State :=
  if R.ACQ_SEQ_CTL 0 ≤ a && a < R.ACQ_SEQ_CTL 16 then s.seqLenWritten ((a - R.ACQ_SEQ_CTL 0) / 4)
  else if R.WIN_CFG 0 ≤ a && a < R.WIN_CFG 96 && a % 16 < 8 then s.compare ((a - R.WIN_CFG 0) / 16)
  else if a = R.CLK_SYNC_CTL then s.syncArm (s.word a)
  else if a = R.AON_CFG then s.aonLow
  else s

/-- What writing WO bits of `w` to word `a` starts (R89, R113, R137, R316, R348). -/
def State.agentActs (s : State) (a : Nat) (w : Word) : State :=
  let bit (k : Nat) : Bool := w.getLsbD k
  if a = R.CLK_HOP then
    let s1 := ite' (bit 3) s (s.hopRequest 0 (s.get R.CLK_HOP_target_m) (s.on R.CLK_HOP_at_time))
    ite' (bit 6) s1 (s1.hopRequest 1 (s.get R.CLK_HOP_target_e) (s.on R.CLK_HOP_at_time))
  else if R.ACQ_PAIR_STAT 0 ≤ a && a < R.ACQ_PAIR_STAT 8 then ite' (bit 6) s (s.restoreRequest ((a - R.ACQ_PAIR_STAT 0) / 4))
  else if a = R.WIN_TEST then ite' (bit 0) s s.startTest
  else if R.MTR_SNAP 0 ≤ a && a < R.MTR_SNAP 4 && a % 8 = 0 then ite' (bit 0) s (s.snapTake ((a - R.MTR_SNAP 0) / 8))
  else if a = R.SEQ_REQ then
    let k := s.get R.SEQ_REQ_aux + 8
    let s1 := ite' (bit 3) s (s.hostMode (s.get R.SEQ_REQ_mode))
    let s2 := ite' (bit 7) s1 (s1.hostAux k true)
    ite' (bit 8) s2 (s2.hostAux k false)
  else s

/-- The control words of the fabric, the twin and the CAN, whose WO bits start something in their unit. -/
def laterActs (a : Nat) : Bool := [R.FAB_BARRIER, R.FAB_SCHED_TX, R.TWN_CTL, R.CAN_CTL 0, R.CAN_CTL 1].contains a

/-- Whether a write of `w` to word `a` is ignored: one with arrive while a barrier is pending, one with go while an operation is being
sent (R378, R381). -/
def State.writeIgnored (s : State) (a : Nat) (w : Word) : Bool :=
  (a == R.FAB_BARRIER && w.getLsbD 8 && s.on R.FAB_BARRIER_pending) || (a == R.FAB_SCHED_TX && w.getLsbD 16 && s.on R.FAB_SCHED_TX_busy)

/-- The bits of word `a` that the patches of a composition write as 1: on W1C and WO bits they act as any agent's write (R10). -/
def State.patchedOnes (s : State) (c : CompS) (a : Nat) : Word :=
  (c.mode :: c.aux).foldl (fun w k =>
    ((s.glaze k).filter (fun p => p.addr == a)).foldl (fun v p => v ||| BitVec.ofNat 32 (p.value &&& p.mask)) w) 0

/-- A composition's write of word `a` as a patch: RW and "RW by glaze" bits take its value `w`, W1C bits that a patch writes as 1 clear. -/
def State.swapPatch (s : State) (c : CompS) (a : Nat) (w : Word) : Patch :=
  let clr := s.patchedOnes c a &&& (match regFind a with
    | some h => BitVec.ofNat 32 h.wd.w1c
    | none => 0)
  ⟨a, (w &&& ~~~ clr).toNat, (glazeMask a ||| clr).toNat⟩

/-- A glaze's word takes its value by the rule of its subsystem (R144, R211, R333; table Affected sources), and WO bits that a patch
writes as 1 act. Words of the modulator and the gate ports wait for their wraps (R270, R305). -/
def State.glazeWord (s : State) (c : CompS) (a : Nat) (w : Word) : State :=
  let p := s.swapPatch c a w
  let m := BitVec.ofNat 32 p.mask
  let v := BitVec.ofNat 32 p.value
  let ones := s.patchedOnes c a
  if s.writeIgnored a ones then s
  else if R.GRD_CTL ≤ a && a < 0x06000000 then s.gridHold ⟨a, v, m, true⟩
  else if R.MTR_STATUS ≤ a && a < 0x09000000 then (s.mtrHold ⟨a, v, m, true⟩).agentActs a ones
  else if R.EVR_ROUTE 0 ≤ a && a < R.EVR_ROUTE 4096 then s.routeWrite ((a - R.EVR_ROUTE 0) / 4) w
  else if R.ACQ_SEQ 0 0 ≤ a && a < R.ACQ_SEQ 16 0 then s.seqEntryWrite ((a - R.ACQ_SEQ 0 0) / 128) ((a - R.ACQ_SEQ 0 0) / 4 % 32) w
  else if R.ENG_CTX_CTL 1 ≤ a && a < R.ENG_CTX_CTL 64 && (a - R.ENG_CTX_CTL 0) % 0x20 = 0 then
    s.enableWrite ((a - R.ENG_CTX_CTL 0) / 0x20) (w.getLsbD 0)
  else if R.WIN_STATUS 0 ≤ a && a < R.WIN_STATUS 96 && a % 16 = 12 then s.statusClear ((a - R.WIN_STATUS 0) / 16) ones
  else
    let s1 := (s.setWord a (maskIn (s.word a) v m)).written a
    let s2 := if laterActs a then { s1 with seq := { s1.seq with acts := s1.seq.acts ++ [(a, ones)] } } else s1.agentActs a ones
    ite' (0x04000000 ≤ a && a < 0x05000000) s2 (s2.heal (storeKey a))

/-- The swap record: the slots in force after the swap (R451, R452). -/
def State.swapRecord (s : State) (f : Nat) (c : CompS) : State :=
  ite' (s.srcRecorded f) s (s.record 4 f s.mplan (s.get (R.ENG_FIDX_index f)) (leBytes 2 (2 ^ c.mode + 2 ^ 8 * auxMask c.aux)))

/-- Whether word `a` waits for the wrap of its carrier group: that of a group which wraps (R270, R305). -/
def State.waitsWrap (s : State) (a : Nat) : Bool :=
  match s.carrierOf a with
  | some g => (s.group g).running
  | none => false

/-- A composition's word takes effect at a swap: by its subsystem's rule, those of a leg or a disabled group at once (R270, R305). -/
def State.swapWord (s : State) (c : CompS) (a : Nat) (w : Word) : State :=
  if (s.carrierOf a).isSome then s.applyPatch (s.swapPatch c a w) else s.glazeWord c a w

/-- The frames of source `f` that go on past this latch keep the words that the composition changes for `f` as they found them (R29,
R203, R340). -/
def State.keepOld (s : State) (f : Nat) (c : CompS) : State :=
  let ws := (c.shadow.filter (fun p => s.wordOf p.1 f)).map (fun p => (p.1, s.wordFor f p.1))
  forUpTo 64 (fun x t =>
    let fr := t.fr x
    if t.srcOf x == f && (t.ctx x).present && !fr.pointDone && fr.phase.underWay then
      t.setFr x { fr with old := ws.foldl (fun o p => if o.any (fun q => q.1 == p.1) then o else tset o p.1 p.2) fr.old }
    else t) s

/-- Source `f` swaps its part of the pending composition in (R340); words that other sources still read keep their old
value for them (R29). The swap lets one calibration run on a modulator that calibrates at swaps only (R265; log entry 32). -/
def State.swapSource (s : State) (f : Nat) : State :=
  match s.swapsAt f with
  | none => s
  | some c =>
    let mine := c.shadow.filter (fun p => s.wordOf p.1 f && !c.done.contains p.1 && !s.waitsWrap p.1)
    let old := mine.foldl (fun t p => tset t p.1 (s.word p.1)) c.old
    let c1 := { c with swapped := c.swapped ++ [f], old := old, done := c.done ++ mine.map (fun p => p.1) }
    let s0 := s.keepOld f c
    let s1 := { s0 with seq := { s0.seq with comp := some c1 }, mod := { s0.mod with calLeft := 16 } }
    let s2 := State.passOpened s (mine.foldl (fun t p => t.swapWord c p.1 p.2) s1).routesNow
    ((s2.putB R.SEQ_STATUS_swapping true).count 0xA0).swapRecord f c

/-- Words of carrier groups that wrap take effect at their group's next wrap, which may be one of this tick (R270, R305). -/
def State.restWords (s : State) (c : CompS) : State :=
  (c.shadow.filter (fun p => !c.done.contains p.1)).foldl (fun t p =>
    match t.carrierOf p.1 with
    | some g =>
      if (t.group g).running then t.setGroup g { t.group g with patches := (t.group g).patches ++ [t.swapPatch c p.1 p.2] }
      else t.swapWord c p.1 p.2
    | none => t.swapWord c p.1 p.2) s

/-- The phase class of a mode: 0 SAFE, 1 lock-out, 2 service (R300, R334). -/
def modeClass (m : Nat) : Nat := if m = 0 then 0 else if m = 1 || m = 6 || m = 7 then 1 else 2

/-- What entering a mode does beside its glaze (R128, R129, R269, R272, R300, R302). -/
def State.enterMode (s : State) (m : Nat) : State :=
  let s1 := (s.put R.SEQ_STATUS_mode m).put R.GTP_STATUS_mode_class (modeClass m)
  let s2 := ite' (m == 1) s1 { s1 with win := { s1.win with started := true } }.outputsDriven
  let s3 := ite' (m == 7) s2 s2.recoverDomains.recoverLegs
  let s4 := s3.leaveSafe.dropCrumbs
  { forUpTo 48 (fun l t => t.uvloResponse l) s4 with seq := { s4.seq with entryStep := true } }

/-- MODE_IN_FORCE (R335, R340, R341): the last source has swapped; requests that waited follow. -/
def State.inForce (s : State) (c : CompS) : State :=
  let s1 := { s with seq := { s.seq with comp := none } }.restWords c
  let s2 := ((s1.put R.SEQ_STATUS_aux_on (auxMask c.aux)).putB R.SEQ_STATUS_busy false).putB R.SEQ_STATUS_swapping false
  let s3 := (if c.modeAsked then s2.enterMode c.mode else s2.dropCrumbs).degradeEnds (fun g => c.aux.contains g)
  match s3.seq.heldComp with
  | some x => { s3 with seq := { s3.seq with compNo := x.2.2 - 1 } }.startComp x.1 x.2.1 (x.1 != s3.mode)
  | none =>
    match s3.seq.nextModes.dropWhile (fun m => m == s3.mode) with
    | m :: r =>
      let s4 := s3.startComp m s3.auxOn true
      { s4 with seq := { s4.seq with nextModes := r } }.put R.SEQ_STATUS_target (r.getLastD m)
    | [] => { s3 with seq := { s3.seq with nextModes := [] } }.flushAux

/-- Bring the pending composition into force if every affected source has swapped; a DESAT whose gate this opens passes (R284, R285). -/
def State.checkForce (s : State) : State :=
  match s.seq.comp with
  | some c => if c.applied && c.sources.all (fun f => c.swapped.contains f) && (!c.sources.isEmpty || s.goPassed c) then State.passOpened s (s.inForce c) else s
  | none => s

/-- The leader sends go when it holds its own completion and the follower's (R397). -/
def State.sendGo (s : State) : State :=
  match s.seq.comp with
  | some c =>
    if s.leads && c.applied && c.partnerDone && c.goAt.isNone then
      { s with seq := { s.seq with comp := some { c with goAt := some s.clk.plantTime } } }.sendCtl (.go s.clk.plantTime)
    else s
  | none => s

/-- GLAZE_APPLICATION_DONE (R339, R340): the shadow is complete. -/
def execGlazeApplicationDone (s : State) : Out :=
  match s.seq.comp with
  | some c =>
    let s1 := { s with seq := { s.seq with comp := some { c with applied := true } } }
    let s2 := ite' s1.follows s1 (s1.sendCtl (.compDone c.no))
    when (s.live && !c.applied) s s2.sendGo.checkForce
  | none => .next s

/-! ### Steps (R344 to R348) -/

/-- The level of sequencer condition `k`: destinations 134 to 197 (R145). -/
def State.scLevel (s : State) (k : Nat) : Bool := s.dst (134 + k)

/-- A level condition of the table Condition selectors; `entry` in the step of a mode's entry. -/
def State.levelCond (s : State) (entry : Bool) (sel : Nat) : Bool :=
  if sel < 64 then s.scLevel sel
  else if sel < 96 then s.on ⟨R.SEQ_TIMER (sel - 64) + 4, 1, 1⟩
  else if sel = 96 then entry
  else if sel = 97 then true
  else if 98 ≤ sel && sel < 106 then s.auxOn.contains (sel - 90)
  else if sel = 106 then s.seq.comp.isNone
  else false

/-- Whether rule `i` fires in a step on `edge`, an SC edge if any (R344, R345). -/
def State.ruleFires (s : State) (edge : Option Nat) (entry : Bool) (i : Nat) : Bool :=
  let a := s.get (R.SEQ_RULE_cond_a i)
  let b := s.get (R.SEQ_RULE_cond_b i)
  let condA := if s.on (R.SEQ_RULE_a_edge i) && a < 64 then edge == some a else s.levelCond entry a != s.on (R.SEQ_RULE_a_neg i)
  let condB := b == 127 || s.levelCond entry b != s.on (R.SEQ_RULE_b_neg i)
  s.on (R.SEQ_RULE_valid i) && s.get (R.SEQ_RULE_from i) / 2 ^ s.target % 2 == 1 && condA && condB

/-- Timer `t`'s count reaches zero: it stands expired, and a step is due (R346, R347). -/
def State.timerExpires (s : State) (t : Nat) : State :=
  let s1 := ((s.put (R.SEQ_TIMER_remaining t) 0).putB (R.SEQ_TIMER_running t) false).putB (R.SEQ_TIMER_expired t) true
  { s1 with seq := { s1.seq with timersDue := s1.seq.timersDue ++ [t] } }

/-- Timer `t` counts `n` units (R347). -/
def State.timerCount (s : State) (t n : Nat) : State :=
  if n < s.get (R.SEQ_TIMER_remaining t) then s.put (R.SEQ_TIMER_remaining t) (s.get (R.SEQ_TIMER_remaining t) - n) else s.timerExpires t

/-- Start timer `t`, or restart it; a period of 0 expires at once (R347). -/
def State.timerStart (s : State) (t : Nat) : State :=
  let s0 := { s with seq := { s.seq with timerFrac := tset s.seq.timerFrac t 0 } }
  let s1 := (s0.put (R.SEQ_TIMER_remaining t) (s.get (R.SEQ_TIMER_period t))).putB (R.SEQ_TIMER_expired t) false
  (s1.putB (R.SEQ_TIMER_running t) true).timerCount t 0

/-- A step in progress: the state, whether a mode action has acted, whether a rule has ended the step. -/
structure StepRun where
  s : State
  acted : Bool
  ended : Bool
  deriving DecidableEq, Repr

/-- A mode action; only the first of a step acts, later ones count as shadowed (R344). -/
def StepRun.mode (r : StepRun) (m : Nat) : StepRun :=
  if r.acted then { r with s := r.s.bump R.SEQ_ERR_CNT_shadowed } else { r with s := r.s.modeRequest m, acted := true }

/-- The action of rule `i` (R344). -/
def StepRun.act (r : StepRun) (i : Nat) : StepRun :=
  let act := r.s.get (R.SEQ_RULE_act i)
  let arg := r.s.get (R.SEQ_RULE_arg i)
  if act = 1 then r.mode (arg % 8)
  else if act = 2 then { r with s := r.s.auxRequest arg true }
  else if act = 3 then { r with s := r.s.auxRequest arg false }
  else if act = 4 then { r with s := r.s.timerStart arg }
  else if act = 5 then { r with s := r.s.putB (R.SEQ_TIMER_running arg) false }
  else r

/-- Rule `i` is evaluated (R344). -/
def StepRun.rule (edge : Option Nat) (entry : Bool) (i : Nat) (r : StepRun) : StepRun :=
  if r.ended || !r.s.ruleFires edge entry i then r
  else
    let r1 := r.act i
    let s1 := ite' (r1.s.on (R.SEQ_RULE_log i)) r1.s
      (r1.s.logPush 2 (leBytes 2 i ++ leBytes 1 r1.s.target ++ leBytes 1 0 ++ leBytes 2 (r1.s.get (R.SEQ_RULE_log_code i))))
    let s2 := (s1.raiseIf (s1.on (R.SEQ_RULE_evt0 i)) 508)
    let s3 := s2.raiseIf (s2.on (R.SEQ_RULE_evt1 i)) 509
    { r1 with s := s3, ended := r1.ended || s3.on (R.SEQ_RULE_stop i) }

/-- The requests of hosts, the engine and the governor, handled after the rules of a step (R201, R335, R348); a follower's go to the
leader, which judges them (R397). -/
def State.hostRequests (r : StepRun) : State :=
  let s := r.s
  let s1 := { s with seq := { s.seq with hostModes := [], hostAux := [] }, eng := { s.eng with degrade := [] } }
  let r2 := s.seq.hostModes.foldl (fun q m =>
    if q.s.follows || mayEnter m q.s.fromMode then q.mode m else { q with s := q.s.bump R.SEQ_ERR_CNT_req_refused }) { r with s := s1 }
  let s2 := s.seq.hostAux.foldl (fun t p => t.auxRequest p.1 p.2) r2.s
  s.eng.degrade.foldl (fun t k => t.auxRequest k true) s2

/-- A step of the sequencer on `edge` or at a mode's entry (R344, R346). -/
def State.seqStep (s : State) (edge : Option Nat) (entry : Bool) : State :=
  (State.hostRequests (forUpTo 256 (fun i r => r.rule edge entry i) ⟨s.count 0xA7, false, false⟩)).checkForce

/-- SEQUENCER_STEP (R346): 0 an edge from Q04, 1 an edge from Q05 while Q04 is empty, 2 after a timer's expiry, 3 a mode's
entry, 4 the step of every 1 µs. -/
def execSequencerStep (kind : Nat) (s : State) : Out :=
  if !s.live then .next s
  else if kind = 0 then
    match s.seq.q04 with
    | e :: r => .next ({ s with seq := { s.seq with q04 := r } }.seqStep (some e) false)
    | [] => .next s
  else if kind = 1 then
    match s.seq.q04, s.seq.q05 with
    | [], e :: r => .next ({ s with seq := { s.seq with q05 := r } }.seqStep (some e) false)
    | _, _ => .next s
  else if kind = 2 then
    match s.seq.timersDue with
    | _ :: r => .next ({ s with seq := { s.seq with timersDue := r } }.seqStep none false)
    | [] => .next s
  else if kind = 3 then when s.seq.entryStep s ({ s with seq := { s.seq with entryStep := false } }.seqStep none true)
  else when (kind == 4) s (s.seqStep none false)

/-- SEQ_TIMER_EXPIRY (R347): timer `t`'s count has reached zero, and the step of its expiry runs. -/
def execSeqTimerExpiry (t : Nat) (s : State) : Out :=
  let s1 := { s with seq := { s.seq with timersDue := s.seq.timersDue.erase t } }
  when (s.live && s.seq.timersDue.contains t) s (s1.seqStep none false)

/-- MODE_REQUEST (R348): SEQ_REQ.req_mode with mode `m`. -/
def execModeRequest (m : Nat) (s : State) : Out := when (s.live && m < 8) s (s.hostMode m)

/-- AUX_ON_REQUEST (R348) of slot `k`. -/
def execAuxOnRequest (k : Nat) (s : State) : Out := when (s.live && 8 ≤ k && k < 16) s (s.hostAux k true)

/-- AUX_OFF_REQUEST (R348) of slot `k`. -/
def execAuxOffRequest (k : Nat) (s : State) : Out := when (s.live && 8 ≤ k && k < 16) s (s.hostAux k false)

end Sys2Proof.Machine
end

