-- ==== Sys2Proof/Machine/Gov.lean ====
section
/-!
DEFINITION. The budget governor: derating, plan ladder, engine plan, bridges, deferral (R349 to R356, R398).
-/

namespace Sys2Proof.Machine

/-- A signal as published. -/
def State.sigI (s : State) (x : Nat) : Int := (s.word (R.S x)).toInt

/-- The largest of `n` consecutive signals, if any. -/
def State.maxSig (s : State) (first n : Nat) : Option Int :=
  (List.range n).foldl (fun m k => match m with
    | none => some (s.sigI (first + k))
    | some x => some (max x (s.sigI (first + k)))) none

/-- The headroom in 0.01 K (R350); without any temperature signal, h_start. -/
def State.headroom (s : State) : Int :=
  let a := (s.maxSig (s.get R.GOV_IN_tj_first) (min 64 (s.get R.GOV_IN_tj_count))).map (fun x => s.getI R.GOV_TH_tj_max - x)
  let b := (s.maxSig (s.get R.GOV_IN_hs_first) (min 8 (s.get R.GOV_IN_hs_count))).map (fun x => s.getI R.GOV_TH_hs_max - x)
  match a, b with
  | some x, some y => min x y
  | some x, none => x
  | none, some y => y
  | none, none => max 1 (s.getI R.GOV_TH_h_start)

/-- The derating limit after one decision: `dt` is the plant time since the last latch (R351). -/
def State.derate (s : State) (h : Int) (dt : Nat) : Int :=
  let hs := max 1 (s.get R.GOV_TH_h_start)
  let lim := s.getI R.GOV_TH_lim_min
  let last := s.gov.last.toInt
  let target := if (hs : Int) ≤ h then pu1 else divRound (lim * hs + (pu1 - lim) * max h 0) hs
  if target ≤ last then target else min target (last + divRound ((s.get R.GOV_TH_rise_rate * dt : Nat) : Int) 8000000000)

/-- The ladder step whose MPLAN is in force, else the one GOV_STAT shows (R352). -/
def State.ladderStep (s : State) : Nat :=
  ((List.range 8).find? (fun k => s.on (R.GOV_LADDER_valid k) && s.get (R.GOV_LADDER_mplan k) == s.mplan)).getD (s.get R.GOV_STAT_step)

/-- The ladder step wanted at headroom `h` (R352). -/
def State.ladderWant (s : State) (k : Nat) (h : Int) : Nat :=
  if s.on (R.GOV_LADDER_valid (k + 1)) && k < 7 && h < s.get (R.GOV_LADDER_down_th k) then k + 1
  else if 0 < k && s.on (R.GOV_LADDER_valid (k - 1)) && (s.get (R.GOV_LADDER_up_th (k - 1)) : Int) < h then k - 1
  else k

/-- The dwell in units of plant time (R352). -/
def State.dwell (s : State) : Nat := 4 * min 250 (s.get R.GOV_CFG_dwell) * 8000000

/-- Whether `d` units have passed since an instant, if there was one. -/
def State.passed (s : State) (t : Option Nat) (d : Nat) : Bool :=
  match t with
  | some x => d ≤ s.clk.plantTime - x
  | none => true

/-- Whether synthesizer `i` is already asked for plan `p`, or hops to it: then no second request is made (DESIGN CHOICE, log entry
39). -/
def State.hopAsked (s : State) (i p : Nat) : Bool :=
  let x := s.syn i
  x.pendingHop == some p || (x.hopping && x.hopTarget == p && x.pendingHop.isNone)

/-- A wanted hop is held by the dwell, by the energy, or kept for the next latch (R352, R356). -/
def State.ladderMove (s : State) (want : Nat) (inhibit : Bool) : State :=
  let p := s.get (R.GOV_LADDER_mplan want)
  let dwells := !s.passed s.gov.lastHopM s.dwell
  if s.on R.GOV_CFG_plant || s.hopAsked 0 p then s
  else if dwells || inhibit then
    let s1 := ite' dwells s (s.bump R.GOV_CNT_dwell_waits)
    ite' inhibit s1 (s1.bump R.GOV_CNT_inhibited)
  else { s with gov := { s.gov with hopM := some p } }

/-- The ladder decision (R352). -/
def State.ladder (s : State) (h : Int) : State :=
  let k := s.ladderStep
  let e := s.sigI (s.get R.GOV_IN_e_sig)
  let inhibit := e < s.getI R.GOV_TH_e_lo || s.getI R.GOV_TH_e_hi < e
  let want := s.ladderWant k h
  let s1 := ((s.put R.GOV_STAT_step k).put R.GOV_STAT_want want).putB R.GOV_STAT_inhibit inhibit
  ite' (want != k) s1 (s1.ladderMove want inhibit)

/-- The engine plan wanted, if it differs from the one in force (R353). -/
def State.eplanWant (s : State) : Option Nat :=
  let cur := s.get R.CLK_STATUS_eplan
  let die := s.sigI (s.get R.GOV_IN_die_sig)
  let def_ (p : Nat) : Bool := s.on (R.CLK_PLAN_defined (8 + p))
  if s.getI R.GOV_TH_die_hot ≤ die then (List.range 4).find? (fun p => decide (cur < p) && def_ p && decide (p ≤ s.boot.header.slowestEplan))
  else if die ≤ s.getI R.GOV_TH_die_hot - s.getI R.GOV_TH_die_hyst then
    (List.range 4).reverse.find? (fun p => decide (p < cur) && def_ p && decide (s.get R.GOV_CFG_eplan_fast ≤ p))
  else none

/-- The engine-plan decision (R353). -/
def State.eplanMove (s : State) : State :=
  match s.eplanWant with
  | some p =>
    if s.hopAsked 1 p then s
    else if s.passed s.gov.lastHopE s.dwell then { s with gov := { s.gov with hopE := some p } } else s.bump R.GOV_CNT_dwell_waits
  | none => s

/-- The bridge decision (R354): one auxiliary request for the new glaze and against the old one. -/
def State.bridges (s : State) : State :=
  let n := max 1 (s.get R.GOV_STAT_bridges)
  let p := (s.sigI (s.get R.GOV_IN_p_sig)).natAbs
  let m := if n < 4 && s.get (R.GOV_BRIDGE_p_on n) < p then n + 1
    else if 1 < n && (p : Int) < (s.get (R.GOV_BRIDGE_p_on (n - 1)) : Int) - s.get R.GOV_TH_p_hyst then n - 1 else n
  let ok := (s.mode == 2 || s.mode == 3 || s.mode == 5) && s.seq.comp.isNone
    && s.passed s.gov.lastBridge (max 1 (s.get R.GOV_CFG_bridge_dwell) * 8000000000)
  if m = n || !ok then s
  else
    let g (x : Nat) : Nat := s.get (R.GOV_BRIDGE_glaze x)
    let s1 := (s.put R.GOV_STAT_bridges m).bump R.GOV_CNT_bridge_changes
    let s2 := { s1 with gov := { s1.gov with lastBridge := some s1.clk.plantTime } }
    let s3 := if 8 ≤ g n then s2.holdAux (g n) false else s2
    (if 8 ≤ g m then s3.holdAux (g m) true else s3).flushAux

/-- The deferral decision (R355): the masks to publish. -/
def State.deferral (s : State) : State :=
  let die := s.sigI (s.get R.GOV_IN_die_sig)
  let keep (lo hi : Word) : State := { s with gov := { s.gov with pub := tset (tset s.gov.pub 68 lo) 69 hi } }
  if s.getI R.GOV_TH_defer_th ≤ die then keep (s.word R.GOV_DEFER) (s.word (R.GOV_DEFER + 4))
  else if die ≤ s.getI R.GOV_TH_defer_th - s.getI R.GOV_TH_die_hyst then keep 0 0 else s

/-- GOVERNOR_DECISION at a latch (R349): what the next latch publishes and requests. A follower of a pair decides nothing and
lets its own hops lapse; the latch still counts as its last (R351, R398, R399). -/
def State.govDecide (s : State) : State :=
  if !s.on R.GOV_CFG_en then s
  else if s.follows then { s with gov := { s.gov with lastLatch := some s.clk.plantTime, hopM := none, hopE := none } }
  else
    let h := s.headroom
    let dt := match s.gov.lastLatch with
      | some t => s.clk.plantTime - t
      | none => 0
    let lim := BitVec.ofInt 32 (s.derate h dt)
    let s1 := { s with gov := { s.gov with pub := tset s.gov.pub 64 lim, last := lim, lastLatch := some s.clk.plantTime } }
    (((s1.ladder h).eplanMove).bridges).deferral

/-- The mask of the bridge entry whose glaze is in force: the entry of the present number, else another, whose slot is on; an entry
without a glaze only where no entry's slot is on (R354). -/
def State.bridgeMask (s : State) : Nat :=
  let xs := max 1 (s.get R.GOV_STAT_bridges) :: [1, 2, 3, 4]
  let on := xs.find? (fun x => s.auxOn.contains (s.get (R.GOV_BRIDGE_glaze x)))
  let none0 := xs.find? (fun x => s.get (R.GOV_BRIDGE_glaze x) == 0)
  match on <|> none0 with
  | some x => s.get (R.GOV_BRIDGE_mask x)
  | none => 0

/-- A hop that the governor writes at a latch: a request register, or in a pair CLK_HOP_TIME on both devices 4 µs ahead
(R352, R353, R398). -/
def State.govHop (s : State) (i : Nat) (p : Option Nat) : State :=
  match p with
  | none => s
  | some x =>
    let s1 := s.bump R.GOV_CNT_hops
    if s.leads then
      let t := s.clk.plantTime + 32000
      ((s1.setWord64 R.CLK_HOP_TIME t).hopRequest i x true).sendCtl (.hop i x t)
    else s1.hopRequest i x false

/-- The values of S0064 to S0079 that the governor publishes at a latch; a follower publishes the leader's (R398). -/
def State.govSignals (s : State) : List Word :=
  if s.follows then (List.range 16).map (fun k => tget s.gov.received k 0)
  else
    [tget s.gov.pub 64 s.gov.last, BitVec.ofNat 32 s.mplan, BitVec.ofNat 32 (s.get R.CLK_STATUS_eplan), BitVec.ofNat 32 s.bridgeMask,
      tget s.gov.pub 68 0, tget s.gov.pub 69 0] ++ List.replicate 10 0

/-- The governor's board publisher at a latch: the last decision, its hops, DERATE (R349, R351, R355). -/
def State.govPublish (s : State) : State :=
  if !s.on R.GOV_CFG_en then s
  else
    let ws := s.govSignals
    let s1 := s.publishFrom 64 ws
    let low := decide ((ws.getD 0 0).toInt < pu1)
    let s2 := (s1.putB R.GOV_STAT_derating low).drive 510 low
    let s3 := s2.putB R.GOV_STAT_deferring (ws.getD 4 0 != 0 || ws.getD 5 0 != 0)
    if s.follows then s3
    else
      let s4 := ite' s3.leads s3 (s3.sendCtl (.gov ws))
      let s5 := (s4.govHop 0 s4.gov.hopM).govHop 1 s4.gov.hopE
      { s5 with gov := { s5.gov with hopM := none, hopE := none } }

end Sys2Proof.Machine
end

