-- ==== Sys2Proof/Machine/Grants.lean ====
section
/-!
DEFINITION. Roles and grants: who may write and read an address (R7, R73, R78, R498).
-/

namespace Sys2Proof.Machine

/-- The role that requester `req` has on a link: 0 observer, 1 operator, 2 integrator; link 3 needs no session while debug_lock
is clear (R7, R73, R460). -/
def State.roleOf (s : State) (link req : Nat) : Nat :=
  if link = 3 && !s.boot.fuses.debugLock then 2
  else if s.get (R.BOOT_SESSION_requester link) = req then s.get (R.BOOT_SESSION_role link) else 0

/-- Whether the image grants a write of address `a` to operator key `k` (R78, R498). -/
def State.granted (s : State) (k a : Nat) : Bool :=
  s.boot.grants.any (fun g => decide (g.low ≤ a) && decide (a ≤ g.high) && g.keys / 2 ^ k % 2 == 1)

/-- Whether `role` with key `k` may write address `a` (R7); an operator writes the OBS region only while perf_access_operator
is set (R442). -/
def State.mayWrite (s : State) (role k a : Nat) : Bool :=
  role == 2 || (role == 1 && s.granted k a && (a < 0x0D000000 || 0x0E000000 ≤ a || s.on R.BOOT_POLICY_perf_access_operator))

/-- Whether address `a` is a performance counter, a sample or observation RAM (R7, R442). -/
def isPerf (a : Nat) : Bool :=
  (R.OBS_CNT 0 ≤ a && a < R.OBS_LCA 5) || (R.OBS_PS 0 ≤ a && a < R.OBS_PS 1024) || (0x0D040000 ≤ a && a < 0x0D080000)

/-- Whether address `a` lies in the identity window, which every role reads (R70). -/
def inIdentity (a : Nat) : Bool := 0x2000 ≤ a && a < 0x3000

/-- Whether word `a` is status, which an operator may read (R7). The spec does not list the status registers; DESIGN CHOICE (log
entry 10): the words with a field that the device writes (RO, W1C or RC) and no REGS section sets (the RO words that PLANS and CTXDESC
sections fill count as status), the signals and the retention memory. -/
def isStatus (a : Nat) : Bool :=
  (match regFind a with
    | some h => (BitVec.ofNat 32 h.wd.ro &&& ~~~ BitVec.ofNat 32 h.wd.im) ||| BitVec.ofNat 32 h.wd.w1c ||| BitVec.ofNat 32 h.wd.rc != 0
    | none => R.S 0 ≤ a && a < R.S 4096)
  || (0x0C004000 ≤ a && a < 0x0C008000)

/-- Whether `role` may read address `a` (R7, R70, R78). -/
def State.mayRead (s : State) (role a : Nat) : Bool :=
  inIdentity a || role == 2
  || (role == 1 && (if isPerf a then s.on R.BOOT_POLICY_perf_access_operator else isStatus a))
  || (s.on R.BOOT_POLICY_observer_enable && s.boot.publicRanges.any (fun g => decide (g.low ≤ a) && decide (a ≤ g.high)))

end Sys2Proof.Machine
end

