-- ==== Sys2Proof/Machine/Fab.lean ====
section
/-!
DEFINITION. The fabric: links, plant time, packets, floods, status, barriers, scheduled operations (R358 to R386).
-/

namespace Sys2Proof.Machine

/-! ### Links (R361 to R364) -/

/-- Fabric port `p`: 0 UP, 1 to 3 D0 to D2. -/
def State.fport (s : State) (p : Nat) : FabPort := tget s.fab.ports p { }

/-- Replace fabric port `p`. -/
def State.setFport (s : State) (p : Nat) (x : FabPort) : State := { s with fab := { s.fab with ports := tset s.fab.ports p x } }

/-- The link state of port `p` (table "Link states"). -/
def State.linkState (s : State) (p : Nat) : Nat := s.get (R.FAB_PORT_state p)

/-- Whether the node is the root (R361). -/
def State.isRoot (s : State) : Bool := s.on R.FAB_CFG_en && s.on R.FAB_CFG_root

/-- This node's ID (R362). -/
def State.nodeId (s : State) : Nat := s.get R.FAB_STATUS_node_id

/-- The ID of the child on port `p` (R362). -/
def State.childId (s : State) (p : Nat) : Nat := 3 * s.nodeId + p

/-- Set or clear a port's bit of FAB_STATUS.port_up. -/
def State.putUp (s : State) (p : Nat) (b : Bool) : State := s.putB ⟨R.FAB_STATUS, 24 + p, 1⟩ b

/-- The role a hello of port `p` carries (table "Ordered sets"). -/
def State.helloRole (s : State) (p : Nat) : Nat := if p = 0 then (s.on R.FAB_STATUS_joined).toNat else 2

/-- The child sends a probe (R364). -/
def State.probeSend (s : State) : State := (s.fabSend 0 .probe).setFport 0 { s.fport 0 with awaited := true }

/-- The barrier number that a child's arrival must name (R378). -/
def State.barrierNo (s : State) : Nat := s.fab.barrierNum

/-- RELEASE: done is set, BARRIER_DONE raised, and release floods down (R378). -/
def State.barrierRelease (s : State) (n : Nat) : State :=
  let s1 := (s.putB R.FAB_BARRIER_done true).raise 487
  let s2 := ite' (s.barrierNo == n) s1
    { (s1.putB R.FAB_BARRIER_pending false) with fab := { s1.fab with barrierSent := false } }
  forUpTo 4 (fun p t => ite' (1 ≤ p && t.portUp p) t
    ((t.fabSend p (.barrier true n)).setFport p { t.fport p with arrived := none })) s2

/-- Once the node has entered and every child that is up has arrived, arrive goes up; the root releases (R378). -/
def State.barrierCheck (s : State) : State :=
  let n := s.barrierNo
  let all := (List.range 4).all (fun p => p == 0 || !s.portUp p || (s.fport p).arrived == some n)
  if !s.inPlant || !s.on R.FAB_BARRIER_pending || s.fab.barrierSent || !all then s
  else if s.isRoot then s.barrierRelease n
  else { (s.fabSend 0 (.barrier false n)) with fab := { (s.fabSend 0 (.barrier false n)).fab with barrierSent := true } }

/-- The port comes up: UP joins the node, a D port takes a delay that the spec does not state for the parent's side (R363,
R364, R385). -/
def State.portComesUp (s : State) (p : Nat) : State :=
  let s1 := (s.put (R.FAB_PORT_state p) 4).putUp p true
  let s2 := s1.drive (481 + p) false
  let x := s.fport p
  if p = 0 then
    let s3 := ((s2.put R.FAB_STATUS_node_id (3 * x.peerId + 1 + x.peerPort)).put R.FAB_STATUS_level (x.peerLevel + 1)).putB R.FAB_STATUS_joined true
    let s4 := s3.putB R.FAB_STATUS_standalone false
    { s4 with fab := { s4.fab with marked := false, stepArmed := false, goodMarks := 0, badMarks := 0 } }.barrierCheck
  else ((s2.put (R.FAB_PORT_delay p) (s2.freshNat % 2 ^ 20)).burn).setFport p { x with status := none, arrived := none }

/-- Both ends have 16 hellos: measuring, or refused where two D or two UP ports meet or the ID passes 65,535 (R362, R363). -/
def State.helloCheck (s : State) (p : Nat) : State :=
  let x := s.fport p
  if s.linkState p != 2 || x.heard < 16 || x.told < 16 then s
  else
    let bad := if p = 0 then x.peerRole != 2 || 65535 < 3 * x.peerId + 1 + x.peerPort else x.peerRole == 2 || 65535 < s.childId p
    if bad then s.put (R.FAB_PORT_state p) 5
    else
      let s1 := (s.put (R.FAB_PORT_state p) 3).setFport p { x with trips := [], awaited := false, echoDue := false, echoes := 0 }
      ite' (p == 0) s1 s1.probeSend

/-- A port goes back to aligning and counts (R363). -/
def State.toAligning (s : State) (p : Nat) : State :=
  let s1 := ((s.put (R.FAB_PORT_state p) 1).bump (R.FAB_PORT_downs p)).putUp p false
  { s1 with fab := { s1.fab with due := tset s1.fab.due p [] } }.setFport p { }

/-- The lock field of whoever follows the marks: the twin follower or the fabric node. -/
def lockFld (twin : Bool) : Fld := if twin then R.TWN_STATUS_time_locked else R.FAB_STATUS_time_locked

/-- TIME_LOST (R366, R392): the lock goes, and for a fabric node the validity that its own marks carry. -/
def State.timeLost (s : State) (twin : Bool) : State :=
  let s1 := ((ite' (!twin) s (s.putB R.FAB_STATUS_time_valid false)).putB (lockFld twin) false).bump R.FAB_TIME_STAT_lost
  { (s1.raise 485) with fab := { s1.fab with timeLost := s1.fab.timeLost || !twin, goodMarks := 0, badMarks := 0 } }

/-- A D port fails (R363, R378, R385): its child counts as arrived, and an up port raises its source. -/
def State.childDown (s : State) (p : Nat) : State :=
  let up := s.portUp p
  let waived := up && s.on R.FAB_BARRIER_pending && !s.fab.barrierSent && (s.fport p).arrived != some s.barrierNo
  let s1 := s.toAligning p
  let s2 := ite' up s1 (s1.drive (481 + p) true)
  (ite' waived s2 (s2.bump R.FAB_BARRIER_waived)).barrierCheck

/-- The UP port fails: the node is standalone, its time runs free, and its subtree follows (R361, R365, R385). -/
def State.parentDown (s : State) : State :=
  let up := s.portUp 0
  let s1 := s.toAligning 0
  if !up then s1
  else
    let s2 := ((s1.putB R.FAB_STATUS_joined false).putB R.FAB_STATUS_standalone true).drive 481 true
    forUpTo 4 (fun p t => ite' (1 ≤ p && 2 ≤ t.linkState p && t.linkState p ≤ 4) t (t.childDown p)) (s2.timeLost false)

/-- Port `p` fails. -/
def State.portDown (s : State) (p : Nat) : State := if p = 0 then s.parentDown else s.childDown p

/-- At SAFE-ready the enabled ports align; the root leaves UP unused, is node 0 and keeps the time (R361, R363, R365). Of a pair only
the leader joins (R392), and a follower whose pairing is refused, which runs as a single device (R391). -/
def State.fabStart (s : State) : State :=
  if !s.on R.FAB_CFG_en || (s.get R.TWN_CFG_role == 2 && s.get R.TWN_STATUS_state != 4) then s
  else
    let s1 := forUpTo 4 (fun p t =>
      ite' (t.get R.FAB_CFG_port_en / 2 ^ p % 2 = 1 && (p != 0 || !t.isRoot)) t (t.put (R.FAB_PORT_state p) 1)) s
    ite' s1.isRoot s1 (((s1.putB R.FAB_STATUS_standalone false).putB R.FAB_STATUS_time_locked true).putB R.FAB_STATUS_time_valid true)

/-- Whether a D port may train: the node is the root or joined (R362). -/
def State.mayTrain (s : State) (p : Nat) : Bool := p == 0 || s.inPlant

/-- A set comes in on port `p` with `codes` damaged symbols in it: they count, and the set acts only without them (R359). -/
def State.setSeen (s : State) (codes : Nat) (t : State) : State := if codes = 0 then t else s.bumpBy R.FAB_ERR_CNT2_code codes

/-- A hello that is not valid ends the run of consecutive ones (R363). -/
def State.helloBad (s : State) (p : Nat) : State := s.setFport p { s.fport p with heard := 0 }

/-- A hello set is received while training (R363). -/
def State.helloIn (s : State) (p role port id level : Nat) : State :=
  let x := s.fport p
  (s.setFport p { x with heard := x.heard + 1, peerRole := role, peerPort := port, peerId := id, peerLevel := level }).helloCheck p

/-- HELLO (R359, R363) with `codes` damaged symbols; one with role 3 is not valid. -/
def execHello (p codes role port id level : Nat) (s : State) : Out :=
  when (s.live && p < 4 && port < 4 && s.linkState p == 2) s
    ((s.helloBad p).setSeen codes (if role < 3 then s.helloIn p role port id level else s.helloBad p))

/-- A hello set is sent: role, port, ID and level (R359). -/
def State.helloOut (s : State) (p : Nat) : State :=
  let x := s.fport p
  let s1 := s.fabSend p (.hello (s.helloRole p) (p - 1) s.nodeId (s.get R.FAB_STATUS_level))
  (s1.setFport p { x with told := x.told + 1 }).helloCheck p

/-- HELLO_SEND (R359): every 256 ns during training. -/
def execHelloSend (p : Nat) (s : State) : Out := when (s.live && p < 4 && s.linkState p == 2) s (s.helloOut p)

/-- ALIGN_RESTART (R363). -/
def execAlignRestart (p : Nat) (s : State) : Out :=
  when (s.live && p < 4 && s.linkState p == 1) s (s.bump (R.FAB_PORT_downs p))

/-- LINK_DOWN (R363): loss of alignment, or 8 consecutive code errors, `codes` of them not yet counted (R359). -/
def execLinkDown (p codes : Nat) (s : State) : Out :=
  when (s.live && p < 4 && 2 ≤ s.linkState p && s.linkState p ≤ 5) s ((s.bumpBy R.FAB_ERR_CNT2_code codes).portDown p)

/-- LOS_ASSERT (R485): the LOS input of port `p` has been high for 100 ns, or goes low again. The level stands in any state of the
device, and keeps a port aligning that SAFE-ready starts. -/
def execLosAssert (p : Nat) (high : Bool) (s : State) : Out :=
  let s1 := { s with pins := { s.pins with los := tset s.pins.los p high } }
  when (p < 4) s (ite' (high && s.live && 2 ≤ s.linkState p && s.linkState p ≤ 5) s1 (s1.portDown p))

/-- PROBE (R359, R364): the parent owes an echo. -/
def execProbe (p codes : Nat) (s : State) : Out :=
  when (s.live && 1 ≤ p && p < 4 && (s.linkState p == 3 || s.linkState p == 4)) s
    (s.setSeen codes (s.setFport p { s.fport p with echoDue := true }))

/-- ECHO_SEND (R364): the eighth echo brings the parent's port up. -/
def execEchoSend (p : Nat) (s : State) : Out :=
  let x := s.fport p
  let s1 := (s.fabSend p .echo).setFport p { x with echoDue := false, echoes := x.echoes + 1 }
  when (s.live && 1 ≤ p && p < 4 && x.echoDue) s (ite' (s.linkState p == 3 && 7 ≤ x.echoes) s1 (s1.portComesUp p))

/-- The mean one-way delay of the measured round trips: half of each less 256 ns and the fixed latency (R364). -/
def meanDelay (trips : List Int) : Nat :=
  (freeDiv 364 (trips.foldl (fun a b => a + b) 0) (2 * max 1 trips.length : Nat)).toNat

/-- ECHO (R364): an echo arrives `rt` after its probe, in units of 125 ps, less the calibrated port latency. -/
def execEcho (rt codes : Nat) (s : State) : Out :=
  let x := s.fport 0
  let tr := (((rt : Int) - 2048) :: x.trips).take 8
  let s1 := (s.setFport 0 { x with awaited := false, trips := tr }).put (R.FAB_PORT_delay 0) (meanDelay tr)
  when (s.live && x.awaited) s
    (s.setSeen codes (if s.linkState 0 = 3 then (if 8 ≤ tr.length then s1.portComesUp 0 else s1.probeSend) else s1))

/-- ECHO_TIMEOUT (R363): 10 µs without an echo while measuring. -/
def execEchoTimeout (s : State) : Out :=
  when (s.live && s.linkState 0 == 3 && (s.fport 0).awaited) s (s.portDown 0)

/-- PERIODIC_PROBE (R364): every 10 s while UP is up. -/
def execPeriodicProbe (s : State) : Out := when (s.live && s.portUp 0) s s.probeSend

/-! ### Scheduled operations (R379, R380) -/

/-- The role and operator key of packets of types 0x05 and 0x07 from `src` (R380). -/
def State.packetRole (s : State) (src : Nat) : Nat × Nat :=
  if s.on R.FAB_CFG_trust_root && src = 0 then (1, 0) else (s.roleOf 2 src, s.get (R.BOOT_SESSION_key_index 2))

/-- The frame source of a parameter signal (R149). -/
def State.paramSrc (s : State) (sig : Nat) : Option Nat :=
  if tnum s.eng.param sig = 0 then none else some (tnum s.eng.param sig - 1)

/-- A parameter write is held for the next latch of its source; the last one stands (R149). -/
def State.paramWrite (s : State) (sig : Nat) (w : Word) : State :=
  { s with eng := { s.eng with paramPend := tset s.eng.paramPend sig w } }

/-- The grants an operation needs (table "Scheduled-operation effects"); a word under glaze control has no other writer (R337). -/
def State.schedAllowed (s : State) (src : Nat) (o : SchedOp) : Bool :=
  let r := s.packetRole src
  if o.op = 1 then true
  else if o.op = 2 then (s.paramSrc o.arg0).isSome && s.mayWrite r.1 r.2 (R.S o.arg0) && !s.glazed (R.S o.arg0)
  else if o.op = 3 then s.mayWrite r.1 r.2 R.CLK_HOP && !s.glazed R.CLK_HOP && !s.glazed R.CLK_HOP_TIME
  else o.op == 4 && r.1 == 2

/-- A plant snapshot (R380). -/
def State.plantSnapshot (s : State) (id : Nat) : State :=
  let s1 := ((s.put R.FAB_SNAP_id id).putB R.FAB_SNAP_valid true).setWord64 (R.FAB_SNAP + 4) s.clk.plantTime
  (forUpTo 16 (fun f t => t.setWord (R.FAB_SNAP_FIDX f) (t.word (R.ENG_FIDX f))) s1).snapTake 2

/-- Every carrier group restarts and every frame index is zeroed (R17, R245). -/
def State.carriersAnew (s : State) : State :=
  forUpTo 16 (fun f t => t.setWord (R.ENG_FIDX f) 0) { s.startCarriers with frm := { s.startCarriers.frm with base := s.startCarriers.frm.total } }

/-- The latches of source `f` since its index was last zeroed. -/
def State.framesDone (s : State) (f : Nat) : Nat := tnum s.frm.total f - tnum s.frm.base f

/-- The effect of an operation at its time (table "Scheduled-operation effects"); a plant reset outside SAFE, START and TEST
is refused. A hop whose time has come, and not passed before the operation arrived, is not late (R367, R379). -/
def State.schedEffect (s : State) (o : SchedOp) (late : Bool) : State :=
  if o.op = 1 then s.plantSnapshot o.id
  else if o.op = 2 then s.paramWrite o.arg0 (BitVec.ofNat 32 o.arg1)
  else if o.op = 3 then
    let s1 := ((s.put R.CLK_HOP_target_m o.arg0).putB R.CLK_HOP_at_time true).setWord64 R.CLK_HOP_TIME o.t
    s1.hopRequest 0 (o.arg0 % 8) late
  else s.carriersAnew

/-- Whether the mode in force lets an operation execute (R380). -/
def State.schedMode (s : State) (o : SchedOp) : Bool := o.op != 4 || s.mode == 0 || s.mode == 1 || s.mode == 6

/-- An operation executes, `late` or not (R379). -/
def State.schedExec (s : State) (o : SchedOp) (late : Bool) : State :=
  let s0 := ite' late s (s.bump R.FAB_SCHED_STAT_late)
  if s.schedMode o then (((s0.schedEffect o late).put R.FAB_SCHED_STAT_last_id o.id).put R.FAB_SCHED_STAT_last_op o.op).raise 486
  else s0.bump R.FAB_SCHED_STAT_refused

/-- The pending operations after a change. -/
def State.setSched (s : State) (l : List SchedOp) : State := { s with fab := { s.fab with sched := l } }.put R.FAB_SCHED_STAT_pending l.length

/-- SCHEDULED_OPERATION (R379): an operation arrives from `src`. A setpoint refused is refused with 0x01, an access error (R380, R497). -/
def State.schedArrive (s : State) (src : Nat) (o : SchedOp) : State :=
  if !(1 ≤ o.op && o.op ≤ 4) || !s.schedAllowed src o then
    (ite' (o.op == 2) s (s.bump R.BOOT_ERR_CNT_access)).bump R.FAB_SCHED_STAT_refused
  else if o.t < s.clk.plantTime then s.schedExec o true
  else if 8 ≤ s.fab.sched.length then s.bump R.FAB_SCHED_STAT_refused
  else s.setSched (s.fab.sched ++ [o])

/-- SCHEDULED_OPERATION (R379). -/
def execScheduledOperation (src op id t arg0 arg1 : Nat) (s : State) : Out :=
  when (s.live && s.inPlant) s (s.schedArrive src ⟨op, id, t, arg0, arg1⟩)

/-- The operation that executes next: the earliest whose time has come, in arrival order (R379). -/
def State.schedDue (s : State) : Option SchedOp :=
  let due := s.fab.sched.filter (fun o => o.t ≤ s.clk.plantTime)
  due.foldl (fun b o => match b with
    | none => some o
    | some x => if o.t < x.t then some o else some x) none

/-- The operation due executes if it is of kind `op`. -/
def State.schedRun (s : State) (op : Nat) : State :=
  match s.schedDue with
  | some o => if o.op = op then (s.setSched (s.fab.sched.erase o)).schedExec o false else s
  | none => s

/-- SCHEDULED_SNAPSHOT (R380). -/
def execScheduledSnapshot (s : State) : Out := when (s.live && s.inPlant) s (s.schedRun 1)

/-- SCHEDULED_SETPOINT (R380). -/
def execScheduledSetpoint (s : State) : Out := when (s.live && s.inPlant) s (s.schedRun 2)

/-- SCHEDULED_PLAN_HOP (R380). -/
def execScheduledPlanHop (s : State) : Out := when (s.live && s.inPlant) s (s.schedRun 3)

/-- PLANT_RESET (R380). -/
def execPlantReset (s : State) : Out := when (s.live && s.inPlant) s (s.schedRun 4)

/-- The pending operations whose time a step has passed execute late, in order (R368). -/
def State.schedPassed : Nat → State → State
  | 0, s => s
  | n + 1, s =>
    match s.schedDue with
    | some o => if o.t < s.clk.plantTime then ((s.setSched (s.fab.sched.erase o)).schedExec o true).schedPassed n else s
    | none => s

/-! ### Plant time (R365 to R368) -/

/-- Plant time set by a step: operations and hops whose time has passed run late (R368). -/
def State.timeStep (s : State) (t : Nat) : State :=
  let s1 := { s with clk := { s.clk with plantTime := t % 2 ^ 64 }, fab := { s.fab with trim := 0 } }
  let s2 := ite' s1.inPlant s1 (s1.schedPassed 8)
  forUpTo 2 (fun i u =>
    let x := u.syn i
    ite' (x.pendingHop.isSome && x.atTime && u.word64 R.CLK_HOP_TIME < u.clk.plantTime) u
      ((u.setSyn i { x with atTime := false }).bump R.CLK_HOP_CNT_late)) s2

/-- The time mark of this instant goes out of every D port that is up, and from a leader to its follower (R366, R388); a
waiting write to FAB_TIME takes effect first (R365). -/
def State.markSend (s : State) : State :=
  let s0 := match s.fab.timeWrite with
    | some t => { s with fab := { s.fab with timeWrite := none } }.timeStep t
    | none => s
  let s1 := { s0 with fab := { s0.fab with markAt := some (s0.clk.plantTime / 8000) } }
  let m : FabSet := .mark s1.clk.plantTime (s1.on R.FAB_STATUS_time_valid) (s1.get R.FAB_STATUS_level)
  let send := s1.on R.FAB_STATUS_time_valid || s1.fab.timeLost
  let s2 := forUpTo 4 (fun p t => ite' (send && 1 ≤ p && t.portUp p) t (t.fabSend p m)) s1
  ite' (s2.get R.TWN_CFG_role == 1 && s2.get R.TWN_STATUS_lanes_up != 0) s2
    { s2 with twn := { s2.twn with markSent := some (.mark s2.clk.plantTime (!s2.inPlant || s2.on R.FAB_STATUS_time_valid) (s2.get R.FAB_STATUS_level)) } }

/-- TIME_MARK_SEND (R366): plant time has come to a multiple of 1 µs whose mark has not been sent. -/
def execTimeMarkSend (s : State) : Out :=
  when (s.live && (s.inPlant || s.get R.TWN_CFG_role == 1) && s.fab.markAt != some (s.clk.plantTime / 8000)) s s.markSend

/-- The signed error of FAB_TIME_STAT, saturating (R366). -/
def sat16 (e : Int) : Int := if 32767 < e then 32767 else if e < -32768 then -32768 else e

/-- The effects of the lock and loss counts of a mark with error `e` (R366). -/
def State.markCounts (s : State) (twin : Bool) (e : Int) : State :=
  let g := if e.natAbs ≤ 8 then s.fab.goodMarks + 1 else 0
  let b := if 80 < e.natAbs then s.fab.badMarks + 1 else 0
  let s1 := { s with fab := { s.fab with goodMarks := min g 8, badMarks := min b 4 } }
  let s2 := ite' (8 ≤ g) s1 (s1.putB (lockFld twin) true)
  ite' (4 ≤ b && s.on (lockFld twin)) s2 (s2.timeLost twin)

/-- A time mark (R366): the error against value and delay, then a step at the next mark, or a trim before it, of at most one unit in
each of the 125 cycles between two marks. -/
def State.markIn (s : State) (twin : Bool) (value : Nat) (valid : Bool) : State :=
  let d := if twin then Config.laneDelay else s.get (R.FAB_PORT_delay 0)
  let e : Int := (s.clk.plantTime : Int) - (value + d : Nat)
  let s1 := s.putI R.FAB_TIME_STAT_err (sat16 e)
  let s2 := ite' (valid && !twin) s1
    { (s1.putB R.FAB_STATUS_time_valid true) with fab := { s1.fab with timeLost := false } }
  let first := valid && !s.fab.marked
  let s3 := { s2 with fab := { s2.fab with marked := s2.fab.marked || valid, stepArmed := !s.fab.stepArmed && (first || 8000 < e.natAbs) } }
  let s4 :=
    if s.fab.stepArmed then (s3.timeStep (value + d)).bump R.FAB_TIME_STAT_steps
    else if first || 8000 < e.natAbs then s3
    else { s3 with fab := { s3.fab with trim := max (-125) (min 125 e) } }
  s4.markCounts twin e

/-- TIME_MARK (R359, R366, R392): of the fabric's parent, or (`twin`) of the leader, with `codes` damaged symbols, which only the
fabric counts. -/
def execTimeMark (twin : Bool) (codes value : Nat) (valid : Bool) (s : State) : Out :=
  let ok := if twin then s.leaderTime else s.portUp 0
  when (s.live && ok) s (if twin && codes != 0 then s else s.setSeen codes (s.markIn twin value valid))

/-- MARK_TIMEOUT (R366): 4 µs without a valid mark. -/
def execMarkTimeout (twin : Bool) (s : State) : Out :=
  when (s.live && (s.on (lockFld twin) || (!twin && s.portUp 0 && s.on R.FAB_STATUS_time_valid))) s
    (s.timeLost twin)

/-- FAB_TIME_WRITE (R365): at the root, held until the next time mark. -/
def State.fabTimeWrite (s : State) (t : Nat) : State := ite' s.isRoot s { s with fab := { s.fab with timeWrite := some (t % 2 ^ 64) } }

/-- FAB_TIME_WRITE (R365). -/
def execFabTimeWrite (t : Nat) (s : State) : Out := when s.live s (s.fabTimeWrite t)

/-! ### Trip flood, status, barrier (R376 to R378) -/

/-- TRIP_SET_RECEIVED (R359, R376). -/
def execTripSetReceived (p codes origin seq : Nat) (s : State) : Out :=
  let s1 := forUpTo 4 (fun q t => ite' (q != p && t.portUp q) t (t.fabSend q (.trip origin seq))) s
  let s2 := (((s1.raise 480).put R.FAB_FLOOD_last_origin origin).put R.FAB_FLOOD_last_seq seq).bump R.FAB_FLOOD_received
  when (s.live && p < 4 && s.portUp p) s (s.setSeen codes s2)

/-- The latest statuses of the children that are up, with their ports (R377). -/
def State.childStatuses (s : State) : List (Nat × Nat) :=
  (List.range 4).filterMap (fun p =>
    if 1 ≤ p && s.portUp p then (s.fport p).status.map (fun b => (p, b)) else none)

/-- The combined status bits of this node (table "Status fields"). -/
def State.statusBits (s : State) : Nat :=
  let cs := s.childStatuses
  let own := (List.range 7).foldl (fun a k => a + (s.dst (199 + k)).toNat * 2 ^ k) 0
  let flags := cs.foldl (fun a c => a ||| (c.2 % 128)) own
  let valid := s.on R.FAB_STATUS_time_locked && cs.all (fun c => c.2 / 128 % 2 == 1)
  let want := cs.foldl (fun a c => max a (c.2 / 2 ^ 8 % 8)) (s.get R.GOV_STAT_want)
  let nodes := cs.foldl (fun a c => a + c.2 / 2 ^ 11 % 2 ^ 17) 1
  let hop (p : Nat) : Nat := if p = 3 then 19456 else 19328
  let path := cs.foldl (fun a c => max a (ceilDiv (c.2 / 2 ^ 28 % 2 ^ 12 * 800 + hop c.1 + s.get (R.FAB_PORT_delay c.1)) 800)) 0
  flags + valid.toNat * 2 ^ 7 + want * 2 ^ 8 + min nodes (2 ^ 17 - 1) * 2 ^ 11 + min path 4095 * 2 ^ 28

/-- The fewest levels of a plant of `n` nodes, three children to a node (R361, R362). -/
def levelsMin (n : Nat) : Nat := ((List.range 12).find? (fun d => n ≤ (3 ^ d - 1) / 2)).getD 11

/-- The root shows the plant's status (R377, R382); a status does not carry the number of levels, which is free between the fewest
and the most that its nodes can make. -/
def State.plantStatus (s : State) (b : Nat) : State :=
  let s1 := ((s.put R.FAB_PLANT_nodes (b / 2 ^ 11 % 2 ^ 17)).put R.FAB_PLANT_flags (b % 128)).put R.FAB_PLANT_want (b / 2 ^ 8 % 8)
  let s2 := (s1.putB R.FAB_PLANT_all_valid (b / 128 % 2 = 1)).put R.FAB_PLANT_lead_us (ceilDiv (b / 2 ^ 28 % 2 ^ 12 * 100 + 100000) 1000)
  let n := b / 2 ^ 11 % 2 ^ 17
  let lo := levelsMin n
  (s2.put R.FAB_PLANT_depth (lo + s2.freshNat % (min n 11 + 1 - lo))).burn

/-- STATUS_SEND (R377): every 1 µs. -/
def execStatusSend (s : State) : Out :=
  when (s.live && s.inPlant) s (if s.isRoot then s.plantStatus s.statusBits else s.fabSend 0 (.status s.statusBits))

/-- STATUS_RECEIVED (R359, R377) from the child on port `p`. -/
def execStatusReceived (p codes bits : Nat) (s : State) : Out :=
  when (s.live && 1 ≤ p && p < 4 && s.portUp p) s (s.setSeen codes (s.setFport p { s.fport p with status := some (bits % 2 ^ 40) }))

/-- BARRIER_ENTER (R378): ignored while a barrier is pending, and on a standalone node (R361). -/
def State.barrierEnter (s : State) (n : Nat) : State :=
  if s.on R.FAB_BARRIER_pending || !s.inPlant then s
  else ({ ((s.put R.FAB_BARRIER_number n).putB R.FAB_BARRIER_pending true) with fab := { s.fab with barrierSent := false, barrierNum := n } }).barrierCheck

/-- BARRIER_ENTER (R378). -/
def execBarrierEnter (n : Nat) (s : State) : Out := when (s.live && n < 256) s (s.barrierEnter n)

/-- BARRIER_ARRIVE (R359, R378): of the child on port `p`; one for another number than the pending one is ignored. -/
def execBarrierArrive (p codes n : Nat) (s : State) : Out :=
  let mine := !s.on R.FAB_BARRIER_pending || s.barrierNo == n
  when (s.live && 1 ≤ p && p < 4 && s.portUp p) s
    (s.setSeen codes (ite' mine s (s.setFport p { s.fport p with arrived := some n }).barrierCheck))

/-- BARRIER_RELEASE (R359, R378), received on UP. -/
def execBarrierRelease (codes n : Nat) (s : State) : Out :=
  when (s.live && n < 256 && s.portUp 0) s (s.setSeen codes (s.barrierRelease n))

/-! ### Packets (R370 to R375, R381, R383) -/

/-- A packet of type, destination, source, sequence, flags and payload, with its CRC (R370). -/
def packetBytes (type dst src seq flags : Nat) (payload : List Byte) : List Byte :=
  let b := leBytes 1 type ++ leBytes 2 dst ++ leBytes 2 src ++ leBytes 1 (payload.length / 4) ++ leBytes 1 seq ++ leBytes 1 flags ++ payload
  b ++ leBytes 4 (crc32 b)

/-- Whether a packet carries prio (R370). -/
def isPrio (b : List Byte) : Bool := leAt b 7 1 / 2 % 2 == 1

/-- Whether a packet is a broadcast (R370). -/
def isBcast (b : List Byte) : Bool := leAt b 7 1 % 2 == 1

/-- Whether a packet is a request that an unreachable destination NAKs (R372, R374). -/
def isRequest (type : Nat) : Bool := type == 1 || type == 2 || type == 8 || type == 10 || type == 11 || type == 12

/-- Whether a type is one of register access or sessions (R372, R375). -/
def isAccessType (type : Nat) : Bool := (1 ≤ type && type ≤ 3) || (8 ≤ type && type ≤ 13)

/-- The D port of node `me` towards `dst`, if `dst` is a descendant (R362, R372). -/
def portTowards (me : Nat) : Nat → Nat → Option Nat
  | 0, _ => none
  | n + 1, dst =>
    if dst = 0 then none
    else if (dst - 1) / 3 = me then some ((dst - 1) % 3 + 1)
    else portTowards me n ((dst - 1) / 3)

/-- Whether node `a` is `m` or an ancestor of it (R362). -/
def isAncestor (a m : Nat) : Bool := a == m || (portTowards a 11 m).isSome

/-- A packet enters a transmit queue: prio before what lacks it, 8 of 64 places reserved for prio (R373, R374). -/
def txInsert {α : Type} (prio : α → Bool) (q : List α) (x : α) : List α :=
  if prio x then q.filter prio ++ [x] ++ q.filter (fun y => !prio y) else q ++ [x]

/-- Room for a packet of its class (R374). -/
def txRoom {α : Type} (prio : α → Bool) (q : List α) (x : α) : Bool :=
  q.length < 64 && (prio x || (q.filter (fun y => !prio y)).length < 56)

/-- A packet for port `p` joins Q16 or Q18, or is dropped for room (R374). -/
def State.txPacket (s : State) (p : Nat) (b : List Byte) : State :=
  if p = 0 then
    if txRoom isPrio s.fab.q16 b then { (s.count (0x80 + 16)) with fab := { s.fab with q16 := txInsert isPrio s.fab.q16 b } }
    else (s.bump R.FAB_ERR_CNT_drop).count (0x60 + 16)
  else if txRoom (fun x => isPrio x.2) s.fab.q18 (p, b) then
    { (s.count (0x80 + 18)) with fab := { s.fab with q18 := txInsert (fun x => isPrio x.2) s.fab.q18 (p, b) } }
  else (s.bump R.FAB_ERR_CNT_drop).count (0x60 + 18)

/-- The port a unicast to `dst` leaves by (R372). -/
def State.routeTo (s : State) (dst : Nat) : Nat := (portTowards s.nodeId 11 dst).getD 0

/-- SPRINKLE_ASSIGNMENT (R383). -/
def State.sprinkleAssign (s : State) (src code share : Nat) : State :=
  let r := s.packetRole src
  if !s.on R.GRD_SPR_CFG_src then s.bump R.FAB_ERR_CNT2_type
  else if !s.mayWrite r.1 r.2 R.GRD_SPR_CFG || s.glazed R.GRD_SPR_CFG then s.bump R.BOOT_ERR_CNT_access
  else ((s.put R.GRD_SPR_CFG_code code).put R.GRD_SPR_CFG_share share).raise 488

/-- SPRINKLE_ASSIGNMENT (R383). -/
def execSprinkleAssignment (src code share : Nat) (s : State) : Out :=
  when (s.live && s.inPlant) s (s.sprinkleAssign src code share)

/-- A packet is delivered to this node (table "Packet types"). -/
def State.deliverPacket (s : State) (b : List Byte) : State :=
  let type := leAt b 0 1
  let src := leAt b 3 2
  let p := b.drop 8
  if isRequest type then
    (if hasRoom s.fab.q20 64 then { (s.count (0x80 + 20)) with fab := { s.fab with q20 := s.fab.q20 ++ [b] } }
     else (s.bump R.FAB_ERR_CNT_drop).count (0x60 + 20))
  else if type = 5 then
    (if leAt b 5 1 = 6 then s.schedArrive src ⟨leAt p 0 1, leAt p 1 1, leAt p 4 8, leAt p 12 4, leAt p 16 4⟩
     else s.bump R.FAB_ERR_CNT_len)
  else if type = 7 then
    (if leAt b 5 1 = 1 then s.sprinkleAssign src (leAt p 0 1) (leAt p 2 2) else s.bump R.FAB_ERR_CNT_len)
  else if type = 3 || type = 9 || type = 13 || type = 15 then s
  else s.bump R.FAB_ERR_CNT2_type

/-- A unicast goes out of its port, or is unreachable and a request NAKed (R372). -/
def State.unicast (s : State) (b : List Byte) : State :=
  let p := s.routeTo (leAt b 1 2)
  if s.portUp p then s.txPacket p b
  else
    let s1 := s.bump R.FAB_ERR_CNT_unreach
    let type := leAt b 0 1
    let src := leAt b 3 2
    let nak := packetBytes 15 src s.nodeId (leAt b 6 1) 0 (leBytes 2 1 ++ leBytes 2 (leAt b 1 2) ++ leBytes 1 type ++ leBytes 1 (leAt b 6 1) ++ leBytes 2 0)
    let q := s.routeTo src
    if !isRequest type then s1
    else if src = s.nodeId then s1
    else if s.portUp q then s1.txPacket q nak else s1.bump R.FAB_ERR_CNT_unreach

/-- The receive queue of port `p`: Q17 for UP, Q19 for the D ports (R374). -/
def State.rxQueue (s : State) (p : Nat) : List (List Byte) := if p = 0 then s.fab.q17 else s.fab.q19

/-- A packet for this node that came in on port `rx`, or from itself, is delivered; while the control plane waits for room in Q21 it
stays in its receive queue, prio before what lacks it (R373, R374). -/
def State.localPacket (s : State) (rx : Option Nat) (b : List Byte) : State :=
  match rx with
  | some p =>
    if !s.fab.q21Wait then s.deliverPacket b
    else if p = 0 then { s with fab := { s.fab with q17 := txInsert isPrio s.fab.q17 b } }
    else { s with fab := { s.fab with q19 := txInsert isPrio s.fab.q19 b } }
  | none => s.deliverPacket b

/-- PACKET_FORWARD (R372) of a packet that came in on port `rx`, or that this node sends: one from UP came down to this node. -/
def State.routePacket (s : State) (fromUp : Bool) (rx : Option Nat) (b : List Byte) : State :=
  let dst := leAt b 1 2
  if isBcast b && isAccessType (leAt b 0 1) then s.bump R.FAB_ERR_CNT2_bcast_refused
  else if isBcast b && (dst == s.nodeId || (fromUp && isAncestor dst s.nodeId)) then
    forUpTo 4 (fun p t => ite' (1 ≤ p && t.portUp p) t (t.txPacket p b)) (s.localPacket rx b)
  else if dst = s.nodeId then s.localPacket rx b
  else s.unicast b

/-- A whole packet is checked (R359, R371), then passes its receive queue and is routed; a full queue drops it (R374). -/
def State.packetIn (s : State) (p codes : Nat) (b : List Byte) : State :=
  let q := if p = 0 then 17 else 19
  let s2 := (s.count 0xA8).bumpBy R.FAB_ERR_CNT2_code codes
  if 0 < codes then s2.bump R.FAB_ERR_CNT_crc
  else if 62 < leAt b 5 1 || b.length != 12 + 4 * leAt b 5 1 then s2.bump R.FAB_ERR_CNT_len
  else if crc32 (b.take (b.length - 4)) != leNat (b.drop (b.length - 4)) then (s2.bump R.FAB_ERR_CNT_crc).raise 489
  else if hasRoom (s2.rxQueue p) 64 then (s2.count (0x80 + q)).routePacket (p == 0) (some p) b
  else (s2.bump R.FAB_ERR_CNT_drop).count (0x60 + q)

/-- PACKET_RECEIVED (R359, R371): on port `p`, with `codes` damaged symbols inside; no bytes at all stand for the idles between sets
and packets, whose damaged symbols count alone (log entry 18). -/
def execPacketReceived (p codes : Nat) (b : List Byte) (s : State) : Out :=
  when (s.live && p < 4 && s.portUp p) s (if b.isEmpty then s.bumpBy R.FAB_ERR_CNT2_code codes else s.packetIn p codes b)

/-- SCHED_TX_GO (R381): a prio broadcast of the operation in FAB_SCHED_TX to the subtree of dst; ignored while busy. -/
def State.schedTxGo (s : State) : State :=
  if !s.isRoot || s.on R.FAB_SCHED_TX_busy then s
  else
    let pay := leBytes 1 (s.get R.FAB_SCHED_TX_op) ++ leBytes 1 (s.get R.FAB_SCHED_TX_id) ++ leBytes 2 0
      ++ leBytes 8 (s.word64 (R.FAB_SCHED_TX + 4)) ++ leBytes 4 (s.get R.FAB_SCHED_TX_arg0) ++ leBytes 4 (s.get R.FAB_SCHED_TX_arg1) ++ leBytes 4 0
    let s1 := s.routePacket true none (packetBytes 5 (s.get R.FAB_SCHED_TX_dst) s.nodeId 0 3 pay)
    s1.putB R.FAB_SCHED_TX_busy (!s1.fab.q18.isEmpty)

/-- Every port sends the first of its sets that are due (R360). -/
def State.fabSlots (s : State) : State := forUpTo 4 (fun p t => t.fabSlot p) s

/-- A transmit queue sends its first packet, a response leaves Q21, and the control plane, which waits no longer, takes a packet that
waited for it (R374, R375). -/
def State.fabDrain (s : State) : State :=
  let s1 := match s.fab.q16 with
    | b :: r => ({ s with fab := { s.fab with q16 := r } }.fabSend 0 (.packet b)).count 0xA9
    | [] => s
  let s2 := match s1.fab.q18 with
    | x :: r => ({ s1 with fab := { s1.fab with q18 := r } }.fabSend x.1 (.packet x.2)).count 0xA9
    | [] => s1
  let s3 := ite' s2.fab.q18.isEmpty s2 (s2.putB R.FAB_SCHED_TX_busy false)
  let s4 := match s3.fab.q21 with
    | b :: r => { s3 with fab := { s3.fab with q21 := r, q21Wait := false } }.routePacket false none b
    | [] => { s3 with fab := { s3.fab with q21Wait := false } }
  match s4.fab.q17, s4.fab.q19 with
  | b :: r, _ => { s4 with fab := { s4.fab with q17 := r } }.deliverPacket b
  | [], b :: r => { s4 with fab := { s4.fab with q19 := r } }.deliverPacket b
  | [], [] => s4

end Sys2Proof.Machine
end

