-- ==== Sys2Proof/Machine/Can.lean ====
section
/-!
DEFINITION. The two CAN channels: frames, segments, fault confinement, bus-off, the lone node, events (R403 to R418).
-/

namespace Sys2Proof.Machine

/-- Channel `ch`. -/
def State.canCh (s : State) (ch : Nat) : CanS := tget s.can.ch ch { }

/-- Replace channel `ch`. -/
def State.setCan (s : State) (ch : Nat) (x : CanS) : State := { s with can := { s.can with ch := tset s.can.ch ch x } }

/-- Whether channel `ch` is enabled in a device that has started (R418). -/
def State.canOn (s : State) (ch : Nat) : Bool := (s.live || s.bare) && ch < 2 && s.on (R.CAN_CFG_en ch)

/-- Whether channel `ch` takes part in the bus: neither bus-off nor recovering (R410). -/
def State.canActive (s : State) (ch : Nat) : Bool := s.canOn ch && s.get (R.CAN_STATUS_state ch) < 2

/-- Whether channel `ch` sends and receives now: it takes part in the bus and is not integrating into it (R403). -/
def State.canOnBus (s : State) (ch : Nat) : Bool := s.canActive ch && (s.canCh ch).integ == 0

/-- Bus integration: nothing is sent or received until 11 recessive bits of the nominal rate have passed (R403; log entry 41). -/
def State.canIntegrate (s : State) (ch : Nat) : State :=
  let quanta := s.get (R.CAN_BT_NOM_tseg1_m1 ch) + s.get (R.CAN_BT_NOM_tseg2_m1 ch) + 3
  s.setCan ch { s.canCh ch with integ := 1100 * (s.get (R.CAN_BT_NOM_brp_m1 ch) + 1) * quanta }

/-- Whether channel `ch` is alone (R411). -/
def State.canAlone (s : State) (ch : Nat) : Bool := s.on (R.CAN_STATUS_alone ch)

/-! ### Transmission (R409, R414) -/

/-- The smallest FD data length that holds `n` bytes (R414). -/
def fdLen (n : Nat) : Nat :=
  if n ≤ 8 then n else if n ≤ 12 then 12 else if n ≤ 16 then 16 else if n ≤ 20 then 20 else if n ≤ 24 then 24
  else if n ≤ 32 then 32 else if n ≤ 48 then 48 else 64

/-- The frames of a message body from segment `k` on (R414). -/
def canSegments (id peer ilen : Nat) (fd : Bool) : Nat → Nat → List Byte → List CanFrame
  | 0, _, _ => []
  | n + 1, k, body =>
    let cap := if fd then 60 else 4
    let part := body.take cap
    let rest := body.drop cap
    let d := leBytes 2 peer ++ leBytes 1 (k + (if rest.isEmpty then 128 else 0)) ++ leBytes 1 ilen ++ part
    let data := if fd then d ++ List.replicate (fdLen d.length - d.length) 0 else d
    { id := id, fd := fd, data := data, last := rest.isEmpty } ::
      (if rest.isEmpty then [] else canSegments id peer ilen fd n (k + 1) rest)

/-- Queue a message whole in tx-high or tx-low, or discard it (R409). The sent segments of an unfinished message hold their entries
until it is sent whole (log entry 41). A channel that is bus-off or recovering queues nothing (R410). -/
def State.canSend (s : State) (ch : Nat) (high : Bool) (prio fn seq peer : Nat) (body : List Byte) : State :=
  let x := s.canCh ch
  let id := prio % 8 * 2 ^ 26 + fn * 2 ^ 21 + s.get (R.CAN_CFG_node_id ch) * 2 ^ 5 + seq % 32
  let fs := canSegments id peer body.length (s.on (R.CAN_CFG_fd_en ch)) 64 0 body
  let q := if high then x.txHigh else x.txLow
  let held := q.length + (if high then x.partHigh else x.partLow).length
  let code := 8 + 4 * ch + (if high then 0 else 1)
  if !s.canActive ch then s
  else if held + fs.length ≤ 32 then
    let y := if high then { x with txHigh := q ++ fs, ackErrors := if q.isEmpty then 0 else x.ackErrors } else { x with txLow := q ++ fs }
    (s.setCan ch y).countN (0x80 + code) fs.length
  else (s.bump (R.CAN_ERR_CNT_tx_drop ch)).countN (0x60 + code) fs.length

/-- The frame at the head: tx-high before tx-low. -/
def CanS.head (x : CanS) : Option CanFrame :=
  match x.txHigh with
  | f :: _ => some f
  | [] => x.txLow.head?

/-- The head frame leaves; the segments sent of an unfinished message are kept for its return (R411). -/
def CanS.sent (x : CanS) : CanS :=
  match x.txHigh with
  | f :: r => { x with txHigh := r, partHigh := if f.last then [] else x.partHigh ++ [f], ackErrors := 0, attempt := false }
  | [] =>
    match x.txLow with
    | f :: r => { x with txLow := r, partLow := if f.last then [] else x.partLow ++ [f], ackErrors := 0, attempt := false }
    | [] => x

/-- The frames of the first message of a queue marked not sent (R411). -/
def markNotSent : List CanFrame → List CanFrame
  | [] => []
  | f :: r => { f with notSent := true } :: (if f.last then r else markNotSent r)

/-- The head message goes back to the head of its queue whole, marked not sent (R411). -/
def CanS.giveBack (x : CanS) : CanS :=
  if x.txHigh.isEmpty then { x with txLow := markNotSent (x.partLow ++ x.txLow), partLow := [] }
  else { x with txHigh := markNotSent (x.partHigh ++ x.txHigh), partHigh := [] }

/-! ### Fault confinement (R403, R410) -/

/-- Bus-off: nothing is sent, acknowledged or queued (R410). -/
def State.canBusOff (s : State) (ch : Nat) : State :=
  let s1 := ((s.put (R.CAN_STATUS_state ch) 2).put (R.CAN_STATUS_tec ch) 255).bump (R.CAN_ERR_CNT2_busoffs ch)
  ((s1.drive (496 + 4 * ch) true).drive (497 + 4 * ch) false).setCan ch { s1.canCh ch with attempt := false, ackErrors := 0 }

/-- Error-active or error-passive by the counters (R403). -/
def State.canState (s : State) (ch : Nat) : State :=
  let p := 128 ≤ s.get (R.CAN_STATUS_tec ch) || 128 ≤ s.get (R.CAN_STATUS_rec ch)
  let was := s.get (R.CAN_STATUS_state ch) == 1
  ite' (p != was) s ((s.put (R.CAN_STATUS_state ch) p.toNat).drive (497 + 4 * ch) p)

/-- TEC rises by 8; past 255 the channel is bus-off. -/
def State.tecUp (s : State) (ch : Nat) : State :=
  let t := s.get (R.CAN_STATUS_tec ch) + 8
  if 255 < t then s.canBusOff ch else (s.put (R.CAN_STATUS_tec ch) t).canState ch

/-- CAN_ERROR (R403, R411): 0 a transmitter's error, 1 a receiver's, 2 a receiver's with a dominant bit after its error flag,
3 a transmitter's that the standard excepts. The ACK-error count restarts. -/
def execCanError (ch kind : Nat) (s : State) : Out :=
  let s1 := s.setCan ch { s.canCh ch with ackErrors := 0, attempt := false }
  let r (n : Nat) : State := (s1.bumpBy (R.CAN_STATUS_rec ch) n).canState ch
  when (s.canOnBus ch) s (if kind = 0 then s1.tecUp ch else if kind = 1 then r 1 else if kind = 2 then r 8 else s1)

/-- BUS_OFF (R410): a transmitter's error with which TEC passes 255. -/
def execBusOff (ch : Nat) (s : State) : Out := when (s.canOnBus ch && 248 ≤ s.get (R.CAN_STATUS_tec ch)) s (s.canBusOff ch)

/-- RECOVER (R410). -/
def State.canRecover (s : State) (ch : Nat) : State :=
  let st := s.get (R.CAN_STATUS_state ch)
  if st = 2 then s.put (R.CAN_STATUS_state ch) 3 else if st = 3 then s.bump (R.CAN_ERR_CNT_recover_ignored ch) else s

/-- RECOVER (R410). -/
def execRecover (ch : Nat) (s : State) : Out := when (s.canOn ch) s (s.canRecover ch)

/-- BUS_OFF_RECOVERY_DONE (R410). -/
def execBusOffRecoveryDone (ch : Nat) (s : State) : Out :=
  let s1 := ((s.put (R.CAN_STATUS_state ch) 0).put (R.CAN_STATUS_tec ch) 0).put (R.CAN_STATUS_rec ch) 0
  when (s.canOn ch && s.get (R.CAN_STATUS_state ch) == 3) s (s1.drive (496 + 4 * ch) false)

/-- The alone state begins or ends (R411). -/
def State.setAlone (s : State) (ch : Nat) (b : Bool) : State :=
  (s.putB (R.CAN_STATUS_alone ch) b).drive (498 + 4 * ch) b

/-- Whether the channel transmits: something to send, and not alone but for its one attempt (R411). -/
def State.canSends (s : State) (ch : Nat) : Bool :=
  s.canOnBus ch && (s.canCh ch).head.isSome && (!s.canAlone ch || (s.canCh ch).attempt)

/-- Transmitter-delay measurement of an FD frame with bit-rate switching, and the A1 risk (R406, R407). -/
def State.tdcMeasure (s : State) (ch loop : Nat) (fd : Bool) : State :=
  let bit := (s.get (R.CAN_BT_DATA_brp_m1 ch) + 1) * (s.get (R.CAN_BT_DATA_tseg1_m1 ch) + s.get (R.CAN_BT_DATA_tseg2_m1 ch) + 3)
  let s1 := ite' (fd && s.on (R.CAN_CFG_brs_en ch) && s.on (R.CAN_CFG_tdc_en ch)) s (s.put (R.CAN_STATUS_tdc_meas ch) loop)
  s1.putB (R.CAN_STATUS_tdc_risk ch) (12 < s1.get (R.CAN_STATUS_tdc_meas ch) && bit < 16)

/-- The frame that channel `ch` sends: the head, with bit-rate switching where brs_en asks for it and the error-state bit of an
error-passive channel, both in FD frames (R403). -/
def State.canOut (s : State) (ch : Nat) : Option CanFrame :=
  (s.canCh ch).head.map (fun f =>
    { f with notSent := false, brs := f.fd && s.on (R.CAN_CFG_brs_en ch), esi := f.fd && s.get (R.CAN_STATUS_state ch) == 1 })

/-- CAN_FRAME_SENT (R403, R409, R411): the head frame is acknowledged; `loop` is its measured loop delay. -/
def execCanFrameSent (ch loop : Nat) (s : State) : Out :=
  let x := s.canCh ch
  let out := s.canOut ch
  let fd := out.any (fun f => f.fd)
  let s1 := ((s.setCan ch { x.sent with onBus := out }).put (R.CAN_STATUS_tec ch) (s.get (R.CAN_STATUS_tec ch) - 1)).canState ch
  let s2 := (s1.tdcMeasure ch loop fd).count 0xAB
  when (s.canSends ch && loop < 128) s (ite' (s.canAlone ch) s2 (s2.setAlone ch false))

/-- ACK_ERROR (R411): counted; error-passive does not raise TEC; at alone_limit the channel is alone. -/
def execAckError (ch : Nat) (s : State) : Out :=
  let x := s.canCh ch
  let n := x.ackErrors + 1
  let s1 := ite' (s.get (R.CAN_STATUS_state ch) == 0) (s.setCan ch { x with ackErrors := n, attempt := false })
    ((s.setCan ch { x with ackErrors := n, attempt := false }).tecUp ch)
  let y := s1.canCh ch
  let s2 := ((s1.setCan ch { y.giveBack with ackErrors := 0 }).bump (R.CAN_ERR_CNT_not_sent ch)).setAlone ch true
  when (s.canSends ch) s (if !s.canAlone ch && max 8 (s.get (R.CAN_ALONE_CFG_alone_limit ch)) ≤ n then s2 else s1)

/-- ALONE_RETRY (R411): exactly one attempt. -/
def execAloneRetry (ch : Nat) (s : State) : Out :=
  when (s.canActive ch && s.canAlone ch) s (s.setCan ch { s.canCh ch with attempt := true })

/-! ### Reception (R403, R408, R413 to R415) -/

/-- The function codes that are requests (R413). -/
def canRequest (fn : Nat) : Bool := fn == 1 || fn == 2 || fn == 8 || fn == 10 || fn == 11 || fn == 12

/-- The rx queue of a priority. -/
def CanS.rx (x : CanS) (high : Bool) : CanRx := if high then x.rxHigh else x.rxLow

/-- Replace an rx queue. -/
def CanS.setRx (x : CanS) (high : Bool) (r : CanRx) : CanS := if high then { x with rxHigh := r } else { x with rxLow := r }

/-- An inner-length fault is answered 0x0A and counted (R79, R415, R497). -/
def State.innerFault (s : State) (ch prio seq peer : Nat) : State :=
  (s.bump R.BOOT_ERR_CNT_access).canSend ch (prio < 4) prio 3 seq peer (leBytes 1 0x0A ++ leBytes 3 0)

/-- SEGMENT_REASSEMBLY (R415): frame `f`, taken from its queue, joins the message in progress, starts one, or is discarded. -/
def State.canSegment (s : State) (ch : Nat) (high : Bool) (f : CanFrame) : State :=
  let prio := f.id / 2 ^ 26 % 8
  let fn := f.id / 2 ^ 21 % 32
  let seq := f.id % 32
  let peer := leAt f.data 0 2
  let k := leAt f.data 2 1 % 128
  let lastSet : Bool := 128 ≤ leAt f.data 2 1
  let ilen := leAt f.data 3 1
  let r := (s.canCh ch).rx high
  let goesOn : Bool := match r.cur with
    | some m => m.segs == k && m.peer == peer && m.fn == fn && m.seq == seq
    | none => false
  let s1 := ite' (r.cur.isSome && !goesOn) s (s.bump (R.CAN_ERR_CNT2_seg_err ch))
  let m : CanMsg := if goesOn then r.cur.getD { } else { prio := prio, fn := fn, seq := seq, peer := peer, ilen := ilen }
  let now (cur whole : Option CanMsg) : State := s1.setCan ch ((s1.canCh ch).setRx high { r with cur := cur, whole := whole })
  if !goesOn && k != 0 && 4 ≤ f.data.length then now none r.whole
  else
    let carry := min (if f.fd then 60 else 4) (ilen - m.body.length)
    let whole : Bool := ilen ≤ m.body.length + carry
    let m1 := { m with segs := m.segs + 1, body := m.body ++ slice f.data 4 carry }
    if 248 < ilen || f.data.length < 4 + carry || f.data.length < 4 || lastSet != whole || ilen != m.ilen then
      (now none r.whole).innerFault ch prio seq peer
    else if whole then now none (some m1)
    else now (some m1) r.whole

/-- The reassembly takes up to `n` frames of a queue in their order, one message at a time: none while a whole message waits for the
control plane (R415). -/
def State.canAssemble (s : State) (ch : Nat) (high : Bool) : Nat → State
  | 0 => s
  | n + 1 =>
    let r := (s.canCh ch).rx high
    match r.whole, r.frames with
    | none, f :: rest => ((s.setCan ch ((s.canCh ch).setRx high { r with frames := rest })).canSegment ch high f).canAssemble ch high n
    | _, _ => s

/-- A frame of the message set for this node is queued by priority, and the reassembly takes what it can (R408, R415). -/
def State.canQueue (s : State) (ch : Nat) (f : CanFrame) : State :=
  let high : Bool := f.id / 2 ^ 26 % 8 < 4
  let code := 8 + 4 * ch + (if high then 2 else 3)
  let r := (s.canCh ch).rx high
  if 32 ≤ r.frames.length then (s.bump (R.CAN_ERR_CNT_rx_drop ch)).count (0x60 + code)
  else
    let s1 := (s.setCan ch ((s.canCh ch).setRx high { r with frames := r.frames ++ [f] })).count (0x80 + code)
    (ite' high s1 (s1.raise (499 + 4 * ch))).canAssemble ch high 32

/-- A valid frame is received: REC falls, the channel is not alone, the ACK-error count restarts (R403, R411). -/
def State.canValid (s : State) (ch : Nat) : State :=
  let rec_ := s.get (R.CAN_STATUS_rec ch)
  let s1 := if rec_ < 128 then s.put (R.CAN_STATUS_rec ch) (rec_ - 1) else (s.put (R.CAN_STATUS_rec ch) (119 + s.freshNat % 9)).burn
  let s2 := (s1.canState ch).setCan ch { s1.canCh ch with ackErrors := 0, attempt := false }
  (ite' (s2.canAlone ch) s2 (s2.setAlone ch false)).count 0xAA

/-- Whether a frame has a length that its format has: FD lengths, or a classic frame's 8 bytes; a remote frame is classic and has none
(R403). -/
def canLength (fd remote : Bool) (n : Nat) : Bool := if remote then !fd && n == 0 else if fd then n ≤ 64 && fdLen n == n else n ≤ 8

/-- CAN_FRAME_RECEIVED (R403, R408, R413); while the channel integrates, a frame on the bus makes it wait anew. -/
def execCanFrameReceived (ch : Nat) (fd ext remote : Bool) (id : Nat) (data : List Byte) (s : State) : Out :=
  let s1 := s.canValid ch
  let fn := id / 2 ^ 21 % 32
  let t := if (s.canCh ch).integ != 0 then s.canIntegrate ch
    else if fd && !s.on (R.CAN_CFG_fd_en ch) then (s.bump (R.CAN_ERR_CNT2_fd_ignored ch)).canIntegrate ch
    else if remote || !ext || id / 2 ^ 5 % 2 ^ 16 != s.get (R.CAN_CFG_node_id ch) then s1
    else if !canRequest fn then s1.bump (R.CAN_ERR_CNT2_unknown_fn ch)
    else s1.canQueue ch { id := id, fd := fd, data := data }
  when (s.canActive ch && canLength fd remote data.length) s t

/-- The control plane takes the next message of channel `ch`: rx-high before rx-low (R408). -/
def State.canTake (s : State) (ch : Nat) : Option (CanMsg × State) :=
  let x := s.canCh ch
  let take (high : Bool) : Option (CanMsg × State) :=
    (x.rx high).whole.map (fun m => (m, (s.setCan ch (x.setRx high { x.rx high with whole := none })).canAssemble ch high 32))
  match take true with
  | some q => some q
  | none => take false

/-! ### Events (R417) -/

/-- CAN_EVENT (R417): a rising edge of entry `k`'s source, counted, goes to every channel of its mask. -/
def execCanEvent (k : Nat) (s : State) : Out :=
  let n := (tnum s.can.edges k + 1) % 65536
  let body := leBytes 2 (s.get (R.CAN_EVT_src k)) ++ leBytes 2 n
  let m := tnum s.can.seen k
  let s1 := { s with can := { s.can with edges := tset s.can.edges k n, seen := tset s.can.seen k (m + 1) } }
  when (s.live && k < 8 && s.on (R.CAN_EVT_valid k) && m < tnum s.evr.rises (s.get (R.CAN_EVT_src k))) s
    (forUpTo 2 (fun ch t =>
      if s.get (R.CAN_EVT_chan k) / 2 ^ ch % 2 = 1 && t.canOn ch then
        let u := t.canSend ch true (s.get (R.CAN_EVT_priority k)) 16 (t.canCh ch).evtSeq 0 body
        u.setCan ch { u.canCh ch with evtSeq := ((u.canCh ch).evtSeq + 1) % 32 }
      else t) s1)

end Sys2Proof.Machine
end

