-- ==== Sys2Proof/Machine/Crypto.lean ====
section
/-!
DEFINITION. The cryptography that R55 names by its standards (PRESUMED, log entry 36): SHA-384 (FIPS 180-4), ECDSA on
brainpoolP384r1 (FIPS 186-5, RFC 5639) and its deterministic signatures (RFC 6979).
-/

namespace Sys2Proof.Machine

/-- The number that a big-endian byte string spells. -/
def beNat (b : List Byte) : Nat := b.foldl (fun r x => 256 * r + x.toNat) 0

/-- A number in `n` bytes, big-endian. -/
def natBytes (n v : Nat) : List Byte := (List.range n).map (fun k => BitVec.ofNat 8 (v / 256 ^ (n - 1 - k)))

/-! ### SHA-384 (FIPS 180-4) -/

/-- SHA-384 constants 0 to 19. -/
def shaK0 : List Nat := [
  0x428A2F98D728AE22, 0x7137449123EF65CD, 0xB5C0FBCFEC4D3B2F, 0xE9B5DBA58189DBBC, 0x3956C25BF348B538,
  0x59F111F1B605D019, 0x923F82A4AF194F9B, 0xAB1C5ED5DA6D8118, 0xD807AA98A3030242, 0x12835B0145706FBE,
  0x243185BE4EE4B28C, 0x550C7DC3D5FFB4E2, 0x72BE5D74F27B896F, 0x80DEB1FE3B1696B1, 0x9BDC06A725C71235,
  0xC19BF174CF692694, 0xE49B69C19EF14AD2, 0xEFBE4786384F25E3, 0x0FC19DC68B8CD5B5, 0x240CA1CC77AC9C65]

/-- SHA-384 constants 20 to 39. -/
def shaK1 : List Nat := [
  0x2DE92C6F592B0275, 0x4A7484AA6EA6E483, 0x5CB0A9DCBD41FBD4, 0x76F988DA831153B5, 0x983E5152EE66DFAB,
  0xA831C66D2DB43210, 0xB00327C898FB213F, 0xBF597FC7BEEF0EE4, 0xC6E00BF33DA88FC2, 0xD5A79147930AA725,
  0x06CA6351E003826F, 0x142929670A0E6E70, 0x27B70A8546D22FFC, 0x2E1B21385C26C926, 0x4D2C6DFC5AC42AED,
  0x53380D139D95B3DF, 0x650A73548BAF63DE, 0x766A0ABB3C77B2A8, 0x81C2C92E47EDAEE6, 0x92722C851482353B]

/-- SHA-384 constants 40 to 59. -/
def shaK2 : List Nat := [
  0xA2BFE8A14CF10364, 0xA81A664BBC423001, 0xC24B8B70D0F89791, 0xC76C51A30654BE30, 0xD192E819D6EF5218,
  0xD69906245565A910, 0xF40E35855771202A, 0x106AA07032BBD1B8, 0x19A4C116B8D2D0C8, 0x1E376C085141AB53,
  0x2748774CDF8EEB99, 0x34B0BCB5E19B48A8, 0x391C0CB3C5C95A63, 0x4ED8AA4AE3418ACB, 0x5B9CCA4F7763E373,
  0x682E6FF3D6B2B8A3, 0x748F82EE5DEFB2FC, 0x78A5636F43172F60, 0x84C87814A1F0AB72, 0x8CC702081A6439EC]

/-- SHA-384 constants 60 to 79. -/
def shaK3 : List Nat := [
  0x90BEFFFA23631E28, 0xA4506CEBDE82BDE9, 0xBEF9A3F7B2C67915, 0xC67178F2E372532B, 0xCA273ECEEA26619C,
  0xD186B8C721C0C207, 0xEADA7DD6CDE0EB1E, 0xF57D4F7FEE6ED178, 0x06F067AA72176FBA, 0x0A637DC5A2C898A6,
  0x113F9804BEF90DAE, 0x1B710B35131C471B, 0x28DB77F523047D84, 0x32CAAB7B40C72493, 0x3C9EBE0A15C9BEBC,
  0x431D67C49C100D4C, 0x4CC5D4BECB3E42B6, 0x597F299CFC657E2A, 0x5FCB6FAB3AD6FAEC, 0x6C44198C4A475817]

/-- The 80 constants. -/
def shaK : List Nat := shaK0 ++ shaK1 ++ shaK2 ++ shaK3

/-- The initial hash value of SHA-384. -/
def shaInit : List Nat := [
  0xCBBB9D5DC1059ED8, 0x629A292A367CD507, 0x9159015A3070DD17, 0x152FECD8F70E5939, 0x67332667FFC00B31,
  0x8EB44A8768581511, 0xDB0C2E0D64F98FA7, 0x47B5481DBEFA4FA4]

/-- A 64-bit rotation to the right. -/
def rotr (x n : Nat) : Nat := x >>> n ||| x <<< (64 - n) % 2 ^ 64

/-- Σ of three rotations. -/
def bigSigma (x a b c : Nat) : Nat := rotr x a ^^^ rotr x b ^^^ rotr x c

/-- σ of two rotations and a shift. -/
def smallSigma (x a b c : Nat) : Nat := rotr x a ^^^ rotr x b ^^^ x >>> c

/-- One round on the eight working variables, with the schedule word plus the constant. -/
def shaRound (v : List Nat) (wk : Nat) : List Nat :=
  match v with
  | [a, b, c, d, e, f, g, h] =>
    let ch := (e &&& f) ^^^ ((2 ^ 64 - 1 - e) &&& g)
    let maj := (a &&& b) ^^^ (a &&& c) ^^^ (b &&& c)
    let t1 := h + bigSigma e 14 18 41 + ch + wk
    let t2 := bigSigma a 28 34 39 + maj
    [(t1 + t2) % 2 ^ 64, a, b, c, (d + t1) % 2 ^ 64, e, f, g]
  | _ => v

/-- The next 16 schedule words: the first drops out, the new one comes last. -/
def shaSchedule (w : List Nat) : List Nat :=
  w.drop 1 ++ [(smallSigma (w.getD 14 0) 19 61 6 + w.getD 9 0 + smallSigma (w.getD 1 0) 1 8 7 + w.getD 0 0) % 2 ^ 64]

/-- One block of 16 words. -/
def shaBlock (h w : List Nat) : List Nat :=
  let r := shaK.foldl (fun x k => (shaRound x.1 (k + x.2.getD 0 0), shaSchedule x.2)) (h, w)
  List.zipWith (fun a b => (a + b) % 2 ^ 64) h r.1

/-- The blocks of a padded message. -/
def shaBlocks : Nat → List Nat → List Byte → List Nat
  | 0, h, _ => h
  | n + 1, h, b => shaBlocks n (shaBlock h ((List.range 16).map (fun k => beNat ((b.drop (8 * k)).take 8)))) (b.drop 128)

/-- A message with its padding: a one bit, zeros, the length in bits. -/
def shaPad (b : List Byte) : List Byte :=
  b ++ [0x80] ++ List.replicate ((239 - b.length % 128) % 128) 0 ++ natBytes 16 (8 * b.length)

/-- The bytes of a SHA-384 hash. -/
def shaBytes (b : List Byte) : List Byte :=
  ((shaBlocks ((shaPad b).length / 128) shaInit (shaPad b)).take 6).flatMap (natBytes 8)

/-- SHA-384 (R55). -/
def sha384 (b : List Byte) : BitVec 384 := BitVec.ofNat 384 (beNat (shaBytes b))

/-! ### brainpoolP384r1 (RFC 5639) -/

/-- The field's prime. -/
def ecP : Nat := 0x8CB91E82A3386D280F5D6F7E50E641DF152F7109ED5456B412B1DA197FB71123ACD3A729901D1A71874700133107EC53

/-- The curve's coefficient A. -/
def ecA : Nat := 0x7BC382C63D8C150C3C72080ACE05AFA0C2BEA28E4FB22787139165EFBA91F90F8AA5814A503AD4EB04A8C7DD22CE2826

/-- The curve's coefficient B. -/
def ecB : Nat := 0x04A8C7DD22CE28268B39B55416F0447C2FB77DE107DCD2A62E880EA53EEB62D57CB4390295DBC9943AB78696FA504C11

/-- The order of the base point. -/
def ecN : Nat := 0x8CB91E82A3386D280F5D6F7E50E641DF152F7109ED5456B31F166E6CAC0425A7CF3AB6AF6B7FC3103B883202E9046565

/-- A point of the curve; none is the point at infinity. -/
abbrev EcPoint := Option (Nat × Nat)

/-- The base point. -/
def ecG : EcPoint := some (
  0x1D1C64F068CF45FFA2A63A81B7C13F6B8847A3E77EF14FE3DB7FCAFE0CBD10E8E826E03436D646AAEF87B2E247D4AF1E,
  0x8ABE1D7520F9C2A45CB1EB8E95CFD55262B70B29FEEC5864E19C054FF99129280E4646217791811142820341263C5315)

/-- b^e modulo m, over the low `k` bits of e. -/
def powMod (m b e : Nat) : Nat → Nat
  | 0 => 1
  | k + 1 =>
    let r := powMod m b (e / 2) k
    if e % 2 = 1 then r * r % m * b % m else r * r % m

/-- The inverse modulo a prime of 384 bits (Fermat). -/
def invMod (m x : Nat) : Nat := powMod m (x % m) (m - 2) 384

/-- A sum of two points. -/
def ecAdd : EcPoint → EcPoint → EcPoint
  | none, q => q
  | p, none => p
  | some (x1, y1), some (x2, y2) =>
    if x1 = x2 ∧ (y1 + y2) % ecP = 0 then none
    else
      let l := if x1 = x2 then (3 * x1 * x1 + ecA) * invMod ecP (2 * y1) % ecP
        else (y2 + ecP - y1) * invMod ecP (x2 + ecP - x1) % ecP
      let x := (l * l + 2 * ecP - x1 - x2) % ecP
      some (x, (l * (x1 + ecP - x) + ecP - y1) % ecP)

/-- A multiple of a point, over the low `n` bits of the factor. -/
def ecMul (q : EcPoint) (k : Nat) : Nat → EcPoint
  | 0 => none
  | n + 1 =>
    let r := ecMul q (k / 2) n
    if k % 2 = 1 then ecAdd (ecAdd r r) q else ecAdd r r

/-- Whether a pair is a point of the curve. -/
def onCurve (x y : Nat) : Bool := x < ecP && y < ecP && (y * y % ecP == (x * x * x + ecA * x + ecB) % ecP)

/-! ### ECDSA (FIPS 186-5, RFC 6979) -/

/-- ECDSA verification with SHA-384 (R55): key, message, signature, as byte strings X ‖ Y and r ‖ s. -/
def ecdsaVerify (key msg sig : List Byte) : Bool :=
  let x := beNat (key.take 48)
  let y := beNat (key.drop 48)
  let r := beNat (sig.take 48)
  let s := beNat (sig.drop 48)
  if key.length = 96 ∧ sig.length = 96 ∧ onCurve x y = true ∧ 0 < r ∧ r < ecN ∧ 0 < s ∧ s < ecN then
    let w := invMod ecN s
    match ecAdd (ecMul ecG ((sha384 msg).toNat * w % ecN) 384) (ecMul (some (x, y)) (r * w % ecN) 384) with
    | some (v, _) => v % ecN == r
    | none => false
  else false

/-- HMAC with SHA-384 for keys of at most a block (RFC 6979). -/
def hmac384 (key msg : List Byte) : List Byte :=
  let k := key ++ List.replicate (128 - key.length) 0
  shaBytes (k.map (fun x => x ^^^ 0x5C) ++ shaBytes (k.map (fun x => x ^^^ 0x36) ++ msg))

/-- The signature for a hash `z`, a key `d` and a candidate `k`, if the candidate serves. -/
def signWith (d z k : Nat) : Option (List Byte) :=
  if k = 0 ∨ ecN ≤ k then none
  else
    match ecMul ecG k 384 with
    | none => none
    | some (x, _) =>
      let r := x % ecN
      let s := invMod ecN k * (z + r * d) % ecN
      if r = 0 ∨ s = 0 then none else some (natBytes 48 r ++ natBytes 48 s)

/-- The candidates of RFC 6979 in order; 256 of them fail together with a chance below 2^-250. -/
def signTries (d z : Nat) : Nat → List Byte → List Byte → List Byte
  | 0, _, _ => List.replicate 96 0
  | n + 1, k, v =>
    let v1 := hmac384 k v
    match signWith d z (beNat v1) with
    | some b => b
    | none =>
      let k1 := hmac384 k (v1 ++ [0])
      signTries d z n k1 (hmac384 k1 v1)

/-- The device's own signature of a message under its private key (R55, RFC 6979). -/
def ecdsaSign (key : BitVec 384) (msg : List Byte) : List Byte :=
  let z := (sha384 msg).toNat
  let seed := natBytes 48 key.toNat ++ natBytes 48 (z % ecN)
  let v := List.replicate 48 (1 : Byte)
  let k1 := hmac384 (List.replicate 48 0) (v ++ [0] ++ seed)
  let v1 := hmac384 k1 v
  let k2 := hmac384 k1 (v1 ++ [1] ++ seed)
  signTries key.toNat z 256 k2 (hmac384 k2 v1)

end Sys2Proof.Machine
end

