-- ==== Sys2Proof/Machine/EngOps.lean ====
section
/-!
DEFINITION. The engine's instructions (table "Instruction set", R154 to R162, R171 to R175, R183 to R199, R500). Each row's
operands are the context, the stall cycles it meets (R178, R180), and the words in which its reads find a single-bit or a
double-bit error.
-/

namespace Sys2Proof.Machine

/-! ### Executing one instruction -/

/-- The frame-buffer words that an LDF reads (R162). -/
def ldfKeys (w : Nat) : List Nat :=
  if immBit w 11 then [] else
    let i := 32 * immBits w 5 4 + immBits w 0 5
    [eccKey 4 (2 * i), eccKey 4 (2 * i + 1)]

/-- The import-buffer word of signal `sig`, if context `c` imports it. -/
def State.importKey (s : State) (c sig : Nat) : List Nat :=
  match (s.ctx c).imports.findIdx? (fun x => x == sig) with
  | some i => [eccKey 5 (64 * c + i)]
  | none => []

/-- The words whose poisoning makes an instruction a context fault: its own fetch, an SOS's coefficients, slots and input, an LDF's
record and subtrahend (R182). -/
def State.faultReads (s : State) (c : Nat) : List Nat :=
  let w := s.ins c
  let n := immBits w 18 4 + 1
  let k := s.schF c (immBits w 14 2)
  let sets : List Nat := if immBit w 16 then [immBits w 0 14 + k.region * n, immBits w 0 14 + k.desired * n] else [immBits w 0 14]
  [eccKey 1 (R.PROG (s.insAddr c))] ++
  (if insOp w = 0x0D then
    sets.flatMap (fun b => (List.range (6 * n)).map (fun i => eccKey 0 (R.COEF b 0 + 4 * i)))
      ++ (List.range (4 * n)).map (fun i => eccKey 2 (R.SLOT (insB w) 0 + 4 * i)) ++ s.importKey c (insA w)
   else if insOp w = 0x01 then ldfKeys w ++ (s.signalsRead c).flatMap (s.importKey c)
   else [])

/-- Every word of a store or an import buffer that an instruction reads: its signals and a tracker's two slots beside these (R180). -/
def State.insReads (s : State) (c : Nat) : List Nat :=
  let w := s.ins c
  s.faultReads c ++ (s.signalsRead c).flatMap (s.importKey c)
    ++ (if insOp w = 0x15 then (List.range 8).map (fun i => eccKey 2 (R.SLOT (insB w) 0 + 4 * i)) else [])

/-- The instruction of context `c` has spent `cyc` table cycles and `stall` more on its lane (R449). -/
def State.insSpent (s : State) (c cyc stall : Nat) : State :=
  let f := s.fr c
  let s1 := (s.laneCycles 0 f.lane c cyc).laneCycles 3 f.lane c stall
  s1.setFr c { s1.fr c with cycles := f.cycles + cyc + stall }

/-- The instruction of context `c` completes after `cyc` table cycles and `stall` more (R178, R447, R449). -/
def State.insDone (s : State) (c cyc stall tag : Nat) : State :=
  let f := s.fr c
  let e := c + 2 ^ 6 * s.insAddr c + 2 ^ 19 * insOp (s.ins c) + 2 ^ 25 * f.lane + 2 ^ 28 * ((cyc + stall) % 2 ^ 16)
    + 2 ^ 44 * (f.cycles % 2 ^ 16) + 2 ^ 64 * tag + 2 ^ 96 * f.index
  let r := (s.insSpent c cyc stall).psRetire c e f.plan
  let places := match r.2 with
    | some h => f.samples ++ [h]
    | none => f.samples
  r.1.setFr c { r.1.fr c with pc := f.pc + 1, samples := places }

/-- Execute the next instruction of context `c` if it runs and the opcode is `op`. A poisoned fetch, SOS read or LDF read is a context
fault and the instruction does nothing (R182); another instruction takes a poisoned word as it stands. -/
def State.instruct (s : State) (c op stall : Nat) (one two : List Nat) (cyc tag : Nat) (body : State → State) : Out :=
  if !(s.live && 1 ≤ c && c < 64 && (s.fr c).phase == .running && !s.programDone c && insOp (s.ins c) == op && s.mayRun c) then .next s
  else
    let reads := s.insReads c
    let s1 := (one.filter (fun k => reads.contains k)).foldl (fun t k => t.eccSingle k true) s
    let hit := two.filter (fun k => reads.contains k)
    let s2 := hit.foldl State.eccDouble s1
    let faults := (s.faultReads c).any (fun k => s2.poisonedAt k)
    let s3 := ite' (!hit.isEmpty) s2 (s2.eccCover (fun d => faults && d == c))
    if faults then .next ((s3.insSpent c cyc stall).contextFault c)
    else .next ((body s3).insDone c cyc stall tag)

/-! ### Moves and arithmetic -/

/-- NOP. -/
def execNop (c stall : Nat) (one two : List Nat) (s : State) : Out := s.instruct c 0x00 stall one two 1 0 id

/-- A reserved opcode acts as NOP, sets satf and counts in op_err (table "Instruction set"). -/
def execReservedOpcode (c stall : Nat) (one two : List Nat) (s : State) : Out :=
  let op := insOp (s.ins c)
  if 0x18 ≤ op then s.instruct c op stall one two 1 0 (fun t => t.opFault c) else .next s

/-- The field an LDF names, if it is bound to the context's frame source (R162). -/
def State.ldfField (s : State) (c : Nat) : Option Int :=
  let w := s.ins c
  let f := s.fr c
  if immBit w 11 then
    (f.inputs.find? (fun p => p.1 == immBits w 0 6)).map (fun p => (p.2.toNat : Int))
  else
    (f.records.find? (fun p => p.1 == 32 * immBits w 5 4 + immBits w 0 5)).map (fun p =>
      let r := p.2
      let k := immBits w 9 2
      if k = 0 then (r % 2 ^ 16 : Nat) else if k = 1 then (r / 2 ^ 16 % 2 ^ 20 : Nat)
      else if k = 2 then (r / 2 ^ 36 % 2 ^ 24 : Nat) else (r / 2 ^ 60 % 16 : Nat))

/-- LDF (R162): dst ← field, or field − A. -/
def execLdf (c stall : Nat) (one two : List Nat) (s : State) : Out :=
  s.instruct c 0x01 stall one two 2 0 (fun t =>
    let w := t.ins c
    let sub := immBit w 12
    match t.ldfField c with
    | none => (t.opFault c).wr c (insDst w) 0
    | some v => (t.readAll c (t.signalsRead c)).wr c (insDst w) (if sub then v - t.opA c else v))

/-- dst ← f(A, B) through sat32, B an operand or the immediate (R159). -/
def State.binary (s : State) (c : Nat) (f : Int → Int → Int) : State :=
  let w := s.ins c
  (s.readAll c (s.signalsRead c)).wr c (insDst w) (f (s.opA c) (s.opB c))

/-- ADD. -/
def execAdd (c stall : Nat) (one two : List Nat) (s : State) : Out :=
  s.instruct c 0x02 stall one two 1 0 (fun t => t.binary c (fun a b => a + b))

/-- SUB. -/
def execSub (c stall : Nat) (one two : List Nat) (s : State) : Out :=
  s.instruct c 0x03 stall one two 1 0 (fun t => t.binary c (fun a b => a - b))

/-- shr_round(A × B, s) with s = imm[5:0]; B is a signal (R159). -/
def State.product (s : State) (c : Nat) : Int :=
  let w := s.ins c
  shrRound (s.opnd c (insA w) * s.opnd c (insB w)) (immBits w 0 6)

/-- MUL. -/
def execMul (c stall : Nat) (one two : List Nat) (s : State) : Out :=
  s.instruct c 0x04 stall one two 2 0 (fun t =>
    let w := t.ins c
    (t.readAll c (t.signalsRead c)).wr c (insDst w) (t.product c))

/-- MAC: dst is read as an operand too (R158). -/
def execMac (c stall : Nat) (one two : List Nat) (s : State) : Out :=
  s.instruct c 0x05 stall one two 2 0 (fun t =>
    let w := t.ins c
    (t.readAll c (t.signalsRead c)).wr c (insDst w) (t.opnd c (insDst w) + t.product c))

/-- dst ← f(A) through sat32. -/
def State.unary (s : State) (c : Nat) (f : Int → Int) : State :=
  let w := s.ins c
  (s.readAll c (s.signalsRead c)).wr c (insDst w) (f (s.opA c))

/-- NEG. -/
def execNeg (c stall : Nat) (one two : List Nat) (s : State) : Out :=
  s.instruct c 0x06 stall one two 1 0 (fun t => t.unary c (fun a => -a))

/-- ABS. -/
def execAbs (c stall : Nat) (one two : List Nat) (s : State) : Out :=
  s.instruct c 0x07 stall one two 1 0 (fun t => t.unary c (fun a => (a.natAbs : Int)))

/-- MIN. -/
def execMin (c stall : Nat) (one two : List Nat) (s : State) : Out :=
  s.instruct c 0x08 stall one two 1 0 (fun t => t.binary c (fun a b => min a b))

/-- MAX. -/
def execMax (c stall : Nat) (one two : List Nat) (s : State) : Out :=
  s.instruct c 0x09 stall one two 1 0 (fun t => t.binary c (fun a b => max a b))

/-- SAT's effect: clamping counts as saturation; lower above upper is an operand fault that gives lower. -/
def State.satOp (s : State) (c : Nat) : State :=
  let w := s.ins c
  let a := s.opA c
  let lo := s.opnd c (insB w)
  let hi := s.opnd c (insB w + 1)
  let s1 := s.readAll c (s.signalsRead c)
  if hi < lo then (s1.opFault c).wr c (insDst w) lo
  else
    let v := max lo (min a hi)
    (ite' (v != a) s1 (s1.satFlag c)).wr c (insDst w) v

/-- SAT. -/
def execSat (c stall : Nat) (one two : List Nat) (s : State) : Out :=
  s.instruct c 0x0A stall one two 1 0 (fun t => t.satOp c)

/-- A relation of CMP; 6 and 7 act as 0. -/
def cmpRel (r : Nat) (a b : Int) : Bool :=
  if r = 1 then a != b else if r = 2 then a < b else if r = 3 then a ≤ b else if r = 4 then b < a else if r = 5 then b ≤ a else a == b

/-- CMP. -/
def execCmp (c stall : Nat) (one two : List Nat) (s : State) : Out :=
  s.instruct c 0x0B stall one two 1 0 (fun t =>
    t.binary c (fun a b => ((cmpRel (immBits (t.ins c) 16 3) a b).toNat : Int)))

/-- SEL: dst ← A if the predicate signal is not zero, else B. -/
def execSel (c stall : Nat) (one two : List Nat) (s : State) : Out :=
  s.instruct c 0x0C stall one two 1 0 (fun t =>
    let w := t.ins c
    let p := immBits w 0 12
    (t.readAll c (t.signalsRead c)).wr c (insDst w) (if t.opnd c p != 0 then t.opnd c (insA w) else t.opnd c (insB w)))

/-! ### Sections and schedules -/

/-- Add a slot's saturation and a set's line to the frame (R153, R175, R188). -/
def State.sectionSat (s : State) (c slot : Nat) (sets : List Nat) : State :=
  let f := s.fr c
  let lines := sets.filterMap (fun i => s.coefLine c i)
  (s.satFlag c).setFr c { s.fr c with sat := f.sat ++ [slot], satLines := f.satLines ++ lines }

/-- One section of context `c` on slot `slot`: set `o`, or a fade from `o` to `n` at frame `j` of 2^k. Answers the state and the
output (R154, R188). -/
def State.sectionStep (s : State) (c slot o : Nat) (fade : Option (Nat × Nat × Nat)) (x : Int) : State × Int :=
  let ro := s.sectionRaw c o slot x
  let r : Int × Bool × List Nat := match fade with
    | none => (sat32 ro, saturates ro, [o])
    | some (n, j, k) =>
      let rn := s.sectionRaw c n slot x
      let v := sat32 ro + shrRound ((sat32 rn - sat32 ro) * (j : Int)) k
      (sat32 v, saturates ro || saturates rn || saturates v, [o, n])
  let x1 := s.slotW c slot 0
  let y1 := s.slotW c slot 2
  let s1 := (((s.setSlotW c slot 1 x1).setSlotW c slot 0 x).setSlotW c slot 3 y1).setSlotW c slot 2 r.1
  (if r.2.1 then s1.sectionSat c slot r.2.2 else s1, r.1)

/-- The cascade: section `i` takes the output of section i − 1 (R155). -/
def State.cascade (s : State) (c slot o : Nat) (fade : Option (Nat × Nat × Nat)) (x : Int) : Nat → State × Int
  | 0 => (s, x)
  | n + 1 =>
    let r := s.sectionStep c slot o fade x
    r.1.cascade c (slot + 1) (o + 1) (fade.map (fun f => (f.1 + 1, f.2))) r.2 n

/-- The number of sections of an SOS. -/
def sosN (w : Nat) : Nat := immBits w 18 4 + 1

/-- Whether an SOS is an operand fault (R500). -/
def State.sosFault (s : State) (c : Nat) : Bool :=
  let w := s.ins c
  let i := 4 * c + immBits w 14 2
  let n := sosN w
  let regions := if immBit w 16 then s.schNa i * s.schNb i else 1
  !s.ownsSlots c (insB w) n || (immBit w 16 && !tbit s.eng.schPresent i)
    || 12287 < immBits w 0 14 + (regions - 1) * n + n - 1

/-- The first coefficient set an SOS uses, and its fade (R183, R188). -/
def State.sosSets (s : State) (c : Nat) : Nat × Option (Nat × Nat × Nat) :=
  let w := s.ins c
  let b := immBits w 0 14
  let n := sosN w
  let k := immBits w 14 2
  let x := s.schF c k
  if !immBit w 16 then (b, none)
  else (b + x.region * n, if x.fading then some (b + x.desired * n, x.j, s.schXf (4 * c + k)) else none)

/-- The cycles of an SOS: 4 + 7n, 6 + 16n while crossfading, its row's maximum as an operand fault (R176, R178, R500): of a
scheduled SOS 6 + 16n, else 4 + 8n (DESIGN CHOICE, log entry 29). -/
def State.sosCycles (s : State) (c : Nat) : Nat :=
  let w := s.ins c
  let n := sosN w
  if s.sosFault c then (if immBit w 16 then 6 + 16 * n else 4 + 8 * n)
  else if (s.sosSets c).2.isSome then 6 + 16 * n else 4 + 7 * n

/-- SOS's effect. -/
def State.sosOp (s : State) (c : Nat) : State :=
  let w := s.ins c
  if s.sosFault c then s.opFault c
  else
    let q := s.sosSets c
    let r := (s.readAll c (s.signalsRead c)).cascade c (insB w) q.1 q.2 (s.opA c) (sosN w)
    r.1.wr c (insDst w) r.2

/-- SOS (R155). -/
def execSos (c stall : Nat) (one two : List Nat) (s : State) : Out :=
  s.instruct c 0x0D stall one two (s.sosCycles c) (s.coefTag c (s.sosSets c).1) (fun t => t.sosOp c)

/-- SCHED's effect: new indices of the signal axes from the committed ones, dst ← the region they form (R185, R500). -/
def State.schedOp (s : State) (c : Nat) : State :=
  let w := s.ins c
  let k := immBits w 0 2
  let i := 4 * c + k
  if !tbit s.eng.schPresent i then s.opFault c
  else
    let a := s.get (R.ENG_SCH_CFG_src_a i) == 1
    let b := s.get (R.ENG_SCH_CFG_src_b i) == 1
    let old := tget s.eng.schIdx i (0, 0)
    let hy (j : Nat) : Int := signed 32 (s.frameGet c (R.ENG_SCH_HYST_hyst i j))
    let ia := if a then axisIndex old.1 (s.opnd c (insA w)) (s.schBps c i false) (hy 0) (s.schNa i) else old.1
    let ib := if b then axisIndex old.2 (s.opnd c (insB w)) (s.schBps c i true) (hy 1) (s.schNb i) else old.2
    let s1 := s.readAll c (s.signalsRead c)
    let s2 := s1.setFr c { s1.fr c with newIdx := tset (s1.fr c).newIdx k (ia, ib) }
    s2.wr c (insDst w) (s.regionOf i ia ib (s.fr c).plan : Nat)

/-- SCHED (R185). -/
def execSched (c stall : Nat) (one two : List Nat) (s : State) : Out :=
  s.instruct c 0x0E stall one two 6 0 (fun t => t.schedOp c)

/-- MINSEL (R191, R500): A enters the group; the working values are untouched. -/
def execMinsel (c stall : Nat) (one two : List Nat) (s : State) : Out :=
  s.instruct c 0x0F stall one two 2 0 (fun t =>
    let w := t.ins c
    let g := immBits w 0 4
    if !((t.members g).any (fun m => t.memberIs g m c)) then t.opFault c
    else
      let t1 := t.readAll c (t.signalsRead c)
      t1.setFr c { t1.fr c with minsel := (t1.fr c).minsel ++ [(g, t.opA c)] })

/-! ### Transforms (R160, R161) -/

/-- Write consecutive signals. -/
def State.wrVec (s : State) (c dst : Nat) : List Int → State
  | [] => s
  | v :: r => (s.wr c dst v).wrVec c (dst + 1) r

/-- CLARKE (R160). -/
def execClarke (c stall : Nat) (one two : List Nat) (s : State) : Out :=
  s.instruct c 0x10 stall one two 3 0 (fun t =>
    let w := t.ins c
    let a := insA w
    let v (k : Nat) : Int := t.opnd c (a + k)
    if immBit w 0 then
      let z := immBit w 1
      (t.readAll c (t.signalsRead c)).wrVec c (insDst w) (clarkeInv (v 0) (v 1) (if z then v 2 else 0))
    else (t.readAll c (t.signalsRead c)).wrVec c (insDst w) (clarkeFwd (v 0) (v 1) (v 2) (immBit w 1)))

/-- Operand B as an angle (R151). -/
def State.angleB (s : State) (c : Nat) : Nat := unsigned 32 (s.opnd c (insB (s.ins c)))

/-- ROT (R161). -/
def execRot (c stall : Nat) (one two : List Nat) (s : State) : Out :=
  s.instruct c 0x11 stall one two 5 0 (fun t =>
    let w := t.ins c
    let al := t.opnd c (insA w)
    let be := t.opnd c (insA w + 1)
    let r := rotA al be (t.angleB c)
    (t.readAll c (t.signalsRead c)).wrVec c (insDst w) [r.1, r.2])

/-- IROT (R161). -/
def execIrot (c stall : Nat) (one two : List Nat) (s : State) : Out :=
  s.instruct c 0x12 stall one two 5 0 (fun t =>
    let w := t.ins c
    let d := t.opnd c (insA w)
    let q := t.opnd c (insA w + 1)
    let r := irotA d q (t.angleB c)
    (t.readAll c (t.signalsRead c)).wrVec c (insDst w) [r.1, r.2])

/-! ### DIV, SQRT, TRACK -/

/-- The signed quotient rounded half to even; the divisor is not zero (R159). -/
def divEven (n d : Int) : Int := if d < 0 then divRound (-n) d.natAbs else divRound n d.natAbs

/-- DIV (R159): a zero divisor saturates by the sign of A. -/
def execDiv (c stall : Nat) (one two : List Nat) (s : State) : Out :=
  s.instruct c 0x13 stall one two 20 0 (fun t =>
    let w := t.ins c
    let a := t.opnd c (insA w)
    let b := t.opnd c (insB w)
    let t1 := t.readAll c (t.signalsRead c)
    if b = 0 then
      (t1.satFlag c).wr c (insDst w) (if 0 < a then satMax else if a < 0 then satMin else 0)
    else t1.wr c (insDst w) (divEven (a * 2 ^ immBits w 0 5) b))

/-- SQRT (R159): a negative operand gives 0 with saturation. -/
def execSqrt (c stall : Nat) (one two : List Nat) (s : State) : Out :=
  s.instruct c 0x14 stall one two 18 0 (fun t =>
    let w := t.ins c
    let a := t.opnd c (insA w)
    let t1 := t.readAll c (t.signalsRead c)
    if a < 0 then (t1.satFlag c).wr c (insDst w) 0
    else t1.wr c (insDst w) (sqrtRound (a.toNat * 2 ^ immBits w 0 5) : Nat))

/-- The tracker's state (table "TRACK state"). -/
structure TrackSt where
  ref : Int
  pLast : Int
  mode : Nat
  down : Bool
  settle : Nat
  cnt : Int
  vBest : Int
  pBest : Int
  deriving DecidableEq, Repr

/-- The captured value of engine input `i` as context `c` reads it: its frame's for an input of its own source, else the one that the
input's source captured last (R167, R197). -/
def State.trackTrigger (s : State) (c i : Nat) : Bool := tget (s.fr c).inputs i (s.on (R.ENG_EI_captured i))

/-- The tracker's parameters and inputs (R197). -/
structure TrackIn where
  p : Int
  cap : Int
  step : Int
  vMin : Int
  vMax : Int
  dpTh : Int
  sweepStep : Int
  period : Int
  settle : Int
  trigger : Bool
  deriving DecidableEq, Repr

/-- R198. A settle parameter outside 0 to 255 counts modulo 256 (DESIGN CHOICE, log entry 30). -/
def trackStep (x : TrackSt) (i : TrackIn) : TrackSt :=
  let cnt := x.cnt + 1
  let st := (i.settle % 256).toNat
  let capped : TrackSt := { x with cnt := cnt, ref := min (x.ref + i.step) i.vMax, mode := 2, down := false }
  let y : TrackSt :=
    if x.mode = 1 then
      if i.cap < i.p then capped
      else if 0 < x.settle then { x with cnt := cnt, settle := x.settle - 1 }
      else
        let b : TrackSt := if x.pBest < i.p then { x with cnt := cnt, pBest := i.p, vBest := x.ref } else { x with cnt := cnt }
        if b.ref - i.sweepStep < i.vMin then { b with ref := b.vBest, mode := 0, down := true }
        else { b with ref := b.ref - i.sweepStep, settle := st }
    else if x.ref < i.vMin || i.vMax < x.ref || i.trigger || (0 < i.period && i.period ≤ cnt) then
      { x with mode := 1, ref := i.vMax, pBest := satMin, vBest := i.vMax, settle := st, cnt := 0 }
    else if i.cap < i.p then capped
    else
      let dp := i.p - x.pLast
      if i.dpTh < (dp.natAbs : Int) then
        let down := if i.p < x.pLast then !x.down else x.down
        { x with cnt := cnt, mode := 0, down := down, ref := clampLH i.vMin i.vMax (if down then x.ref - i.step else x.ref + i.step) }
      else { x with cnt := cnt, mode := 0 }
  { y with pLast := i.p }

/-- The tracker's mode and flags word: ctl with mode, down and the settle count. -/
def trackCtl (y : TrackSt) : Int := (y.mode + 4 * y.down.toNat + 256 * y.settle : Nat)

/-- TRACK's effect. Slots outside the context's own make it an operand fault, as R500 has it for SOS (log entry 7). -/
def State.trackOp (s : State) (c : Nat) : State :=
  let w := s.ins c
  let a := insA w
  let j := insB w
  let pb := immBits w 0 12
  if !s.ownsSlots c j 2 then s.opFault c
  else
    let ctl := unsigned 32 (s.slotW c j 2)
    let x : TrackSt := ⟨s.slotW c j 0, s.slotW c j 1, ctl % 4, ctl / 4 % 2 = 1, ctl / 256 % 256, s.slotW c j 3, s.slotW c (j + 1) 0, s.slotW c (j + 1) 1⟩
    let par (k : Nat) : Int := s.opnd c (pb + k)
    let trig := immBit w 18 && s.trackTrigger c (immBits w 12 6)
    let y := trackStep x ⟨s.opnd c a, s.opnd c (a + 1), par 0, par 1, par 2, par 3, par 4, par 5, par 6, trig⟩
    let vals := [y.ref, y.pLast, y.cnt, y.vBest, y.pBest]
    let s1 := s.readAll c (s.signalsRead c)
    let s2 := ite' (vals.any saturates) s1 (s1.satFlag c)
    let s3 := (((s2.setSlotW c j 0 (sat32 y.ref)).setSlotW c j 1 (sat32 y.pLast)).setSlotW c j 2 (trackCtl y)).setSlotW c j 3 (sat32 y.cnt)
    let s4 := (s3.setSlotW c (j + 1) 0 (sat32 y.vBest)).setSlotW c (j + 1) 1 (sat32 y.pBest)
    (s4.wr c (insDst w) y.ref).wr c (insDst w + 1) (trackCtl y)

/-- TRACK (R197, R198). -/
def execTrack (c stall : Nat) (one two : List Nat) (s : State) : Out :=
  s.instruct c 0x15 stall one two 8 0 (fun t => t.trackOp c)

/-! ### Outputs (R172 to R174) -/

/-- OUT's effect: the last OUT to a target in the frame counts; a target not owned, a reserved one and a fraction to a period
are ownership faults (R172, R173). -/
def State.outOp (s : State) (c : Nat) : State :=
  let w := s.ins c
  let t := insDst w
  let abs := immBit w 0
  let a := unsigned 32 (s.opnd c (insA w))
  let s1 := s.readAll c (s.signalsRead c)
  if outReserved t || tnum s.eng.outOwner t != c || (outIsPeriod t && !abs) then s1.ownFault c
  else
    let v := if abs && 2 ^ 31 ≤ a then 2 ^ 31 - 1 else a
    let gen := if abs then unsigned 32 (s.opnd c (insB w)) % 256 else 0
    s1.setFr c { s1.fr c with outs := tset (s1.fr c).outs t ⟨v, abs, gen⟩ }

/-- OUT (R172). -/
def execOut (c stall : Nat) (one two : List Nat) (s : State) : Out :=
  s.instruct c 0x16 stall one two 2 0 (fun t => t.outOp c)

/-- EVT (R174): the frame's value of a line; a line of another context is an ownership fault. -/
def execEvt (c stall : Nat) (one two : List Nat) (s : State) : Out :=
  s.instruct c 0x17 stall one two 1 0 (fun t =>
    let w := t.ins c
    let l := immBits w 0 4
    let o := tnum t.eng.evtOwner l
    let t1 := t.readAll c (t.signalsRead c)
    if o != 0 && o != c then t1.ownFault c
    else t1.setFr c { t1.fr c with evt := tset (t1.fr c).evt l (t.opA c != 0) })

end Sys2Proof.Machine
end

