-- ==== Sys2Proof/Machine/Image.lean ====
section
/-!
DEFINITION. The image as bytes: header and section-table checks (R46 to R48, R501), the records of CTXDESC, GLAZE, OWNERS,
ROLES and PUBLIC (R50, R150, R164, R183, R190, R498), and what an accepted image writes.
-/

namespace Sys2Proof.Machine

/-! ### Header and section table (R46 to R48, R501) -/

/-- The header's fields. -/
def headerOf (b : List Byte) : Header :=
  { svn := leAt b 9 1, flags := leAt b 0x0A 2, imageLength := leAt b 0x0C 4, flashDiv := leAt b 0x12 1,
    slowestEplan := leAt b 0x13 1, bootPolicy := leAt b 0x14 4, buildId := slice b 0x18 8 }

/-- Entry `i` of the section table. -/
def sectionAt (b : List Byte) (i : Nat) : Section :=
  let o := 0x100 + 16 * i
  { type := leAt b o 2, flags := leAt b (o + 2) 2, offset := leAt b (o + 4) 4, length := leAt b (o + 8) 4, target := leAt b (o + 12) 4 }

/-- The header's section_count. -/
def sectionCount (b : List Byte) : Nat := leAt b 0x10 2

/-- The table's entries. -/
def sectionsOf (b : List Byte) : List Section := (List.range (sectionCount b)).map (sectionAt b)

/-- Whether a section is zero_fill. -/
def Section.zeroFill (x : Section) : Bool := x.flags % 2 == 1

/-- Whether a section asks for readback. -/
def Section.readback (x : Section) : Bool := x.flags / 2 % 2 == 1

/-- Whether a type uses its target field; the same types allow zero_fill (R47). -/
def usesTarget (type : Nat) : Bool := 2 ≤ type && type ≤ 7

/-- The header is malformed: code 0x02 (R46). -/
def headerBad (b : List Byte) : Bool :=
  let h := headerOf b
  leAt b 4 2 != 1 || 32 < h.svn || 4 ≤ h.flags || (slice b 0x40 192).any (fun x => x != 0)
  || !(h.flashDiv == 0 || h.flashDiv == 2 || h.flashDiv == 3 || h.flashDiv == 4) || 3 < h.slowestEplan
  || h.imageLength % 4 != 0 || 16776800 < h.imageLength

/-- Entry `i` breaks a rule of R47 or R48: code 0x03. PLANS comes first and only there. -/
def entryBad (i : Nat) (x : Section) : Bool :=
  x.type == 0 || 13 < x.type || ((i == 0) != (x.type == 1)) || 4 ≤ x.flags || (x.zeroFill && (x.offset != 0 || !usesTarget x.type))
  || x.length == 0 || x.length % 4 != 0 || x.offset % 4 != 0 || (usesTarget x.type && x.target % 4 != 0)

/-- Entry `x` lies in the header or table, or runs past image_length: code 0x04. -/
def entryOutside (count len : Nat) (x : Section) : Bool :=
  !x.zeroFill && (x.offset < 0x100 + 16 * count || len < x.offset + x.length)

/-- The base of the region of an address and its end (R37); addresses above the map have none. -/
def regionOf (a : Nat) : Option (Nat × Nat) :=
  if 0x0E000000 ≤ a then none
  else if a / 2 ^ 24 ≠ 4 then some (a / 2 ^ 24 * 2 ^ 24, (a / 2 ^ 24 + 1) * 2 ^ 24)
  else
    let k := min 4 (a / 2 ^ 20 % 16)
    some (0x04000000 + k * 2 ^ 20, if k = 4 then 0x05000000 else 0x04000000 + (k + 1) * 2 ^ 20)

/-- The target region of a section type (R48). -/
def targetOf (x : Section) : Option (Nat × Nat) :=
  if x.type = 2 then
    let r := x.target / 2 ^ 24
    if r = 0 || r = 0x0C || r = 0x0D then none else regionOf x.target
  else if x.type = 3 then some (0x04100000, 0x04148000)
  else if x.type = 4 then some (0x04200000, 0x04210000)
  else if x.type = 5 then some (0x04300000, 0x04310000)
  else if x.type = 6 then some (0x04400000, 0x04404000)
  else if x.type = 7 then some (0x02004000, 0x02008000)
  else some (0, 2 ^ 32)

/-- Section `x` runs past its target region: code 0x05 (R48). -/
def entryPastTarget (x : Section) : Bool :=
  usesTarget x.type && (match targetOf x with
    | some (lo, hi) => x.target < lo || hi < x.target + x.length
    | none => true)

/-- The first fault of the table entries, in index order: code and section (R501). -/
def tableFault (count len : Nat) : Nat → List Section → Option (Nat × Nat)
  | _, [] => none
  | i, x :: r =>
    if entryBad i x then some (0x03, i)
    else if entryOutside count len x then some (0x04, i)
    else if entryPastTarget x then some (0x05, i)
    else tableFault count len (i + 1) r

/-- A slot's first byte in the flash (R40). -/
def slotBase (slot : Nat) : Nat := if slot = 0 then 0 else 0x01000000

/-- The first header or table check that fails, in the order of R501: code and section. -/
def headerFault (slot : Nat) (density : Option Nat) (svn : Nat) (b : List Byte) : Option (Nat × Nat) :=
  let h := headerOf b
  let past : Bool := match density with
    | some d => d < slotBase slot + h.imageLength + 416
    | none => false
  if slice b 0 4 != [0x54, 0x47, 0x49, 0x4D] then some (0x01, 0)
  else if leAt b 6 2 != 0x4896 || 0x11 < leAt b 8 1 then some (0x12, 0)
  else if headerBad b then some (0x02, 0)
  else if past then some (0x11, 0)
  else if h.svn < svn then some (0x0E, 0)
  else if sectionCount b == 0 || 64 < sectionCount b then some (0x03, 0)
  else tableFault (sectionCount b) h.imageLength 0 (sectionsOf b)

/-! ### Records -/

/-- The sections of one type with their index, entry and data. -/
def State.secs (s : State) (type : Nat) : List (Nat × Section × List Byte) :=
  ((List.range s.boot.sections.length).map (fun i => (i, s.boot.sections.getD i { }, tget s.boot.sectionData i []))).filter
    (fun x => x.2.1.type == type)

/-- A context record (R164). -/
structure CtxRec where
  ctx : Nat := 0
  fsrc : Nat := 0
  flags : Nat := 0
  start : Nat := 0
  len : Nat := 0
  sections : Nat := 0
  first : Nat := 0
  nImports : Nat := 0
  glaze : Nat := 0
  commit : Nat := 0
  imports : List Nat := []
  deriving DecidableEq, Repr

/-- A schedule record (R183). -/
structure SchRec where
  ctx : Nat := 0
  sch : Nat := 0
  axes : Nat := 0
  na : Nat := 0
  nb : Nat := 0
  xf : Nat := 0
  init : Nat := 0
  map : Nat := 0
  hystA : Nat := 0
  hystB : Nat := 0
  bps : List Nat := []
  deriving DecidableEq, Repr

/-- One member of a group record (R190). -/
structure MemRec where
  kind : Nat := 0
  ctx : Nat := 0
  signal : Nat := 0
  lo : Nat := 0
  hi : Nat := 0
  deriving DecidableEq, Repr

/-- A group record (R190). -/
structure GrpRec where
  group : Nat := 0
  fsrc : Nat := 0
  out : Nat := 0
  members : List MemRec := []
  nMembers : Nat := 0
  deriving DecidableEq, Repr

/-- A record of a CTXDESC section; `bad` is an unknown kind or a record that runs past the section. -/
inductive DescRec where
  | ctx (r : CtxRec)
  | sch (r : SchRec)
  | grp (r : GrpRec)
  | bad
  deriving DecidableEq, Repr

/-- The context record at the head of `b`. -/
def ctxRecOf (b : List Byte) : CtxRec :=
  { ctx := leAt b 1 1, fsrc := leAt b 2 1, flags := leAt b 3 1, start := leAt b 4 2, len := leAt b 6 1, sections := leAt b 7 1,
    first := leAt b 8 2, nImports := leAt b 0x0A 1, glaze := leAt b 0x0B 1, commit := leAt b 0x0C 4,
    imports := (List.range (leAt b 0x0A 1)).map (fun k => leAt b (0x10 + 2 * k) 2) }

/-- How many breakpoints a schedule record holds: those of its signal axes (R183). -/
def SchRec.bpCount (r : SchRec) : Nat :=
  (if r.axes % 4 = 1 then r.na - 1 else 0) + (if r.axes / 4 % 4 = 1 then r.nb - 1 else 0)

/-- The schedule record at the head of `b`. -/
def schRecOf (b : List Byte) : SchRec :=
  let r : SchRec := { ctx := leAt b 1 1, sch := leAt b 2 1, axes := leAt b 3 1, na := leAt b 4 1, nb := leAt b 5 1, xf := leAt b 6 1,
                      init := leAt b 7 1, map := leAt b 8 4, hystA := leAt b 0x0C 4, hystB := leAt b 0x10 4 }
  { r with bps := (List.range r.bpCount).map (fun k => leAt b (0x14 + 4 * k) 4) }

/-- The group record at the head of `b`. -/
def grpRecOf (b : List Byte) : GrpRec :=
  { group := leAt b 1 1, fsrc := leAt b 3 1, out := leAt b 4 2, nMembers := leAt b 2 1,
    members := (List.range (leAt b 2 1)).map (fun k =>
      { kind := leAt b (8 + 12 * k) 1, ctx := leAt b (9 + 12 * k) 1, signal := leAt b (10 + 12 * k) 2,
        lo := leAt b (12 + 12 * k) 4, hi := leAt b (16 + 12 * k) 4 }) }

/-- The records of a CTXDESC section. -/
def descRecs : Nat → List Byte → List DescRec
  | 0, _ => []
  | n + 1, b =>
    if b.isEmpty then []
    else
      let kind := leAt b 0 1
      let size := if kind = 1 then 16 + 4 * ((leAt b 0x0A 1 + 1) / 2)
        else if kind = 2 then 20 + 4 * (schRecOf b).bpCount
        else if kind = 3 then 8 + 12 * leAt b 2 1 else 0
      if size = 0 || b.length < size then [.bad]
      else
        (if kind = 1 then DescRec.ctx (ctxRecOf b) else if kind = 2 then .sch (schRecOf b) else .grp (grpRecOf b))
          :: descRecs n (b.drop size)

/-- Every record of the image with the index of its section. -/
def State.descs (s : State) : List (Nat × DescRec) :=
  (s.secs 8).flatMap (fun x => (descRecs (x.2.2.length + 1) x.2.2).map (fun r => (x.1, r)))

/-- The context records. -/
def State.ctxRecs (s : State) : List (Nat × CtxRec) :=
  s.descs.filterMap (fun x => match x.2 with
    | .ctx r => some (x.1, r)
    | _ => none)

/-- The schedule records. -/
def State.schRecs (s : State) : List (Nat × SchRec) :=
  s.descs.filterMap (fun x => match x.2 with
    | .sch r => some (x.1, r)
    | _ => none)

/-- The group records. -/
def State.grpRecs (s : State) : List (Nat × GrpRec) :=
  s.descs.filterMap (fun x => match x.2 with
    | .grp r => some (x.1, r)
    | _ => none)

/-- The patches of a GLAZE section (R50). -/
def patchesOf (b : List Byte) : List Patch :=
  (List.range (leAt b 2 2)).map (fun k => ⟨leAt b (16 + 12 * k) 4, leAt b (20 + 12 * k) 4, leAt b (24 + 12 * k) 4⟩)

/-- The image's glazes: section, slot, patches. -/
def State.glazeSecs (s : State) : List (Nat × Nat × List Patch) :=
  (s.secs 10).map (fun x => (x.1, leAt x.2.2 0 1, patchesOf x.2.2))

/-- One OWNERS entry: section, number, kind, owner and its reserved bits (R150). -/
structure OwnRec where
  section_ : Nat := 0
  number : Nat := 0
  kind : Nat := 0
  owner : Nat := 0
  zero : Nat := 0
  deriving DecidableEq, Repr

/-- The OWNERS entries in order. -/
def State.ownRecs (s : State) : List OwnRec :=
  (s.secs 13).flatMap (fun x => (List.range (x.2.2.length / 4)).map (fun k =>
    let w := leAt x.2.2 (4 * k) 4
    { section_ := x.1, number := w % 4096, kind := w / 2 ^ 12 % 4, owner := w / 2 ^ 14 % 64, zero := w / 2 ^ 20 }))

/-! ### What sections write -/

/-- Whether an address is a word of an engine store. -/
def isStore (a : Nat) : Bool :=
  (0x04100000 ≤ a && a < 0x04148000) || (0x04200000 ≤ a && a < 0x04210000) || (0x04300000 ≤ a && a < 0x04310000)
  || (0x04400000 ≤ a && a < 0x04404000)

/-- The bits of a word that the loader sets: those that register agents or glazes write, the read-only ones that the rules give
to REGS sections, and every bit of a signal; the rest is ignored (R10, R11, R47; log entry 12). -/
def loadMask (a : Nat) : Word :=
  match regFind a with
  | some h => BitVec.ofNat 32 h.wd.rw ||| BitVec.ofNat 32 h.wd.gl ||| BitVec.ofNat 32 h.wd.im
  | none => if isStore a then BitVec.allOnes 32 else 0

/-- The loader writes one word of a REGS, ROUTE or store section; bits that a section does not set keep their reset value (R10). -/
def State.loadWord (s : State) (a : Nat) (w : Word) : State := s.setWord a (maskIn (s.word a) w (loadMask a))

/-- The words of a section: its data, or zeros (R47). -/
def sectionWords (x : Section) (b : List Byte) : List Word :=
  if x.zeroFill then List.replicate (x.length / 4) 0 else leWords b (x.length / 4)

/-- Write words upwards from an address. -/
def State.loadWords (s : State) (a : Nat) : List Word → State
  | [] => s
  | w :: r => (s.loadWord a w).loadWords (a + 4) r

/-- Write one section that has a target. -/
def State.loadSection (s : State) (x : Section) (b : List Byte) : State := s.loadWords x.target (sectionWords x b)

/-- Whether a section's words go to an engine store. -/
def toStore (type : Nat) : Bool := 3 ≤ type && type ≤ 6

/-- A section's store words back at their reset values (R54). -/
def State.clearSection (s : State) (x : Section) : State :=
  { s with regs := s.regs.filter (fun p => p.1 < x.target || x.target + x.length ≤ p.1) }

/-- A word of PLANS as a CLK register holds it: reserved bits are ignored (R11, R499). -/
def planWord (a n : Nat) : Word :=
  match regFind a with
  | some h => BitVec.ofNat 32 n &&& BitVec.ofNat 32 h.wd.ro
  | none => 0

/-- PLANS into the CLK registers, with the bands that were found (R82, R83, R499). -/
def State.loadPlans (s : State) (b : List Byte) : State :=
  let defd := leAt b 6 2
  let s1 := s.setWord R.CLK_REF_SEL (planWord R.CLK_REF_SEL (leAt b 0 4))
  forUpTo 12 (fun i t =>
    if defd / 2 ^ i % 2 = 1 then
      let band := s.boot.bands.any (fun p => p.1 == i)
      let t1 := ((t.setWord (R.CLK_PLAN i) (planWord (R.CLK_PLAN i) (leAt b (8 + 8 * i) 4))).setWord (R.CLK_PLAN_FRAC i)
        (planWord (R.CLK_PLAN_FRAC i) (leAt b (12 + 8 * i) 4)))
      ((t1.put (R.CLK_PLAN_band i) (tnum s.boot.bands i)).putB (R.CLK_PLAN_valid i) band).putB (R.CLK_PLAN_defined i) true
    else t) s1

/-- A context record into the ENG_CTX_ registers (R164, R171); `enWritten` says that a REGS section writes its en. -/
def State.loadCtx (s : State) (r : CtxRec) (enWritten : Bool) : State :=
  let c := r.ctx
  let s1 := (((s.put (R.ENG_CTX_CFG_fsrc c) r.fsrc).put (R.ENG_CTX_CFG_policy c) r.flags).put (R.ENG_CTX_CFG_ovr_line c) (r.flags / 4)).put
    (R.ENG_CTX_CFG_ovr_en c) (r.flags / 32)
  let s2 := ((s1.put (R.ENG_CTX_CFG_deferrable c) (r.flags / 64)).put (R.ENG_CTX_CFG_half_rate_glaze c) r.glaze).put (R.ENG_CTX_PROG_prog_start c) r.start
  let s3 := ((s2.put (R.ENG_CTX_PROG_len_m1 c) (r.len - 1)).put (R.ENG_CTX_COMMIT_offset c) r.commit).put (R.ENG_CTX_RES_first_slot c) r.first
  let s4 := (s3.put (R.ENG_CTX_RES_sections c) r.sections).put (R.ENG_CTX_RES_imports c) r.nImports
  let s5 := ite' enWritten (s4.putB (R.ENG_CTX_CTL_en c) true) s4
  let owned := ((s.ownRecs.filter (fun o => o.kind == 0 && o.owner == c)).map (fun o => o.number))
  s5.setCtx c { present := true, imports := r.imports, owned := owned }

/-- A schedule record into the ENG_SCH_ registers, at its initial region (R183, R187). -/
def State.loadSch (s : State) (r : SchRec) : State :=
  let i := 4 * r.ctx + r.sch
  let s1 := (((s.put (R.ENG_SCH_CFG_src_a i) r.axes).put (R.ENG_SCH_CFG_src_b i) (r.axes / 4)).put (R.ENG_SCH_CFG_na_m1 i) (r.na - 1)).put
    (R.ENG_SCH_CFG_nb_m1 i) (r.nb - 1)
  let s2 := ((s1.put (R.ENG_SCH_CFG_xf i) r.xf).put (R.ENG_SCH_CFG_init_region i) r.init).put (R.ENG_SCH_MAP_plan_map i) r.map
  let s3 := (s2.put (R.ENG_SCH_HYST_hyst i 0) r.hystA).put (R.ENG_SCH_HYST_hyst i 1) r.hystB
  let s4 := forUpTo r.bps.length (fun k t => t.put (R.ENG_SCH_BP_bp i k) (r.bps.getD k 0)) s3
  { s4 with eng := { s4.eng with schPresent := tset s4.eng.schPresent i true } }.schDrain i

/-- A group record into the ENG_GRP_ registers; `slots` gives each context member's tracked slot (R190, R191). -/
def State.loadGrp (s : State) (r : GrpRec) (slots : Nat → Nat) : State :=
  let g := r.group
  let s1 := ((s.put (R.ENG_GRP_CFG_fsrc g) r.fsrc).put (R.ENG_GRP_CFG_members g) r.nMembers).put (R.ENG_GRP_CFG_out g) r.out
  forUpTo (min 8 r.members.length) (fun k t =>
    let m := r.members.getD k { }
    let t1 := ((t.put (R.ENG_GRP_MEM_kind g k) m.kind).put (R.ENG_GRP_MEM_ctx g k) m.ctx).put (R.ENG_GRP_MEM_signal g k) m.signal
    let t2 := t1.put (R.ENG_GRP_MEM_track_slot g k) (if m.kind = 0 then slots m.ctx else 0)
    (t2.put (R.ENG_GRP_MEM_lo g k) m.lo).put (R.ENG_GRP_MEM_hi g k) m.hi) s1

/-- The kind-1 numbers of board publisher `k`: metering, governor, pulse inputs, twin (R18). -/
def publisherRange (k n : Nat) : Bool :=
  if k = 0 then 32 ≤ n && n < 64 else if k = 1 then 64 ≤ n && n < 80 else if k = 2 then 80 ≤ n && n < 96 else 96 ≤ n && n < 128

/-- The source of board publisher `k`: a kind-1 entry of OWNERS in its range binds it; the governor's is GOV_CFG.fsrc where none
does (R18, R349; log entry 17). -/
def State.pubBound (s : State) (k : Nat) : Nat :=
  match s.ownRecs.find? (fun o => o.kind == 1 && publisherRange k o.number) with
  | some o => o.owner
  | none => if k = 1 then s.get R.GOV_CFG_fsrc else 16

/-- OWNERS into the ownership tables; parameters hold their source plus one (R149, R150). -/
def State.loadOwners (s : State) : State :=
  let s1 := s.ownRecs.foldl (fun t o =>
    if o.kind = 0 then { t with eng := { t.eng with sigOwner := tset t.eng.sigOwner o.number o.owner } }
    else if o.kind = 1 && 256 ≤ o.number then { t with eng := { t.eng with param := tset t.eng.param o.number (o.owner + 1) } }
    else if o.kind = 2 then { t with eng := { t.eng with outOwner := tset t.eng.outOwner o.number o.owner } }
    else t) s
  { s1 with eng := { s1.eng with pubOf := (List.range 4).map (fun k => (k, s.pubBound k)) } }

/-- ROLES: keys and grants (R498); of two such sections the last one stands (DESIGN CHOICE, log entry 12). -/
def State.loadRoles (s : State) : State :=
  (s.secs 11).foldl (fun t x =>
    let b := x.2.2
    let n := leAt b 0 1
    let grant (k : Nat) : Grant := ⟨leAt b (4 + 96 * n + 12 * k) 4, leAt b (8 + 96 * n + 12 * k) 4, leAt b (12 + 96 * n + 12 * k) 1⟩
    let keys := (List.range n).map (fun k => slice b (4 + 96 * k) 96)
    { t with boot := { t.boot with operatorKeys := keys, grants := (List.range (leAt b 1 1)).map grant } }) s

/-- PUBLIC: ranges and the attest flag (R498); of two such sections the last one stands (DESIGN CHOICE, log entry 12). -/
def State.loadPublic (s : State) : State :=
  (s.secs 12).foldl (fun t x =>
    let b := x.2.2
    let range (k : Nat) : Grant := ⟨leAt b (8 + 8 * k) 4, leAt b (12 + 8 * k) 4, 0⟩
    { t with boot := { t.boot with publicRanges := (List.range (leAt b 4 1)).map range, publicAttest := leAt b 0 4 % 2 == 1 } }) s

/-- Whether a REGS section writes the word at an address. -/
def State.regsWrites (s : State) (a : Nat) : Bool :=
  (s.secs 2).any (fun x => x.2.1.target ≤ a && a < x.2.1.target + x.2.1.length)

/-! ### Programs -/

/-- Instruction `k` of the image's program store. -/
def State.progAt (s : State) (k : Nat) : Nat := s.word64 (R.PROG k)

/-- The instructions of a context record, with their positions. -/
def State.progOf (s : State) (r : CtxRec) : List (Nat × Nat) := (List.range r.len).map (fun k => (k, s.progAt (r.start + k)))

/-- The slot of the last section of an SOS. -/
def sosLast (w : Nat) : Nat := insB w + immBits w 18 4

/-- The tracked slot of a context: the last section of the SOS that feeds its MINSEL (R191). -/
def State.trackSlot (s : State) (c : Nat) : Nat :=
  match s.ctxRecs.find? (fun x => x.2.ctx == c) with
  | none => 0
  | some (_, r) =>
    let p := s.progOf r
    match p.find? (fun x => insOp x.2 == 0x0F) with
    | none => 0
    | some (k, w) =>
      match (p.filter (fun x => x.1 < k && insOp x.2 == 0x0D && insDst x.2 == insA w)).getLast? with
      | some x => sosLast x.2
      | none => 0

/-- The owners of the EVT lines: each line belongs to the context whose program names it (R174). -/
def State.loadEvt (s : State) : State :=
  s.ctxRecs.foldl (fun t x => (s.progOf x.2).foldl (fun u y =>
    if insOp y.2 = 0x17 then { u with eng := { u.eng with evtOwner := tset u.eng.evtOwner (immBits y.2 0 4) x.2.ctx } } else u) t) s

/-! ### Worst cases (R176) -/

/-- The most cycles that an opcode takes, SOS apart (table Instruction set). -/
def opCycles (op : Nat) : Nat :=
  match op with
  | 0x01 | 0x04 | 0x05 | 0x0F | 0x16 => 2
  | 0x0E => 6
  | 0x10 => 3
  | 0x11 | 0x12 => 5
  | 0x13 => 20
  | 0x14 => 18
  | 0x15 => 8
  | _ => 1

/-- The most cycles of an instruction of context `c` (R176). -/
def State.maxCycles (s : State) (c w : Nat) : Nat :=
  if insOp w = 0x0D then
    let fades := immBit w 16 && s.schRecs.any (fun x => x.2.ctx == c && x.2.sch == immBits w 14 2 && x.2.xf != 0)
    if fades then 6 + 16 * sosN w else 4 + 8 * sosN w
  else opCycles (insOp w)

/-- A context's worst case (R176). -/
def State.wcetOf (s : State) (r : CtxRec) : Nat := (s.progOf r).foldl (fun n x => n + s.maxCycles r.ctx x.2) 16

/-- The SCHED section: its flags word, or none without a section. -/
def State.schedSec (s : State) : Option (Nat × List Byte) := (s.secs 9).head?.map (fun x => (x.1, x.2.2))

/-- Whether no_check is set (R176). -/
def State.noCheck (s : State) : Bool :=
  match s.schedSec with
  | some (_, b) => leAt b 0 4 % 2 == 1
  | none => false

end Sys2Proof.Machine
end

