-- ==== Sys2Proof/Machine/LoadCheck.lean ====
section
/-!
DEFINITION. The load checks over the candidate state, in which an image's sections are applied: every fault is a pair of a
code and a section index, 0 where it belongs to no section (R54, R206 and the rules that each check cites). A check that a
rule makes "in the base or any glaze" looks at the base words and at the words as each glaze alone leaves them.
-/

namespace Sys2Proof.Machine

/-- A fault. -/
abbrev LoadFault := Nat × Nat

/-- A fault of code `code` at section `sec` if `c`. -/
def faultIf (c : Bool) (code sec : Nat) : List LoadFault := if c then [(code, sec)] else []

/-- A consistency fault if `c`. -/
def bad (c : Bool) (sec : Nat := 0) : List LoadFault := faultIf c 0x10 sec

/-! ### Words as glazes leave them -/

/-- The base and each glaze alone, as lists of patches. -/
def State.variants (s : State) : List (List Patch) := [] :: s.glazeSecs.map (fun g => g.2.2)

/-- Word `a` as the patches `v` leave it (R52). -/
def State.wordIn (s : State) (v : List Patch) (a : Nat) : Word :=
  (v.filter (fun p => p.addr == a)).foldl (fun w p => patchWord w p.value p.mask) (s.word a)

/-- A field as the patches `v` leave it. -/
def State.getIn (s : State) (v : List Patch) (f : Fld) : Nat := f.of (s.wordIn v f.addr)

/-- Whether some variant has the property. -/
def State.anyVariant (s : State) (p : List Patch → Bool) : Bool := s.variants.any p

/-! ### Plans and periods (R80 to R82, R163) -/

/-- The defined MPLANs. -/
def State.mplans (s : State) : List Nat := (List.range 8).filter (fun i => s.on (R.CLK_PLAN_defined i))

/-- Whether MPLAN `i` is slower than MPLAN `j`. -/
def State.slower (s : State) (i j : Nat) : Bool :=
  let a := s.planHz i
  let b := s.planHz j
  a.1 * b.2 < b.1 * a.2

/-- The fastest defined MPLAN. -/
def State.fastest (s : State) : Nat := s.mplans.foldl (fun m i => if s.slower m i then i else m) (s.mplans.headD 0)

/-- The output of EPLAN `i` as numerator and denominator in Hz (R81). -/
def State.eplanHz (s : State) (i : Nat) : Nat × Nat :=
  (refHz (s.get R.CLK_REF_SEL_ref_e) * s.planN (8 + i), (s.get R.CLK_REF_SEL_r_div_e + 1) * max 1 (s.get (R.CLK_PLAN_out_div (8 + i))) * 2 ^ 20)

/-- The period of a carrier-wrap or frame-timer source in 1/128 ticks; none for a source that can never latch and for a GS
source (R15, R164). -/
def State.loadFine (s : State) (f : Nat) : Option Nat :=
  let sel := s.get (R.ENG_FSRC_sel f)
  let ty := s.get (R.ENG_FSRC_type f)
  if ty = 0 then
    if s.on (R.MOD_CG_CFG_en sel) then
      some ((128 * s.get (R.MOD_CG_PERIOD_ticks sel) + s.get (R.MOD_CG_PERIOD_fine sel)) * (s.get (R.ENG_FSRC_div f) + 1))
    else none
  else if ty = 1 && sel < 4 && s.on (R.ENG_FT_period sel) then some (128 * s.get (R.ENG_FT_period sel))
  else none

/-- Whether source `f` is a GS source. -/
def State.isGs (s : State) (f : Nat) : Bool := s.get (R.ENG_FSRC_type f) == 2

/-- Whether source `f` can latch at all (R164). -/
def State.latches (s : State) (f : Nat) : Bool := f < 16 && (s.isGs f || (s.loadFine f).isSome)

/-- Whether `fine` 1/128 ticks at MPLAN `i` are less than `x` ÷ `y` seconds. -/
def State.fineBelow (s : State) (i fine x y : Nat) : Bool := fine * (s.planHz i).2 * y < x * 128 * (s.planHz i).1

/-- Whether `fine` 1/128 ticks at MPLAN `i` exceed `x` ÷ `y` seconds. -/
def State.fineAbove (s : State) (i fine x y : Nat) : Bool := x * 128 * (s.planHz i).1 < fine * (s.planHz i).2 * y

/-- The GS sources. -/
def State.gsList (s : State) : List Nat := (List.range 16).filter s.isGs

/-! ### Affected sources (R338) -/

/-- The carrier-wrap sources of group `g`, if it is enabled. -/
def State.wrapList (s : State) (g : Nat) : List Nat :=
  if s.on (R.MOD_CG_CFG_en g) then (List.range 16).filter (fun f => s.get (R.ENG_FSRC_type f) == 0 && s.get (R.ENG_FSRC_sel f) == g) else []

/-- The sources of the contexts whose record has the property. -/
def State.sourcesOf (s : State) (p : CtxRec → Bool) : List Nat := (s.ctxRecs.filter (fun x => p x.2)).map (fun x => x.2.fsrc)

/-- The highest coefficient set that an SOS of context `c` can reach (R183, R206). -/
def State.sosTop (s : State) (c w : Nat) : Nat :=
  let n := sosN w
  let regions : Nat := if immBit w 16 then
      (match s.schRecs.find? (fun x => x.2.ctx == c && x.2.sch == immBits w 14 2) with
      | some x => x.2.na * x.2.nb
      | none => 1)
    else 1
  immBits w 0 14 + (max 1 regions - 1) * n + n - 1

/-- Whether a context's program can reach coefficient set `k`. -/
def State.reaches (s : State) (r : CtxRec) (k : Nat) : Bool :=
  (s.progOf r).any (fun x => insOp x.2 == 0x0D && immBits x.2 0 14 ≤ k && k ≤ s.sosTop r.ctx x.2)

/-- The sources that a patch affects, the home source left out (table Affected sources). -/
def State.patchSources (s : State) (p : Patch) : List Nat :=
  let a := p.addr
  if R.ENG_CTX_CFG 0 ≤ a && a < R.ENG_CTX_CFG 64 then s.sourcesOf (fun r => r.ctx == (a - R.ENG_CTX_CFG 0) / 0x20)
  else if R.ENG_CTX_RATE 0 ≤ a && a < R.ENG_CTX_RATE 64 then s.sourcesOf (fun r => r.ctx == (a - R.ENG_CTX_RATE 0) / 4)
  else if R.PROG 0 ≤ a && a < R.PROG 8192 then s.sourcesOf (fun r => r.start ≤ (a - R.PROG 0) / 8 && (a - R.PROG 0) / 8 < r.start + r.len)
  else if R.SLOT 0 0 ≤ a && a < R.SLOT 4096 0 then
    s.sourcesOf (fun r => r.first ≤ (a - R.SLOT 0 0) / 16 && (a - R.SLOT 0 0) / 16 < r.first + r.sections)
  else if R.COEF 0 0 ≤ a && a < R.COEF 12288 0 then s.sourcesOf (fun r => s.reaches r ((a - R.COEF 0 0) / 24))
  else if R.S 0 ≤ a && a < R.S 4096 then s.sourcesOf (fun r => r.imports.contains ((a - R.S 0) / 4))
  else if R.ENG_SCH_CFG 0 ≤ a && a < R.ENG_SCH_CFG 256 then s.sourcesOf (fun r => r.ctx == (a - R.ENG_SCH_CFG 0) / 0x80 / 4)
  else if R.ENG_GRP_CFG 0 ≤ a && a < R.ENG_GRP_CFG 16 then
    (s.grpRecs.filter (fun x => x.2.group == (a - R.ENG_GRP_CFG 0) / 0x80)).map (fun x => x.2.fsrc)
  else if R.ACQ_SEQ 0 0 ≤ a && a < R.ACQ_SEQ 16 0 then
    ([s.word a, patchWord (s.word a) p.value p.mask].filter (fun w => (R.ACQ_SEQ_bind 0 0).of w == 1)).map (fun w => (R.ACQ_SEQ_fsrc 0 0).of w)
  else if a / 2 ^ 24 = 5 then s.gsList
  else match s.carrierOf a with
    | some g => s.wrapList g
    | none => []

/-- The sources that a patch affects as a bit mask; the home source where the table names none (R338). -/
def State.patchMask (s : State) (p : Patch) : Nat :=
  let fs := (s.patchSources p).filter (fun f => f < 16)
  let all := if fs.isEmpty then [s.get R.SEQ_CFG_home_fsrc] else fs
  all.foldl (fun m f => m ||| 2 ^ f) 0

/-- The sources that a glaze affects (SEQ_GLAZE.fsrc_mask). -/
def State.glazeSources (s : State) (l : List Patch) : Nat := l.foldl (fun m p => m ||| s.patchMask p) 0

/-! ### Codes 0x07 to 0x09 -/

/-- Limits of contexts, groups and schedules (R164, R184, R190). -/
def State.limitFaults (s : State) : List LoadFault :=
  s.ctxRecs.flatMap (fun x => faultIf (128 < x.2.len || 64 < x.2.sections) 0x07 x.1)
  ++ s.grpRecs.flatMap (fun x => faultIf (8 < x.2.nMembers) 0x08 x.1)
  ++ s.schRecs.flatMap (fun x => faultIf (15 < (x.2.na - 1) + (x.2.nb - 1)) 0x09 x.1)

/-! ### Sections -/

/-- Whether an address is a word of CTX0 (R496). -/
def isCtx0 (a : Nat) : Bool :=
  (R.ENG_CTX_CFG 0 ≤ a && a < R.ENG_CTX_CFG 1) || a == R.ENG_CTX_RATE 0
  || (R.ENG_SCH_CFG 0 ≤ a && a < R.ENG_SCH_CFG 4 && (a - R.ENG_SCH_CFG 0) % 0x80 < 0x50)

/-- Target ranges that overlap, BOARD values of S0000 to S0255, CTX0 words (R38, R49, R496). -/
def State.targetFaults (s : State) : List LoadFault :=
  let xs := ((List.range s.boot.sections.length).map (fun i => (i, s.boot.sections.getD i { }))).filter (fun x => usesTarget x.2.type)
  xs.flatMap (fun x =>
    bad (xs.any (fun y => y.1 < x.1 && y.2.target < x.2.target + x.2.length && x.2.target < y.2.target + y.2.length)) x.1
    ++ bad (x.2.type == 6 && x.2.target < R.S 256) x.1
    ++ bad (x.2.type == 2 && (List.range (x.2.length / 4)).any (fun k => isCtx0 (x.2.target + 4 * k))) x.1)

/-- Whether a context owns a signal by OWNERS. -/
def State.ctxOwns (s : State) (sig : Nat) : Bool := s.ownRecs.any (fun o => o.kind == 0 && o.number == sig)

/-- Glaze slots and patch addresses (R38, R51, R53, R496). -/
def State.glazeFaults (s : State) : List LoadFault :=
  s.glazeSecs.flatMap (fun g =>
    bad (16 ≤ g.2.1 || s.glazeSecs.any (fun h => h.1 < g.1 && h.2.1 == g.2.1)) g.1
    ++ bad (g.2.2.any (fun p =>
        p.addr % 4 != 0 || p.addr / 2 ^ 24 == 0 || p.addr / 2 ^ 24 == 0x0C || p.addr / 2 ^ 24 == 0x0D || isCtx0 p.addr
        || (R.S 0 ≤ p.addr && p.addr < R.S 4096 && (p.addr < R.S 256 || s.ctxOwns ((p.addr - R.S 0) / 4))))) g.1)

/-- Whether a range is malformed (R498). -/
def Grant.bad (g : Grant) : Bool := g.high < g.low || g.low % 4 != 0 || g.high % 4 != 0

/-- ROLES and PUBLIC (R442, R498). -/
def State.roleFaults (s : State) : List LoadFault :=
  let roles (x : Nat × Section × List Byte) : List LoadFault :=
    let b := x.2.2
    let k := leAt b 0 1
    let n := leAt b 1 1
    let at_ (i : Nat) : Nat := 4 + 96 * k + 12 * i
    bad (b.length != 4 + 96 * k + 12 * n || 8 < k || 64 < n || leAt b 2 2 != 0
      || (List.range n).any (fun i => Grant.bad ⟨leAt b (at_ i) 4, leAt b (at_ i + 4) 4, 0⟩ || 2 ^ k ≤ leAt b (at_ i + 8) 1 || leAt b (at_ i + 9) 3 != 0)) x.1
  let pub (x : Nat × Section × List Byte) : List LoadFault :=
    let b := x.2.2
    let n := leAt b 4 1
    let g (i : Nat) : Grant := ⟨leAt b (8 + 8 * i) 4, leAt b (12 + 8 * i) 4, 0⟩
    bad (b.length != 8 + 8 * n || 64 < n || 2 ≤ leAt b 0 4 || leAt b 5 3 != 0
      || (List.range n).any (fun i => (g i).bad || ((g i).low < 0x0E000000 && 0x0D000000 ≤ (g i).high))) x.1
  (s.secs 11).flatMap roles ++ (s.secs 12).flatMap pub

/-- PLANS (R81, R82, R85, R499). -/
def State.planFaults (s : State) : List LoadFault :=
  match (s.secs 1).head? with
  | none => []
  | some x =>
    let b := x.2.2
    let defd := leAt b 6 2
    let refsel := leAt b 0 4
    let isDef (i : Nat) : Bool := defd / 2 ^ i % 2 == 1
    let one (i : Nat) : Bool :=
      let w := leAt b (8 + 8 * i) 4
      let fr := leAt b (12 + 8 * i) 4
      if !isDef i then w != 0 || fr != 0
      else
        let refk := if i < 8 then refsel % 4 else refsel / 4 % 4
        let r := (if i < 8 then refsel / 16 % 16 else refsel / 256 % 16) + 1
        let n := w % 128
        let vcoN := refHz refk * (n * 2 ^ 20 + fr % 2 ^ 20)
        let hz := if i < 8 then s.planHz i else s.eplanHz (i - 8)
        let nom := if i = 8 then 900000000 else if i = 9 then 800000000 else if i = 10 then 600000000 else 400000000
        let out := if i < 8 then hz.1 < 400000000 * hz.2 || 600000000 * hz.2 < hz.1
          else hz.1 * 10000 < nom * hz.2 * 9999 || nom * hz.2 * 10001 < hz.1 * 10000
        (w / 1024 % 256 != 0) || n < 32 || 120 < n || refHz refk < 10000000 * r || 50000000 * r < refHz refk
        || vcoN < 1600000000 * r * 2 ^ 20 || 2400000000 * r * 2 ^ 20 < vcoN || out || !s.on (R.CLK_PLAN_valid i)
    bad (b.length != 104 || refsel % 4 == 3 || refsel / 4 % 4 == 3 || 4096 ≤ defd
      || 8 ≤ leAt b 4 1 || !isDef (leAt b 4 1) || 4 ≤ leAt b 5 1 || !isDef (8 + leAt b 5 1)
      || (List.range 12).any one) x.1
    ++ bad (!isDef (8 + s.boot.header.slowestEplan) || !isDef (8 + s.get R.GOV_CFG_eplan_fast))

/-- OWNERS (R26, R38, R150). DESIGN CHOICE (log entry 12): an entry with bits [31:20] set, kind 3, owner 0 of kinds 0 and 2, or owner 16
and more of kind 1 is rejected with 0x10, for which the spec names no code. -/
def State.ownerFaults (s : State) : List LoadFault :=
  let l := s.ownRecs
  let idx := List.range l.length
  idx.flatMap (fun i =>
    let o := l.getD i { }
    let earlier := (l.take i)
    bad (o.zero != 0 || o.kind == 3 || (o.kind != 1 && o.owner == 0) || (o.kind == 1 && 16 ≤ o.owner)
      || (o.kind == 0 && o.number < 256) || (o.kind == 1 && o.number < 256 && !(List.range 4).any (fun k => publisherRange k o.number))
      || (o.kind == 2 && outReserved o.number)
      || earlier.any (fun q => q.number == o.number && (q.kind == o.kind || (q.kind != 2 && o.kind != 2)))) o.section_)

/-! ### Contexts, schedules, groups (R156, R164, R171, R184, R190) -/

/-- Context records (R156, R164). -/
def State.ctxFaults (s : State) : List LoadFault :=
  s.descs.flatMap (fun x => bad (x.2 == .bad) x.1)
  ++ (List.range s.ctxRecs.length).flatMap (fun i =>
    let x := s.ctxRecs.getD i (0, { })
    let r := x.2
    let earlier := (s.ctxRecs.take i)
    bad (64 < r.nImports || r.ctx == 0 || 63 < r.ctx || earlier.any (fun y => y.2.ctx == r.ctx) || !s.latches r.fsrc
      || 128 ≤ r.flags || r.len == 0 || 8192 < r.start + r.len || 4096 < r.first + r.sections || r.imports.any (fun g => 4096 ≤ g)
      || earlier.any (fun y => 0 < r.sections && 0 < y.2.sections && r.first < y.2.first + y.2.sections && y.2.first < r.first + r.sections)) x.1)

/-- A context without a record that the base or a glaze enables (R171). -/
def State.enableFaults (s : State) : List LoadFault :=
  bad ((List.range 63).any (fun k =>
    !s.ctxRecs.any (fun x => x.2.ctx == k + 1)
    && (s.anyVariant (fun v => s.getIn v (R.ENG_CTX_CTL_en (k + 1)) != 0))))

/-- Ascending lists. -/
def ascending : List Int → Bool
  | a :: b :: r => a < b && ascending (b :: r)
  | _ => true

/-- Schedule records (R183, R184, R206). -/
def State.schFaults (s : State) : List LoadFault :=
  (List.range s.schRecs.length).flatMap (fun i =>
    let x := s.schRecs.getD i (0, { })
    let r := x.2
    let a := r.axes % 4
    let b := r.axes / 4 % 4
    let bps := r.bps.map (signed 32)
    let nA := if a = 1 then r.na - 1 else 0
    let mapBad (n : Nat) : Bool := s.mplans.any (fun p => n ≤ r.map / 16 ^ p % 16)
    bad (!s.ctxRecs.any (fun y => y.2.ctx == r.ctx) || 3 < r.sch || (s.schRecs.take i).any (fun y => y.2.ctx == r.ctx && y.2.sch == r.sch)
      || a == 3 || b == 3 || 16 ≤ r.axes || r.na == 0 || 16 < r.na || r.nb == 0 || 16 < r.nb || (a == 0 && r.na != 1) || (b == 0 && r.nb != 1)
      || 6 < r.xf || 16 < r.na * r.nb || (a == 2 && b == 2) || !ascending (bps.take nA) || !ascending (bps.drop nA)
      || 2 ^ 31 ≤ r.hystA || 2 ^ 31 ≤ r.hystB || (a == 2 && mapBad r.na) || (b == 2 && mapBad r.nb) || r.na * r.nb ≤ r.init) x.1)

/-- Group records (R190). -/
def State.grpFaults (s : State) : List LoadFault :=
  (List.range s.grpRecs.length).flatMap (fun i =>
    let x := s.grpRecs.getD i (0, { })
    let r := x.2
    let cm := (r.members.filter (fun m => m.kind == 0)).map (fun m => m.ctx)
    let recs := cm.map (fun c => (s.ctxRecs.find? (fun y => y.2.ctx == c)).map (fun y => y.2))
    let low := cm.foldl min 63
    let offs := recs.filterMap (fun q => q.map (fun y => y.commit))
    bad (16 ≤ r.group || (s.grpRecs.take i).any (fun y => y.2.group == r.group) || r.members.isEmpty || cm.isEmpty
      || recs.any (fun q => match q with
        | some y => y.fsrc != r.fsrc
        | none => true)
      || offs.any (fun o => o != offs.headD 0)
      || (List.range cm.length).any (fun k => (cm.take k).contains (cm.getD k 0))
      || (s.grpRecs.take i).any (fun y => y.2.members.any (fun m => m.kind == 0 && cm.contains m.ctx))
      || r.members.any (fun m => 1 < m.kind || signed 32 m.hi < signed 32 m.lo || (m.kind == 1 && 4096 ≤ m.signal))
      || r.out < 256 || 4096 ≤ r.out || !s.ownRecs.any (fun o => o.kind == 0 && o.number == r.out && o.owner == low)) x.1)

/-! ### Programs (R156 to R162, R174, R185, R191, R197, R205, R206, R253) -/

/-- The signals an instruction reads, as runs of a first signal and a length (R158 to R162, R172, R197). -/
def insRuns (s : State) (c w : Nat) : List (Nat × Nat) :=
  let a := insA w
  let b := insB w
  let sch := s.schRecs.find? (fun x => x.2.ctx == c && x.2.sch == immBits w 0 2)
  match insOp w with
  | 0x01 => if immBit w 12 then [(a, 1)] else []
  | 0x02 | 0x03 | 0x08 | 0x09 | 0x0B => (a, 1) :: (if immBit w 21 then [] else [(b, 1)])
  | 0x04 | 0x13 => [(a, 1), (b, 1)]
  | 0x05 => [(a, 1), (b, 1), (insDst w, 1)]
  | 0x06 | 0x07 | 0x0D | 0x0F | 0x14 | 0x17 => [(a, 1)]
  | 0x0A => [(a, 1), (b, 2)]
  | 0x0C => [(a, 1), (b, 1), (immBits w 0 12, 1)]
  | 0x0E =>
    (match sch with
    | some x => (if x.2.axes % 4 = 1 then [(a, 1)] else []) ++ (if x.2.axes / 4 % 4 = 1 then [(b, 1)] else [])
    | none => [])
  | 0x10 => if immBit w 0 then [(a, if immBit w 1 then 3 else 2)] else [(a, 3)]
  | 0x11 | 0x12 => [(a, 2), (b, 1)]
  | 0x15 => [(a, 2), (immBits w 0 12, 7)]
  | 0x16 => if immBit w 0 then [(a, 1), (b, 1)] else [(a, 1)]
  | _ => []

/-- The signals an instruction writes. -/
def insWrites (w : Nat) : List (Nat × Nat) :=
  let d := insDst w
  match insOp w with
  | 0x00 | 0x0F | 0x16 | 0x17 => []
  | 0x10 => [(d, if immBit w 0 then 3 else if immBit w 1 then 3 else 2)]
  | 0x11 | 0x12 | 0x15 => [(d, 2)]
  | _ => [(d, 1)]

/-- Whether an instruction of context `r` is one that the loader rejects. DESIGN CHOICE (log entry 17): a bit of the immediate that the
opcode does not use, and that must be zero (R159, R162, R172), is ignored. -/
def State.insBad (s : State) (r : CtxRec) (k w : Nat) : Bool :=
  let owns (x : Nat) : Bool := s.ownRecs.any (fun o => o.kind == 0 && o.number == x && o.owner == r.ctx)
  let run (p : Nat → Bool) (q : Nat × Nat) : Bool := decide (q.1 + q.2 ≤ 4096) && (List.range q.2).all (fun i => p (q.1 + i))
  let slots (n : Nat) : Bool := r.first ≤ insB w && insB w + n ≤ r.first + r.sections
  let op := insOp w
  let sch := s.schRecs.find? (fun x => x.2.ctx == r.ctx && x.2.sch == immBits w 0 2)
  let ldf : Bool := op == 1 && !(if immBit w 11 then s.get (R.ENG_EI_fsrc (immBits w 0 6)) == r.fsrc
    else s.on (R.ACQ_SEQ_bind (immBits w 5 4) (immBits w 0 5)) && s.get (R.ACQ_SEQ_fsrc (immBits w 5 4) (immBits w 0 5)) == r.fsrc)
  let sos : Bool := op == 0x0D && (!slots (sosN w) || 12288 ≤ s.sosTop r.ctx w
    || (immBit w 16 && !s.schRecs.any (fun x => x.2.ctx == r.ctx && x.2.sch == immBits w 14 2)))
  let sched : Bool := op == 0x0E && ((match sch with
      | some x => x.2.axes % 4 != 1 && x.2.axes / 4 % 4 != 1
      | none => true)
    || (s.progOf r).any (fun y => y.1 < k && insOp y.2 == 0x0E && immBits y.2 0 2 == immBits w 0 2))
  let out : Bool := op == 0x16 && insDst w < 96 &&
    s.get (if insDst w % 2 = 0 then R.MOD_LEG_CFG_abs_on (insDst w / 2) else R.MOD_LEG_CFG_abs_off (insDst w / 2)) != immBits w 0 1
  let pat := s.get (R.MOD_LEG_CFG_pattern (insDst w / 2))
  let anpc : Bool := op == 0x16 && insDst w < 96 && (pat == 2 || (pat == 1 && (insDst w % 2 == 0 || immBit w 0)))
  let evt : Bool := op == 0x17 && s.ctxRecs.any (fun y => y.2.ctx != r.ctx
    && (s.progOf y.2).any (fun z => insOp z.2 == 0x17 && immBits z.2 0 4 == immBits w 0 4))
  let track : Bool := op == 0x15 && !slots 2
  0x18 ≤ op || ldf || sos || sched || out || anpc || evt || track
  || !(insRuns s r.ctx w).all (run (fun x => owns x || r.imports.contains x)) || !(insWrites w).all (run owns)

/-- Program faults (R158 and the rules above). -/
def State.progFaults (s : State) : List LoadFault :=
  s.ctxRecs.flatMap (fun x => bad ((s.progOf x.2).any (fun y => s.insBad x.2 y.1 y.2)) x.1
    ++ bad (x.2.flags / 64 % 2 == 1 && (s.progOf x.2).any (fun y => insOp y.2 == 0x17)) x.1)

/-- A deferrable context that owns an OUT target or an EVT line by OWNERS (R205). -/
def State.deferFaults (s : State) : List LoadFault :=
  s.ctxRecs.flatMap (fun x => bad (x.2.flags / 64 % 2 == 1 && s.ownRecs.any (fun o => o.kind == 2 && o.owner == x.2.ctx)) x.1)

/-- MINSEL and membership (R191, R206). -/
def State.minselFaults (s : State) : List LoadFault :=
  s.ctxRecs.flatMap (fun x =>
    let p := s.progOf x.2
    let ms := p.filter (fun y => insOp y.2 == 0x0F)
    let mem := s.grpRecs.filter (fun g => g.2.members.any (fun m => m.kind == 0 && m.ctx == x.2.ctx))
    let fed (y : Nat × Nat) : Bool :=
      match (p.filter (fun z => z.1 < y.1 && insOp z.2 == 0x0D && insDst z.2 == insA y.2)).getLast? with
      | some z => !p.any (fun q => z.1 < q.1 && (insWrites q.2).any (fun run => run.1 ≤ insA y.2 && insA y.2 < run.1 + run.2))
      | none => false
    match mem with
    | [] => bad (!ms.isEmpty) x.1
    | g :: _ => bad (ms.length != 1 || !ms.all (fun y => immBits y.2 0 4 == g.2.group && insDst y.2 == g.2.out && fed y)) x.1)

/-- Overrun policies (R201, R202). -/
def State.policyFaults (s : State) : List LoadFault :=
  s.ctxRecs.flatMap (fun x =>
    let pol := x.2.flags % 4
    let routed := (List.range 4096).any (fun i => s.on (R.EVR_ROUTE_valid i) && s.get (R.EVR_ROUTE_src i) == 432 + x.2.flags / 4 % 8
      && s.get (R.EVR_ROUTE_dst i) ≤ 51)
    bad (pol == 1 && (x.2.glaze < 8 || 15 < x.2.glaze || !s.glazeSecs.any (fun g => g.2.1 == x.2.glaze))) x.1
    ++ bad (pol == 2 && (x.2.flags / 32 % 2 == 0 || !routed)) x.1)

/-! ### Registers -/

/-- Acquisition: check channels and AIN127 (R110, R114). -/
def State.acqFaults (s : State) : List LoadFault :=
  bad ((List.range 7).any (fun p => s.anyVariant (fun v =>
    s.getIn v (R.ACQ_PAIR_CFG_chk_en p) != 0 && !chanOk p (s.getIn v (R.ACQ_PAIR_CFG_chk_src p)))))
  ++ bad (s.anyVariant (fun v => s.getIn v (R.ACQ_PAIR_CFG_chk_en 7) != 0)
    && (List.range 64).any (fun i => s.anyVariant (fun v => s.getIn v (R.ACQ_SEQ_chan (14 + i / 32) (i % 32)) == 0x0F)))

/-- Comparator partners (R136): other hysteresis compares what the fields act as; a partner number that names no comparator is
rejected too (DESIGN CHOICE, log entry 38). -/
def State.partnerBad (s : State) (n : Nat) : Bool :=
  let p := s.get (R.WIN_CFG_partner n)
  let mask (k : Nat) : Nat := s.get (R.WIN_CFG_pd_hi k) ||| s.get (R.WIN_CFG_pd_lo k)
  p != 127 && (96 ≤ p || p / 12 != n / 12 || s.get (R.WIN_CFG_src p) != s.get (R.WIN_CFG_src n)
    || s.get (R.WIN_TH_th_hi p) != s.get (R.WIN_TH_th_hi n) || s.get (R.WIN_TH_th_lo p) != s.get (R.WIN_TH_th_lo n)
    || min 16 (s.get (R.WIN_TH_hyst p)) != min 16 (s.get (R.WIN_TH_hyst n)) || (mask n &&& mask p) != mask n)

/-- Comparators and routes (R136, R141). -/
def State.evrFaults (s : State) : List LoadFault :=
  bad ((List.range 96).any s.partnerBad)
  ++ bad ((List.range 4096).any (fun i => s.anyVariant (fun v =>
    let w := s.wordIn v (R.EVR_ROUTE i)
    let k := (R.EVR_ROUTE_filt i).of w
    routeRefused w || ((R.EVR_ROUTE_valid i).of w == 1 && k != 0 && s.wordIn v (R.EVR_FILT k) == 0))))

/-- Frame sources (R163, R213). -/
def State.srcFaults (s : State) : List LoadFault :=
  bad ((List.range 16).any (fun f =>
    (s.get (R.ENG_FSRC_type f) == 1 && 4 ≤ s.get (R.ENG_FSRC_sel f))
    || (match s.loadFine f with
      | some p => s.fineBelow s.fastest p 1 2000000
      | none => false)
    || (s.isGs f && s.on (R.ENG_FSRC_gs32 f) && !s.on R.GRD_CTL_gs32)))

/-- Carrier groups and legs (R243, R247, R263). -/
def State.modFaults (s : State) : List LoadFault :=
  let pat (l : Nat) : Nat := if l < 48 then s.get (R.MOD_LEG_CFG_pattern l) else 0
  let cg (l : Nat) : Nat := s.get (R.MOD_LEG_CFG_cg l)
  let legBad (l : Nat) : Bool :=
    (pat l == 1 && (45 < l || pat (l + 1) != 2 || pat (l + 2) != 2 || cg (l + 1) != cg l || cg (l + 2) != cg l))
    || (pat l == 2 && !((1 ≤ l && pat (l - 1) == 1) || (2 ≤ l && pat (l - 2) == 1)))
    || s.mplans.any (fun i =>
        s.fineAt i (s.get (R.MOD_LEG_TIME_t_refresh l)) < max (s.fineAt i (s.get (R.MOD_LEG_TIME_min_pulse l))) (s.fineAt i (s.get (R.MOD_LEG_TIME_dt_max l))))
  bad ((List.range 8).any (fun g => s.on (R.MOD_CG_CFG_en g) && s.get (R.MOD_CG_PERIOD_ticks g) < 400))
  ++ bad ((List.range 48).any legBad)

/-- Gate ports and choppers (R281, R296, R299). -/
def State.gtpFaults (s : State) : List LoadFault :=
  let legs (d : Nat) : List Nat := (List.range 48).filter (fun l => s.get (R.GTP_LEG_CFG_pd l) == d)
  let soft (l : Nat) : Nat := min 256 (max 8 (s.get (R.GTP_LEG_TIME_t_soft1 l)))
  bad ((List.range 48).any (fun l => 4 < s.get (R.GTP_LEG_CFG_pd l)
    || (!s.on (R.GTP_LEG_CFG_stat_en l) && s.anyVariant (fun v =>
        s.getIn v (R.GTP_LEG_LIM_boot_uvlo l) != 0 || s.getIn v (R.MOD_LEG_BOOT_boot_low l) != 0))))
  ++ bad ((List.range 4).any (fun d =>
    1000 < (legs d).foldl (fun m l => max m (soft l)) 0 + ((legs d).length - 1) * min 40 (s.get (R.GTP_PD_CFG_t_stagger d))))
  ++ bad ((List.range 2).any (fun c =>
    let n := s.get (R.GTP_CHOP_CFG_wc c)
    s.on (R.GTP_CHOP_CFG_en c) && (96 ≤ n || !s.on (R.WIN_CFG_en_hi n) || !s.on (R.WIN_CFG_en_lo n))))

/-- The points of a ride-through or trip curve. -/
def State.curvePts (s : State) (c : Nat) : List Int :=
  (List.range (min 16 (s.get R.GRD_RT_CFG_npts / 2 ^ (5 * c) % 32))).map (fun k => s.getI (R.GRD_CURVE_th c k))

/-- The grid unit (R208, R217, R230, R236, R242, GRD_PROJ), checked whether the image enables it or not. -/
def State.grdFaults (s : State) : List LoadFault :=
  let f := s.get R.GRD_IN_CFG_fsrc
  let entryBad (i : Nat) : Bool :=
    !s.on (R.ACQ_SEQ_bind (s.get (R.GRD_IN_cv i)) (s.get (R.GRD_IN_e i))) || s.get (R.ACQ_SEQ_fsrc (s.get (R.GRD_IN_cv i)) (s.get (R.GRD_IN_e i))) != f
  let inputs : Bool := (match s.loadFine f with
      | some p => s.mplans.any (fun i => s.fineBelow i p 20 1000000 || s.fineAbove i p 250 1000000)
      | none => true) || (List.range 3).any entryBad
  let up (c : Nat) : Bool := ascending (s.curvePts c)
  let down (c : Nat) : Bool := ascending (s.curvePts c).reverse
  let beyond0 : Bool :=
    (match s.curvePts 2, s.curvePts 0 with
    | a :: _, b :: _ => decide (b < a)
    | _, _ => false)
    || (match s.curvePts 3, s.curvePts 1 with
    | a :: _, b :: _ => decide (a < b)
    | _, _ => false)
  let slot := s.get R.GRD_SPR_CFG_slot
  let slotBad : Bool := 7 ≤ slot || !s.on (R.GRD_PROJ_valid slot) || (match s.loadFine (s.get (R.GRD_PROJ_fsrc slot)) with
    | some p => s.mplans.any (fun i => s.fineAbove i p 200 1000000)
    | none => true)
  let spr : Bool := s.anyVariant (fun v => s.getIn v R.GRD_CTL_spr_en != 0 && (s.getIn v R.GRD_CTL_gs32 == 0 || slotBad))
  let supBad (c : Nat) : Bool :=
    let n := s.get R.GRD_SUP_CFG_npts / 2 ^ (4 * c) % 16
    n == 1 || (2 ≤ n && n ≤ 8 && !ascending ((List.range n).map (fun k => s.getI (R.GRD_SUP_CURVE_x c k))))
  bad inputs ++ bad (!up 2 || !down 3) ++ bad beyond0 ++ bad spr ++ bad ((List.range 4).any supBad)
  ++ bad ((List.range 7).any (fun k => s.on (R.GRD_PROJ_valid k) && s.get (R.ENG_FSRC_type (s.get (R.GRD_PROJ_fsrc k))) != 0))
  ++ bad (s.get R.GRD_SUP_CFG_p_sig < 256 || s.get R.GRD_FORM_CFG_p_sig < 256 || s.get R.GRD_FORM_CFG_q_sig < 256)

/-- Metering (R320, R333, MTR_PO_CFG). -/
def State.mtrFaults (s : State) : List LoadFault :=
  bad (!([1, 2, 3, 4, 5, 6, 10, 12, 15, 20, 30, 60] : List Nat).contains (s.get R.MTR_DEMAND_CFG_length))
  ++ bad (s.on R.MTR_CFG_en && (s.get R.MTR_CFG_u_din == 0 || s.get R.MTR_CFG_i_nom == 0))
  ++ bad ((List.range 2).any (fun k => 24 ≤ s.get (R.MTR_PO_CFG_e k)))

/-- Sequencer rules and the home source (R164, R335, R346, SEQ_RULE, SEQ_CFG). -/
def State.seqFaults (s : State) : List LoadFault :=
  let ruleBad (v : List Patch) (i : Nat) : Bool :=
    let g (f : Fld) : Nat := s.getIn v f
    let ca := g (R.SEQ_RULE_cond_a i)
    let cb := g (R.SEQ_RULE_cond_b i)
    let act := g (R.SEQ_RULE_act i)
    let arg := g (R.SEQ_RULE_arg i)
    let frm := g (R.SEQ_RULE_from i)
    g (R.SEQ_RULE_valid i) == 1 && (107 ≤ ca || (107 ≤ cb && cb ≤ 126) || 6 ≤ act
      || (act == 1 && (List.range 8).any (fun m => frm / 2 ^ m % 2 == 1 && !mayEnter (arg % 8) m)))
  bad (s.anyVariant (fun v => (List.range 256).any (ruleBad v))) ++ bad (!s.latches (s.get R.SEQ_CFG_home_fsrc))

/-- Glazes whose patches with property `keep` affect a source slower than 1 ms at the fastest MPLAN, or one that never latches
(R340). -/
def State.glazePeriodFaults (s : State) (keep : Patch → Bool) : List LoadFault :=
  let slow (f : Nat) : Bool :=
    if s.isGs f then !s.on (R.ENG_FSRC_gs32 f) && Config.gs16TooSlow
    else match s.loadFine f with
      | some p => s.fineAbove s.fastest p 1 1000
      | none => true
  s.glazeSecs.flatMap (fun g => bad ((List.range 16).any (fun f => s.glazeSources (g.2.2.filter keep) / 2 ^ f % 2 == 1 && slow f)) g.1)

/-- The governor (R82, R349, R352). -/
def State.govFaults (s : State) : List LoadFault :=
  let f := s.get R.GOV_CFG_fsrc
  let fz := s.planHz s.fastest
  let ms : Bool := match s.loadFine f with
    | some p => s.get (R.ENG_FSRC_type f) == 1 && p * fz.2 * 1000 == 128 * fz.1
    | none => false
  let steps := (List.range 8).filter (fun k => s.on (R.GOV_LADDER_valid k))
  let ladder := (List.range (steps.length - 1)).any (fun k =>
    !s.slower (s.get (R.GOV_LADDER_mplan (steps.getD (k + 1) 0))) (s.get (R.GOV_LADDER_mplan (steps.getD k 0))))
  bad (s.on R.GOV_CFG_en && (!ms || s.pubBound 1 != f))
  ++ bad (s.get R.GOV_CFG_dwell < 25)
  ++ bad (ladder || steps.any (fun k => !s.on (R.CLK_PLAN_defined (s.get (R.GOV_LADDER_mplan k)))
    || s.get (R.GOV_LADDER_up_th k) < s.get (R.GOV_LADDER_down_th k) + 100))

/-- The twin link (R394, TWN_CFG). -/
def State.twinFaults (s : State) : List LoadFault :=
  let ms := (List.range 256).filter (fun i => s.on (R.TWN_MIRROR_valid i))
  let src (i : Nat) : Option Nat :=
    match s.ownRecs.find? (fun o => o.kind == 0 && o.number == s.get (R.TWN_MIRROR_signal i)) with
    | some o => (s.ctxRecs.find? (fun x => x.2.ctx == o.owner)).map (fun x => x.2.fsrc)
    | none => none
  let fine (i : Nat) : Option Nat := (src i).bind s.loadFine
  let quick (i : Nat) : Bool := match fine i with
    | some p => s.fineBelow s.fastest p 4 1000000
    | none => false
  let fz := s.planHz s.fastest
  -- 8 bytes per period: the load in bytes per second times 2^32, each term rounded up
  let load := ms.foldl (fun n i => match fine i with
    | some p => n + ceilDiv (2 ^ 32 * 8 * 128 * fz.1) (max 1 (p * fz.2))
    | none => n) 0
  bad (s.get R.TWN_CFG_role == 3) ++ bad (ms.any (fun i => (src i).isNone)) ++ bad (ms.any quick) ++ bad (2 ^ 32 * 1000000000 < load)

/-- CAN bit timing (R404, R405), of every channel; a data phase exists with fd_en, since bit rate switching is always received. -/
def State.canFaults (s : State) : List LoadFault :=
  let one (ch : Nat) : Bool :=
    let nom := (s.get (R.CAN_BT_NOM_brp_m1 ch) + 1) * (s.get (R.CAN_BT_NOM_tseg1_m1 ch) + s.get (R.CAN_BT_NOM_tseg2_m1 ch) + 3)
    let data := (s.get (R.CAN_BT_DATA_brp_m1 ch) + 1) * (s.get (R.CAN_BT_DATA_tseg1_m1 ch) + s.get (R.CAN_BT_DATA_tseg2_m1 ch) + 3)
    80000000 < 10000 * nom || 1000000 * nom < 80000000 || s.get (R.CAN_BT_NOM_tseg1_m1 ch) == 0
      || (s.on (R.CAN_BT_NOM_triple ch) && 125000 * nom < 80000000)
      || (s.on (R.CAN_CFG_fd_en ch) && 8000000 * data < 80000000)
  bad (one 0 || one 1)

/-! ### Schedule (R176, R177, R179) -/

/-- Worst cases that differ from SCHED, and no_check on a bound device: code 0x0F (R176, R179). -/
def State.wcetFaults (s : State) : List LoadFault :=
  let b := (s.schedSec.map (fun x => x.2)).getD []
  s.ctxRecs.flatMap (fun x => faultIf (leAt b (4 * x.2.ctx) 4 != s.wcetOf x.2) 0x0F 0)
  ++ faultIf (s.noCheck && s.boot.fuses.integratorValid) 0x0F 0

/-- The SCHED section's form (R176). -/
def State.schedFaults (s : State) : List LoadFault :=
  match s.schedSec with
  | some (i, b) => bad (b.length != 256 || 2 ≤ leAt b 0 4) i
  | none => []

/-- The shortest period of source `g` as numerator and denominator in seconds: GS at 72 Hz (R177). -/
def State.loadPer (s : State) (g : Nat) : Nat × Nat :=
  if s.isGs g then (1, 72 * (if s.on (R.ENG_FSRC_gs32 g) then 32 else 16))
  else ((s.loadFine g).getD 0 * (s.planHz s.fastest).2, 128 * (s.planHz s.fastest).1)

/-- The schedule test of source `f` (R177): all terms in cycles times 8 × the common denominator; true if it fits. -/
def State.scheduleFits (s : State) (f : Nat) : Bool :=
  let cs := s.ctxRecs.map (fun x => x.2)
  let mine := cs.filter (fun r => r.fsrc == f)
  let fs := s.eplanHz s.boot.header.slowestEplan
  let fz := s.planHz s.fastest
  let per := s.loadPer f
  -- the shortest commit offset in time, one period if 0
  let off (r : CtxRec) : Nat × Nat := if r.commit = 0 then per else (r.commit * fz.2, fz.1)
  let d := (mine.drop 1).foldl (fun m r => let o := off r
                                           if o.1 * m.2 < m.1 * o.2 then o else m) ((mine.head?.map off).getD per)
  let imp := cs.foldl (fun n r => n + r.nImports) 0
  -- rdy in cycles times fs.2 × 25000000: 40 ns is fs ÷ 25,000,000 cycles
  let unit := fs.2 * 25000000
  let rdy := max fs.1 ((2 + ceilDiv imp 32) * unit)
  let blk := cs.foldl (fun m r => max m (s.wcetOf r)) 0
  -- hop in cycles times fs.2 × 500000
  let hopN : Int := (fs.1 : Int) - 240000000 * fs.2
  let demand := (List.range 16).foldl (fun n g =>
    let w := (cs.filter (fun r => r.fsrc == g)).foldl (fun m r => m + s.wcetOf r) 0
    let t := s.loadPer g
    if w = 0 then n else n + ceilDiv (d.1 * t.2) (max 1 (d.2 * t.1)) * w) 0
  -- everything over the denominator 8 × d.2 × fs.2 × 25000000
  let cap : Int := 8 * 25000000 * ((d.1 : Int) * fs.1) - 8 * d.2 * rdy
  let need : Int := (demand : Int) * d.2 * unit + 8 * blk * d.2 * unit + 8 * d.2 * (50 * hopN)
  decide (need ≤ cap) && cs.all (fun r => decide (8 * (s.wcetOf r : Int) * d.2 * unit ≤ cap))

/-- Sources that fail the schedule test (R177). -/
def State.fitFaults (s : State) : List LoadFault :=
  if s.noCheck || s.ctxRecs.isEmpty then []
  else faultIf ((List.range 16).any (fun f => s.ctxRecs.any (fun x => x.2.fsrc == f) && !s.scheduleFits f)) 0x0F 0

/-! ### All checks -/

/-- Whether the sources that a patch affects follow from the program store: those of a coefficient do (R338). -/
def Patch.needsStore (p : Patch) : Bool := R.COEF 0 0 ≤ p.addr && p.addr < R.COEF 12288 0

/-- The checks that need neither the stores' contents nor the schedule (R69): sections, records and registers. -/
def State.formFaults (s : State) : List LoadFault :=
  s.limitFaults ++ s.targetFaults ++ s.glazeFaults ++ s.roleFaults ++ s.ownerFaults ++ s.ctxFaults ++ s.enableFaults ++ s.schFaults
  ++ s.grpFaults ++ s.policyFaults ++ s.deferFaults ++ s.acqFaults ++ s.evrFaults ++ s.srcFaults ++ s.modFaults ++ s.gtpFaults ++ s.grdFaults
  ++ s.mtrFaults ++ s.seqFaults ++ s.glazePeriodFaults (fun p => !p.needsStore) ++ s.govFaults ++ s.twinFaults ++ s.canFaults ++ s.schedFaults ++ s.planFaults

/-- Every check of the consistency and schedule step. -/
def State.loadFaults (s : State) : List LoadFault :=
  s.formFaults ++ s.glazePeriodFaults Patch.needsStore ++ s.progFaults ++ s.minselFaults ++ s.wcetFaults ++ s.fitFaults

end Sys2Proof.Machine
end

