-- ==== Sys2Proof/Machine/Aon.lean ====
section
/-!
DEFINITION. The always-on domain's commands: supplies, harvesting, bursts, commits, tamper inputs, RF read-out (chapter
Always-On Domain, R420 to R441). Frame formats of ISO/IEC 15693-3 that the spec only names are taken from that standard
(log entry 16).
-/

namespace Sys2Proof.Machine

/-! ### Supplies and harvesting (R420 to R423) -/

/-- The source of the supply order at VSTORE `v` and VCELL `c` in mV; the 1.8 V threshold is left 100 mV lower than it is
entered (R420, log entry 16). -/
def State.supplyOrder (s : State) (v c : Nat) : Option Nat :=
  let th := if s.get R.AON_STATUS_src = 1 then 1700 else 1800
  if s.aon.main then some 0 else if th ≤ v then some 1 else if 2500 ≤ c then some 2 else if 1400 ≤ v then some 3 else none

/-- The domain measures its supplies and takes the first available source; a change is logged (R420, R426, R433). -/
def State.changeover (s : State) (v c : Nat) : State :=
  match s.supplyOrder v c with
  | none => s
  | some k =>
    let s1 := ({ s with aon := { s.aon with vcell := c } }.measureStore v).putB R.AON_STATUS_no_cell (c < 2500)
    let s2 := s1.put R.AON_STATUS_src k
    (ite' (k != s.get R.AON_STATUS_src) s2 (s2.logPush 5 (s2.aonRecord 1 0))).aonLow

/-- SUPPLY_CHANGEOVER (R420): VSTORE is `v` mV and VCELL `c` mV. -/
def execSupplyChangeover (v c : Nat) (s : State) : Out := when s.aon.powered s (s.changeover v c)

/-- Whether the self-oscillating stage runs at VRECT = `vrect` mV: until the boost charger has taken over, from 60 mV (R422). -/
def State.selfOscillates (s : State) (vrect : Nat) : Bool := !s.aon.boost && 60 ≤ vrect

/-- COLD_START_HANDOVER (R422): VSTORE, charged by the self-oscillating stage from VRECT, reaches 1.4 V and the boost charger takes
over, which it is no longer once VSTORE measures below. -/
def execColdStartHandover (v vrect : Nat) (s : State) : Out :=
  when (s.selfOscillates vrect && 1400 ≤ v) s { s with aon := { s.aon with boost := true } }

/-- OPEN_CIRCUIT_MEASURE (R422): VRECT's open-circuit voltage, of which the boost charger regulates its input at 80 %. -/
def execOpenCircuitMeasure (v : Nat) (s : State) : Out :=
  when s.aon.boost s { s with aon := { s.aon with vrectOpen := v } }

/-- The retention memory zeroed, with a new header (R429). -/
def State.retBuild (s : State) : State :=
  let s1 := { s with ram := s.ram.filter (fun p => p.1 < retBase || retBase + 16384 ≤ p.1) }
  let s2 := ((s1.setBytes retBase [0x54, 0x47, 0x41, 0x4F]).setRet 1 4 1).retCrc
  { s2 with aon := { s2.aon with ckptSeq := 0, ckptSlot := 0, tampers := 0 } }

/-- MEMORY_REBUILD (R429): a wrong magic or CRC; set in AON_STATUS and logged. -/
def State.retRebuild (s : State) : State :=
  let s1 := (s.retBuild.putB R.AON_STATUS_rebuilt true).putB R.AON_STATUS_rtc_valid false
  s1.logPush 5 (s1.aonRecord 3 0)

/-- AON_DOMAIN_START (R423, R429, R441): the domain starts at VSTORE `v` and VCELL `c`, the crystal running or not; its
registers take their reset values and the header is checked. -/
def State.aonStart (s : State) (v c : Nat) (xtal : Bool) : State :=
  let s1 := forUpTo 9 (fun k t => t.setWord (R.AON_STATUS + 4 * k) (regReset (R.AON_STATUS + 4 * k))) s
  let s2 := { s1 with aon := { main := s.aon.main, q31 := s.aon.q31, boost := s.aon.boost, powered := true } }
  let s3 := (s2.putB R.AON_STATUS_xtal_ok xtal).changeover v c
  ite' (!s3.retValid) s3 s3.retRebuild

/-- AON_DOMAIN_START (R429). -/
def execAonDomainStart (v c : Nat) (xtal : Bool) (s : State) : Out :=
  when (!s.aon.powered && (s.aon.main || 1400 ≤ v || 2500 ≤ c)) s (s.aonStart v c xtal)

/-- DOMAIN_LOSES_POWER (R420): retention memory, RTC and every AON_ value are lost. -/
def State.aonLost (s : State) : State :=
  let s1 := { s with ram := s.ram.filter (fun p => p.1 < retBase || retBase + 16384 ≤ p.1) }
  let s2 := forUpTo 9 (fun k t => t.setWord (R.AON_STATUS + 4 * k) (regReset (R.AON_STATUS + 4 * k))) s1
  { s2 with aon := { } }

/-- DOMAIN_LOSES_POWER (R420). -/
def execDomainLosesPower (v c : Nat) (s : State) : Out :=
  when (s.aon.powered && !s.aon.main && v < 1400 && c < 2500) s s.aonLost

/-! ### Bursts and commits (R424 to R433) -/

/-- BURST_REQUEST (R424, R425): a burst of a kind of the table "Burst costs", of `n` blocks if a read, with VSTORE measured at `v`. -/
def execBurstRequest (kind n v : Nat) (s : State) : Out :=
  when (s.aon.powered && kind < 4 && 1 ≤ n && n ≤ 32) s (s.burst (burstCost kind n) v).1

/-- The newest checkpoint of Q06 goes to the slot that does not hold the last one; older ones count (R428, R430). -/
def State.ckptCommit (s : State) : State :=
  match s.aon.q06.getLast? with
  | none => s
  | some b =>
    let k := s.aon.ckptSlot
    let body := b ++ leBytes 8 (s.aon.ckptSeq + 1)
    let s1 := s.setBytes (retBlock (16 + 64 * k)) (body ++ leBytes 4 (crc32 body))
    let s2 := s1.bumpBy R.AON_ERR_CNT_ckpt_skip (s.aon.q06.length - 1)
    { s2 with aon := { s2.aon with q06 := [], ckptSeq := s.aon.ckptSeq + 1, ckptSlot := 1 - k } }

/-- CHECKPOINT_COMMIT (R430). -/
def execCheckpointCommit (s : State) : Out := when s.aon.powered s s.ckptCommit

/-- LOG_COMMIT (R431, R436): at VSTORE `v`; a pending tamper entry goes before any log record, a refused commit leaves its
record in Q07. -/
def State.logCommit (s : State) (v : Nat) : State :=
  let pend := s.get R.AON_TAMPER_STAT_pending
  if pend != 0 then
    let r := s.burst (burstCost 3 0) v
    ite' r.2 r.1 ((r.1.put R.AON_TAMPER_STAT_pending 0).tamperWrite pend)
  else
    match s.aon.q07 with
    | [] => s
    | (kind, p) :: rest =>
      let r := s.burst (burstCost 3 0) v
      ite' r.2 r.1 ({ r.1 with aon := { r.1.aon with q07 := rest ++ r.1.aon.q07.drop (rest.length + 1) } }.logWrite kind p)

/-- LOG_COMMIT (R431). -/
def execLogCommit (v : Nat) (s : State) : Out := when s.aon.powered s (s.logCommit v)

/-! ### Tamper inputs (R435, R436) -/

/-- TAMPER_ENTRY (R436) of the inputs in `mask`: written at once if a burst is admitted, else pending. -/
def State.tamperEntry (s : State) (mask v : Nat) : State :=
  let s1 := s.put R.AON_TAMPER_STAT_seen (s.get R.AON_TAMPER_STAT_seen ||| mask)
  let s2 := s1.raiseIf s1.aon.main 505
  let r := s2.burst (burstCost 3 0) v
  let all := s2.get R.AON_TAMPER_STAT_pending ||| mask
  if r.2 then (r.1.put R.AON_TAMPER_STAT_pending 0).tamperWrite all else r.1.put R.AON_TAMPER_STAT_pending all

/-- TAMPER_SAMPLE (R435): bit k of `levels` is TAMPER_A + k reading high; four equal samples change an input's state. -/
def State.tamperSample (s : State) (levels v : Nat) : State :=
  let lv := s.get R.AON_TAMPER_STAT_level
  let bit (x k : Nat) : Bool := x / 2 ^ k % 2 == 1
  let en (k : Nat) : Bool := bit (s.get R.AON_TAMPER_CFG_en) k
  let run (k : Nat) : Nat := if en k && bit levels k != bit lv k then tnum s.aon.tamperRun k + 1 else 0
  let s1 := { s with aon := { s.aon with tamperRun := (List.range 4).map (fun k => (k, if 4 ≤ run k then 0 else run k)) } }
  let now (k : Nat) : Bool := if !en k then false else if 4 ≤ run k then !bit lv k else bit lv k
  let mask (f : Nat → Bool) : Nat := (List.range 4).foldl (fun a k => if f k then a + 2 ^ k else a) 0
  let entered := mask (fun k => now k && !bit lv k)
  let s2 := s1.put R.AON_TAMPER_STAT_level (mask now)
  ite' (entered != 0) s2 (s2.tamperEntry entered v)

/-- TAMPER_SAMPLE (R434, R435): at the domain's 1,024 Hz, with the crystal running or not (log entry 16). -/
def execTamperSample (levels v : Nat) (xtal : Bool) (s : State) : Out :=
  when (s.aon.powered && levels < 16) s ((s.putB R.AON_STATUS_xtal_ok xtal).tamperSample levels v)

/-! ### RF read-out (R432, R437 to R440) -/

/-- The link number of the RF interface in `answers`. -/
def rfLink : Nat := 4

/-- The UID: 0xE0, then bits [55:0] of the serial (R437). -/
def State.uid (s : State) : Nat := 0xE0 * 2 ^ 56 + s.boot.fuses.serial.toNat % 2 ^ 56

/-- Bit `k` of the request flags of ISO/IEC 15693-3. -/
def flagBit (flags k : Nat) : Bool := flags / 2 ^ k % 2 == 1

/-- One subcarrier at the high data rate, with the logic running (R423, R437). -/
def State.rfHears (s : State) (flags : Nat) : Bool := s.aon.powered && !flagBit flags 0 && flagBit flags 1

/-- Whether a request other than Inventory is for this device: by address, or to all that are not quiet. -/
def State.rfForMe (s : State) (flags uid : Nat) : Bool :=
  s.rfHears flags && (if flagBit flags 5 then uid == s.uid else !s.aon.quiet && !flagBit flags 4)

/-- Count a notice (R432). -/
def State.rfCount (s : State) (err : Bool) : State := ite' err (s.bump R.AON_RF_CNT_commands) ((s.bump R.AON_RF_CNT_commands).bump R.AON_RF_CNT_errors)

/-- RF_NOTICE (R432): with the main supply present a notice enters Q31, which the running control plane empties and counts;
before it runs, notices wait there. -/
def State.rfNotice (s : State) (cmd first n : Nat) (err : Bool) : State :=
  if !s.aon.main then s
  else if s.boot.stage != .inReset then (s.count (0x80 + 31)).rfCount err
  else if hasRoom s.aon.q31 8 then ({ s with aon := { s.aon with q31 := s.aon.q31 ++ [(cmd, first, n, err)] } }.count (0x80 + 31))
  else (s.bump R.AON_RF_CNT_rf_notice_drop).count (0x60 + 31)

/-- The control plane, which begins to run, counts the notices that wait (R432). -/
def State.rfDrain (s : State) : State :=
  s.aon.q31.foldl (fun t e => t.rfCount e.2.2.2) { s with aon := { s.aon with q31 := [] } }

/-- An RF answer and its notice. -/
def State.rfAnswer (s : State) (cmd first n : Nat) (bytes : List Byte) : State :=
  (s.answer rfLink { bytes := bytes }).rfNotice cmd first n (bytes.head? == some 1)

/-- An error answer. -/
def rfError (code : Nat) : List Byte := [1, BitVec.ofNat 8 code]

/-- Answer command `cmd` in a burst of `nj` with VSTORE at `v`; refused, the answer is error 0x0F (R425). -/
def State.rfBurst (s : State) (cmd first n nj v : Nat) (bytes : List Byte) : State :=
  let r := s.burst nj v
  r.1.rfAnswer cmd first n (if r.2 then bytes else rfError 0x0F)

/-- The slot in which the device answers an Inventory with a mask of `len` bits: slot 0 of one, or of 16 the one that the four bits
of the UID after the mask name (R437; log entry 16). -/
def State.rfSlot (s : State) (flags len : Nat) : Nat := if flagBit flags 5 then 0 else s.uid / 2 ^ len % 16

/-- INVENTORY (R437): an AFI of 0x00 and a mask that fits the UID are answered with DSFID and UID, in one of 1 or 16 slots; not while
quiet. -/
def execInventory (flags afi len mask v : Nat) (s : State) : Out :=
  let fits := (!flagBit flags 4 || afi == 0) && mask % 2 ^ len == s.uid % 2 ^ len
  let s1 := { s with aon := { s.aon with slot := s.rfSlot flags len } }
  when (s.rfHears flags && flagBit flags 2 && !s.aon.quiet && len ≤ (if flagBit flags 5 then 64 else 60) && fits) s
    (s1.rfBurst 1 0 0 (burstCost 0 0) v (if flagBit flags 6 then rfError 3 else [0, 0] ++ leBytes 8 s.uid))

/-- STAY_QUIET (R425, R437, R438): an addressed device answers nothing until the field is lost; a burst that is not admitted and the
option flag are answered with their errors. -/
def execStayQuiet (flags uid v : Nat) (s : State) : Out :=
  let r := s.burst (burstCost 0 0) v
  when (s.rfHears flags && flagBit flags 5 && uid == s.uid) s
    (if flagBit flags 6 then s.rfBurst 2 0 0 (burstCost 0 0) v (rfError 3)
    else if r.2 then { r.1 with aon := { r.1.aon with quiet := true } } else r.1.rfAnswer 2 0 0 (rfError 0x0F))

/-- `n` blocks from block `b`. -/
def State.retBlocks (s : State) (b n : Nat) : List Byte := s.bytes (retBlock b) (4 * n)

/-- Whether a block number fits its field: 1 byte, or 2 with the protocol extension flag (R438). -/
def blockFits (flags b : Nat) : Bool := b < (if flagBit flags 3 then 65536 else 256)

/-- READ_SINGLE_BLOCK (R437, R438). -/
def execReadSingleBlock (flags uid b v : Nat) (s : State) : Out :=
  when (s.rfForMe flags uid && blockFits flags b) s
    (if flagBit flags 6 then s.rfBurst 0x20 b 1 (burstCost 0 0) v (rfError 3)
    else if 4095 < b then s.rfBurst 0x20 b 1 (burstCost 0 0) v (rfError 0x10)
    else s.rfBurst 0x20 b 1 (burstCost 1 0) v (0 :: s.retBlocks b 1))

/-- The last block that a request reaches (R438). -/
def blockReach (flags : Nat) : Nat := if flagBit flags 3 then 4095 else 255

/-- READ_MULTIPLE_BLOCKS (R438 to R440): `n` is the count byte, blocks − 1; more than 32 blocks are an error on A1. A request without
the extension flag whose last block lies past 255 is answered with the error of a block past the last (log entry 16). -/
def execReadMultipleBlocks (flags uid b n v : Nat) (s : State) : Out :=
  when (s.rfForMe flags uid && blockFits flags b && n < 256) s
    (if flagBit flags 6 then s.rfBurst 0x23 b (n + 1) (burstCost 0 0) v (rfError 3)
    else if blockReach flags < b + n || 32 < n + 1 then s.rfBurst 0x23 b (n + 1) (burstCost 0 0) v (rfError 0x10)
    else s.rfBurst 0x23 b (n + 1) (burstCost 2 (n + 1)) v (0 :: s.retBlocks b (n + 1)))

/-- GET_SYSTEM_INFORMATION (R437, R438): memory size and IC reference. -/
def execGetSystemInformation (flags uid v : Nat) (s : State) : Out :=
  let size := if flagBit flags 3 then leBytes 2 0x0FFF else leBytes 1 0xFF
  when (s.rfForMe flags uid) s
    (s.rfBurst 0x2B 0 0 (burstCost 0 0) v (if flagBit flags 6 then rfError 3 else [0, 0x0C] ++ leBytes 8 s.uid ++ size ++ [0x03, 0x11]))

/-- RF_UNSUPPORTED_COMMAND (R437). -/
def execRfUnsupportedCommand (flags uid cmd v : Nat) (s : State) : Out :=
  let known := cmd == 1 || cmd == 2 || cmd == 0x20 || cmd == 0x23 || cmd == 0x2B
  when (s.rfForMe flags uid && cmd < 256 && !known) s
    (s.rfBurst cmd 0 0 (burstCost 0 0) v (rfError (if flagBit flags 6 then 3 else 1)))

/-- RF_FIELD_LOST (R437): the quiet state ends. -/
def execRfFieldLost (s : State) : Out := .next { s with aon := { s.aon with quiet := false } }

end Sys2Proof.Machine
end

