-- ==== Sys2Proof/Machine/Reset.lean ====
section
/-!
DEFINITION. Rails, pins and reset (R63, R474 to R481).
-/

namespace Sys2Proof.Machine

/-! ### Fuses (R58, R60, R61) -/

/-- The fuses after programming for the image at hand: `missed` are bits of integrator_hash that did not blow. Bits only go
from 0 to 1; a read-back that differs from the key's hash stops before debug_lock and integrator_valid (R58, R60, R61). -/
def Fuses.program (f : Fuses) (bind commit : Bool) (hash missed : BitVec 384) (svn : Nat) : Fuses :=
  let h := f.integratorHash ||| (hash &&& ~~~ missed)
  let g := if bind && !f.integratorValid then
      { f with integratorHash := h, debugLock := f.debugLock || h == hash, integratorValid := h == hash }
    else f
  if commit then { g with rollback := max g.rollback svn } else g

/-- Fuse programming that a reset breaks off: hash bits, then debug_lock, then integrator_valid, and rollback bits, each as far
as it came (R60, R62; how far is free). -/
def State.brokenFuses (s : State) : State :=
  let h := s.boot.header
  let bind := h.flags / 2 % 2 = 1
  let commit := h.flags % 2 = 1
  let hash := sha384 s.boot.integratorKey
  let done := s.boot.fuses.program bind commit hash (BitVec.ofNat 384 s.freshNat) (s.boot.fuses.rollback + s.burn.freshNat % (h.svn + 1 - s.boot.fuses.rollback))
  let f := { done with
    debugLock := s.boot.fuses.debugLock || (done.debugLock && s.burn.burn.freshBool)
    integratorValid := s.boot.fuses.integratorValid || (done.integratorValid && s.burn.burn.freshBool && s.burn.burn.burn.freshBool) }
  if s.boot.stage == .waitFuses then { s.burn.burn.burn.burn with boot := { s.boot with fuses := f } } else s

/-! ### Reset assertion (R476, R477) -/

/-- RESET_ASSERT: legs that are effectively enabled first go through two-step turn-off, unless the core or I/O rail dies; a
reset already extended changes nothing (R476). -/
def State.assertReset (s : State) (dying : Bool) : State :=
  if s.pins.extended then s
  else
    let s1 := s.brokenFuses
    let s2 := forUpTo 48 (fun l t => ite' (t.effective l true || t.effective l false) t (t.softStart l)) s1
    s2.inReset (!dying && s2.anySoft)

/-- RESET_ASSERT (R476). -/
def execResetAssert (dying : Bool) (s : State) : Out :=
  let t := s.assertReset dying
  .next { t with pins := { t.pins with resetN := false } }

/-- RESET_N_PULSE (R477): `ns` nanoseconds low; between 100 ns and 1 µs it is open whether it resets. -/
def execResetNPulse (ns : Nat) (s : State) : Out :=
  if ns < 100 then .next s
  else if 1000 ≤ ns then .next (s.assertReset false)
  else .next (ite' s.freshBool s.burn (s.burn.assertReset false))

/-- REBOOT_RESET (R68): 1 ms after the reboot write the device resets as by a reset pin. -/
def execRebootReset (s : State) : Out := when s.boot.rebootScheduled s (s.assertReset false)

/-! ### Rails (R420, R475) -/

/-- A rail becomes good or not; the always-on domain has the main supply while VDD_IO and VDD_CORE are good (R420). -/
def State.setRail (s : State) (r : Nat) (good : Bool) : State :=
  let rails := tset s.pins.rails r good
  let main := tbit rails 0 && tbit rails 5
  let goodAt := if good && !tbit s.pins.rails r then tset s.pins.goodAt r s.clk.elapsed else s.pins.goodAt
  let t := { s with pins := { s.pins with rails := rails, goodAt := goodAt }, aon := { s.aon with main := main } }
  ite' (s.aon.powered && main != s.aon.main) t t.aonLow

/-- RAIL_GOOD (R474, R475): rails are numbered VDD_CORE, VDD_SRAM, VDD_SER, VDD_ANA, VDD_PLL, VDD_IO. -/
def execRailGood (r : Nat) (s : State) : Out := when (r < 6) s (s.setRail r true)

/-- RAIL_BELOW_RESET (R475, R476). -/
def execRailBelowReset (r : Nat) (s : State) : Out :=
  when (r < 6) s ((s.assertReset (r == 0 || r == 5)).setRail r false)

/-- SUPPLY_WARN (R475): raised while the device is out of reset. -/
def execSupplyWarn (r : Nat) (s : State) : Out := when (r < 6 && s.boot.stage != .inReset) s (s.raise 507)

/-! ### Release (R63, R474, R480, R481) -/

/-- Whether all six rails have been good for 2 ms (R474). -/
def State.railsGood (s : State) : Bool :=
  (List.range 6).all (fun r => tbit s.pins.rails r && decide (tnum s.pins.goodAt r + 16000000 ≤ s.clk.elapsed))

/-- The fuses as BOOT_STATUS shows them. -/
def State.showFuses (s : State) : State :=
  ((s.putB R.BOOT_STATUS_bound s.boot.fuses.integratorValid).putB R.BOOT_STATUS_debug_locked s.boot.fuses.debugLock).put
    R.BOOT_STATUS_fuse_svn s.boot.fuses.rollback

/-- AON_CFG and AON_TAMPER_CFG back at their reset values, as at every reset release (R2, R441). -/
def State.aonDefaults (s : State) : State :=
  ((s.setWord R.AON_CFG (regReset R.AON_CFG)).setWord R.AON_TAMPER_CFG (regReset R.AON_TAMPER_CFG)).aonLow

/-- RESET_RELEASE: the boot counter counts, the fuses are sensed, the loader waits for the SFDP read (R63, R474); the notices of RF
commands that wait are counted (R432). -/
def State.release (s : State) : State :=
  let s1 := s.bootCountUp.aonDefaults
  { s1 with boot := { s1.boot with stage := .waitSfdp } }.showFuses.rfDrain

/-- RESET_RELEASE (R474): RESET_N has been high for 2 ms or not, `test` are the TEST balls that are high, bit r of `refs` says that reference
r is present, XIN being 0; released once every rail, RESET_N and the TEST balls satisfy their conditions. -/
def execResetRelease (resetN : Bool) (test refs : Nat) (s : State) : Out :=
  let s1 := { s with pins := { s.pins with resetN := resetN, test := test, xin := refs % 2 == 1 } }.put R.CLK_STATUS_ref_present refs
  when (s.boot.stage == .inReset && !s.pins.extended && s.aon.powered && test < 16 && refs < 8) s
    (ite' (s.railsGood && resetN && test == 0) s1 s1.release)

/-- XIN_START (R481). -/
def execXinStart (s : State) : Out :=
  .next ({ s with pins := { s.pins with xin := true } }.put ⟨R.CLK_STATUS, 14, 1⟩ 1)

/-- RSTOUT_N: none while it is not driven, else its level (R478). -/
def State.rstoutN (s : State) : Option Bool := if tbit s.pins.rails 5 then some (s.on R.BOOT_STATUS_safe_ready) else none

end Sys2Proof.Machine
end

