-- ==== Sys2Proof/Machine/Twin.lean ====
section
/-!
DEFINITION. The twin link: lanes, pairing, cross-trips, mirrored signals, the pair's mode machine, partner loss (R388 to R402).
-/

namespace Sys2Proof.Machine

/-- Whether the image uses the twin link (R391). -/
def State.twinUsed (s : State) : Bool := s.get R.TWN_CFG_role == 1 || s.get R.TWN_CFG_role == 2

/-- Twin lane `l`. -/
def State.lane (s : State) (l : Nat) : LaneS := tget s.twn.lanes l { }

/-- Replace twin lane `l`. -/
def State.setTwinLane (s : State) (l : Nat) (x : LaneS) : State := { s with twn := { s.twn with lanes := tset s.twn.lanes l x } }

/-- The bit of lane `l` in TWN_STATUS.lanes_up. -/
def laneFld (l : Nat) : Fld := ⟨R.TWN_STATUS, 3 + l, 1⟩

/-- The lanes that are up. -/
def State.lanesUp (s : State) : Nat := ((List.range 4).filter (fun l => s.on (laneFld l))).length

/-! ### Pairing (R391, R392, R400) -/

/-- The hash of the plans and frame sources of this device (R391), less what a band search has written (R82). -/
def State.pairHash (s : State) : Nat :=
  let plans := (List.range 12).flatMap (fun i =>
    [(R.CLK_PLAN_valid i).ins ((R.CLK_PLAN_band i).ins (s.word (R.CLK_PLAN i)) 0) 0, s.word (R.CLK_PLAN_FRAC i)])
  Config.pairHash (plans ++ s.words (R.ENG_FSRC 0) 16 ++ s.words (R.ENG_FT 0) 16)

/-- PAIRING_CHECK (R391): complementary roles, equal identities, equal hashes; a mismatch is refused. It waits for both devices
to be in SAFE (R392) and for a partner that pairs too (log entry 40). -/
def State.pairingCheck (s : State) (pairId hash : Nat) : State :=
  let pairs := s.twn.partnerState == 1 || s.twn.partnerState == 2
  if s.get R.TWN_STATUS_state != 1 || s.lanesUp < 2 then s
  else if s.twn.partnerRole + s.get R.TWN_CFG_role = 3 && pairId == (s.word R.TWN_PAIR).toNat && hash == s.pairHash then
    ite' (s.mode == 0 && s.twn.partnerMode == 0 && pairs) s
      { (s.put R.TWN_STATUS_state 2) with fab := { s.fab with marked := false, stepArmed := false, goodMarks := 0, badMarks := 0 } }
  else ite' (s.get R.TWN_CFG_role == 2) (s.put R.TWN_STATUS_state 4) (s.put R.TWN_STATUS_state 4).fabStart

/-- The leader names a start time at least 10 µs ahead once the follower reports time_locked (R392). -/
def State.nameStart (s : State) : State :=
  if s.get R.TWN_STATUS_state == 2 && s.get R.TWN_CFG_role == 1 && s.twn.partnerState == 2 && s.twn.partnerLocked && s.twn.startAt.isNone then
    let t := s.clk.plantTime + 80000 + s.freshNat
    { s.burn with twn := { s.twn with startAt := some t } }.sendCtl (.start t)
  else s

/-- A device that pairs takes no part in the fabric as a follower (R392): ports that a refused pairing has opened close. -/
def State.leaveFabric (s : State) : State :=
  ite' (s.get R.TWN_CFG_role == 2) s
    (forUpTo 4 (fun p t => ite' (t.linkState p != 0) t ((t.portDown p).put (R.FAB_PORT_state p) 0)) s)

/-- Pairing begins anew (R400). -/
def State.pairAnew (s : State) : State :=
  let s1 := (s.leaveFabric.put R.TWN_STATUS_state 1).putB R.TWN_STATUS_time_locked false
  { s1 with twn := { s1.twn with startAt := none, q23 := [], q25 := [], held := [], mirrored := [], partnerLocked := false } }

/-- A partner that aligns while this device is paired, refused or has lost it was reset, or told to pair again: pairing resumes in
SAFE (R400; DEDUCED, log entry 40). -/
def State.partnerBack (s : State) : State :=
  let st := s.get R.TWN_STATUS_state
  ite' (3 ≤ st && st ≤ 5 && 2 ≤ s.lanesUp && s.twn.partnerState == 1 && s.mode == 0 && s.twn.partnerMode == 0) s s.pairAnew

/-- TWIN_HEARTBEAT (R389, R391): a heartbeat of lane `l`; it and the pairing carry the partner's role, pair state, mode,
time lock, pair identity and hash. One that is not `valid` carries nothing and ends the run of consecutive ones. -/
def execTwinHeartbeat (l : Nat) (valid : Bool) (role pst mode : Nat) (locked : Bool) (pairId hash : Nat) (s : State) : Out :=
  let x := s.lane l
  let s1 := s.setTwinLane l { x with good := min (x.good + 1) 16 }
  let s2 := { s1 with twn := { s1.twn with partnerRole := role, partnerState := pst, partnerMode := mode, partnerLocked := locked } }
  let s3 := ite' (15 ≤ x.good) s2 (s2.putB (laneFld l) true)
  when (s.live && s.twinUsed && l < 4 && x.aligned) s
    (if valid then (s3.partnerBack.pairingCheck pairId hash).nameStart else s.setTwinLane l { x with good := 0 })

/-- HEARTBEAT_SEND (R388): on every lane, every 256 ns, with role, pair state and lane number. -/
def execHeartbeatSend (s : State) : Out :=
  when (s.live && s.twinUsed) s
    { s with twn := { s.twn with beat := (List.range 4).map (fun l => (s.get R.TWN_CFG_role, s.get R.TWN_STATUS_state, l)) } }

/-- ALIGNMENT (R363, R388): comma alignment and 64 good symbols of fabric port `p`, or of twin lane `p` − 4. -/
def execAlignment (p : Nat) (s : State) : Out :=
  let x := s.fport p
  if p < 4 then
    when (s.live && s.linkState p == 1 && !tbit s.pins.los p && s.mayTrain p) s
      ((s.put (R.FAB_PORT_state p) 2).setFport p { x with heard := 0, told := 0 })
  else when (s.live && s.twinUsed && p < 8) s (s.setTwinLane (p - 4) { s.lane (p - 4) with aligned := true, good := 0 })

/-- Both devices start together (R392): carriers and frame indices anew, state paired. -/
def State.twinStart (s : State) : State :=
  let s1 := s.carriersAnew.put R.TWN_STATUS_state 3
  { s1 with twn := { s1.twn with startAt := none, q23 := [], q25 := [], held := [], mirrored := [] } }

/-- TWIN_START (R392): the start time has come, and both devices are in SAFE. -/
def execTwinStart (s : State) : Out :=
  match s.twn.startAt with
  | some t =>
    when (s.live && s.get R.TWN_STATUS_state == 2 && t ≤ s.clk.plantTime) s
      (if s.mode == 0 && s.twn.partnerMode == 0 then s.twinStart else { s with twn := { s.twn with startAt := none } })
  | none => .next s

/-- REPAIR (R400): pairing restarts; ignored unless both devices are in SAFE, the partner by its last heartbeat. -/
def State.repair (s : State) : State := ite' (s.mode == 0 && s.twn.partnerMode == 0 && s.twinUsed) s s.pairAnew

/-- REPAIR (R400). -/
def execRepair (s : State) : Out := when s.live s s.repair

/-! ### Partner loss (R389, R399) -/

/-- PARTNER_LOSS (R399): a follower's governor goes on from what it last published. -/
def State.partnerLoss (s : State) : State :=
  let s1 := ((s.raise 490).put R.TWN_STATUS_state 5).putB R.TWN_STATUS_time_locked false
  let g := s1.gov
  let w (x : Nat) : Word := s.word (R.S x)
  let gov := if s.follows && s.on R.GOV_CFG_en then
      { g with last := w 64, pub := tset (tset (tset g.pub 64 (w 64)) 68 (w 68)) 69 (w 69), hopM := none, hopE := none } else g
  let s2 := { s1 with gov := gov, twn := { s1.twn with held := [], startAt := none, waitingCtl := [], waitingMirror := [] } }.degradeEnds (fun _ => s.follows) |>.checkForce
  let k := s2.get R.TWN_CFG_solo_glaze
  ite' (8 ≤ k) s2 (s2.auxRequest k true)

/-- TWIN_LANE_DOWN (R389): 1,280 ns without a valid heartbeat, loss of alignment, or 8 code errors. A lane that was not up yet starts
anew; with fewer than two lanes up the partner is lost. -/
def execTwinLaneDown (l : Nat) (s : State) : Out :=
  let s0 := s.setTwinLane l { }
  let s2 := ((s0.putB (laneFld l) false).bump R.TWN_ERR_CNT_lane_downs).raise 492
  let lost := s2.lanesUp < 2 && (s.get R.TWN_STATUS_state == 2 || s.get R.TWN_STATUS_state == 3)
  when (s.live && s.twinUsed && l < 4 && (s.lane l).aligned) s
    (if s.on (laneFld l) then ite' lost s2 s2.partnerLoss else s0)

/-! ### Cross-trips and mirrored signals (R393 to R396) -/

/-- CROSS_TRIP_RECEIVED (R388, R393): source 491, and every armed domain of rx_pd trips directly, whatever the sender's domain mask
`mask` says. -/
def execCrossTripReceived (mask : Nat) (s : State) : Out :=
  let s1 := { (s.raise 491) with twn := { s.twn with crossTotal := s.twn.crossTotal + 1, crossFrom := mask % 16 } }
  let m := s.get R.TWN_CFG_rx_pd
  let s2 := forUpTo 4 (fun d t => ite' (m / 2 ^ d % 2 = 1) t (t.domainTrip d 491 false true false)) s1
  when (s.live && s.twinUsed && s.get R.TWN_STATUS_lanes_up != 0) s (State.passOpened s s2)

/-- The parameters of source `f` that the partner mirrors (R394). -/
def State.mirrorParams (s : State) (f : Nat) : List Nat :=
  (s.twn.mirrored.filter (fun p => p.2)).filterMap (fun p => if s.paramSrc p.1 == some f then some p.1 else none)

/-- The entry of Q23 for signal `x` and tag `k`. -/
def State.mirrorEntry (s : State) (f k x : Nat) : Option Word :=
  s.twn.q23.findSome? (fun m => match m with
    | .mirror g t y w => if g = f && t = k && y = x then some w else none
    | _ => none)

/-- Whether every mirrored signal of source `f` has its entry of tag `k`. -/
def State.mirrorComplete (s : State) (f k : Nat) : Bool := (s.mirrorParams f).all (fun x => (s.mirrorEntry f k x).isSome)

/-- Whether frame index `t` is `k` or an earlier one, across the wrap of the index (R17). -/
def notAfter (t k : Nat) : Bool := (k + 2 ^ 32 - t) % 2 ^ 32 < 2 ^ 31

/-- The entries of source `f` up to tag `k` leave Q23. -/
def State.mirrorDrop (s : State) (f k : Nat) : State :=
  { s with twn := { s.twn with q23 := s.twn.q23.filter (fun m => match m with
    | .mirror g t _ _ => !(g == f && notAfter t k)
    | _ => false) } }

/-- The entries of source `f` and tag `k` are published (R395). -/
def State.mirrorPublish (s : State) (f k : Nat) : State :=
  ((s.mirrorParams f).foldl (fun t x => match s.mirrorEntry f k x with
    | some w => t.publishWord x w
    | none => t) s).mirrorDrop f k

/-- A mirror miss at a latch (R396). -/
def State.mirrorMiss (s : State) : State :=
  let s1 := (s.raise 493).bump R.TWN_ERR_CNT_mirror_miss
  { s1 with twn := { s1.twn with missTotal := s1.twn.missTotal + 1 } }

/-- The mirror step of a latch of source `f` whose frame is `idx`: the entries tagged with the frame before it are published;
a miss keeps the published values, and with wait the source holds. The first frame's entries, tagged 1, are due at the latch of frame 2
(R395, R396). -/
def State.mirrorLatch (s : State) (f idx : Nat) : State :=
  let k := (idx + 2 ^ 32 - 1) % 2 ^ 32
  if !s.paired || (s.mirrorParams f).isEmpty || s.framesDone f < 2 then s
  else if s.mirrorComplete f k then
    { (s.mirrorPublish f k) with twn := { (s.mirrorPublish f k).twn with held := tset s.twn.held f false } }
  else if s.get R.TWN_MIRROR_CFG_wait / 2 ^ f % 2 = 1 then
    { s.mirrorMiss with twn := { s.mirrorMiss.twn with held := tset s.twn.held f true, heldFrame := tset s.twn.heldFrame f k } }
  else s.mirrorMiss.mirrorDrop f k

/-- The entries that source `f` waits for are complete: they are published and copied into the frames that wait (R396). -/
def State.mirrorRelease (s : State) (f : Nat) : State :=
  let k := tnum s.twn.heldFrame f
  if !(tbit s.twn.held f && s.mirrorComplete f k) then s
  else
    let xs := s.mirrorParams f
    let s1 := s.mirrorPublish f k
    let s2 := forUpTo 64 (fun c t =>
      if t.srcOf c = f && (t.fr c).phase == .copying then
        t.setFr c { t.fr c with imports := (xs.filter (fun x => t.importsSig c x)).foldl (fun i x => tset i x (t.word (R.S x))) (t.fr c).imports }
      else t) s1
    { s2 with twn := { s2.twn with held := tset s2.twn.held f false } }

/-- MIRROR_ENTRY_RECEIVED (R390, R395, R396): a value tagged `k`; one whose latch has passed is discarded unless its source
waits for it. -/
def State.mirrorIn (s : State) (f k sig : Nat) (w : Word) : State :=
  let s1 := { s with twn := { s.twn with mirrored := tset s.twn.mirrored sig true } }
  let waits := tbit s.twn.held f && tnum s.twn.heldFrame f == k
  if s.paramSrc sig != some f || (2 ≤ s.framesDone f && notAfter k ((s.get (R.ENG_FIDX_index f) + 2 ^ 32 - 2) % 2 ^ 32) && !waits) then s
  else if !hasRoom s.twn.q23 256 then
    let t := ((s1.bump R.TWN_ERR_CNT_rx_drop).bump R.TWN_ERR_CNT_mirror_miss).count (0x60 + 23)
    { t with twn := { t.twn with missTotal := t.twn.missTotal + 1 } }
  else ({ (s1.count (0x80 + 23)) with twn := { s1.twn with q23 := s1.twn.q23 ++ [TwinMsg.mirror f k sig w] } }).mirrorRelease f

/-- MIRROR_ENTRY_RECEIVED (R388, R395) in a packet whose CRC-32 holds (`whole`); another packet is lost. -/
def execMirrorEntryReceived (whole : Bool) (f k sig : Nat) (w : Word) (s : State) : Out :=
  when (s.live && s.paired && whole && f < 16 && sig < 4096) s (s.mirrorIn f (k % 2 ^ 32) sig w)

/-! ### One mode machine, one governor (R397, R398) -/

/-- A composition of the leader's, numbered `no`: it replaces a pending one of which no source has swapped, and waits for another to be
in force (R341, R397). -/
def State.composeIn (s : State) (mode : Nat) (aux : List Nat) (no : Nat) : State :=
  let half : Bool := match s.seq.comp with
    | some c => !c.swapped.isEmpty
    | none => false
  if half then { s with seq := { s.seq with heldComp := some (mode, aux, no) } }
  else { s with seq := { s.seq with compNo := no - 1 } }.startComp mode aux (mode != s.mode)

/-- A control message of the partner: kinds 0 mode request, 1 auxiliary request, 2 completion of a composition by its number (to the
leader), 3 composition with its number, 4 start time, 5 the governor's words, 6 hop (to the follower). -/
def State.controlIn (s : State) (kind : Nat) (a : List Nat) : State :=
  let x := a.getD 0 0
  let y := a.getD 1 0
  if kind = 0 then ite' (s.leads && x < 8) s (s.hostMode x)
  else if kind = 1 then ite' (s.leads && 8 ≤ x && x < 16) s (s.hostAux x (y != 0))
  else if kind = 2 then
    match s.seq.comp with
    | some c => ite' (s.leads && x == c.no) s ({ s with seq := { s.seq with comp := some { c with partnerDone := true } } }.sendGo.checkForce)
    | none => s
  else if kind = 3 then ite' (s.follows && x < 8) 
    s (s.composeIn x ((List.range 8).filterMap (fun k => if y / 2 ^ k % 2 = 1 then some (k + 8) else none)) (a.getD 2 0))
  else if kind = 4 then ite' (s.get R.TWN_STATUS_state == 2 && s.get R.TWN_CFG_role == 2) s { s with twn := { s.twn with startAt := some x } }
  else if kind = 5 then ite' s.follows s { s with gov := { s.gov with received := forUpTo 16 (fun k t => tset t k (BitVec.ofNat 32 (a.getD k 0))) [] } }
  else if kind = 6 then ite' (s.follows && x < 2) s ((s.setWord64 R.CLK_HOP_TIME (a.getD 2 0)).hopRequest x y true)
  else if kind = 7 then
    match s.seq.comp with
    | some c => ite' s.follows s ({ s with seq := { s.seq with comp := some { c with goAt := some x } } }.checkForce)
    | none => s
  else s

/-- A control message passes Q25: at once, or behind the others while the control plane waits for room in Q24; a full Q25 discards it
(R390). -/
def State.controlRx (s : State) (kind : Nat) (a : List Nat) : State :=
  if !hasRoom s.twn.q25 256 then (s.bump R.TWN_ERR_CNT_rx_drop).count (0x60 + 25)
  else
    let s1 := s.count (0x80 + 25)
    if s1.twn.waitingCtl.isEmpty && s1.twn.q25.isEmpty then s1.controlIn kind a
    else { s1 with twn := { s1.twn with q25 := s1.twn.q25 ++ [(kind, a)] } }

/-- The control plane, which does not wait, takes a message that waited in Q25 (R390). -/
def State.controlNext (s : State) : State :=
  match s.twn.q25 with
  | m :: r => ite' s.twn.waitingCtl.isEmpty s ({ s with twn := { s.twn with q25 := r } }.controlIn m.1 m.2)
  | [] => s

/-- TWIN_CONTROL_REQUEST (R388, R397, R398) in a packet whose CRC-32 holds (`whole`); another packet is lost. -/
def execTwinControlRequest (whole : Bool) (kind : Nat) (a : List Nat) (s : State) : Out :=
  when (s.live && s.twinUsed && whole && kind < 7) s (s.controlRx kind a)

/-- TWIN_GO (R388, R397): the leader's go, sent at plant time `t`, in a packet whose CRC-32 holds (`whole`). -/
def execTwinGo (whole : Bool) (t : Nat) (s : State) : Out := when (s.live && s.twinUsed && whole) s (s.controlRx 7 [t])

/-! ### Transmit queues (R390) and signals (R402) -/

/-- Control messages that wait enter Q24 as far as it has room. -/
def State.ctlProceed (s : State) : Nat → State
  | 0 => s
  | n + 1 =>
    match s.twn.waitingCtl with
    | m :: r =>
      if hasRoom s.twn.q24 256 then
        ({ (s.count (0x80 + 24)) with twn := { s.twn with waitingCtl := r, q24 := s.twn.q24 ++ [m] } }).ctlProceed n
      else s
    | [] => s

/-- A mirror entry of a group that waits enters Q22, which has room. -/
def State.mirrorProceed (s : State) : State :=
  match s.twn.waitingMirror with
  | m :: r => { (s.count (0x80 + 22)) with twn := { s.twn with waitingMirror := r, q22 := s.twn.q22 ++ [m] } }
  | [] => s

/-- The first message of Q22 or Q24 is sent. -/
def State.twinSend (s : State) (q : Nat) : State :=
  if q = 22 then
    match s.twn.q22 with
    | m :: r => { s with twn := { s.twn with q22 := r, sent := some m } }.mirrorProceed
    | [] => s
  else
    match s.twn.q24 with
    | m :: r => { s with twn := { s.twn with q24 := r, sent := some m } }.ctlProceed 1
    | [] => s

/-- TWIN_QUEUE_ROOM (R390): an entry leaves Q22 or Q24, and what waited for room proceeds. -/
def execTwinQueueRoom (q : Nat) (s : State) : Out :=
  let s1 := s.twinSend q
  when (s.live && s.twinUsed && (q == 22 || q == 24)) s
    (if q = 22 then forUpTo 64 (fun c t => ite' ((t.fr c).phase == .waiting) t (t.tryCommit c)) s1 else s1.controlNext)

/-- Both transmit queues send one message while the link carries traffic, and the control plane takes one from Q25 (R389, R390). -/
def State.twinDrain (s : State) : State := (ite' (2 ≤ s.lanesUp) s ((s.twinSend 22).twinSend 24)).controlNext

/-- S0096 to S0127 (table "Twin signals"). -/
def State.twinSignals (s : State) : List Word :=
  [s.word R.TWN_STATUS &&& 0xFF, BitVec.ofNat 32 s.twn.partnerMode, BitVec.ofNat 32 s.twn.missTotal, BitVec.ofNat 32 s.twn.crossTotal]
    ++ List.replicate 28 0

/-- At SAFE-ready a device with a role starts to pair (R391). -/
def State.twinBegin (s : State) : State := ite' s.twinUsed s (s.put R.TWN_STATUS_state 1)

end Sys2Proof.Machine
end

