-- ==== Sys2Proof/Machine/Boot.lean ====
section
/-!
DEFINITION. The boot (R40 to R67, R83 to R85): SFDP, header, sections, band searches, signature chain, load checks, fuses,
rejection and fallback, SAFE-ready.
-/

namespace Sys2Proof.Machine

/-! ### Rejection (R42, R54, R66, R67) -/

/-- Whether an address is one that PLANS sets. -/
def isPlanWord (a : Nat) : Bool := a == R.CLK_REF_SEL || (R.CLK_PLAN 0 ≤ a && a < R.CLK_PLAN 12)

/-- Every store and register that the slot's sections touched back at its reset value (R54). -/
def State.clearLoaded (s : State) : State :=
  let s1 := (List.range s.boot.nextSection).foldl (fun t i =>
    let x := s.boot.sections.getD i { }
    ite' (toStore x.type) t (t.clearSection x)) s
  { s1 with regs := s1.regs.filter (fun p => !isPlanWord p.1),
            boot := { s1.boot with header := { }, sections := [], raw := [], nextSection := 0, sectionData := [], part := [], q28 := [], imageHash := 0,
                                   integratorKey := [], flashStopped := false } }

/-- NO_IMAGE_SAFE (R67): CAN0 runs classic CAN at its reset bit timing, 250 kbit/s, with the serial's low 16 bits as node ID. -/
def State.enterBare (s : State) : State :=
  let s1 := (s.putB (R.CAN_CFG_en 0) true).put (R.CAN_CFG_node_id 0) (s.boot.fuses.serial.toNat % 65536)
  { s1 with boot := { s1.boot with stage := .noImage, searches := [], bands := [], plansHash := none } }

/-- Whether SFDP gave a density below 32 MiB, so that slot B is absent (R42). -/
def BootS.smallFlash (b : BootS) : Bool :=
  match b.density with
  | some d => d < 0x02000000
  | none => false

/-- SLOT_REJECT (R54, R66, R67): the code is recorded, the slot's traces are cleared; slot A is followed by slot B at its header,
which a density below 32 MiB rejects at once (R42). -/
def State.rejectSlot (s : State) (code sec : Nat) : State :=
  let k := s.boot.slot
  let s1 := ((s.put (R.BOOT_FAIL_code k) code).put (R.BOOT_FAIL_section k) sec).clearLoaded
  if k = 0 then
    let s2 := s1.putB R.BOOT_STATUS_fallback true
    let s3 := { s2 with boot := { s2.boot with slot := 1, stage := .waitHeader } }
    ite' s3.boot.smallFlash s3 (s3.put (R.BOOT_FAIL_code 1) 0x11).enterBare
  else s1.enterBare

/-! ### SFDP, SYN_A, header (R41, R43, R501) -/

/-- SFDP_READ_DONE (R41): the read command, address bytes, dummy cycles and the density in bytes that a valid table gives. -/
def execSfdpReadDone (valid : Bool) (density cmd addrBytes dummies : Nat) (s : State) : Out :=
  let b := if valid then { s.boot with density := some density, readCmd := cmd, addrBytes := addrBytes, dummies := dummies }
    else { s.boot with density := none, readCmd := 0x6C, addrBytes := 4, dummies := 8 }
  when (s.boot.stage == .waitSfdp && s.pins.xin) s { s with boot := { b with stage := .waitSynA } }

/-- The trials of a binary search over bands: `lo` is the highest band tried whose count is at most the expected one, both × 2^20
(R83). -/
def bandTrials (counts : List Nat) (e : Nat) : Nat → Nat → Nat
  | 0, lo => lo
  | k + 1, lo =>
    let mid := lo + 2 ^ k
    bandTrials counts e k (if counts.getD mid 0 * 2 ^ 20 ≤ e then mid else lo)

/-- SYN_A's band (R83): four trials over 16 bands, each with its count of VCO ÷ 8 cycles in 1,024 phase-detector cycles, expected
128 N. -/
def State.bandOfA (s : State) (counts : List Nat) : Nat := bandTrials counts (128 * s.synN 2) 4 0

/-- SYN_A_LOCK (R43, R83, R86): the search has counted `counts` in the 16 bands, and the lock windows on the band found count `windows`,
of which two good ones in a row declare lock. -/
def execSynALock (counts windows : List Nat) (s : State) : Out :=
  when (s.boot.stage == .waitSynA && counts.length == 16 && s.locksOn 2 windows) s
    ({ s with boot := { s.boot with stage := .waitHeader, slot := 0 }, clk := { s.clk with bandA := s.bandOfA counts } }.putB R.CLK_STATUS_locked_a true)

/-- HEADER_CHECK (R501): the header and section table as read, 1,280 bytes; an unreadable flash is code 0x11. -/
def execHeaderCheck (readable : Bool) (bytes : List Byte) (s : State) : Out :=
  let f := if readable then headerFault s.boot.slot s.boot.density s.boot.fuses.rollback bytes else some (0x11, 0)
  let t := match f with
    | some x => s.rejectSlot x.1 x.2
    | none => { s with boot := { s.boot with stage := .streaming, header := headerOf bytes, raw := bytes, nextSection := 0,
                                             sections := sectionsOf bytes, sectionData := [] } }
  when (s.boot.stage == .waitHeader && bytes.length == 1280) s t

/-! ### Streaming (R44, R47, R50, R54, R66, R83) -/

/-- The plans that the mask defines, in search order (R83). -/
def definedPlans (b : List Byte) : List Nat := (List.range 12).filter (fun i => leAt b 6 2 / 2 ^ i % 2 == 1)

/-- PLANS has been read: its searches start unless an earlier slot's PLANS was the same (R66, R83). -/
def State.plansRead (s : State) (b : List Byte) : State :=
  let h := sha384 b
  let same := s.boot.plansHash == some h
  let s1 := if same then s else { s with boot := { s.boot with plansHash := some h, searches := (definedPlans b).map (fun i => (i, leAt b (8 + 8 * i) 4 % 128 * 2 ^ 20 + leAt b (12 + 8 * i) 4 % 2 ^ 20)), bands := [] } }
  s1.loadPlans b

/-- Whether a plan of the section was searched without a band (R85). -/
def State.bandMissing (s : State) (b : List Byte) : Bool :=
  (definedPlans b).any (fun i => !s.boot.searches.any (fun q => q.1 == i) && !s.boot.bands.any (fun p => p.1 == i))

/-- A GLAZE section with a count outside 1 to 1,024, or another length than its count gives: code 0x06. For a count of 0, which
R50 excludes, the table names no code: 0x06 is a DESIGN CHOICE, and so is that the header's reserved bytes are not checked (log
entry 12). -/
def glazeBad (b : List Byte) : Bool :=
  let n := leAt b 2 2
  n == 0 || 1024 < n || b.length != 16 + 12 * n

/-- Whether every written word reads back as it was written: bits that a word does not hold differ (R47). -/
def readsBack (x : Section) (b : List Byte) : Bool :=
  !x.readback || !usesTarget x.type
  || (List.range (x.length / 4)).all (fun k =>
    let w := (sectionWords x b).getD k 0
    w &&& loadMask (x.target + 4 * k) == w)

/-- The data of section `i` is complete: checked, kept, and written to its store (R47, R50, R54). -/
def State.sectionDone (s : State) (i : Nat) (x : Section) (data : List Byte) (fault : Bool) : State :=
  if x.type = 10 && glazeBad data then s.rejectSlot 0x06 i
  else if fault || !readsBack x data then s.rejectSlot 0x13 i
  else
    let s1 := { s with boot := { s.boot with nextSection := i + 1, sectionData := tset s.boot.sectionData i data, part := [] } }
    if x.type = 1 then
      let s2 := s1.plansRead data
      ite' (s2.bandMissing data) s2 (s2.rejectSlot 0x10 i)
    else ite' (toStore x.type) s1 (s1.loadSection x data)

/-- A byte string as the entries of Q28, one 32-bit word each (R44; the entry's width is a DESIGN CHOICE, log entry 24). -/
def flashWords (b : List Byte) : List (List Byte) := (List.range ((b.length + 3) / 4)).map (fun k => slice b (4 * k) 4)

/-- SECTION_STREAMED (R44, R54): the flash master reads `data`, the next bytes of the section, into Q28, and the store writer takes
`taken` entries from it, or all; with the section's last byte taken the section is complete. The master stops where Q28 is full.
`readable` is false when the flash does not read; `fault` is an uncorrectable ECC error or a readback mismatch in the stores. -/
def execSectionStreamed (data : List Byte) (taken : Nat) (readable fault : Bool) (s : State) : Out :=
  let i := s.boot.nextSection
  let x := s.boot.sections.getD i { }
  let len := if x.zeroFill then 0 else x.length
  let all := s.boot.q28 ++ flashWords data
  let part := s.boot.part ++ (all.take taken).flatten
  let rest := all.drop taken
  let s1 := { s with boot := { s.boot with part := part, q28 := rest, flashStopped := rest.length == 32 } }
  let t : State :=
    if !readable then s.rejectSlot 0x11 i
    else if part.length = len then s1.sectionDone i x part fault
    else s1
  when (s.boot.stage == .streaming && !s.boot.flashStopped && i < s.boot.sections.length
    && (!readable || (data.length % 4 == 0 && s.boot.part.length + 4 * all.length ≤ len && rest.length ≤ 32))) s t

/-- FLASH_READ_RESUME (R44): the store writer takes an entry of the full Q28, and the master resumes. -/
def execFlashReadResume (s : State) : Out :=
  let i := s.boot.nextSection
  let x := s.boot.sections.getD i { }
  let part := s.boot.part ++ s.boot.q28.headD []
  let s1 := { s with boot := { s.boot with flashStopped := false, part := part, q28 := s.boot.q28.tail } }
  when s.boot.flashStopped s (ite' (part.length == x.length) s1 (s1.sectionDone i x part false))

/-- The band that a search keeps for N × 2^20, each band giving its count of VCO ÷ 8 cycles in 4,096 phase-detector cycles, expected
512 N: the binary search's band, or its neighbour if the neighbour's count lies closer (R83). The neighbour is the next band
above, below for the last; of two as close the first stands (DESIGN CHOICE, log entry 12). -/
def bandOf (counts : List Nat) (n : Nat) : Nat :=
  let e := 512 * n
  let b := bandTrials counts e 6 0
  let nb := if b = 63 then 62 else b + 1
  let d (k : Nat) : Nat := ((counts.getD k 0 * 2 ^ 20 : Nat) - (e : Nat) : Int).natAbs
  if d nb < d b then nb else b

/-- BAND_SEARCH_DONE (R83, R85): the search of the next plan ends with the band that the VCO's counts in the 64 bands give, or finds
none, which rejects the slot once its PLANS section has been read. -/
def execBandSearchDone (counts : List Nat) (found : Bool) (s : State) : Out :=
  match s.boot.searches with
  | [] => .next s
  | (p, n) :: r =>
    let band := bandOf counts n
    let s1 := { s with boot := { s.boot with searches := r } }
    let mine := 0 < s.boot.nextSection
    let t : State :=
      if found then
        let s2 := { s1 with boot := { s1.boot with bands := tset s1.boot.bands p band } }
        ite' mine s2 ((s2.put (R.CLK_PLAN_band p) band).putB (R.CLK_PLAN_valid p) true)
      else ite' mine s1 (s1.rejectSlot 0x10 0)
    when (counts.length == 64) s t

/-! ### Signature chain (R45, R56, R57) -/

/-- Whether the image's bytes hold the header, table and sections that were read. -/
def State.imageAgrees (s : State) (image : List Byte) : Bool :=
  let n := min 1280 (0x100 + 16 * s.boot.sections.length)
  image.length == s.boot.header.imageLength && slice image 0 n == s.boot.raw.take n
  && (List.range s.boot.sections.length).all (fun i =>
    let x := s.boot.sections.getD i { }
    x.zeroFill || slice image x.offset x.length == tget s.boot.sectionData i [])

/-- The certificate's key (R57). -/
def certKey (cert : List Byte) : List Byte := slice cert 0x10 96

/-- Step 2 of R56: the certificate's signature over its first 128 bytes. -/
def certSigned (root cert : List Byte) : Bool := ecdsaVerify root (slice cert 0 0x80) (slice cert 0x80 96)

/-- The magic, the version and the zero fields of a certificate (R56 step 3, R57). -/
def certFormed (cert : List Byte) : Bool :=
  slice cert 0 4 == [0x54, 0x47, 0x49, 0x43] && leAt cert 4 2 == 1 && leAt cert 6 2 < 4 && (slice cert 0x70 16).all (fun x => x == 0)

/-- Step 4 of R56: a bound device takes only its integrator's key. -/
def Fuses.keyFits (f : Fuses) (key : List Byte) : Bool := !f.integratorValid || sha384 key == f.integratorHash

/-- The first step of the chain that fails (R56). -/
def Fuses.chainFault (f : Fuses) (image trailer : List Byte) : Option Nat :=
  let root := slice trailer 0 96
  let cert := slice trailer 96 224
  if sha384 root != f.vendorRootHash then some 0x0A
  else if !certSigned root cert then some 0x0B
  else if !(certFormed cert && leAt cert 6 2 % 2 == 1) then some 0x14
  else if !f.keyFits (certKey cert) then some 0x0C
  else if !ecdsaVerify (certKey cert) image (slice trailer 320 96) then some 0x0D
  else none

/-- The trailer's vendor root key is kept once it hashes to the fused value: sessions are checked under it (R56, R74). -/
def State.keepRoot (s : State) (trailer : List Byte) : State :=
  let root := slice trailer 0 96
  if sha384 root = s.boot.fuses.vendorRootHash then { s with boot := { s.boot with rootKey := root } } else s

/-- TRAILER_VERIFY (R45, R56): the image's bytes as they were hashed and the trailer as read. -/
def execTrailerVerify (readable : Bool) (image trailer : List Byte) (s : State) : Out :=
  let s1 := s.keepRoot trailer
  let t := if !readable then s.rejectSlot 0x11 0
    else match s.boot.fuses.chainFault image trailer with
      | some c => s1.rejectSlot c 0
      | none => { s1 with boot := { s1.boot with stage := .waitChecks, imageHash := sha384 image,
                                                 integratorKey := certKey (slice trailer 96 224) } }
  when (s.boot.stage == .streaming && !s.boot.flashStopped && s.boot.nextSection == s.boot.sections.length
    && (!readable || (trailer.length == 416 && s.imageAgrees image))) s t

/-! ### Load checks, binding, anti-rollback (R54, R60, R61) -/

/-- The REGS and ROUTE sections applied; the stores hold theirs since they streamed. -/
def State.loadRegs (s : State) : State :=
  (s.secs 2 ++ s.secs 7).foldl (fun t x => t.loadSection x.2.1 x.2.2) s

/-- Everything that an accepted image sets before SAFE-ready. A context without a record is disabled (R171). -/
def State.loadImage (s : State) : State :=
  let s1 := forUpTo 64 (fun c t => ite' (s.ctxRecs.any (fun x => x.2.ctx == c)) (t.putB (R.ENG_CTX_CTL_en c) false) t) s.loadRegs
  let s2 := s.ctxRecs.foldl (fun t x => t.loadCtx x.2 (s.regsWrites (R.ENG_CTX_CTL x.2.ctx))) s1
  let s3 := s.schRecs.foldl (fun t x => t.loadSch x.2) s2
  let s4 := s.grpRecs.foldl (fun t x => t.loadGrp x.2 s.trackSlot) s3
  let s5 := s4.loadOwners.loadEvt.loadRoles.loadPublic
  { s5 with seq := { s5.seq with glazes := s.glazeSecs.foldl (fun t g => tset t g.2.1 g.2.2) [] } }

/-- Whether the accepted image binds the device (R60). -/
def State.binds (s : State) : Bool := s.boot.header.flags / 2 % 2 == 1 && !s.boot.fuses.integratorValid

/-- Whether the accepted image raises the fused count (R61). -/
def State.commits (s : State) : Bool := s.boot.header.flags % 2 == 1 && s.boot.fuses.rollback < s.boot.header.svn

/-- SYN_M and SYN_E are loaded with the plans of PLANS, to lock before SAFE-ready (R82, R86). -/
def State.choosePlans (s : State) : State :=
  let b := tget s.boot.sectionData 0 []
  (s.put R.CLK_STATUS_mplan (leAt b 4 1)).put R.CLK_STATUS_eplan (leAt b 5 1)

/-- The slot is accepted. -/
def State.acceptSlot (s : State) : State :=
  let stage := if s.binds || s.commits then BootStage.waitFuses else .waitReady
  let s1 := s.loadImage.choosePlans
  ({ s1 with boot := { s1.boot with stage := stage } }.put R.BOOT_STATUS_slot s.boot.slot).put R.BOOT_STATUS_image_svn s.boot.header.svn

/-- LOAD_CHECKS_DONE (R54): an image with several faults is rejected for one of them, free which (log entry 3). -/
def execLoadChecksDone (s : State) : Out :=
  let faults := s.loadRegs.loadFaults
  let t := match faults with
    | [] => s.acceptSlot
    | x :: r =>
      let y := (x :: r).getD (s.freshNat % (r.length + 1)) x
      s.burn.rejectSlot y.1 y.2
  when (s.boot.stage == .waitChecks && s.boot.searches.isEmpty) s t

/-- FUSE_PROGRAMMING_DONE (R60, R61): `missed` are the bits of integrator_hash that did not blow. -/
def execFuseProgrammingDone (missed : Nat) (s : State) : Out :=
  let hash := sha384 s.boot.integratorKey
  let f := s.boot.fuses.program s.binds s.commits hash (BitVec.ofNat 384 missed) s.boot.header.svn
  let s1 := { s with boot := { s.boot with fuses := f, stage := .waitReady } }.showFuses
  let s2 := (s1.putB R.BOOT_STATUS_bind_fail (s.binds && !f.integratorValid)).putB R.BOOT_STATUS_svn_committed s.commits
  when (s.boot.stage == .waitFuses) s s2

/-! ### SAFE-ready (R64, R127, R245, R319, R336, R338) -/

/-- The sources that each glaze-patched word belongs to (R338). -/
def State.glazeMasks (s : State) : Tbl Nat :=
  s.seq.glazes.foldl (fun t g => g.2.foldl (fun u p => tset u p.addr (tnum u p.addr ||| s.patchMask p)) t) []

/-- The glazes at SAFE-ready: base values recorded, what SEQ_GLAZE shows, the SAFE glaze in force (R336, R338). -/
def State.startGlazes (s : State) : State :=
  let ws := (s.seq.glazes.flatMap (fun g => g.2.map (fun p => p.addr))).eraseDups
  let base := ws.foldl (fun t a => tset t a (s.word a)) []
  let s1 := { s with seq := { s.seq with base := base, wordMask := s.glazeMasks } }
  let s2 := s.seq.glazes.foldl (fun t g =>
    ((t.put (R.SEQ_GLAZE_patches g.1) g.2.length).put (R.SEQ_GLAZE_fsrc_mask g.1) (s.glazeSources g.2)).putB (R.SEQ_GLAZE_present g.1) true) s1
  let s3 := (s1.glaze 0).foldl (fun t p => t.setWord p.addr (maskIn (t.word p.addr) (s1.composed 0 [] p.addr) (glazeMask p.addr))) s2
  { s3 with seq := { s3.seq with entryStep := true } }

/-- How many legs each domain has, and every context's worst case (GTP_PD_CFG, ENG_CTX_CYC). -/
def State.showDerived (s : State) : State :=
  let s1 := forUpTo 4 (fun d t => t.put (R.GTP_PD_CFG_legs d) ((List.range 48).filter (fun l => s.get (R.GTP_LEG_CFG_pd l) == d)).length) s
  let s2 := s.ctxRecs.foldl (fun t x => t.put (R.ENG_CTX_CYC_wcet x.2.ctx) (s.wcetOf x.2)) s1
  s2.putB R.ENG_STATUS_unchecked s.noCheck

/-- MOD and ENG switch to SYN_M and SYN_E (R64), which show the lock that their windows have declared so far (R86); a reference
that they use and that is absent is a lost one (R88; DEDUCED, log entry 37). -/
def State.startClocks (s : State) : State :=
  forUpTo 3 (fun r t => ite' (!s.refPresent r && (s.usesRef 0 r || s.usesRef 1 r)) t (t.refLost r)) s

/-- The header's boot_policy in BOOT_POLICY (R46, R64). -/
def State.loadPolicy (s : State) : State := s.setWord R.BOOT_POLICY (BitVec.ofNat 32 s.boot.header.bootPolicy &&& rwMask R.BOOT_POLICY)

/-- A channel's FD mode in force (CAN_STATUS); the entries of CAN_EVT report the edges from here on (R417). -/
def State.startCan (s : State) : State :=
  let s1 := { s with can := { s.can with seen := forUpTo 8 (fun k t => tset t k (tnum s.evr.rises (s.get (R.CAN_EVT_src k)))) [] } }
  forUpTo 2 (fun c t => t.putB (R.CAN_STATUS_fd_on c) (t.on (R.CAN_CFG_en c) && t.on (R.CAN_CFG_fd_en c))) s1

/-- SAFE_READY (R64). -/
def execSafeReady (s : State) : Out :=
  let s1 := { s with boot := { s.boot with stage := .running } }
  let s2 := s1.loadPolicy.startClocks.showDerived.startGlazes
  let s3 := ((s2.powerUpComparators).startConverters.startCarriers.modStart.senseStart.desatAtReady.gridLoad.mtrRestore.fabStart.twinBegin.startCan.startRoutes)
  when (s.boot.stage == .waitReady) s (s3.putB R.BOOT_STATUS_safe_ready true)

end Sys2Proof.Machine
end

