-- ==== Sys2Proof/Machine/Session.lean ====
section
/-!
DEFINITION. Requests of the control plane, sessions, lockout, the signing engine and attestation (R70 to R77, R375, R412 to
R416, R460).
-/

namespace Sys2Proof.Machine

/-! ### Requests and replies (R374, R375, R408, R412) -/

/-- A request message as the control plane takes it: link, requester, priority, sequence and body. Links are 0 CAN0, 1 CAN1,
2 fabric, 3 JTAG. -/
structure Req where
  link : Nat := 0
  requester : Nat := 0
  prio : Nat := 0
  seq : Nat := 0
  body : List Byte := []
  deriving DecidableEq, Repr

/-- The device answers: it runs an image, or is in SAFE with none (R64, R67). -/
def State.awake (s : State) : Bool := s.live || s.bare

/-- A message of `r` with function `fn` back to the requester: on CAN at the request's priority, on the fabric through Q21, on
JTAG in the link's answer alone (R374, R412, R414). -/
def State.send (s : State) (r : Req) (fn : Nat) (body : List Byte) : State :=
  if r.link < 2 then s.canSend r.link (r.prio < 4) r.prio fn r.seq r.requester body
  else if r.link = 2 then
    { (s.count (0x80 + 21)) with fab := { s.fab with q21 := s.fab.q21 ++ [packetBytes fn r.requester s.nodeId r.seq 0 body] } }
  else s

/-- A response: status, count, zero, data words (table Packet types). -/
def State.respond (s : State) (r : Req) (code count : Nat) (ws : List Word) : State :=
  (s.answer r.link { code := code, words := ws }).send r 3
    (leBytes 1 code ++ leBytes 1 count ++ leBytes 2 0 ++ ws.flatMap (fun w => leBytes 4 w.toNat))

/-- An access error: answered and counted by R497. -/
def State.accessError (s : State) (code : Nat) : State :=
  if code = 2 then s.bump R.BOOT_ERR_CNT_rsvd
  else ite' (code == 1 || code == 3 || code == 0x0A || code == 0x0C) s (s.bump R.BOOT_ERR_CNT_access)

/-- A refusal: counted and answered. -/
def State.refuse (s : State) (r : Req) (code : Nat) : State := (s.accessError code).respond r code 0 []

/-- The queue entry that the request is, if one waits on its link: none where another message waits first (R375, R408). A
request on a link with nothing waiting stands for its own frames. -/
def State.takeReq (s : State) (r : Req) (fn : Nat) : Option State :=
  if r.link < 2 then
    match s.canTake r.link with
    | none => some s
    | some (m, t) => if m.fn = fn ∧ m.peer = r.requester ∧ m.prio = r.prio ∧ m.seq = r.seq ∧ m.body = r.body then some t else none
  else if r.link = 2 then
    match s.fab.q20 with
    | [] => some s
    | b :: q =>
      let n := (r.body.length + 3) / 4 * 4
      let body := r.body ++ List.replicate (n - r.body.length) 0
      if leAt b 0 1 = fn ∧ leAt b 3 2 = r.requester ∧ leAt b 6 1 = r.seq ∧ slice b 8 (b.length - 12) = body then
        some { s with fab := { s.fab with q20 := q } }
      else none
  else some s

/-- `t`, which puts `n` packets into Q21 if link `l` is the fabric's; without room for them the control plane waits, and each wait counts
as a refusal of Q21 (R14, R374). -/
def State.roomed (s : State) (l n : Nat) (t : State) : State :=
  if l != 2 || s.fab.q21.length + n ≤ 64 then t
  else if s.fab.q21Wait then s
  else { (s.count (0x60 + 21)) with fab := { s.fab with q21Wait := true } }

/-- Take the request's message and act on it: only in a device that answers, on a link that exists, with room for the answer
in Q21 (R374). -/
def State.handle (s : State) (r : Req) (fn replies : Nat) (f : State → State) : Out :=
  match s.takeReq r fn with
  | some t => when (s.awake && r.link < 4 && (r.link < 2 → s.canOn r.link)) s (s.roomed r.link replies (f t))
  | none => .next s

/-! ### Sessions (R73 to R76) -/

/-- What link `l` holds. -/
def State.linkS (s : State) (l : Nat) : LinkS := tget s.sess.links l { }

/-- Replace what link `l` holds. -/
def State.setLink (s : State) (l : Nat) (x : LinkS) : State := { s with sess := { s.sess with links := tset s.sess.links l x } }

/-- The session of link `l` ends, and its held low word is dropped (R75, R369). -/
def State.endSession (s : State) (l : Nat) : State :=
  let s1 := ((s.put (R.BOOT_SESSION_role l) 0).put (R.BOOT_SESSION_key_index l) 0).put (R.BOOT_SESSION_requester l) 0
  { s1 with sess := { s1.sess with writeShadow := s1.sess.writeShadow.filter (fun p => p.1 != l) } }


/-- The key that answers what a link was asked for. -/
def State.linkKey (s : State) (x : LinkS) : List Byte := if x.reqRole = 2 then x.reqCertKey else s.boot.operatorKeys.getD x.reqKey []

/-- The earlier challenges of a link with the one that pends now. -/
def State.allChallenges (s : State) (x : LinkS) : List (List Byte × List Byte) :=
  if x.challenge.isEmpty then x.earlier else (x.challenge, s.linkKey x) :: x.earlier

/-- The pending challenge of link `l` is gone; it is kept among the earlier ones (R74). -/
def State.dropChallenge (s : State) (l : Nat) : State :=
  let x := s.linkS l
  (s.putB (R.BOOT_SESSION_pending l) false).setLink l { x with challenge := [], earlier := s.allChallenges x }

/-- The first reason to turn an operator's request away: a key that the image does not hold, and so any key with no image (R67,
R498), then a link that takes no operator (R460), for which the code 0x01 is a DESIGN CHOICE (log entry 11). -/
def State.operatorFault (s : State) (l key : Nat) : Nat :=
  if s.boot.operatorKeys.length ≤ key then 9
  else if s.bare || (l == 3 && !s.on R.BOOT_POLICY_jtag_operator) then 1 else 0

/-- The vendor root key: the trailer's that hashed to the fused value, else the one that a device without such a trailer knows (R56,
R74; log entry 11). -/
def State.rootKey (s : State) : List Byte :=
  if s.boot.rootKey.isEmpty then Config.vendorRootKey s.boot.fuses.vendorRootHash else s.boot.rootKey

/-- The first reason to turn an integrator's request away (R74, R79); the code for a malformed certificate or a key that does
not fit the fuses is free (log entry 3). -/
def State.integratorFault (s : State) (cert : List Byte) : Nat :=
  let free := 1 + s.freshNat % 12
  if !(slice cert 0 4 == [0x54, 0x47, 0x49, 0x43] && leAt cert 4 2 == 1) then free
  else if sha384 s.rootKey != s.boot.fuses.vendorRootHash || !certSigned s.rootKey cert then 5
  else if !s.boot.fuses.keyFits (certKey cert) then free
  else if leAt cert 6 2 / 2 % 2 = 0 then 9 else 0

/-- CHALLENGE_ISSUE (R74): the session counter counts, the 48 bytes are formed. -/
def State.challengeBytes (s : State) (l role key : Nat) : List Byte :=
  [0x54, 0x47, 0x43, 0x48] ++ leBytes 1 role ++ leBytes 1 key ++ leBytes 1 l ++ leBytes 1 0 ++ leBytes 8 s.boot.fuses.serial.toNat
  ++ leBytes 4 s.bootCount ++ leBytes 4 (s.sess.challenges + 1) ++ (Config.entropy s.freeCtr ++ List.replicate 24 0).take 24

/-- The challenge is pending and is sent. -/
def State.issueChallenge (s : State) (r : Req) (role key : Nat) (cert : List Byte) : State :=
  let c := s.challengeBytes r.link role key
  let x := { s.linkS r.link with challenge := c, number := s.sess.challenges + 1, reqRole := role, reqKey := key,
                                 reqNode := r.requester, reqCertKey := certKey cert }
  let s1 := { s.burn with sess := { s.sess with challenges := s.sess.challenges + 1 } }.setLink r.link x
  ((s1.putB (R.BOOT_SESSION_pending r.link) true).answer r.link { bytes := c }).send r 9 c

/-- SESSION_REQUEST (R73, R74): body role, key index, zero, and the integrator's certificate. The order of the codes is a DESIGN
CHOICE: 0x07, then 0x0A, then those of the operator or the integrator (log entry 11). -/
def State.sessionRequest (s : State) (r : Req) : State :=
  let s1 := (s.endSession r.link).dropChallenge r.link
  let role := leAt r.body 0 1
  let key := leAt r.body 1 1
  let cert := slice r.body 4 224
  if s1.on (R.BOOT_SESSION_locked_out r.link) then s1.refuse r 7
  else if role = 1 && r.body.length = 4 then
    (if s1.operatorFault r.link key = 0 then s1.issueChallenge r role key [] else s1.refuse r (s1.operatorFault r.link key))
  else if role = 2 && r.body.length = 228 then
    (if s1.integratorFault cert = 0 then s1.issueChallenge r role key cert else s1.burn.refuse r (s1.integratorFault cert))
  else if role = 1 || role = 2 then s1.refuse r 0x0A
  else s1.burn.refuse r (1 + s1.freshNat % 12)

/-- SESSION_REQUEST (R73, R74). -/
def execSessionRequest (link requester prio seq : Nat) (body : List Byte) (s : State) : Out :=
  let r : Req := ⟨link, requester, prio, seq, body⟩
  s.handle r 8 1 (fun t => t.sessionRequest r)

/-- A failed response (R76): counted, logged, and after lock_fail in a row the link is locked out. -/
def State.sessionFail (s : State) (r : Req) (code : Nat) : State :=
  let x := s.linkS r.link
  let n := x.failures + 1
  let s1 := (s.bump R.BOOT_ERR_CNT_auth_fail).logPush 3
    (leBytes 1 r.link ++ leBytes 1 x.reqRole ++ leBytes 1 x.reqKey ++ leBytes 1 code ++ leBytes 2 r.requester)
  let s2 := s1.setLink r.link { s1.linkS r.link with failures := n }
  (ite' (max 1 (s.get R.BOOT_POLICY_lock_fail) ≤ n) s2 (s2.putB (R.BOOT_SESSION_locked_out r.link) true)).refuse r code

/-- The signature is checked and the session opens, or the failure counts (R74). -/
def State.sessionVerify (s : State) (r : Req) (sig : List Byte) : State :=
  let x := s.linkS r.link
  let s1 := s.dropChallenge r.link
  if ecdsaVerify (s.linkKey x) x.challenge sig then
    let s2 := ((s1.put (R.BOOT_SESSION_role r.link) x.reqRole).put (R.BOOT_SESSION_key_index r.link) x.reqKey).put (R.BOOT_SESSION_requester r.link) x.reqNode
    (s2.setLink r.link { s2.linkS r.link with failures := 0 }).respond r 0 0 []
  else s1.sessionFail r 5

/-- Whether a signature answers an earlier challenge of its link (R74). -/
def State.answersEarlier (s : State) (l : Nat) (sig : List Byte) : Bool := (s.linkS l).earlier.any (fun e => ecdsaVerify e.2 e.1 sig)

/-- SESSION_RESPONSE (R72, R74): a response without a pending challenge, from another node or to an earlier challenge is 0x04;
`late` is one later than 10 s. -/
def State.sessionResponse (s : State) (r : Req) (late : Bool) : State :=
  if !s.on (R.BOOT_SESSION_pending r.link) || s.answersEarlier r.link r.body || (s.linkS r.link).reqNode != r.requester then s.sessionFail r 4
  else if r.body.length ≠ 96 then s.refuse r 0x0A
  else if late then (s.dropChallenge r.link).sessionFail r 6
  else
    match s.sess.jobs with
    | [] => s.sessionVerify r r.body
    | js =>
      if 3 ≤ js.length then s.refuse r 8
      else { s with sess := { s.sess with jobs := js ++ [.verify r.link r.requester r.prio r.seq (s.linkS r.link).number r.body] } }

/-- SESSION_RESPONSE (R74). -/
def execSessionResponse (link requester prio seq : Nat) (late : Bool) (body : List Byte) (s : State) : Out :=
  let r : Req := ⟨link, requester, prio, seq, body⟩
  s.handle r 0x0A 1 (fun t => t.sessionResponse r late)

/-- SESSION_VERIFICATION_DONE (R72, R74): the response that waited is verified against the challenge it answered. -/
def execSessionVerificationDone (s : State) : Out :=
  match s.sess.jobs with
  | .verify l n p q c sig :: js =>
    let r : Req := { link := l, requester := n, prio := p, seq := q }
    let s1 := { s with sess := { s.sess with jobs := js } }
    let cur := s.on (R.BOOT_SESSION_pending l) && (s.linkS l).number == c
    when s.awake s (s.roomed l 1 (if cur then s1.sessionVerify r sig else s1.sessionFail r 4))
  | _ => .next s

/-- LOCKOUT_EXPIRY (R76). -/
def execLockoutExpiry (link : Nat) (s : State) : Out :=
  when (s.awake && link < 4 && s.on (R.BOOT_SESSION_locked_out link)) s
    ((s.putB (R.BOOT_SESSION_locked_out link) false).setLink link { s.linkS link with failures := 0 })

/-- SESSION_CLOSE (R75): a close request, which has no body; a node without the session's role may not close it (both refusals and
their order DESIGN CHOICE, log entry 11). -/
def execSessionClose (link requester prio seq : Nat) (body : List Byte) (s : State) : Out :=
  let r : Req := ⟨link, requester, prio, seq, body⟩
  s.handle r 0x0B 1 (fun t =>
    if body.length ≠ 0 then t.refuse r 0x0A
    else if t.roleOf link requester = 0 then t.refuse r 1
    else (t.endSession link).respond r 0 0 [])

/-- SESSION_IDLE_TIMEOUT (R75). -/
def execSessionIdleTimeout (link : Nat) (s : State) : Out :=
  when (s.awake && link < 4 && s.on (R.BOOT_SESSION_role link)) s (s.endSession link)

/-! ### Attestation (R71, R72) -/

/-- ATTESTATION_REQUEST (R72): queued, or refused for the length, the role, or a busy signing engine, in this order (DESIGN CHOICE,
log entry 11). -/
def State.attestationRequest (s : State) (r : Req) : State :=
  if r.body.length ≠ 32 then s.refuse r 0x0A
  else if s.roleOf r.link r.requester = 0 && !s.boot.publicAttest then s.refuse r 1
  else if 3 ≤ s.sess.jobs.length then s.refuse r 8
  else { s with sess := { s.sess with jobs := s.sess.jobs ++ [.attest r.link r.requester r.prio r.seq r.body] } }

/-- ATTESTATION_REQUEST (R72). -/
def execAttestationRequest (link requester prio seq : Nat) (body : List Byte) (s : State) : Out :=
  let r : Req := ⟨link, requester, prio, seq, body⟩
  s.handle r 0x0C 1 (fun t => t.attestationRequest r)

/-- The report's first 160 bytes (table Attestation report). -/
def State.reportBody (s : State) (nonce : List Byte) : List Byte :=
  let f := s.boot.fuses
  let flags := f.integratorValid.toNat + 2 * f.debugLock.toNat + 4 * s.get R.BOOT_STATUS_bind_fail
  let image (n : Nat) (b : List Byte) : List Byte := if s.bare then List.replicate n 0 else b
  [0x54, 0x47, 0x41, 0x52] ++ leBytes 2 1 ++ leBytes 1 (if s.bare then 0xFF else s.boot.slot) ++ leBytes 1 (s.get R.SEQ_STATUS_mode)
  ++ (nonce ++ List.replicate 32 0).take 32 ++ image 48 (beBytes 48 s.boot.imageHash.toNat) ++ leBytes 4 s.bootCount
  ++ leBytes 1 f.rollback ++ leBytes 1 s.boot.header.svn ++ leBytes 1 flags ++ leBytes 1 0
  ++ (image 8 s.boot.header.buildId ++ List.replicate 8 0).take 8
  ++ (if f.integratorValid then beBytes 48 f.integratorHash.toNat else List.replicate 48 0) ++ leBytes 8 s.clk.plantTime

/-- The 256-byte report, signed with the identity key (R55, R71). -/
def State.report (s : State) (nonce : List Byte) : List Byte :=
  let b := s.reportBody nonce
  b ++ ecdsaSign s.boot.fuses.identityKey b

/-- ATTESTATION_REPORT_DONE (R71, R416): the report goes out as parts 0 and 1. -/
def execAttestationReportDone (s : State) : Out :=
  match s.sess.jobs with
  | .attest l n p q nonce :: js =>
    let r : Req := { link := l, requester := n, prio := p, seq := q }
    let b := s.report nonce
    let s1 := ({ s with sess := { s.sess with jobs := js } }.answer l { bytes := b }).send r 0x0D (leBytes 4 0 ++ slice b 0 128)
    when s.awake s (s.roomed l 2 (s1.send r 0x0D (leBytes 4 1 ++ slice b 128 128)))
  | _ => .next s

end Sys2Proof.Machine
end

