-- ==== Sys2Proof/Machine/Flash.lean ====
section
/-!
DEFINITION. The flash window at run time (R67 to R69, BOOT_FLASH_CTL).
-/

namespace Sys2Proof.Machine

/-- The first byte of the page buffer (chapter Image, Boot and Trust). -/
def pageBase : Nat := 0x1000

/-- A command starts: busy, with the address, slot and page buffer as they are now. -/
def State.flashBegin (s : State) (cmd : Nat) : State :=
  let s1 := s.putB R.BOOT_FLASH_CTL_busy true
  { s1 with boot := { s1.boot with
      flashRun := some cmd, flashAddr := (s.word R.BOOT_FLASH_ADDR).toNat, flashSlot := s.get R.BOOT_FLASH_CTL_slot,
                            flashPage := s.bytes pageBase 256 } }

/-- A start of `cmd`: refused with 0x0B while busy, and with 0x0C for a reserved command (BOOT_FLASH_CTL, R79); command 4 schedules
the reboot (R68). The number is the access code. -/
def State.flashStart (s : State) (cmd : Nat) : State × Nat :=
  if s.on R.BOOT_FLASH_CTL_busy then (s, 0x0B)
  else if 5 ≤ cmd then (s, 0x0C)
  else if cmd = 4 then
    let s1 := s.putB R.BOOT_FLASH_CTL_busy true
    ({ s1 with boot := { s1.boot with rebootScheduled := true } }, 0)
  else (s.flashBegin cmd, 0)

/-- A permitted write of BOOT_FLASH_CTL. A write that is answered with 0x0B or 0x0C still stores cmd and slot and clears error, and
a reserved cmd written without start is stored and answered 0x00 (DESIGN CHOICE, log entry 24). -/
def State.flashWrite (s : State) (w : Word) : State × Nat :=
  let s1 := s.setWord R.BOOT_FLASH_CTL (maskIn (s.word R.BOOT_FLASH_CTL) w (rwMask R.BOOT_FLASH_CTL))
  let s2 := ite' (R.BOOT_FLASH_CTL_error.of w == 1) s1 (s1.putB R.BOOT_FLASH_CTL_error false)
  if R.BOOT_FLASH_CTL_start.of w = 1 then s2.flashStart (R.BOOT_FLASH_CTL_cmd.of w) else (s2, 0)

/-! ### Verify (R69) -/

/-- A fresh device that holds a slot's sections, as the register checks see it: every band found, REGS and ROUTE applied. -/
def State.verifyState (s : State) (image : List Byte) : State :=
  let secs := sectionsOf image
  let data := (List.range secs.length).map (fun i =>
    let x := secs.getD i { }
    (i, if x.zeroFill then [] else slice image x.offset x.length))
  let fresh : State := { }
  let boot := { fresh.boot with fuses := s.boot.fuses, header := headerOf image, sections := secs, sectionData := data,
                                bands := (List.range 12).map (fun i => (i, 0)) }
  ({ fresh with boot := boot }.loadPlans (tget data 0 [])).loadRegs

/-- The checks of R54 and R56 on a slot's bytes but for those that need the stores and the schedule check (R69); among several
consistency faults the one reported is free. -/
def State.verifyCode (s : State) (slot : Nat) (b : List Byte) : Nat :=
  if slot = 1 ∧ s.boot.smallFlash then 0x11
  else match headerFault slot s.boot.density s.boot.fuses.rollback (b.take 1280) with
  | some x => x.1
  | none =>
    let n := (headerOf b).imageLength
    let v := s.verifyState (b.take n)
    if (v.secs 10).any (fun x => glazeBad x.2.2) then 0x06
    else match s.boot.fuses.chainFault (b.take n) (slice b n 416) with
      | some c => c
      | none => (v.formFaults.getD (s.freshNat % max 1 v.formFaults.length) (0, 0)).1

/-- FLASH_COMMAND_DONE (R68, R69): busy clears; `fail` is a failure or timeout that the flash reports; `data` is the page that was
read, or the slot that was verified, from its first byte to the end of its trailer. -/
def execFlashCommandDone (fail : Bool) (data : List Byte) (s : State) : Out :=
  let s1 := { s with boot := { s.boot with flashRun := none } }.putB R.BOOT_FLASH_CTL_busy false
  let s2 := s1.putB R.BOOT_FLASH_CTL_error true
  let slot := s.boot.flashSlot
  match s.boot.flashRun with
  | none => .next s
  | some 0 => when (s.awake && (fail || data.length == 256)) s (if fail then s2 else s1.setBytes pageBase data)
  | some 3 =>
    let whole : Bool := (slot == 1 && s.boot.smallFlash) || (headerFault slot s.boot.density s.boot.fuses.rollback (data.take 1280)).isSome
      || data.length == (headerOf data).imageLength + 416
    when (s.awake && (fail || (1280 ≤ data.length && whole))) s
      (if fail then s2.put R.BOOT_FLASH_CTL_result 0x11 else (s1.put R.BOOT_FLASH_CTL_result (s.verifyCode slot data)).burn)
  | some _ => when s.awake s (ite' fail s1 s2)

end Sys2Proof.Machine
end

