-- ==== Sys2Proof/Machine/Dump.lean ====
section
/-!
DEFINITION. Words as a reader sees them without an effect of the read, and periodic dumps (R454).
-/

namespace Sys2Proof.Machine

/-- A word as a reader sees it now; FAB_TIME is the plant time (R365), OBS_CNT's ovf the live bit (R443), and the retention
window the retention memory (R427). -/
def State.peek (s : State) (a : Nat) : Word :=
  if a = R.FAB_TIME then BitVec.ofNat 32 s.clk.plantTime
  else if a = R.FAB_TIME + 4 then BitVec.ofNat 32 (s.clk.plantTime / 2 ^ 32)
  else if R.OBS_CNT 0 ≤ a && a < R.OBS_CNT 64 && a % 8 = 4 then
    s.word a ||| (if tbit s.obs.ovf ((a - R.OBS_CNT 0) / 8) then 0x80000000 else 0)
  else if 0x0C004000 ≤ a && a < 0x0C008000 then BitVec.ofNat 32 (leNat (s.bytes a 4))
  else s.word a

/-- Word `k` of dump range `r`; the BOOT, OBS and reserved regions read as zero (OBS_DUMP_REGION), a signal's word as a context of
the dump's frame source reads it (R29, R454; by time too, log entry 29). -/
def State.dumpWord (s : State) (r k : Nat) : Word :=
  let g := s.get (R.OBS_DUMP_REGION_region r)
  let a := g * 2 ^ 24 + (4 * (s.get (R.OBS_DUMP_RANGE_base r) + k)) % 2 ^ 24
  if g = 0 || 0x0D ≤ g then 0
  else if R.S 0 ≤ a && a < R.S 4096 then s.wordFor (s.get R.OBS_DUMP_CFG_fsrc) a
  else s.peek a

/-- The record index of a dump or a start: bits [41:10] of plant time (R451). -/
def State.timeIndex (s : State) : Nat := s.clk.plantTime / 2 ^ 10 % 2 ^ 32

/-- Whether an earlier dump is still writing: a record of it waits in Q26 (R454). -/
def State.dumpBusy (s : State) : Bool := s.obs.q26.any (fun b => b.headD 0 == 6)

/-- Whether a valid range names the region of the counters (R454). -/
def State.dumpCounts (s : State) : Bool :=
  (List.range 8).any (fun r => s.on (R.OBS_DUMP_RANGE_valid r) && s.get (R.OBS_DUMP_REGION_region r) == 0x0D)

/-- One periodic dump, skipped while the previous one writes; one with a range over the counters makes a take first (R446, R454). -/
def State.dump (s0 : State) : State :=
  let s := ite' s0.dumpCounts s0 s0.obsTakeSnap
  if s0.dumpBusy then s0.bump R.OBS_ERR_CNT_dump_skip
  else
    forUpTo 8 (fun r t =>
      if s.on (R.OBS_DUMP_RANGE_valid r) then
        let ws := (List.range (s.get (R.OBS_DUMP_RANGE_words_m1 r) + 1)).map (fun k => s.dumpWord r k)
        t.record 6 0 t.mplan t.timeIndex (leBytes 4 r ++ ws.flatMap (fun w => leBytes 4 w.toNat))
      else t) s

/-- A latch of source `f` counts towards a dump, which is taken at every nth (R454). -/
def State.dumpLatch (s : State) (f : Nat) : State :=
  if !(s.on R.OBS_DUMP_CFG_en && !s.on R.OBS_DUMP_CFG_by_time && s.get R.OBS_DUMP_CFG_fsrc == f) then s
  else if max 1 (s.get R.OBS_DUMP_CFG_n) ≤ s.obs.dumpCount + 1 then { s with obs := { s.obs with dumpCount := 0 } }.dump
  else { s with obs := { s.obs with dumpCount := s.obs.dumpCount + 1 } }

/-- The stretch of t microseconds of plant time that runs now (R454). -/
def State.dumpStretch (s : State) : Nat := s.clk.plantTime / (8000 * max 1 (s.get R.OBS_DUMP_CFG_t))

end Sys2Proof.Machine
end

