-- ==== Sys2Proof/Machine/Latch.lean ====
section
/-!
DEFINITION. Frame latches: publication, capture, swap, records, import copies, the frame index (R18, R165 to R169, R203,
R204, R340, R349, R395).
-/

namespace Sys2Proof.Machine

/-! ### Which contexts a latch concerns (R171, R192, R203, R204) -/

/-- The frame index that a latch of source `f` gives its frame (R17). -/
def State.frameIndex (s : State) (f : Nat) : Nat := s.get (R.ENG_FIDX_index f)

/-- The contexts with a record that source `f` runs (R164). -/
def State.ctxsOf (s : State) (f : Nat) : List Nat :=
  (List.range 64).filter (fun c => (s.ctx c).present && s.srcOf c == f)

/-- Word `a` of context `c`: while its source latches and has not swapped, the value that it swaps in at this latch, which is the
frame boundary that the write takes effect at (R171, R203, R340). -/
def State.latchWord (s : State) (c a : Nat) : Word :=
  let f := s.srcOf c
  match s.swapsAt f with
  | some k => if tbit s.frm.due f then tget k.shadow a (s.word a) else s.word a
  | none => s.word a

/-- ENG_CTX_RATE of context `c` (R203). -/
def State.rateWord (s : State) (c : Nat) : Word := s.latchWord c (R.ENG_CTX_RATE c)

/-- ENG_CTX_RATE div; 0 acts as 1, 5 to 7 act as 4 (R203). -/
def State.rateOf (s : State) (c : Nat) : Nat := min 4 (max 1 ((R.ENG_CTX_RATE_div c).of (s.rateWord c)))

/-- Whether context `c` runs in the frame of index `idx` by its rate; a phase of div or more acts modulo div (R203). -/
def State.runsAt (s : State) (c idx : Nat) : Bool := idx % s.rateOf c == (R.ENG_CTX_RATE_phase c).of (s.rateWord c) % s.rateOf c

/-- Whether the governor's published mask defers context `c` (R204). -/
def State.isDeferred (s : State) (c : Nat) : Bool :=
  s.on (R.ENG_CTX_CFG_deferrable c) && (s.word (R.S (if c < 32 then 68 else 69))).toNat / 2 ^ (c % 32) % 2 == 1

/-- Whether context `c` takes part in the frame of index `idx`: enabled, not draining, not deferred, by its rate (R171, R192). -/
def State.enters (s : State) (c idx : Nat) : Bool :=
  (s.latchWord c (R.ENG_CTX_CTL c)).getLsbD 0 && !s.on (R.ENG_CTX_CTL_draining c) && !s.isDeferred c && s.runsAt c idx

/-- Whether this latch of source `f` is one of context `c`'s: a latch of a frame that it runs by its rate (R24, R168, R203). -/
def State.pointNow (s : State) (c f : Nat) : Bool := s.runsAt c (s.frameIndex f)

/-! ### Publication (R24, R149, R166, R196, R330, R349, R395, R402) -/

/-- The board publishers bound to `f`: metering, pulse inputs, governor, twin status (R18). -/
def State.publishers (s : State) (f : Nat) : State :=
  let s1 := ite' (s.pubSrc 0 == f) s (s.publishFrom 32 s.mtrSignals)
  let s2 := ite' (s1.pubSrc 1 == f) s1 s1.govPublish
  let s3 := ite' (s2.pubSrc 2 == f) s2 (s2.publishFrom 80 s2.pulseSignals)
  ite' (s3.pubSrc 3 == f) s3 (s3.publishFrom 96 s3.twinSignals)

/-- PARAMETER_PUBLISH (R149, R451): the held parameter writes of source `f`. -/
def State.publishParams (s : State) (f : Nat) : State :=
  let mine := s.eng.paramPend.filter (fun p => s.paramSrc p.1 == some f)
  let s1 := { s with eng := { s.eng with paramPend := s.eng.paramPend.filter (fun p => s.paramSrc p.1 != some f) } }
  mine.foldl (fun t p =>
    let u := t.publishWord p.1 p.2
    ite' (u.srcRecorded f) u (u.record 5 f u.mplan (u.frameIndex f) (leBytes 4 p.1 ++ leBytes 4 p.2.toNat))) s1

/-- The pending values of context `c` are published (R24, R169). -/
def State.publishCtx (s : State) (c : Nat) : State :=
  let x := s.ctx c
  (x.pend.foldl (fun t p => t.publishWord p.1 p.2) s).setCtx c { x with pend := [] }

/-- The resolved outputs of the groups of source `f` are published (R196). -/
def State.publishGroups (s : State) (f : Nat) : State :=
  forUpTo 16 (fun g t =>
    if t.get (R.ENG_GRP_CFG_fsrc g) = f then
      match (t.grp g).pend with
      | some w => (t.publishWord (t.get (R.ENG_GRP_CFG_out g)) w).setGrp g { t.grp g with pend := none }
      | none => t
    else t) s

/-- ENGINE_INPUT_CAPTURE of source `f` (R167). -/
def State.captureInputs (s : State) (f : Nat) : State :=
  forUpTo 64 (fun i t =>
    ite' (t.get (R.ENG_EI_fsrc i) == f) t
      ((t.putB (R.ENG_EI_captured i) (t.on (R.ENG_EI_sticky i) || t.on (R.ENG_EI_level i))).putB (R.ENG_EI_sticky i) false)) s

/-- The commit points that fall on this latch of source `f`, those of group frames without a context last (R168, R193). -/
def State.latchPoints (s : State) (f : Nat) : State :=
  let s1 := (s.ctxsOf f).foldl (fun t c => ite' (t.pointNow c f) t (t.commitPoint c)) s
  forUpTo 16 (fun g t => ite' (t.get (R.ENG_GRP_CFG_fsrc g) == f) t (t.resolveEmpty g t.clk.modTick)) s1

/-- What source `f` publishes first: the board publishers and the partner's mirrored values, the deferral mask that decides which
contexts publish at this tick among them (R166, R204, R395). -/
def State.publishBoard (s : State) (f : Nat) : State := (s.publishers f).mirrorLatch f (s.frameIndex f)

/-- The publications of the parameters, contexts and groups of source `f`, and its swap (R166). -/
def State.publishSource (s : State) (f : Nat) : State :=
  let s1 := s.publishParams f
  let s2 := (s1.ctxsOf f).foldl (fun t c => ite' (t.pointNow c f && t.enters c (t.frameIndex f)) t (t.publishCtx c)) s1
  (s2.publishGroups f).swapSource f

/-- A GS instant of this tick comes with its latches (R166, R215). -/
def State.gsNow (s : State) : State := ite' s.gsDue s s.gsInstant

/-- The first part of a latch, for every source that latches at this tick and has not published yet (R166, R193, R340). -/
def State.latchFirst (s0 : State) : State :=
  let s := s0.gsNow
  let fs := (List.range 16).filter (fun f => tbit s.frm.due f && !tbit s.frm.published f)
  let s1 := fs.foldl (fun t f => t.publishBoard f) (fs.foldl (fun t f => t.latchPoints f) s)
  let s2 := fs.foldl (fun t f => t.publishSource f) s1
  let s3 := fs.foldl (fun t f => t.captureInputs f) s2.checkForce
  let s4 := fs.foldl (fun t f => t.dumpLatch f) s3
  { s4 with frm := { s4.frm with published := fs.foldl (fun p f => tset p f true) s4.frm.published } }

/-! ### Opening frames (R105, R165, R168, R192) -/

/-- Ticks from a latch of source `f` to its `n`th next one, as predicted from the periods in force, fine parts and a lengthened period
included, or from the phase count and its increment (R168, R243, R244, R246). -/
def State.nextLatch (s : State) (f n : Nat) : Nat :=
  let ty := s.get (R.ENG_FSRC_type f)
  let k := s.get (R.ENG_FSRC_sel f)
  if ty = 0 then
    (s.get (R.MOD_CG_COUNT_wrap_fine k) + s.period k * ((s.get (R.ENG_FSRC_div f) + 1) * n)) / 128 + (s.group k).lengthen
  else if ty = 1 then n * s.get (R.ENG_FT_period k)
  else
    let step := if s.on (R.ENG_FSRC_gs32 f) then 2 ^ 43 else 2 ^ 44
    ceilDiv (n * step - s.grd.phase % step) (max 1 s.grd.inc)

/-- The deadline that orders dispatch (R20, R168). -/
def State.deadlineOf (s : State) (c f : Nat) : Nat :=
  let off := s.get (R.ENG_CTX_COMMIT_offset c)
  let nxt := s.nextLatch f (s.rateOf c)
  s.clk.modTick + (if off = 0 then nxt else min off nxt)

/-- The ACQ records that the program of context `c` reads, in program order (R451). -/
def State.recordsRead (s : State) (c : Nat) : List Nat :=
  ((List.range (s.get (R.ENG_CTX_PROG_len_m1 c) + 1)).filterMap (fun k =>
    let w := s.insWord c ((s.get (R.ENG_CTX_PROG_prog_start c) + k) % 8192)
    if insOp w = 0x01 && !immBit w 11 then some (32 * immBits w 5 4 + immBits w 0 5) else none)).eraseDups

/-- The frame-input record's payload (R451). -/
def State.inputBytes (s : State) (c : Nat) : List Byte :=
  let f := s.fr c
  let recs := (s.recordsRead c).flatMap (fun e => match f.records.find? (fun p => p.1 == e) with
    | some p => leBytes 8 p.2
    | none => [])
  let imps := (s.ctx c).imports.flatMap (fun x => leBytes 4 (tget f.imports x 0).toNat)
  let mask := f.inputs.foldl (fun a p => if p.2 then a + 2 ^ p.1 else a) 0
  recs ++ imps ++ leBytes 8 mask

/-- A frame of context `c` opens at the latch of `f` with index `idx` (R17, R165, R168). -/
def State.openFrame (s : State) (c f idx : Nat) : State :=
  let imps := (s.ctx c).imports
  let recs := (s.boundEntries f).foldl (fun t e => tset t (32 * e.1 + e.2) (s.word64 (R.ACQ_FB e.1 e.2))) ([] : Tbl Nat)
  let ins := (List.range 64).filter (fun i => s.get (R.ENG_EI_fsrc i) == f)
  let fr : FrameS := {
    phase := .copying, index := idx, latchNo := tnum s.frm.total f, tick := s.clk.modTick, plan := s.mplan,
    deadline := s.deadlineOf c f, rate := s.rateOf c, pointDone := false, taped := s.recorded c,
    imports := imps.foldl (fun t x => tset t x (s.wordFor f (R.S x))) [], records := recs,
    inputs := ins.foldl (fun t i => tset t i (s.on (R.ENG_EI_captured i))) [] }
  let s1 := (List.range imps.length).foldl (fun t k => t.heal (eccKey 5 (64 * c + k))) (s.setFr c fr)
  let s2 := ite' (s1.recorded c) s1 (s1.record 2 c fr.plan idx (s1.inputBytes c))
  let s3 := if s2.obs.stepPending = some c then { s2 with obs := { s2.obs with stepPending := none, stepping := some c } } else s2
  ite' (imps.any (fun x => s3.poisonedAt (eccKey 3 (R.S x)))) s3 (s3.contextFault c)

/-- Whether the debug state lets context `c` start a frame: not halted, or this is the frame to step (R461, R462). -/
def State.mayOpen (s : State) (c : Nat) : Bool := !s.on R.ENG_STATUS_halted || s.obs.stepPending == some c

/-- Context `c` at the second part of its source's latch: drain, deferral, a frame (R171, R189, R205, R462). -/
def State.latchCtx (s : State) (c f idx : Nat) : State :=
  let go := s.enters c idx && s.mayOpen c
  let s1 := s.putB (R.ENG_CTX_CTL_deferred c) (s.isDeferred c)
  let s2 := ite' (s1.on (R.ENG_CTX_CTL_draining c)) s1 (s1.drain c)
  ite' go s2 (s2.openFrame c f idx)

/-- The groups of source `f` open their frame: participants fixed, signal members read (R192). In a frame latched while the engine is
halted for debug only a context that is stepped takes part (DESIGN CHOICE, log entry 21). -/
def State.openGroups (s : State) (f idx : Nat) : State :=
  forUpTo 16 (fun g t =>
    let ms := t.members g
    let ctxs := (ms.filter (fun m => !t.on (R.ENG_GRP_MEM_kind g m))).map (fun m => t.get (R.ENG_GRP_MEM_ctx g m))
    if ms.isEmpty || t.get (R.ENG_GRP_CFG_fsrc g) != f then t
    else
      let parts := ctxs.filter (fun c => t.enters c idx && t.mayOpen c)
      let vals := (ms.filter (fun m => t.on (R.ENG_GRP_MEM_kind g m))).foldl (fun v m => tset v m (t.sigI (t.get (R.ENG_GRP_MEM_signal g m)))) []
      let x : GrpFrame := { latchNo := tnum t.frm.total f + 1, index := idx, tick := t.clk.modTick, parts := parts, vals := vals, left := parts,
                            lims := ms.foldl (fun v m => tset v m (t.memLims g m)) [] }
      t.setGrp g { t.grp g with frames := (t.grp g).frames ++ [x] }) s

/-- The grid unit's frame-input record of three ACQ records (R452). -/
def State.gridInputs (s : State) (idx : Nat) : State :=
  let recs := match s.grd.sample with
    | some l => l.recs
    | none => []
  ite' s.gridRecorded s (s.record 2 64 s.mplan idx (recs.flatMap (fun r => leBytes 8 r)))

/-- The second part of a latch of source `f` (R17, R105, R165, R166, R209, R349). -/
def State.latchSecond (s : State) (f : Nat) : State :=
  let idx := s.frameIndex f
  let s0 := (s.boundEntries f).foldl (fun t e => (t.heal (eccKey 4 (2 * (32 * e.1 + e.2)))).heal (eccKey 4 (2 * (32 * e.1 + e.2) + 1))) s
  let s1 := (s0.formRecords f).openGroups f idx
  let s2 := { s1 with frm := { s1.frm with total := tset s1.frm.total f (tnum s1.frm.total f + 1) } }
  let s3 := (s2.ctxsOf f).foldl (fun t c => t.latchCtx c f idx) s2
  let s4 := if s3.get R.GRD_IN_CFG_fsrc = f && s3.on R.GRD_CTL_en then (s3.gridLatch idx).gridInputs idx else s3
  let s5 := ite' (s4.get R.GOV_CFG_fsrc == f) s4 s4.govDecide
  let s6 := (s5.setWord (R.ENG_FIDX f) (s5.word (R.ENG_FIDX f) + 1)).count (0x30 + f)
  { s6 with frm := { s6.frm with due := tset s6.frm.due f false, published := tset s6.frm.published f false } }

/-- What the wraps of this tick put in force, after its latches have published and swapped (R24, R25, R166, R254, R257, R270). -/
def State.wrapsNow (s : State) : State := forUpTo 8 (fun g t => ite' ((t.group g).wrapDue && !t.modStopped) t (t.carrierWrap g)) s

/-- CARRIER_WRAP (R244): group `g` has wrapped in this tick; the latches of the tick come first. -/
def execCarrierWrap (g : Nat) (s : State) : Out :=
  when (s.live && g < 8 && (s.group g).running && (s.group g).wrapDue && !s.modStopped) s (s.latchFirst.carrierWrap g)

/-- FRAME_LATCH (R166): source `f` latches, with every source of this tick published first; the import copier meets
single-bit errors in the words `one` and double-bit errors in `two` (R180, R182). -/
def execFrameLatch (f : Nat) (one two : List Nat) (s : State) : Out :=
  let s1 := s.latchFirst.wrapsNow
  let hit := two.foldl (fun t k => t.eccDouble k) (one.foldl (fun t k => t.eccSingle k false) s1)
  let own (c : Nat) : Bool := hit.srcOf c == f && (hit.ctx c).imports.any (fun x => two.contains (eccKey 3 (R.S x)))
  let s2 := ite' (!two.isEmpty) hit (hit.eccCover own)
  when (s.live && f < 16 && tbit s1.frm.due f) s (s2.latchSecond f)

/-- PERIODIC_DUMP (R454): the dump of a stretch of plant time, once in each; what the latches of this tick publish comes first. -/
def execPeriodicDump (s : State) : Out :=
  let s1 := s.latchFirst
  when (s.live && s.on R.OBS_DUMP_CFG_en && s.on R.OBS_DUMP_CFG_by_time && s.obs.dumpAt != some s.dumpStretch) s
    { s1 with obs := { s1.obs with dumpAt := some s.dumpStretch } }.dump

/-- CONTEXT_ENABLE_WRITE (R171). -/
def execContextEnableWrite (c : Nat) (b : Bool) (s : State) : Out := when (s.live && 1 ≤ c && c < 64) s (s.enableWrite c b)

/-- PARAMETER_WRITE (R149): granted, of a parameter signal; any other signal is discarded with 0x01. -/
def execParameterWrite (link sig : Nat) (w : Word) (s : State) : Out :=
  when (s.live && link < 4 && sig < 4096) s
    (if (s.paramSrc sig).isSome && !s.glazed (R.S sig) then (s.paramWrite sig w).answer link { }
     else (s.bump R.BOOT_ERR_CNT_access).answer link { code := 1 })

end Sys2Proof.Machine
end

