-- ==== Sys2Proof/Machine/Obs.lean ====
section
/-!
DEFINITION. Counters, samples, recording, the clock-stop test, debug halt and the test access port (R442 to R462).
-/

namespace Sys2Proof.Machine

/-! ### Counters (R443, R446) -/

/-- COUNTER_CLEAR (OBS_CTL.clear). -/
def State.counterClear (s : State) : State := { s with obs := { s.obs with cnt := [], lca := [] } }

/-! ### Precise samples (R448) -/

/-- The place of the oldest unread entry. -/
def State.psOldest (s : State) : Nat := (s.get R.OBS_PS_STAT_head + 1024 - s.get R.OBS_PS_STAT_count) % 1024

/-- The oldest unread entry is read or has left. -/
def State.psTake (s : State) : State := s.put R.OBS_PS_STAT_count (s.get R.OBS_PS_STAT_count - 1)

/-- Q27's oldest entry goes into the observation RAM as a samples record, if it fits at once (R448, R451). -/
def State.q27Drain (s : State) : State :=
  match s.obs.q27 with
  | (p, e) :: r =>
    let b := e.flatMap (fun w => leBytes 4 w.toNat)
    if s.obs.q26.isEmpty && s.obsUsed + 3 < obsUnits then
      { s with obs := { s.obs with q27 := r } }.record 9 (leAt b 0 1 % 64) p (leAt b 12 4) b
    else s
  | [] => s

/-- PRECISE_SAMPLE_DRAIN (R448): the oldest entry enters Q27 if there is room; one that finds it full counts once as refused and
waits in the buffer (R14). -/
def State.psDrain (s : State) : State :=
  let s1 := s.q27Drain
  if !(s1.on R.OBS_PS_CFG_drain && s1.on R.OBS_PS_STAT_count) then s1
  else if hasRoom s1.obs.q27 64 then
    let e := (tnum s1.obs.psPlan s1.psOldest, s1.words (R.OBS_PS s1.psOldest) 4)
    let t := s1.psTake.count (0x80 + 27)
    { t with obs := { t.obs with q27 := t.obs.q27 ++ [e], q27Wait := false } }
  else if s1.obs.q27Wait then s1
  else { (s1.count (0x60 + 27)) with obs := { (s1.count (0x60 + 27)).obs with q27Wait := true } }

/-- PRECISE_SAMPLE_DRAIN (R448). -/
def execPreciseSampleDrain (s : State) : Out := when s.live s s.psDrain

/-- Reading word 3 of the oldest unread entry marks it read (OBS_PS). -/
def State.psRead (s : State) (i : Nat) : State := ite' (s.on R.OBS_PS_STAT_count && s.psOldest == i) s s.psTake

/-! ### Recording (R452, R453) -/

/-- RECORD_ARM (R452): a start record, and an origin due of every selected context. -/
def State.recordArm (s : State) : State :=
  let o := { s.obs with recording := true, needOrigin := forUpTo 64 (fun c t => tset t c true) [] }
  let s1 := { s with obs := o }.putB R.OBS_STATUS_recording true
  s1.record 0x0A 0 s1.mplan s1.timeIndex
    (beBytes 48 s1.boot.imageHash.toNat ++ leBytes 4 s1.bootCount ++ leBytes 1 s1.boot.slot ++ leBytes 1 (s1.get R.CLK_STATUS_eplan) ++ leBytes 2 0)

/-- RECORD_DISARM (R453). -/
def State.recordDisarm (s : State) : State :=
  { s with obs := { s.obs with recording := false } }.putB R.OBS_STATUS_recording false

/-! ### Clock-stop test (R343, R457) -/

/-- The synthesizer under test: 0 SYN_M, 1 SYN_E. -/
def State.clkTarget (s : State) : Nat := s.get R.OBS_CLKTEST_target

/-- Whether ENG runs from SYN_A: during a SYN_E hop, and from SYN_E's power-down in a clock test to its relock (R91, R457). -/
def State.engOnSynA (s : State) : Bool := (s.syn 1).hopping || (s.syn 1).poweredDown || (s.obs.clkTestPoweredDown && s.clkTarget == 1)

/-- CLOCK_STOP_TEST (R457): ignored while busy, refused outside TEST with every gate port disabled. -/
def State.clkTestStart (s : State) : State :=
  if s.on R.OBS_CLKTEST_busy then s
  else if !s.testMode then s.put R.OBS_CLKTEST_result 2
  else { (s.putB R.OBS_CLKTEST_busy true) with
    obs := { s.obs with clkTestPoweredDown := false, clkTestAbort := false, clkTestAt := s.clk.elapsed } }

/-- The synthesizer powers up and relocks on its stored band (R343, R457). -/
def State.clkPowerUp (s : State) : State :=
  let i := s.clkTarget
  s.setSyn i { s.syn i with poweredDown := false, goodWindows := 0 }

/-- CLOCK_STOP_ABORT (R457): at once when the power-down has completed, else when it does. -/
def State.clkTestAbort (s : State) : State :=
  if !s.on R.OBS_CLKTEST_busy then s
  else if s.obs.clkTestPoweredDown then s.clkPowerUp
  else { s with obs := { s.obs with clkTestAbort := true } }

/-- POWER_DOWN_DONE (R457): 1 µs after the start the synthesizer is off and out of lock; a waiting abort powers it up again. -/
def execPowerDownDone (s : State) : Out :=
  let i := s.clkTarget
  let s1 := (s.setSyn i { s.syn i with poweredDown := true }).loseLock i
  let s2 := { ite' (i == 0) s1 s1.openGates with
    obs := { s1.obs with clkTestPoweredDown := true, clkTestAt := s.clk.elapsed } }
  when (s.live && s.on R.OBS_CLKTEST_busy && !s.obs.clkTestPoweredDown && decide (s.obs.clkTestAt + 8000 ≤ s.clk.elapsed)) s
    (ite' s.obs.clkTestAbort s2 s2.clkPowerUp)

/-- Whether every leg with modulator en rests in the safe state (R268). -/
def State.legsSafe (s : State) : Bool := (List.range 48).all (fun l => !s.on (R.MOD_LEG_CFG_en l) || (s.gleg l).safeHeld)

/-- The off interval in units of 125 ps: dur, 10 µs to 1,000 µs (OBS_CLKTEST). -/
def State.clkTestUnits (s : State) : Nat := 8000 * min 1000 (max 10 (s.get R.OBS_CLKTEST_dur))

/-- Whether the off interval is over: an abort has acted, or dur has passed since the power-down completed (DESIGN CHOICE, log
entry 40). -/
def State.clkTestOver (s : State) : Bool :=
  !(s.syn s.clkTarget).poweredDown || decide (s.obs.clkTestAt + s.clkTestUnits ≤ s.clk.elapsed)

/-- CLOCK_TEST_OFF_END (R457, R86): dur has expired or an abort acted; `windows` are the counts of the lock windows that fall within
2 µs of power-up, after the settling time. -/
def execClockTestOffEnd (windows : List Nat) (s : State) : Out :=
  let i := s.clkTarget
  let locked := s.locksOn i windows && !s.holdover i
  let s1 := s.clkPowerUp.putB (lockedFld i) locked
  let ok := locked && (if i = 0 then s.on R.MOD_STATUS_clk_stop && s.legsSafe else s.on (lolFld 1))
  let s2 := (s1.putB R.OBS_CLKTEST_busy false).put R.OBS_CLKTEST_result (if ok then 0 else 1)
  when (s.live && s.on R.OBS_CLKTEST_busy && s.obs.clkTestPoweredDown && s.clkTestOver) s
    { s2 with obs := { s2.obs with clkTestPoweredDown := false, clkTestAbort := false } }

/-! ### Debug halt (R461, R462) -/

/-- The frame of context `c` is abandoned by a halt, not as an overrun (R461). -/
def State.haltCtx (s : State) (c : Nat) : State :=
  let f := s.fr c
  let s1 := s.coverBreak c 3 f.index f.plan
  if f.phase.underWay then
    let s2 := (s1.dropFrame c .idle).bump R.OBS_DBG_STAT_abandoned
    s2.setFr c { s2.fr c with pointDone := true }
  else s1

/-- HALT (R268, R461): groups in progress do not resolve. -/
def State.halt (s : State) : State :=
  if s.on R.ENG_STATUS_halted then s
  else
    let s1 := ((s.putB R.OBS_DBG_CTL_halt true).putB R.OBS_DBG_STAT_halted true).putB R.ENG_STATUS_halted true
    let s2 := forUpTo 64 (fun c t => t.haltCtx c) s1
    let s3 := forUpTo 16 (fun g t =>
      ite' (!(t.grp g).frames.isEmpty) t ((t.setGrp g { t.grp g with frames := [] }).putB (R.ENG_GRP_STAT_held g) true)) s2
    { (s3.putB R.MOD_STATUS_halt_seen true) with obs := { s3.obs with stepPending := none, stepping := none } }.safeState

/-- ENGINE_STEP (R462): replaces a step that is pending. -/
def State.engineStep (s : State) (c : Nat) : State :=
  ite' (s.on R.ENG_STATUS_halted) s { (s.put R.OBS_DBG_CTL_step_ctx c) with obs := { s.obs with stepPending := some c } }

/-- HALT_CLEAR (R462): contexts open frames again at their source's next latch. -/
def State.haltClear (s : State) : State :=
  let s1 := ((s.putB R.OBS_DBG_CTL_halt false).putB R.OBS_DBG_STAT_halted false).putB R.ENG_STATUS_halted false
  { s1 with obs := { s1.obs with stepPending := none } }

/-! ### Test access port (R458, R459) -/

/-- The TAP takes instruction `ir`; what an earlier instruction drove ends. -/
def State.tapTo (s : State) (ir : Nat) (sel : TapReg) : State :=
  { s with tap := { s.tap with ir := ir, sel := sel, driving := false, acTest := false, highZ := false } }

/-- Whether a restricted instruction is accepted (R459). -/
def State.tapAllowed (s : State) : Bool :=
  (s.bare || (s.live && s.testMode)) && (!s.on R.BOOT_STATUS_debug_locked || s.get (R.BOOT_SESSION_role 3) == 2)

/-- A restricted instruction: `t` if accepted, else BYPASS and a count (R459). -/
def State.restricted (s t : State) (ir : Nat) : State :=
  if s.tapAllowed then t else (s.tapTo ir .bypass).bump R.OBS_ERR_CNT_tap_refused

/-- IDCODE (R458): version 0x1, part 0x4896, manufacturer bits 0x079. -/
def execIdcode (s : State) : Out := .next ((s.tapTo 1 .idcode).answer 3 { words := [0x148960F3] })

/-- SAMPLE_PRELOAD (R458): the boundary register holds the sampled or preloaded balls. -/
def execSamplePreload (balls : List Bool) (s : State) : Out :=
  .next { (s.tapTo 2 .boundary) with tap := { (s.tapTo 2 .boundary).tap with boundary := balls } }

/-- EXTEST (R459): the balls carry the boundary register. -/
def execExtest (s : State) : Out :=
  .next (s.restricted { s with tap := { s.tap with ir := 3, sel := .boundary, driving := true, acTest := false, highZ := false } } 3)

/-- EXTEST_PULSE (R459): the AC lanes too. -/
def execExtestPulse (s : State) : Out :=
  .next (s.restricted { s with tap := { s.tap with ir := 4, sel := .boundary, driving := true, acTest := true, highZ := false } } 4)

/-- EXTEST_TRAIN (R459): the AC lanes too. -/
def execExtestTrain (s : State) : Out :=
  .next (s.restricted { s with tap := { s.tap with ir := 5, sel := .boundary, driving := true, acTest := true, highZ := false } } 5)

/-- CLAMP (R459): the outputs hold the boundary register, bypass is selected. -/
def execClamp (s : State) : Out :=
  .next (s.restricted { s with tap := { s.tap with ir := 6, sel := .bypass, driving := true, acTest := false, highZ := false } } 6)

/-- HIGHZ (R459). -/
def execHighz (s : State) : Out :=
  .next (s.restricted { s with tap := { s.tap with ir := 7, sel := .bypass, driving := false, acTest := false, highZ := true } } 7)

/-- BYPASS (R458): code 0xFF and every unlisted code. -/
def execBypass (ir : Nat) (s : State) : Out := .next (s.tapTo ir .bypass)

end Sys2Proof.Machine
end

