-- ==== Sys2Proof/Machine/Access.lean ====
section
/-!
DEFINITION. Register access over a link: reserved addresses, roles, what a read and a write do word by word, messages, the
64-bit plant-time registers and the DEBUG register (R7 to R11, R67, R78, R119, R148, R149, R207, R316, R337, R369, R375, R460,
R496, R497).
-/

namespace Sys2Proof.Machine

/-! ### The address map (R11, R37, R38) -/

/-- The flash page buffer. -/
def inPage (a : Nat) : Bool := 0x1000 ≤ a && a < 0x1100

/-- The retention window (R427). -/
def inRet (a : Nat) : Bool := 0x0C004000 ≤ a && a < 0x0C008000

/-- The observation RAM (R450). -/
def inObsRam (a : Nat) : Bool := 0x0D040000 ≤ a && a < 0x0D080000

/-- The signal board. -/
def inBoard (a : Nat) : Bool := R.S 0 ≤ a && a < R.S 4096

/-- Whether the spec gives address `a` a word. -/
def isMapped (a : Nat) : Bool :=
  (regFind a).isSome || inPage a || inIdentity a || inRet a || inObsRam a || (inBoard a && !(R.S 128 ≤ a && a < R.S 256))

/-- Whether an access to `a` is a reserved access; with no image only the BOOT region and its windows respond (R11, R67). -/
def State.reserved (s : State) (a : Nat) : Bool := !isMapped a || (s.bare && 0x01000000 ≤ a)

/-- The low words of the 64-bit plant-time registers (R369). -/
def plantLows : List Nat := [R.FAB_TIME, R.CLK_HOP_TIME, R.FAB_SNAP + 4, R.FAB_SCHED_TX + 4]

/-- The value of the plant-time register whose low word is at `a`. -/
def State.plantValue (s : State) (a : Nat) : Nat := if a = R.FAB_TIME then s.clk.plantTime else s.word64 a

/-- Whether the plant-time register whose low word is at `a` may be written: FAB_TIME at the root, FAB_SNAP never (R365, R387). -/
def State.plantWritable (s : State) (a : Nat) : Bool := a == R.CLK_HOP_TIME || (a == R.FAB_TIME && s.isRoot) || a == R.FAB_SCHED_TX + 4

/-! ### Reads -/

/-- Four bytes of a window as a word. -/
def State.byteWord (s : State) (a : Nat) : Word := BitVec.ofNat 32 (leNat (s.bytes a 4))

/-- A permitted read of word `a` over a link: the state after and the word. WO bits read zero, RC bits clear (R10). -/
def State.readWord (s : State) (link a : Nat) : State × Word :=
  if plantLows.contains a then
    let v := s.plantValue a
    ({ s with sess := { s.sess with readShadow := tset s.sess.readShadow link v } }, BitVec.ofNat 32 v)
  else if plantLows.contains (a - 4) then (s, BitVec.ofNat 32 (tnum s.sess.readShadow link / 2 ^ 32))
  else if R.ACQ_RES 0 0 ≤ a && a < R.ACQ_RES 16 0 && a % 16 = 0 then
    let t := s.resultSnapshot ((a - R.ACQ_RES 0 0) / 512) ((a - R.ACQ_RES 0 0) / 16 % 32)
    (t, t.word a)
  else if R.MTR_E 0 0 ≤ a && a < R.MTR_E 4 0 then (s, s.word (R.MTR_E link 0 + (a - R.MTR_E 0 0) % 0x100))
  else if a = R.AON_RTC then (s.put R.AON_RTC_sub s.aon.sub, s.word a)
  else if R.OBS_PS 0 ≤ a && a < R.OBS_PS 1024 && a % 16 = 12 then (s.psRead ((a - R.OBS_PS 0) / 16), s.word a)
  else if inPage a || inRet a || inObsRam a then (s, s.byteWord a)
  else if inIdentity a then
    (s, BitVec.ofNat 32 (leNat ((List.range 4).map (fun k =>
      Config.identityByte s.boot.fuses.serial s.boot.fuses.vendorRootHash (a - 0x2000 + k)))))
  else
    let w := s.peek a
    match regFind a with
    | some h => (s.setWord a (s.word a &&& ~~~ BitVec.ofNat 32 h.wd.rc), w &&& ~~~ BitVec.ofNat 32 h.wd.wo)
    | none => (s, w)

/-- A read of address `a` by `req` over a link: state, access code and word; a faulty read returns zero (R8, R11, R497). -/
def State.readAccess (s : State) (link req a : Nat) : State × Nat × Word :=
  if a % 4 ≠ 0 then (s.accessError 3, 3, 0)
  else if s.reserved a then (s.accessError 2, 2, 0)
  else if !s.mayRead (s.roleOf link req) a || (inPage a && s.roleOf link req != 2) then (s.accessError 1, 1, 0)
  else
    let r := s.readWord link a
    (r.1, 0, r.2)

/-! ### Writes -/

/-- The registers marked "integrator only", and the flash window (R68, R461). -/
def integratorOnly (a : Nat) : Bool :=
  a == R.BOOT_POLICY || a == R.BOOT_FLASH_CTL || a == R.BOOT_FLASH_ADDR || a == R.OBS_DBG_CTL || inPage a

/-- Whether word `a` holds a field that only glazes write (R207, R270, R305, R357), or belongs to an engine store while the engine
is not halted (R148). -/
def State.glazeOnly (s : State) (a : Nat) : Bool :=
  match regFind a with
  | some h => h.wd.gl != 0 && !(isStore a && s.on R.ENG_STATUS_halted)
  | none => false

/-- Whether a write of `a` by `req` is refused with 0x01: role and grant, integrator only, glaze control, signals that are no
parameters, FAB_SCHED_TX away from the root (R7, R78, R148, R149, R207, R337). -/
def State.writeForbidden (s : State) (link req a : Nat) : Bool :=
  let role := s.roleOf link req
  !s.mayWrite role (s.get (R.BOOT_SESSION_key_index link)) a || (integratorOnly a && role != 2) || s.glazed a || s.glazeOnly a
  || (inBoard a && (s.paramSrc ((a - R.S 0) / 4)).isNone)
  || (R.FAB_SCHED_TX ≤ a && a < R.FAB_SCHED_TX + 24 && !s.isRoot)

/-- The word after a write of `w`: RW bits take it, W1C bits clear where it is 1 (R10). -/
def WordDesc.after (d : WordDesc) (old w : Word) : Word :=
  maskIn old w (BitVec.ofNat 32 d.rw) &&& ~~~ (w &&& BitVec.ofNat 32 d.w1c)

/-- A write of the page buffer and of a plant-time register or a parameter; none for another word. -/
def State.writeOther (s : State) (link a : Nat) (w : Word) : Option (State × Nat) :=
  if inPage a then some (s.setBytes a (leBytes 4 w.toNat), 0)
  else if inBoard a then some (s.paramWrite ((a - R.S 0) / 4) w, 0)
  else if plantLows.contains a then
    some (if s.plantWritable a then { s with sess := { s.sess with writeShadow := tset s.sess.writeShadow link w.toNat } } else s, 0)
  else if plantLows.contains (a - 4) then
    let low := s.sess.writeShadow.find? (fun p => p.1 == link)
    let t := { s with sess := { s.sess with writeShadow := s.sess.writeShadow.filter (fun p => p.1 != link) } }
    some (match s.plantWritable (a - 4), low with
    | false, _ => (s, 0)
    | true, none => (s, 3)
    | true, some p =>
      let v := p.2 + 2 ^ 32 * w.toNat
      (if a - 4 = R.FAB_TIME then t.fabTimeWrite v else t.setWord64 (a - 4) v, 0))
  else none

/-- What writing WO bits of `w` to a control word of the fabric, the twin or the CAN starts (R378, R381, R400, R410). -/
def State.unitActs (s : State) (a : Nat) (w : Word) : State :=
  let bit (k : Nat) : Bool := w.getLsbD k
  if a = R.FAB_BARRIER then ite' (bit 8) s (s.barrierEnter (s.get R.FAB_BARRIER_number))
  else if a = R.FAB_SCHED_TX then ite' (bit 16) s s.schedTxGo
  else if a = R.TWN_CTL then ite' (bit 0) s s.repair
  else if a = R.CAN_CTL 0 || a = R.CAN_CTL 1 then ite' (bit 0) s (s.canRecover ((a - R.CAN_CTL 0) / 0x100))
  else s

/-- The control words that a glaze has written since the last tick start what their WO bits say (DESIGN CHOICE, log entry 39). -/
def State.glazeStarts (s : State) : State :=
  s.seq.acts.foldl (fun t p => t.unitActs p.1 p.2) { s with seq := { s.seq with acts := [] } }

/-- What writing WO bits of `w`, and the words with a rule of their own, do beside taking their RW and W1C bits. -/
def State.writeActs (s : State) (link a : Nat) (w : Word) : State :=
  let bit (k : Nat) : Bool := w.getLsbD k
  if R.BOOT_SESSION 0 ≤ a && a < R.BOOT_SESSION 4 then ite' (bit 31 && a == R.BOOT_SESSION link) s (s.endSession link)
  else if laterActs a then s.unitActs a w
  else if a = R.OBS_CTL then ite' (bit 1) s s.counterClear
  else if a = R.OBS_SNAP then ite' (bit 0) s (s.putB R.OBS_SNAP_pending true)
  else if R.OBS_CNT 0 ≤ a && a < R.OBS_CNT 64 && a % 8 = 4 then
    ite' (bit 31) s { s with obs := { s.obs with ovf := tset s.obs.ovf ((a - R.OBS_CNT 0) / 8) false } }
  else if a = R.OBS_REC_CTL then
    let s1 := ite' (bit 0) s s.recordArm
    ite' (bit 1) s1 s1.recordDisarm
  else if a = R.OBS_RAM_RD then s.q26Drain (s.obs.q26.length + 1)
  else if a = R.OBS_CLKTEST then
    let s1 := ite' (bit 0) s s.clkTestStart
    ite' (bit 1) s1 s1.clkTestAbort
  else if a = R.OBS_DBG_CTL then
    let s1 := if bit 0 then s.halt else ite' (s.on R.ENG_STATUS_halted) s s.haltClear
    ite' (bit 1) s1 (s1.engineStep (s.get R.OBS_DBG_CTL_step_ctx))
  else (s.agentActs a w).written a

/-- A permitted write of `w` to a register word: held until its instant for GRD_ and MTR_ words (R211, R333), by a rule of its own
(R100, R102, R124, R144, R171, R434), or at once. -/
def State.writeReg (s : State) (link a : Nat) (w : Word) (d : WordDesc) : State :=
  let rw := BitVec.ofNat 32 d.rw
  let old := s.word a
  let cleared := s.setWord a (old &&& ~~~ (w &&& BitVec.ofNat 32 d.w1c))
  if s.writeIgnored a w then s
  else if R.EVR_ROUTE 0 ≤ a && a < R.EVR_ROUTE 4096 then s.routeWrite ((a - R.EVR_ROUTE 0) / 4) w
  else if R.ACQ_SEQ 0 0 ≤ a && a < R.ACQ_SEQ 16 0 then s.seqEntryWrite ((a - R.ACQ_SEQ 0 0) / 128) ((a - R.ACQ_SEQ 0 0) / 4 % 32) w
  else if R.ENG_CTX_CTL 1 ≤ a && a < R.ENG_CTX_CTL 64 && (a - R.ENG_CTX_CTL 0) % 0x20 = 0 then
    s.enableWrite ((a - R.ENG_CTX_CTL 0) / 0x20) (w.getLsbD 0)
  else if a = R.AON_RTC then s.rtcWrite w.toNat
  else if isStore a then
    (s.setWord a (w &&& loadMask a)).heal (storeKey a)
  else if R.WIN_STATUS 0 ≤ a && a < R.WIN_STATUS 96 && a % 16 = 12 then
    s.statusClear ((a - R.WIN_STATUS 0) / 16) w
  else if a / 2 ^ 24 = 5 then ite' (rw != 0) cleared (cleared.gridHold ⟨a, w, rw, false⟩)
  else if a / 2 ^ 24 = 8 then (ite' (rw != 0) cleared (cleared.mtrHold ⟨a, w, rw, false⟩)).writeActs link a w
  else (s.setWord a (d.after old w)).writeActs link a w

/-- A write of address `a` by `req` over a link: state and access code (R8, R497). Words of CTX0 take nothing (R496). -/
def State.writeAccess (s : State) (link req a : Nat) (w : Word) : State × Nat :=
  if a % 4 ≠ 0 then (s.accessError 3, 3)
  else if s.reserved a then (s.accessError 2, 2)
  else if s.writeForbidden link req a then (s.accessError 1, 1)
  else if R.EVR_ROUTE 0 ≤ a && a < R.EVR_ROUTE 4096 && routeRefused w then (s.accessError 0x0C, 0x0C)
  else
    match s.writeOther link a w with
    | some r => (r.1.accessError r.2, r.2)
    | none =>
      if a = R.BOOT_FLASH_CTL then
        let r := s.flashWrite w
        (r.1.accessError r.2, r.2)
      else
        match regFind a with
        | some h => (s.writeReg link a w h.wd, 0)
        | none => (s, 0)

/-- The words of a read request in rising order: state, the first fault's code, the words. -/
def State.readMany (s : State) (link req a : Nat) : Nat → State × Nat × List Word
  | 0 => (s, 0, [])
  | n + 1 =>
    let r := s.readAccess link req a
    let q := State.readMany r.1 link req (a + 4) n
    (q.1, if r.2.1 = 0 then q.2.1 else r.2.1, r.2.2 :: q.2.2)

/-! ### Rows of single accesses -/

/-- Whether link `l` can carry an access now. -/
def State.linkOpen (s : State) (l : Nat) : Bool := s.awake && l < 4

/-- Answer a read over its link. -/
def State.answerRead (s : State) (link : Nat) (r : State × Nat × Word) : Out :=
  when (s.linkOpen link) s (r.1.answer link { code := r.2.1, words := [r.2.2] })

/-- Answer a write over its link. -/
def State.answerWrite (s : State) (link : Nat) (r : State × Nat) : Out := when (s.linkOpen link) s (r.1.answer link { code := r.2 })

/-- REGISTER_WRITE (R10). -/
def execRegisterWrite (link requester addr : Nat) (w : Word) (s : State) : Out := s.answerWrite link (s.writeAccess link requester addr w)

/-- REGISTER_READ_CLEAR (R10). -/
def execRegisterReadClear (link requester addr : Nat) (s : State) : Out := s.answerRead link (s.readAccess link requester addr)

/-- PLANT_TIME_LOW_READ (R369): of register 0 FAB_TIME, 1 CLK_HOP_TIME, 2 FAB_SNAP, 3 FAB_SCHED_TX. -/
def execPlantTimeLowRead (link requester k : Nat) (s : State) : Out := s.answerRead link (s.readAccess link requester (plantLows.getD k R.FAB_TIME))

/-- PLANT_TIME_LOW_WRITE (R369). -/
def execPlantTimeLowWrite (link requester k : Nat) (w : Word) (s : State) : Out :=
  s.answerWrite link (s.writeAccess link requester (plantLows.getD k R.FAB_TIME) w)

/-- PLANT_TIME_HIGH_WRITE (R369). -/
def execPlantTimeHighWrite (link requester k : Nat) (w : Word) (s : State) : Out :=
  s.answerWrite link (s.writeAccess link requester (plantLows.getD k R.FAB_TIME + 4) w)

/-- RESULT_SNAPSHOT (R119): a read of word 0 of a result register. -/
def execResultSnapshot (link requester cv e : Nat) (s : State) : Out :=
  s.answerRead link (s.readAccess link requester (R.ACQ_RES (cv % 16) (e % 32)))

/-- FRAME_RECORD_READ (R120): a read of both words of one record; a latch of the entry waits for the read. -/
def execFrameRecordRead (link requester cv e : Nat) (s : State) : Out :=
  let r := s.readMany link requester (R.ACQ_FB (cv % 16) (e % 32)) 2
  when (s.linkOpen link) s (r.1.answer link { code := r.2.1, words := r.2.2 })

/-- ROUTE_ENTRY_WRITE (R144): a write of a route entry. -/
def execRouteEntryWrite (link requester i : Nat) (w : Word) (s : State) : Out :=
  s.answerWrite link (s.writeAccess link requester (R.EVR_ROUTE (i % 4096)) w)

/-- RTC_WRITE (R434): a write of AON_RTC's seconds. -/
def execRtcWrite (link requester sec : Nat) (s : State) : Out :=
  s.answerWrite link (s.writeAccess link requester R.AON_RTC (BitVec.ofNat 32 sec))

/-- SCHED_TX_GO (R381): a write of FAB_SCHED_TX's word 0 with go, its other fields as they stand. -/
def execSchedTxGo (link requester : Nat) (s : State) : Out :=
  s.answerWrite link (s.writeAccess link requester R.FAB_SCHED_TX (s.word R.FAB_SCHED_TX ||| 0x10000))

/-- OBS_SNAP_TAKE (R446): a write of take; the copy is made at the next MOD tick. -/
def execObsSnapTake (link requester : Nat) (s : State) : Out := s.answerWrite link (s.writeAccess link requester R.OBS_SNAP 1)

/-- COUNTER_CLEAR (R443): a write of clear, cnt_run as it stands. -/
def execCounterClear (link requester : Nat) (s : State) : Out :=
  s.answerWrite link (s.writeAccess link requester R.OBS_CTL (s.word R.OBS_CTL &&& 1 ||| 2))

/-- PRECISE_SAMPLE_READ (R448): a read of word 3 of entry `i`. -/
def execPreciseSampleRead (link requester i : Nat) (s : State) : Out :=
  s.answerRead link (s.readAccess link requester (R.OBS_PS (i % 1024) + 12))

/-- RECORD_ARM (R452): a write of arm, grid as it stands. -/
def execRecordArm (link requester : Nat) (s : State) : Out :=
  s.answerWrite link (s.writeAccess link requester R.OBS_REC_CTL (s.word R.OBS_REC_CTL &&& 4 ||| 1))

/-- RECORD_DISARM (R453): a write of disarm, grid as it stands. -/
def execRecordDisarm (link requester : Nat) (s : State) : Out :=
  s.answerWrite link (s.writeAccess link requester R.OBS_REC_CTL (s.word R.OBS_REC_CTL &&& 4 ||| 2))

/-- CLOCK_STOP_TEST (R457): a write of start, target and dur as they stand. -/
def execClockStopTest (link requester : Nat) (s : State) : Out :=
  s.answerWrite link (s.writeAccess link requester R.OBS_CLKTEST (s.word R.OBS_CLKTEST &&& ~~~3 ||| 1))

/-- CLOCK_STOP_ABORT (R457): a write of abort. -/
def execClockStopAbort (link requester : Nat) (s : State) : Out :=
  s.answerWrite link (s.writeAccess link requester R.OBS_CLKTEST (s.word R.OBS_CLKTEST &&& ~~~3 ||| 2))

/-- HALT (R461): a write of halt, which needs the integrator. -/
def execHalt (link requester : Nat) (s : State) : Out :=
  s.answerWrite link (s.writeAccess link requester R.OBS_DBG_CTL (s.word R.OBS_DBG_CTL &&& ~~~2 ||| 1))

/-- ENGINE_STEP (R462): a write of step with a context's number, halt as it stands. -/
def execEngineStep (link requester c : Nat) (s : State) : Out :=
  s.answerWrite link (s.writeAccess link requester R.OBS_DBG_CTL (R.OBS_DBG_CTL_step_ctx.ins (s.word R.OBS_DBG_CTL) c ||| 2))

/-- HALT_CLEAR (R462): a write that clears halt. -/
def execHaltClear (link requester : Nat) (s : State) : Out :=
  s.answerWrite link (s.writeAccess link requester R.OBS_DBG_CTL (s.word R.OBS_DBG_CTL &&& ~~~3))

/-- The word of BOOT_FLASH_CTL that starts command `cmd` with `slot`. -/
def flashWord (cmd slot : Nat) : Word := R.BOOT_FLASH_CTL_slot.ins (R.BOOT_FLASH_CTL_cmd.ins 1 cmd) slot

/-- FLASH_READ_PAGE (R68). -/
def execFlashReadPage (link requester : Nat) (s : State) : Out :=
  s.answerWrite link (s.writeAccess link requester R.BOOT_FLASH_CTL (flashWord 0 (s.get R.BOOT_FLASH_CTL_slot)))

/-- FLASH_PROGRAM_PAGE (R68). -/
def execFlashProgramPage (link requester : Nat) (s : State) : Out :=
  s.answerWrite link (s.writeAccess link requester R.BOOT_FLASH_CTL (flashWord 1 (s.get R.BOOT_FLASH_CTL_slot)))

/-- FLASH_ERASE (R68). -/
def execFlashErase (link requester : Nat) (s : State) : Out :=
  s.answerWrite link (s.writeAccess link requester R.BOOT_FLASH_CTL (flashWord 2 (s.get R.BOOT_FLASH_CTL_slot)))

/-- FLASH_VERIFY (R69). -/
def execFlashVerify (link requester slot : Nat) (s : State) : Out :=
  s.answerWrite link (s.writeAccess link requester R.BOOT_FLASH_CTL (flashWord 3 slot))

/-- REBOOT_COMMAND (R68). -/
def execRebootCommand (link requester : Nat) (s : State) : Out :=
  s.answerWrite link (s.writeAccess link requester R.BOOT_FLASH_CTL (flashWord 4 (s.get R.BOOT_FLASH_CTL_slot)))

/-- DEBUG_ACCESS (R460): `data` is the 72-bit register as it is updated. -/
def execDebugAccess (data : Nat) (s : State) : Out :=
  let a := data % 2 ^ 32 / 2 * 2
  let s1 := s.tapTo 0x10 .debug
  let capture (t : State) (code : Nat) (v : Nat) : State :=
    { t with tap := { t.tap with debug := data % 2 ^ 32 + v * 2 ^ 32 + code * 2 ^ 64 } }
  if data % 2 = 1 then
    let w := data / 2 ^ 32 % 2 ^ 32
    let r := s1.writeAccess 3 0 a (BitVec.ofNat 32 w)
    when s.awake s (capture (r.1.answer 3 { code := r.2 }) r.2 w)
  else
    let r := s1.readAccess 3 0 a
    when s.awake s (capture (r.1.answer 3 { code := r.2.1, words := [r.2.2] }) r.2.1 r.2.2.toNat)

/-! ### Read and write requests (R375) -/

/-- The words of a write request in rising order: state and the first fault's code. -/
def State.writeMany (s : State) (link req a : Nat) : List Word → State × Nat
  | [] => (s, 0)
  | w :: ws =>
    let r := s.writeAccess link req a w
    let q := State.writeMany r.1 link req (a + 4) ws
    (q.1, if r.2 = 0 then q.2 else r.2)

/-- The address of a read or write request; it wraps at 2^32. -/
def Req.addr (r : Req) : Nat := leAt r.body 0 4

/-- The count of a read or write request. -/
def Req.count (r : Req) : Nat := leAt r.body 4 1

/-- Serve a read request (R375); 0x0A comes before 0x03 (DESIGN CHOICE, log entry 11). -/
def State.serveRead (s : State) (r : Req) : State :=
  if r.body.length ≠ 8 || r.count = 0 || 60 < r.count then s.refuse r 0x0A
  else if r.addr % 4 ≠ 0 then s.refuse r 3
  else
    let q := s.readMany r.link r.requester r.addr r.count
    q.1.respond r q.2.1 r.count q.2.2

/-- READ_REQUEST (R375). -/
def execReadRequest (link requester prio seq : Nat) (body : List Byte) (s : State) : Out :=
  let r : Req := ⟨link, requester, prio, seq, body⟩
  s.handle r 1 1 (fun t => t.serveRead r)

/-- Serve a write request (R375); 0x0A comes before 0x03 (DESIGN CHOICE, log entry 11). -/
def State.serveWrite (s : State) (r : Req) : State :=
  if r.body.length ≠ 8 + 4 * r.count || r.count = 0 || 60 < r.count then s.refuse r 0x0A
  else if r.addr % 4 ≠ 0 then s.refuse r 3
  else
    let q := s.writeMany r.link r.requester r.addr (leWords (r.body.drop 8) r.count)
    q.1.respond r q.2 r.count []

/-- WRITE_REQUEST (R375). -/
def execWriteRequest (link requester prio seq : Nat) (body : List Byte) (s : State) : Out :=
  let r : Req := ⟨link, requester, prio, seq, body⟩
  s.handle r 2 1 (fun t => t.serveWrite r)

end Sys2Proof.Machine
end

