-- ==== Sys2Proof/Machine/Dispatch.lean ====
section
/-!
DEFINITION. The dispatch: one arm per command, each a direct call of its meaning.
-/

namespace Sys2Proof.Machine

/-- What command `i` does to everything but the queue. -/
def exec (i : Instr) (s : State) : Host.Outcome State Fault Refusal :=
  match i with
  | .resetRelease resetN test refs => Sys2Proof.Machine.execResetRelease resetN test refs s
  | .xinStart => Sys2Proof.Machine.execXinStart s
  | .sfdpReadDone valid density cmd addrBytes dummies => Sys2Proof.Machine.execSfdpReadDone valid density cmd addrBytes dummies s
  | .synALock counts windows => Sys2Proof.Machine.execSynALock counts windows s
  | .headerCheck readable bytes => Sys2Proof.Machine.execHeaderCheck readable bytes s
  | .flashReadResume => Sys2Proof.Machine.execFlashReadResume s
  | .sectionStreamed data taken readable fault => Sys2Proof.Machine.execSectionStreamed data taken readable fault s
  | .bandSearchDone counts found => Sys2Proof.Machine.execBandSearchDone counts found s
  | .trailerVerify readable image trailer => Sys2Proof.Machine.execTrailerVerify readable image trailer s
  | .loadChecksDone => Sys2Proof.Machine.execLoadChecksDone s
  | .fuseProgrammingDone missed => Sys2Proof.Machine.execFuseProgrammingDone missed s
  | .safeReady => Sys2Proof.Machine.execSafeReady s
  | .flashReadPage link requester => Sys2Proof.Machine.execFlashReadPage link requester s
  | .flashProgramPage link requester => Sys2Proof.Machine.execFlashProgramPage link requester s
  | .flashErase link requester => Sys2Proof.Machine.execFlashErase link requester s
  | .flashVerify link requester slot => Sys2Proof.Machine.execFlashVerify link requester slot s
  | .rebootCommand link requester => Sys2Proof.Machine.execRebootCommand link requester s
  | .flashCommandDone fail data => Sys2Proof.Machine.execFlashCommandDone fail data s
  | .rebootReset => Sys2Proof.Machine.execRebootReset s
  | .sessionRequest link requester prio seq body => Sys2Proof.Machine.execSessionRequest link requester prio seq body s
  | .sessionResponse link requester prio seq late body => Sys2Proof.Machine.execSessionResponse link requester prio seq late body s
  | .lockoutExpiry link => Sys2Proof.Machine.execLockoutExpiry link s
  | .sessionClose link requester prio seq body => Sys2Proof.Machine.execSessionClose link requester prio seq body s
  | .sessionIdleTimeout link => Sys2Proof.Machine.execSessionIdleTimeout link s
  | .attestationRequest link requester prio seq body => Sys2Proof.Machine.execAttestationRequest link requester prio seq body s
  | .attestationReportDone => Sys2Proof.Machine.execAttestationReportDone s
  | .registerWrite link requester addr w => Sys2Proof.Machine.execRegisterWrite link requester addr w s
  | .registerReadClear link requester addr => Sys2Proof.Machine.execRegisterReadClear link requester addr s
  | .readRequest link requester prio seq body => Sys2Proof.Machine.execReadRequest link requester prio seq body s
  | .writeRequest link requester prio seq body => Sys2Proof.Machine.execWriteRequest link requester prio seq body s
  | .plantTimeLowRead link requester k => Sys2Proof.Machine.execPlantTimeLowRead link requester k s
  | .plantTimeLowWrite link requester k w => Sys2Proof.Machine.execPlantTimeLowWrite link requester k w s
  | .plantTimeHighWrite link requester k w => Sys2Proof.Machine.execPlantTimeHighWrite link requester k w s
  | .parameterWrite link sig w => Sys2Proof.Machine.execParameterWrite link sig w s
  | .lockWindowEnd syn c => Sys2Proof.Machine.execLockWindowEnd syn c s
  | .referenceLoss r => Sys2Proof.Machine.execReferenceLoss r s
  | .referenceReturn r => Sys2Proof.Machine.execReferenceReturn r s
  | .hopRequestM p atTime => Sys2Proof.Machine.execHopRequestM p atTime s
  | .hopRequestE p atTime => Sys2Proof.Machine.execHopRequestE p atTime s
  | .hopInstant syn => Sys2Proof.Machine.execHopInstant syn s
  | .hopDone syn => Sys2Proof.Machine.execHopDone syn s
  | .hopFail syn => Sys2Proof.Machine.execHopFail syn s
  | .syncArm w => Sys2Proof.Machine.execSyncArm w s
  | .syncEvent mark time => Sys2Proof.Machine.execSyncEvent mark time s
  | .conversionDone cv v agnd vref => Sys2Proof.Machine.execConversionDone cv v agnd vref s
  | .seqEntryWrite cv e w => Sys2Proof.Machine.execSeqEntryWrite cv e w s
  | .frameLatch f one two => Sys2Proof.Machine.execFrameLatch f one two s
  | .contextReady c => Sys2Proof.Machine.execContextReady c s
  | .pairCheckDue p => Sys2Proof.Machine.execPairCheckDue p s
  | .pairCheck p v agnd eLo eHi vref => Sys2Proof.Machine.execPairCheck p v agnd eLo eHi vref s
  | .referenceTest p dLo dHi vref => Sys2Proof.Machine.execReferenceTest p dLo dHi vref s
  | .restoreRequest p => Sys2Proof.Machine.execRestoreRequest p s
  | .restoreTest p dv vref => Sys2Proof.Machine.execRestoreTest p dv vref s
  | .urgentRequest cv => Sys2Proof.Machine.execUrgentRequest cv s
  | .urgentDone v u agnd vref => Sys2Proof.Machine.execUrgentDone v u agnd vref s
  | .resultSnapshot link requester cv e => Sys2Proof.Machine.execResultSnapshot link requester cv e s
  | .frameRecordRead link requester cv e => Sys2Proof.Machine.execFrameRecordRead link requester cv e s
  | .thresholdCrossing a level => Sys2Proof.Machine.execThresholdCrossing a level s
  | .blankingWindowEnd n => Sys2Proof.Machine.execBlankingWindowEnd n s
  | .domainArm d => Sys2Proof.Machine.execDomainArm d s
  | .extTripNFall low ps => Sys2Proof.Machine.execExtTripNFall low ps s
  | .readbackTest n dHi dLo vref => Sys2Proof.Machine.execReadbackTest n dHi dLo vref s
  | .tieTest n hiSeen loSeen => Sys2Proof.Machine.execTieTest n hiSeen loSeen s
  | .matrixTest src seen => Sys2Proof.Machine.execMatrixTest src seen s
  | .winTestDone => Sys2Proof.Machine.execWinTestDone s
  | .autoSweepStep => Sys2Proof.Machine.execAutoSweepStep s
  | .routeDelivery src => Sys2Proof.Machine.execRouteDelivery src s
  | .filterExpiry route => Sys2Proof.Machine.execFilterExpiry route s
  | .routeEntryWrite link requester route w => Sys2Proof.Machine.execRouteEntryWrite link requester route w s
  | .contextDispatch c => Sys2Proof.Machine.execContextDispatch c s
  | .nop c stall one two => Sys2Proof.Machine.execNop c stall one two s
  | .ldf c stall one two => Sys2Proof.Machine.execLdf c stall one two s
  | .add c stall one two => Sys2Proof.Machine.execAdd c stall one two s
  | .sub c stall one two => Sys2Proof.Machine.execSub c stall one two s
  | .mul c stall one two => Sys2Proof.Machine.execMul c stall one two s
  | .mac c stall one two => Sys2Proof.Machine.execMac c stall one two s
  | .neg c stall one two => Sys2Proof.Machine.execNeg c stall one two s
  | .abs c stall one two => Sys2Proof.Machine.execAbs c stall one two s
  | .min c stall one two => Sys2Proof.Machine.execMin c stall one two s
  | .max c stall one two => Sys2Proof.Machine.execMax c stall one two s
  | .sat c stall one two => Sys2Proof.Machine.execSat c stall one two s
  | .cmp c stall one two => Sys2Proof.Machine.execCmp c stall one two s
  | .sel c stall one two => Sys2Proof.Machine.execSel c stall one two s
  | .sos c stall one two => Sys2Proof.Machine.execSos c stall one two s
  | .sched c stall one two => Sys2Proof.Machine.execSched c stall one two s
  | .minsel c stall one two => Sys2Proof.Machine.execMinsel c stall one two s
  | .clarke c stall one two => Sys2Proof.Machine.execClarke c stall one two s
  | .rot c stall one two => Sys2Proof.Machine.execRot c stall one two s
  | .irot c stall one two => Sys2Proof.Machine.execIrot c stall one two s
  | .div c stall one two => Sys2Proof.Machine.execDiv c stall one two s
  | .sqrt c stall one two => Sys2Proof.Machine.execSqrt c stall one two s
  | .track c stall one two => Sys2Proof.Machine.execTrack c stall one two s
  | .out c stall one two => Sys2Proof.Machine.execOut c stall one two s
  | .evt c stall one two => Sys2Proof.Machine.execEvt c stall one two s
  | .reservedOpcode c stall one two => Sys2Proof.Machine.execReservedOpcode c stall one two s
  | .contextCommit c => Sys2Proof.Machine.execContextCommit c s
  | .commitQueueRoom c => Sys2Proof.Machine.execCommitQueueRoom c s
  | .commitPoint c => Sys2Proof.Machine.execCommitPoint c s
  | .contextEnableWrite c b => Sys2Proof.Machine.execContextEnableWrite c b s
  | .scrubRead store err => Sys2Proof.Machine.execScrubRead store err s
  | .eccWriteBack => Sys2Proof.Machine.execEccWriteBack s
  | .gridUpdate => Sys2Proof.Machine.execGridUpdate s
  | .tripCurveExpiry c k => Sys2Proof.Machine.execTripCurveExpiry c k s
  | .rideExit => Sys2Proof.Machine.execRideExit s
  | .passiveTimerExpiry m => Sys2Proof.Machine.execPassiveTimerExpiry m s
  | .gsInstant => Sys2Proof.Machine.execGsInstant s
  | .gridWrite a w => Sys2Proof.Machine.execGridWrite a w s
  | .sprinklePeriodStart => Sys2Proof.Machine.execSprinklePeriodStart s
  | .carrierWrap g => Sys2Proof.Machine.execCarrierWrap g s
  | .commitQueueDrain q => Sys2Proof.Machine.execCommitQueueDrain q s
  | .commandEdge l toH => Sys2Proof.Machine.execCommandEdge l toH s
  | .deadTimeExpiry l => Sys2Proof.Machine.execDeadTimeExpiry l s
  | .interlockTimeout l => Sys2Proof.Machine.execInterlockTimeout l s
  | .fbComparatorChange port level frac => Sys2Proof.Machine.execFbComparatorChange port level frac s
  | .nodeComparatorChange l level frac => Sys2Proof.Machine.execNodeComparatorChange l level frac s
  | .calibrationMeasurement taps => Sys2Proof.Machine.execCalibrationMeasurement taps s
  | .modClockStop => Sys2Proof.Machine.execModClockStop s
  | .statFrame l levels => Sys2Proof.Machine.execStatFrame l levels s
  | .statFrameMissing l => Sys2Proof.Machine.execStatFrameMissing l s
  | .desatAssert l high => Sys2Proof.Machine.execDesatAssert l high s
  | .blankingEnd l => Sys2Proof.Machine.execBlankingEnd l s
  | .nodeWatchdogTimeout l h => Sys2Proof.Machine.execNodeWatchdogTimeout l h s
  | .finalStep l => Sys2Proof.Machine.execFinalStep l s
  | .ringStopped => Sys2Proof.Machine.execRingStopped s
  | .ringCalibration cycles => Sys2Proof.Machine.execRingCalibration cycles s
  | .tripAssistEnd c d => Sys2Proof.Machine.execTripAssistEnd c d s
  | .meteringSample codes => Sys2Proof.Machine.execMeteringSample codes s
  | .snapshotTake l => Sys2Proof.Machine.execSnapshotTake l s
  | .checkpoint => Sys2Proof.Machine.execCheckpoint s
  | .demandClose => Sys2Proof.Machine.execDemandClose s
  | .pulseInputSample levels => Sys2Proof.Machine.execPulseInputSample levels s
  | .pulseOutputTimer k => Sys2Proof.Machine.execPulseOutputTimer k s
  | .exportLimit => Sys2Proof.Machine.execExportLimit s
  | .modeRequest m => Sys2Proof.Machine.execModeRequest m s
  | .auxOnRequest k => Sys2Proof.Machine.execAuxOnRequest k s
  | .auxOffRequest k => Sys2Proof.Machine.execAuxOffRequest k s
  | .sequencerStep kind => Sys2Proof.Machine.execSequencerStep kind s
  | .seqTimerExpiry t => Sys2Proof.Machine.execSeqTimerExpiry t s
  | .glazeApplicationDone => Sys2Proof.Machine.execGlazeApplicationDone s
  | .hello p codes role port id level => Sys2Proof.Machine.execHello p codes role port id level s
  | .alignment p => Sys2Proof.Machine.execAlignment p s
  | .alignRestart p => Sys2Proof.Machine.execAlignRestart p s
  | .linkDown p codes => Sys2Proof.Machine.execLinkDown p codes s
  | .losAssert p high => Sys2Proof.Machine.execLosAssert p high s
  | .probe p codes => Sys2Proof.Machine.execProbe p codes s
  | .echoSend p => Sys2Proof.Machine.execEchoSend p s
  | .echo rt codes => Sys2Proof.Machine.execEcho rt codes s
  | .echoTimeout => Sys2Proof.Machine.execEchoTimeout s
  | .periodicProbe => Sys2Proof.Machine.execPeriodicProbe s
  | .timeMarkSend => Sys2Proof.Machine.execTimeMarkSend s
  | .timeMark twin codes value valid => Sys2Proof.Machine.execTimeMark twin codes value valid s
  | .markTimeout twin => Sys2Proof.Machine.execMarkTimeout twin s
  | .fabTimeWrite t => Sys2Proof.Machine.execFabTimeWrite t s
  | .tripSetReceived p codes origin seq => Sys2Proof.Machine.execTripSetReceived p codes origin seq s
  | .statusSend => Sys2Proof.Machine.execStatusSend s
  | .statusReceived p codes bits => Sys2Proof.Machine.execStatusReceived p codes bits s
  | .barrierEnter n => Sys2Proof.Machine.execBarrierEnter n s
  | .barrierArrive p codes n => Sys2Proof.Machine.execBarrierArrive p codes n s
  | .barrierRelease codes n => Sys2Proof.Machine.execBarrierRelease codes n s
  | .packetReceived p codes bytes => Sys2Proof.Machine.execPacketReceived p codes bytes s
  | .scheduledOperation src op id t arg0 arg1 => Sys2Proof.Machine.execScheduledOperation src op id t arg0 arg1 s
  | .scheduledSnapshot => Sys2Proof.Machine.execScheduledSnapshot s
  | .scheduledSetpoint => Sys2Proof.Machine.execScheduledSetpoint s
  | .scheduledPlanHop => Sys2Proof.Machine.execScheduledPlanHop s
  | .plantReset => Sys2Proof.Machine.execPlantReset s
  | .schedTxGo link requester => Sys2Proof.Machine.execSchedTxGo link requester s
  | .sprinkleAssignment src code share => Sys2Proof.Machine.execSprinkleAssignment src code share s
  | .twinHeartbeat l valid role pst mode locked pairId hash => Sys2Proof.Machine.execTwinHeartbeat l valid role pst mode locked pairId hash s
  | .twinLaneDown l => Sys2Proof.Machine.execTwinLaneDown l s
  | .twinStart => Sys2Proof.Machine.execTwinStart s
  | .crossTripReceived mask => Sys2Proof.Machine.execCrossTripReceived mask s
  | .mirrorEntryReceived whole f k sig w => Sys2Proof.Machine.execMirrorEntryReceived whole f k sig w s
  | .twinControlRequest whole kind a => Sys2Proof.Machine.execTwinControlRequest whole kind a s
  | .twinGo whole t => Sys2Proof.Machine.execTwinGo whole t s
  | .repair => Sys2Proof.Machine.execRepair s
  | .canFrameReceived ch fd ext remote id data => Sys2Proof.Machine.execCanFrameReceived ch fd ext remote id data s
  | .canFrameSent ch loop => Sys2Proof.Machine.execCanFrameSent ch loop s
  | .ackError ch => Sys2Proof.Machine.execAckError ch s
  | .busOff ch => Sys2Proof.Machine.execBusOff ch s
  | .recover ch => Sys2Proof.Machine.execRecover ch s
  | .busOffRecoveryDone ch => Sys2Proof.Machine.execBusOffRecoveryDone ch s
  | .aloneRetry ch => Sys2Proof.Machine.execAloneRetry ch s
  | .canEvent k => Sys2Proof.Machine.execCanEvent k s
  | .supplyChangeover v c => Sys2Proof.Machine.execSupplyChangeover v c s
  | .coldStartHandover v vrect => Sys2Proof.Machine.execColdStartHandover v vrect s
  | .openCircuitMeasure v => Sys2Proof.Machine.execOpenCircuitMeasure v s
  | .aonDomainStart v c xtal => Sys2Proof.Machine.execAonDomainStart v c xtal s
  | .burstRequest kind n v => Sys2Proof.Machine.execBurstRequest kind n v s
  | .inventory flags afi len mask v => Sys2Proof.Machine.execInventory flags afi len mask v s
  | .stayQuiet flags uid v => Sys2Proof.Machine.execStayQuiet flags uid v s
  | .readSingleBlock flags uid b v => Sys2Proof.Machine.execReadSingleBlock flags uid b v s
  | .readMultipleBlocks flags uid b n v => Sys2Proof.Machine.execReadMultipleBlocks flags uid b n v s
  | .getSystemInformation flags uid v => Sys2Proof.Machine.execGetSystemInformation flags uid v s
  | .rfUnsupportedCommand flags uid cmd v => Sys2Proof.Machine.execRfUnsupportedCommand flags uid cmd v s
  | .checkpointCommit => Sys2Proof.Machine.execCheckpointCommit s
  | .logCommit v => Sys2Proof.Machine.execLogCommit v s
  | .tamperSample levels v xtal => Sys2Proof.Machine.execTamperSample levels v xtal s
  | .rtcWrite link requester sec => Sys2Proof.Machine.execRtcWrite link requester sec s
  | .obsSnapTake link requester => Sys2Proof.Machine.execObsSnapTake link requester s
  | .counterClear link requester => Sys2Proof.Machine.execCounterClear link requester s
  | .preciseSampleDrain => Sys2Proof.Machine.execPreciseSampleDrain s
  | .preciseSampleRead link requester entry => Sys2Proof.Machine.execPreciseSampleRead link requester entry s
  | .recordArm link requester => Sys2Proof.Machine.execRecordArm link requester s
  | .recordDisarm link requester => Sys2Proof.Machine.execRecordDisarm link requester s
  | .periodicDump => Sys2Proof.Machine.execPeriodicDump s
  | .clockStopTest link requester => Sys2Proof.Machine.execClockStopTest link requester s
  | .clockStopAbort link requester => Sys2Proof.Machine.execClockStopAbort link requester s
  | .powerDownDone => Sys2Proof.Machine.execPowerDownDone s
  | .clockTestOffEnd windows => Sys2Proof.Machine.execClockTestOffEnd windows s
  | .halt link requester => Sys2Proof.Machine.execHalt link requester s
  | .engineStep link requester c => Sys2Proof.Machine.execEngineStep link requester c s
  | .haltClear link requester => Sys2Proof.Machine.execHaltClear link requester s
  | .idcode => Sys2Proof.Machine.execIdcode s
  | .samplePreload balls => Sys2Proof.Machine.execSamplePreload balls s
  | .extest => Sys2Proof.Machine.execExtest s
  | .extestPulse => Sys2Proof.Machine.execExtestPulse s
  | .extestTrain => Sys2Proof.Machine.execExtestTrain s
  | .clamp => Sys2Proof.Machine.execClamp s
  | .highz => Sys2Proof.Machine.execHighz s
  | .bypass ir => Sys2Proof.Machine.execBypass ir s
  | .debugAccess data => Sys2Proof.Machine.execDebugAccess data s
  | .resetAssert dying => Sys2Proof.Machine.execResetAssert dying s
  | .resetNPulse ns => Sys2Proof.Machine.execResetNPulse ns s
  | .railBelowReset r => Sys2Proof.Machine.execRailBelowReset r s
  | .supplyWarn r => Sys2Proof.Machine.execSupplyWarn r s
  | .railGood r => Sys2Proof.Machine.execRailGood r s
  | .sessionVerificationDone => Sys2Proof.Machine.execSessionVerificationDone s
  | .domainLosesPower v c => Sys2Proof.Machine.execDomainLosesPower v c s
  | .rfFieldLost => Sys2Proof.Machine.execRfFieldLost s
  | .canError ch kind => Sys2Proof.Machine.execCanError ch kind s
  | .helloSend p => Sys2Proof.Machine.execHelloSend p s
  | .heartbeatSend => Sys2Proof.Machine.execHeartbeatSend s
  | .twinQueueRoom q => Sys2Proof.Machine.execTwinQueueRoom q s

end Sys2Proof.Machine
end

