-- ==== Sys2Proof/Machine/Tick.lean ====
section
/-!
DEFINITION. What happens with time alone: one MOD tick, which an empty queue makes (DESIGN CHOICE, log entry 2). Times,
carrier counts and frame timers advance (R15, R90, R244, R365, R434), counters of time count (R443, R449), and one message
leaves each transmit queue (R389, R390, R448).
-/

namespace Sys2Proof.Machine

/-- One MOD tick in 125 ps and 2^32 parts of it, at the plan in force; 2 ns while no image runs (R81, log entry 2). -/
def State.tickTime (s : State) : Nat :=
  let f := s.planHz s.mplan
  if s.live && f.1 != 0 then 8 * 10 ^ 9 * f.2 * 2 ^ 32 / f.1 else 16 * 2 ^ 32

/-- The ENG cycles of one MOD tick in parts of 2^32, at SYN_A's 240 MHz while ENG runs from it (R81, R91,
R457). -/
def State.tickEng (s : State) : Nat :=
  let f := if s.engOnSynA then (240000000, 1) else s.eplanHz (s.get R.CLK_STATUS_eplan)
  s.tickTime * f.1 / (f.2 * 8 * 10 ^ 9)

/-- Plant time advances by `u` units of 125 ps: from SYN_M, with which it stands (R90), or on a fabric or twin clock, 64 units per
8 ns cycle less what the trim removes, at most one unit per cycle (R365, R366). -/
def State.passPlant (s : State) (u : Nat) : State :=
  if !s.live then s
  else if s.standaloneTime then
    ite' (!s.modStopped) s { s with clk := { s.clk with plantTime := (s.clk.plantTime + u) % 2 ^ 64 } }
  else if s.isRoot && !s.rootClock then s
  else
    let x := s.fab.cycleFrac + u
    let n := x / 64
    let k := min (n : Int) s.fab.trim.natAbs
    let cut := if s.fab.trim < 0 then -k else k
    { s with clk := { s.clk with plantTime := ((s.clk.plantTime + 64 * n : Nat) - cut).toNat % 2 ^ 64 },
             fab := { s.fab with cycleFrac := x % 64, trim := s.fab.trim - cut } }

/-- The RTC's time for `u` units of 125 ps, in ps: exact on the crystal, within ±3 % on the RC oscillator, where the rate is free (R434). -/
def State.rtcTime (s : State) (u : Nat) : Nat :=
  if s.on R.AON_STATUS_xtal_ok then 125 * u
  else u * (121250 + unsigned 32 (Config.realFn 434 [s.clk.elapsed]) % 7501) / 1000

/-- Real time advances by `u` units of 125 ps: the elapsed time, the plant time (R365) and the RTC (R434). -/
def State.passTime (s : State) (u : Nat) : State :=
  let s0 := s.passPlant u
  let s1 := { s0 with clk := { s0.clk with elapsed := s0.clk.elapsed + u } }
  if s1.aon.powered then
    let x := s1.aon.rtcFrac + 64 * s.rtcTime u
    let k := s1.aon.sub + x / 1953125000
    let s2 := { s1 with aon := { s1.aon with rtcFrac := x % 1953125000, sub := k % 32768 } }
    ite' (32768 ≤ k) s2 (s2.put R.AON_RTC_seconds (s2.get R.AON_RTC_seconds + k / 32768))
  else s1

/-- `n` units of plant time have passed: each running sequencer timer counts whole microseconds or milliseconds of it since its start,
which a step of plant time neither adds to nor takes from (R347, R368). -/
def State.passTimers (s : State) (n : Nat) : State :=
  forUpTo 32 (fun t r =>
    if r.on (R.SEQ_TIMER_running t) then
      let u := if r.on (R.SEQ_TIMER_unit t) then 8000000 else 8000
      let x := tnum r.seq.timerFrac t + n
      let r1 := { r with seq := { r.seq with timerFrac := tset r.seq.timerFrac t (x % u) } }
      ite' (u ≤ x) r1 (r1.timerCount t (x / u))
    else r) s

/-- The conducting choppers' time (GTP_CHOP_STAT). -/
def State.passChops (s : State) (u : Nat) : State :=
  forUpTo 2 (fun c t =>
    if t.on (R.GTP_CHOP_STAT_on c) then
      let x := tnum t.gtp.chopTicks c + u
      { (t.bumpBy (R.GTP_CHOP_STAT_on_time c) (x / 80000)) with gtp := { t.gtp with chopTicks := tset t.gtp.chopTicks c (x % 80000) } }
    else t) s

/-- The carrier counters of the running groups (R244). -/
def State.passCarriers (s : State) : State := forUpTo 8 (fun g t => ite' (t.group g).running t (t.carrierTick g)) s

/-- The frame timers: a full count is a latch of the sources that name the timer (R15, R16). -/
def State.passFrameTimers (s : State) : State :=
  forUpTo 4 (fun i t =>
    let p := t.get (R.ENG_FT_period i)
    let n := tnum t.frm.timer i + 1
    if p = 0 then t
    else if n < p then { t with frm := { t.frm with timer := tset t.frm.timer i n } }
    else
      let s1 := { t with frm := { t.frm with timer := tset t.frm.timer i 0 } }
      forUpTo 16 (fun f r =>
        if r.get (R.ENG_FSRC_type f) == 1 && r.get (R.ENG_FSRC_sel f) == i then
          { r with frm := { r.frm with due := tset r.frm.due f true } }
        else r) s1) s

/-- Counters of MOD ticks, and of ticks with a source asserted, be it raised for one tick only (R443). -/
def State.countTick (s : State) : State :=
  let arg (n : Nat) : Nat := s.get (R.OBS_CNT_CFG_arg n)
  let args := ((List.range 64).filter (fun n => s.get (R.OBS_CNT_CFG_event n) == 0xC1 && (tbit s.evr.level (arg n) || tbit s.evr.pulse (arg n)))).map arg
  args.eraseDups.foldl (fun t x => t.countFor 0xC1 x 0 1) (s.count 0x01)

/-- The SYN_A cycles, 24 per 100 ns, of a time from `t0` to `t1` in 125 ps. -/
def convCycles (t0 t1 : Nat) : Nat := 3 * t1 / 100 - 3 * t0 / 100

/-- One tick of the running MOD clock, but for a take of the counters. -/
def State.modParts (s : State) : State :=
  let s1 := { s with clk := { s.clk with modTick := s.clk.modTick + 1 } }
  let s2 := State.passOpened s ((s1.passCarriers.passFrameTimers).countTick).routesNow
  { s2 with grd := { s2.grd with phase := (s2.grd.phase + s2.grd.inc) % 2 ^ 48 } }

/-- One tick of the running MOD clock: a take that is pending copies the counters now (R446). -/
def State.modTicks (s : State) : State := ite' (s.modParts.on R.OBS_SNAP_pending) s.modParts s.modParts.obsTakeSnap

/-- The ENG cycles of the tick: counted, and idle on every lane that no context holds (R443, R449). -/
def State.passEng (s : State) : State :=
  let x := s.obs.engFrac + s.tickEng
  let n := x / 2 ^ 32
  let s1 := ({ s with obs := { s.obs with engFrac := x % 2 ^ 32 } }.countN 0x00 n).passWaits n
  forUpTo 8 (fun l t => ite' (t.laneBusy l) (t.laneCycles 2 l 0 n) t) s1

/-- The part of a tick that only a running device has. -/
def State.liveTick (s : State) (t0 u : Nat) : State :=
  let s1 := ((s.glazeStarts.passTimers ((s.clk.plantTime + 2 ^ 64 - t0) % 2 ^ 64)).passChops u).passSkips (convCycles (s.clk.elapsed - u) s.clk.elapsed)
  let s2 := ite' s1.modStopped s1.modTicks s1
  (((((s2.passEng).fabDrain).fabSlots).twinDrain).psDrain).urgDrain

/-- Bus integration of the CAN channels (R403). -/
def State.passCan (s : State) (u : Nat) : State :=
  forUpTo 2 (fun ch t => ite' (0 < (t.canCh ch).integ) t (t.setCan ch { t.canCh ch with integ := (t.canCh ch).integ - u })) s

/-- One tick. -/
def State.tick (s : State) : State :=
  let x := s.clk.plantFrac + s.tickTime
  let u := x / 2 ^ 32
  let s1 := (({ s with clk := { s.clk with plantFrac := x % 2 ^ 32 } }).passTime u).passCan u
  ite' s1.live s1 (s1.liveTick s.clk.plantTime u)

end Sys2Proof.Machine
end

