-- ==== Sys2Proof/Machine/Step.lean ====
section
/-!
DEFINITION. One step of the block: the command at the front of the queue is taken and its meaning runs; on an empty
queue one MOD tick passes.
-/

namespace Sys2Proof.Machine

/-- The state with its first waiting command taken from the queue. -/
def State.popped (s : State) : State := { s with pending := s.pending.tail }

/-- One step (log entry 2 for the empty queue). -/
def step (s : State) : Host.Outcome State Fault Refusal :=
  match s.pending with
  | [] => .next s.tick
  | c :: _ => exec c s.popped

/-- The state with the command that a table word spells put at the front of its queue; the table gives no bits, so no word
spells one and the state is unchanged. -/
def State.withFetchWord (s : State) (nbits w : Nat) : State :=
  match Sys2Proof.decodeTableWord nbits w with
  | some c => { s with pending := c :: s.pending }
  | none => s

end Sys2Proof.Machine
end

