-- ==== Sys2Proof/Machine/Pins.lean ====
section
/-!
DEFINITION. What the output pins show in any state (R272, R299, R478, R479, table Pin states in reset), the boundary-scan instructions
that take the pins over aside (R458).
-/

namespace Sys2Proof.Machine

/-- The output pins of the tables Digital pin classes and Pin states in reset. -/
inductive OutPin where
  | gh (l : Nat)
  | gl (l : Nat)
  | gsoft (l : Nat)
  | chop (c : Nat)
  | po (k : Nat)
  | canTx (ch : Nat)
  | qspiCs
  | faultN (k : Nat)
  | rstoutN
  | tdo
  | fabTx (p : Nat)
  | twinTx (l : Nat)
  deriving DecidableEq, Repr

/-- What an output pin shows: driven to a level, held by its pull-down or pull-up with the driver off, off, at common mode with no swing,
or driven with what its unit sends. -/
inductive PinLevel where
  | low
  | high
  | pulledLow
  | pulledHigh
  | off
  | commonMode
  | sending
  deriving DecidableEq, Repr

/-- A driven level. -/
def pinDrive (b : Bool) : PinLevel := if b then .high else .low

/-- Whether the drivers of class O33 and IO33 may drive: with VDD_IO good the power-on detector keeps them off until VDD_CORE is good,
and without VDD_IO only the pulls hold the pins (R476, R479). -/
def State.driversOn (s : State) : Bool := tbit s.pins.rails 0 && tbit s.pins.rails 5

/-- A gate command pin of leg `l`: driven once the outputs are (R272), and through the turn-off that extends a reset (R476). -/
def State.gatePin (s : State) (b : Bool) : PinLevel :=
  if s.driversOn && s.on R.GTP_STATUS_outputs_on then pinDrive b else .pulledLow

/-- What an output pin shows (R479): the pulse outputs from the enabling of metering on, the CAN transmitters while their channel is
enabled, QSPI_CS_N from the start of the loader, TDO between two TAP commands, of which each shifts a whole register, and the serial
transmitters from the aligning of their port or lane on. -/
def State.pin (s : State) : OutPin → PinLevel
  | .gh l => s.gatePin (s.gleg l).gh
  | .gl l => s.gatePin (s.gleg l).gl
  | .gsoft l => s.gatePin (s.gleg l).gsoft
  | .chop c => if s.driversOn && s.live then pinDrive (s.on (R.GTP_CHOP_STAT_on c)) else .pulledLow
  | .po k => if s.driversOn && s.live && s.on R.MTR_CFG_en then pinDrive ((tget s.mtr.outs k { }).phase == .high) else .pulledLow
  | .canTx ch => if s.driversOn && s.canOn ch then .sending else .pulledHigh
  | .qspiCs => if s.driversOn && s.boot.stage != .inReset then .sending else .pulledHigh
  | .faultN k => if s.driversOn && s.live && s.dst (207 + k) then .low else .off
  | .rstoutN => match s.rstoutN with
    | some true => .off
    | some false => .low
    | none => .off
  | .tdo => .off
  | .fabTx p => if s.live && s.linkState p != 0 then .sending else .commonMode
  | .twinTx _ => if s.live && s.get R.TWN_STATUS_state != 0 then .sending else .commonMode

end Sys2Proof.Machine
end

