-- ==== Sys2Proof/Safety.lean ====
section
/-!
DEFINITION. What a safe run of the block is, and what one part of the state keeping its value means, in the terms the
statements use.
-/

namespace Sys2Proof.Machine

/-- Both memories are in their canonical form. -/
def State.wf (s : State) : Bool := mwf regReset s.regs && Memory.wf s.ram

/-- `k` steps answer a next state. -/
def runsFor : Nat → State → Prop
  | 0, _ => True
  | k + 1, s => ∃ t, step s = .next t ∧ runsFor k t

/-- The parts of the state beside the queue of commands. -/
inductive Part where
  | regs | ram | boot | sess | clk | acq | win | evr | frm | eng | grd | mod | gtp | mtr | seq | gov | fab | twn | can | aon | obs
  | tap | pins | answers | free
  deriving DecidableEq, Repr

/-- Part `p` of `t` is that of `s`. -/
def Same (s t : State) : Part → Prop
  | .regs => t.regs = s.regs
  | .ram => t.ram = s.ram
  | .boot => t.boot = s.boot
  | .sess => t.sess = s.sess
  | .clk => t.clk = s.clk
  | .acq => t.acq = s.acq
  | .win => t.win = s.win
  | .evr => t.evr = s.evr
  | .frm => t.frm = s.frm
  | .eng => t.eng = s.eng
  | .grd => t.grd = s.grd
  | .mod => t.mod = s.mod
  | .gtp => t.gtp = s.gtp
  | .mtr => t.mtr = s.mtr
  | .seq => t.seq = s.seq
  | .gov => t.gov = s.gov
  | .fab => t.fab = s.fab
  | .twn => t.twn = s.twn
  | .can => t.can = s.can
  | .aon => t.aon = s.aon
  | .obs => t.obs = s.obs
  | .tap => t.tap = s.tap
  | .pins => t.pins = s.pins
  | .answers => t.answers = s.answers
  | .free => t.freeCtr = s.freeCtr

/-- `t` differs from `s` at most in the parts `A`, keeps the queue of commands, and keeps the memories canonical. -/
def Within (A : List Part) (s t : State) : Prop :=
  t.pending = s.pending ∧ (s.wf = true → t.wf = true) ∧ ∀ p, p ∉ A → Same s t p

/-- Every register and store word outside the addresses `l` reads in `t` as in `s`. -/
def WordsBut (l : List Nat) (s t : State) : Prop := ∀ a, a ∉ l → t.word a = s.word a

/-- The parts of the state that command `i` may change. -/
def partsOf (i : Instr) : List Part :=
  match i with
  | .resetRelease _ _ _ => [.regs, .ram, .boot, .evr, .aon, .pins]
  | .xinStart => [.regs, .pins]
  | .sfdpReadDone _ _ _ _ _ => [.boot]
  | .synALock _ _ => [.regs, .boot, .clk]
  | .headerCheck _ _ => [.regs, .boot]
  | .flashReadResume => [.regs, .boot]
  | .sectionStreamed _ _ _ _ => [.regs, .boot]
  | .bandSearchDone _ _ => [.regs, .boot]
  | .trailerVerify _ _ _ => [.regs, .boot]
  | .loadChecksDone => [.regs, .boot, .eng, .seq, .free]
  | .fuseProgrammingDone _ => [.regs, .boot]
  | .safeReady => [.regs, .boot, .clk, .acq, .win, .evr, .grd, .mod, .gtp, .mtr, .seq, .twn, .can, .aon, .obs, .free]
  | .flashReadPage _ _ => [.regs, .boot, .answers]
  | .flashProgramPage _ _ => [.regs, .boot, .answers]
  | .flashErase _ _ => [.regs, .boot, .answers]
  | .flashVerify _ _ _ => [.regs, .boot, .answers]
  | .rebootCommand _ _ => [.regs, .boot, .answers]
  | .flashCommandDone _ _ => [.regs, .ram, .boot, .free]
  | .rebootReset => [.regs, .ram, .boot, .sess, .clk, .acq, .win, .evr, .frm, .eng, .grd, .mod, .gtp, .mtr, .seq, .gov, .fab, .twn, .can, .obs, .tap, .pins, .free]
  | .sessionRequest _ _ _ _ _ => [.regs, .sess, .fab, .can, .obs, .answers, .free]
  | .sessionResponse _ _ _ _ _ _ => [.regs, .sess, .fab, .can, .aon, .obs, .answers]
  | .lockoutExpiry _ => [.regs, .sess]
  | .sessionClose _ _ _ _ _ => [.regs, .sess, .fab, .can, .obs, .answers]
  | .sessionIdleTimeout _ => [.regs, .sess]
  | .attestationRequest _ _ _ _ _ => [.regs, .sess, .fab, .can, .obs, .answers]
  | .attestationReportDone => [.regs, .sess, .seq, .fab, .can, .obs, .answers]
  | .registerWrite _ _ _ _ => [.regs, .ram, .boot, .sess, .clk, .acq, .win, .evr, .frm, .eng, .grd, .mod, .gtp, .mtr, .seq, .fab, .twn, .aon, .obs, .answers, .free]
  | .registerReadClear _ _ _ => [.regs, .sess, .acq, .answers]
  | .readRequest _ _ _ _ _ => [.regs, .sess, .acq, .fab, .can, .obs, .answers]
  | .writeRequest _ _ _ _ _ => [.regs, .ram, .boot, .sess, .clk, .acq, .win, .evr, .frm, .eng, .grd, .mod, .gtp, .mtr, .seq, .fab, .twn, .can, .aon, .obs, .answers, .free]
  | .plantTimeLowRead _ _ _ => [.regs, .sess, .acq, .answers]
  | .plantTimeLowWrite _ _ _ _ => [.regs, .ram, .boot, .sess, .clk, .acq, .win, .evr, .frm, .eng, .grd, .mod, .gtp, .mtr, .seq, .fab, .twn, .aon, .obs, .answers, .free]
  | .plantTimeHighWrite _ _ _ _ => [.regs, .ram, .boot, .sess, .clk, .acq, .win, .evr, .frm, .eng, .grd, .mod, .gtp, .mtr, .seq, .fab, .twn, .aon, .obs, .answers, .free]
  | .parameterWrite _ _ _ => [.regs, .eng, .answers]
  | .lockWindowEnd _ _ => [.regs, .clk, .evr]
  | .referenceLoss _ => [.regs, .clk, .evr]
  | .referenceReturn _ => [.regs, .clk]
  | .hopRequestM _ _ => [.regs, .clk]
  | .hopRequestE _ _ => [.regs, .clk]
  | .hopInstant _ => [.regs, .clk, .evr, .gtp, .gov, .twn]
  | .hopDone _ => [.regs, .clk, .evr, .mod, .gtp, .obs]
  | .hopFail _ => [.regs, .clk, .evr, .mod, .gtp, .obs]
  | .syncArm _ => [.regs, .clk]
  | .syncEvent _ _ => [.regs, .clk, .evr]
  | .conversionDone _ _ _ _ => [.regs, .acq]
  | .seqEntryWrite _ _ _ => [.regs, .acq]
  | .frameLatch _ _ _ => [.regs, .ram, .clk, .acq, .win, .evr, .frm, .eng, .grd, .mod, .gtp, .mtr, .seq, .gov, .fab, .twn, .obs, .free]
  | .contextReady _ => [.regs, .eng]
  | .pairCheckDue _ => [.regs, .acq]
  | .pairCheck _ _ _ _ _ _ => [.regs, .acq]
  | .referenceTest _ _ _ _ => [.regs, .acq, .evr]
  | .restoreRequest _ => [.acq]
  | .restoreTest _ _ _ => [.regs, .acq]
  | .urgentRequest _ => [.regs, .acq]
  | .urgentDone _ _ _ _ => [.regs, .acq, .evr, .obs]
  | .resultSnapshot _ _ _ _ => [.regs, .sess, .acq, .answers]
  | .frameRecordRead _ _ _ _ => [.regs, .sess, .acq, .answers]
  | .thresholdCrossing _ _ => [.regs, .win, .evr, .gtp, .twn, .pins]
  | .blankingWindowEnd _ => [.regs, .win, .evr]
  | .domainArm _ => [.regs, .evr, .gtp, .twn]
  | .extTripNFall _ _ => [.regs, .evr, .gtp, .twn, .pins]
  | .readbackTest _ _ _ _ => [.regs, .acq, .win]
  | .tieTest _ _ _ => [.regs, .win]
  | .matrixTest _ _ => [.regs, .win, .evr, .gtp, .twn]
  | .winTestDone => [.regs, .win, .evr, .gtp, .twn]
  | .autoSweepStep => [.regs, .win]
  | .routeDelivery _ => [.regs, .acq, .evr, .gtp, .seq, .fab, .twn, .obs]
  | .filterExpiry _ => [.regs, .acq, .evr, .gtp, .seq, .fab, .twn, .obs]
  | .routeEntryWrite _ _ _ _ => [.regs, .ram, .boot, .sess, .clk, .acq, .win, .evr, .frm, .eng, .grd, .mod, .gtp, .mtr, .seq, .fab, .twn, .aon, .obs, .answers, .free]
  | .contextDispatch _ => [.regs, .eng, .obs]
  | .nop _ _ _ _ => [.regs, .ram, .evr, .eng, .obs, .free]
  | .ldf _ _ _ _ => [.regs, .ram, .evr, .eng, .obs, .free]
  | .add _ _ _ _ => [.regs, .ram, .evr, .eng, .obs, .free]
  | .sub _ _ _ _ => [.regs, .ram, .evr, .eng, .obs, .free]
  | .mul _ _ _ _ => [.regs, .ram, .evr, .eng, .obs, .free]
  | .mac _ _ _ _ => [.regs, .ram, .evr, .eng, .obs, .free]
  | .neg _ _ _ _ => [.regs, .ram, .evr, .eng, .obs, .free]
  | .abs _ _ _ _ => [.regs, .ram, .evr, .eng, .obs, .free]
  | .min _ _ _ _ => [.regs, .ram, .evr, .eng, .obs, .free]
  | .max _ _ _ _ => [.regs, .ram, .evr, .eng, .obs, .free]
  | .sat _ _ _ _ => [.regs, .ram, .evr, .eng, .obs, .free]
  | .cmp _ _ _ _ => [.regs, .ram, .evr, .eng, .obs, .free]
  | .sel _ _ _ _ => [.regs, .ram, .evr, .eng, .obs, .free]
  | .sos _ _ _ _ => [.regs, .ram, .evr, .eng, .obs, .free]
  | .sched _ _ _ _ => [.regs, .ram, .evr, .eng, .obs, .free]
  | .minsel _ _ _ _ => [.regs, .ram, .evr, .eng, .obs, .free]
  | .clarke _ _ _ _ => [.regs, .ram, .evr, .eng, .obs, .free]
  | .rot _ _ _ _ => [.regs, .ram, .evr, .eng, .obs, .free]
  | .irot _ _ _ _ => [.regs, .ram, .evr, .eng, .obs, .free]
  | .div _ _ _ _ => [.regs, .ram, .evr, .eng, .obs, .free]
  | .sqrt _ _ _ _ => [.regs, .ram, .evr, .eng, .obs, .free]
  | .track _ _ _ _ => [.regs, .ram, .evr, .eng, .obs, .free]
  | .out _ _ _ _ => [.regs, .ram, .evr, .eng, .obs, .free]
  | .evt _ _ _ _ => [.regs, .ram, .evr, .eng, .obs, .free]
  | .reservedOpcode _ _ _ _ => [.regs, .ram, .evr, .eng, .obs, .free]
  | .contextCommit _ => [.regs, .ram, .eng, .mod, .twn, .obs, .free]
  | .commitQueueRoom _ => [.regs, .ram, .eng, .mod, .twn, .obs, .free]
  | .commitPoint _ => [.regs, .ram, .evr, .eng, .twn, .obs, .free]
  | .contextEnableWrite _ _ => [.regs]
  | .scrubRead _ _ => [.regs, .ram, .evr, .eng, .obs, .free]
  | .eccWriteBack => [.eng]
  | .gridUpdate => [.regs, .evr, .grd]
  | .tripCurveExpiry _ _ => [.regs, .evr, .grd]
  | .rideExit => [.regs, .evr]
  | .passiveTimerExpiry _ => [.regs, .evr, .grd]
  | .gsInstant => [.regs, .ram, .evr, .frm, .eng, .grd, .obs, .free]
  | .gridWrite _ _ => [.grd]
  | .sprinklePeriodStart => [.regs, .grd]
  | .carrierWrap _ => [.regs, .ram, .clk, .acq, .win, .evr, .frm, .eng, .grd, .mod, .gtp, .mtr, .seq, .gov, .fab, .twn, .obs, .free]
  | .commitQueueDrain _ => [.regs, .mod]
  | .commandEdge _ _ => [.regs, .win, .evr, .mod, .gtp]
  | .deadTimeExpiry _ => [.evr, .mod, .gtp]
  | .interlockTimeout _ => [.regs, .evr, .mod]
  | .fbComparatorChange _ _ _ => [.regs, .evr, .mod, .gtp, .pins]
  | .nodeComparatorChange _ _ _ => [.regs, .mod, .gtp, .pins]
  | .calibrationMeasurement _ => [.regs, .mod]
  | .modClockStop => [.regs, .evr, .gtp, .twn]
  | .statFrame _ _ => [.regs, .evr, .gtp, .twn]
  | .statFrameMissing _ => [.regs, .evr, .gtp, .twn]
  | .desatAssert _ _ => [.regs, .evr, .gtp, .twn, .pins]
  | .blankingEnd _ => [.regs, .evr, .gtp, .twn]
  | .nodeWatchdogTimeout _ _ => [.regs, .evr, .gtp, .twn]
  | .finalStep _ => [.regs, .ram, .boot, .sess, .clk, .acq, .win, .evr, .frm, .eng, .grd, .mod, .gtp, .mtr, .seq, .gov, .fab, .twn, .can, .obs, .tap, .pins]
  | .ringStopped => [.regs, .ram, .boot, .sess, .clk, .acq, .win, .evr, .frm, .eng, .grd, .mod, .gtp, .mtr, .seq, .gov, .fab, .twn, .can, .obs, .tap, .pins]
  | .ringCalibration _ => [.regs, .evr, .gtp]
  | .tripAssistEnd _ _ => [.regs, .gtp]
  | .meteringSample _ => [.regs, .ram, .evr, .grd, .mtr, .aon, .obs, .free]
  | .snapshotTake _ => [.regs]
  | .checkpoint => [.regs, .aon, .obs]
  | .demandClose => [.regs, .evr, .mtr]
  | .pulseInputSample _ => [.regs, .evr, .mtr, .aon, .obs]
  | .pulseOutputTimer _ => [.mtr]
  | .exportLimit => [.evr, .mtr]
  | .modeRequest _ => [.seq]
  | .auxOnRequest _ => [.seq]
  | .auxOffRequest _ => [.seq]
  | .sequencerStep _ => [.regs, .clk, .acq, .win, .evr, .eng, .grd, .mod, .gtp, .mtr, .seq, .twn, .aon, .obs]
  | .seqTimerExpiry _ => [.regs, .clk, .acq, .win, .evr, .eng, .grd, .mod, .gtp, .mtr, .seq, .twn, .aon, .obs]
  | .glazeApplicationDone => [.regs, .clk, .acq, .win, .evr, .eng, .grd, .mod, .gtp, .mtr, .seq, .twn, .obs]
  | .hello _ _ _ _ _ _ => [.regs, .fab]
  | .alignment _ => [.regs, .fab, .twn]
  | .alignRestart _ => [.regs]
  | .linkDown _ _ => [.regs, .evr, .fab]
  | .losAssert _ _ => [.regs, .evr, .fab, .pins]
  | .probe _ _ => [.regs, .fab]
  | .echoSend _ => [.regs, .evr, .fab, .free]
  | .echo _ _ => [.regs, .evr, .fab, .free]
  | .echoTimeout => [.regs, .evr, .fab]
  | .periodicProbe => [.fab]
  | .timeMarkSend => [.regs, .clk, .evr, .frm, .eng, .mod, .fab, .twn]
  | .timeMark _ _ _ _ => [.regs, .clk, .evr, .frm, .eng, .mod, .fab]
  | .markTimeout _ => [.regs, .evr, .fab]
  | .fabTimeWrite _ => [.fab]
  | .tripSetReceived _ _ _ _ => [.regs, .evr, .fab]
  | .statusSend => [.regs, .fab, .free]
  | .statusReceived _ _ _ => [.regs, .fab]
  | .barrierEnter _ => [.regs, .evr, .fab]
  | .barrierArrive _ _ _ => [.regs, .evr, .fab]
  | .barrierRelease _ _ => [.regs, .evr, .fab]
  | .packetReceived _ _ _ => [.regs, .clk, .evr, .frm, .eng, .mod, .fab, .obs]
  | .scheduledOperation _ _ _ _ _ _ => [.regs, .clk, .evr, .frm, .eng, .mod, .fab]
  | .scheduledSnapshot => [.regs, .clk, .evr, .frm, .eng, .mod, .fab]
  | .scheduledSetpoint => [.regs, .clk, .evr, .frm, .eng, .mod, .fab]
  | .scheduledPlanHop => [.regs, .clk, .evr, .frm, .eng, .mod, .fab]
  | .plantReset => [.regs, .clk, .evr, .frm, .eng, .mod, .fab]
  | .schedTxGo _ _ => [.regs, .clk, .evr, .frm, .eng, .mod, .fab, .obs, .answers]
  | .sprinkleAssignment _ _ _ => [.regs, .evr]
  | .twinHeartbeat _ _ _ _ _ _ _ _ => [.regs, .evr, .fab, .twn, .obs, .free]
  | .twinLaneDown _ => [.regs, .clk, .acq, .win, .evr, .eng, .grd, .mod, .gtp, .mtr, .seq, .gov, .twn, .obs]
  | .twinStart => [.regs, .frm, .mod, .twn]
  | .crossTripReceived _ => [.regs, .evr, .gtp, .twn]
  | .mirrorEntryReceived _ _ _ _ _ => [.regs, .eng, .twn, .obs]
  | .twinControlRequest _ _ _ => [.regs, .clk, .acq, .win, .evr, .eng, .grd, .mod, .gtp, .mtr, .seq, .gov, .twn, .obs]
  | .twinGo _ _ => [.regs, .clk, .acq, .win, .evr, .eng, .grd, .mod, .gtp, .mtr, .seq, .gov, .twn, .obs]
  | .repair => [.regs, .evr, .fab, .twn]
  | .canFrameReceived _ _ _ _ _ _ => [.regs, .evr, .can, .obs, .free]
  | .canFrameSent _ _ => [.regs, .evr, .can, .obs]
  | .ackError _ => [.regs, .evr, .can]
  | .busOff _ => [.regs, .evr, .can]
  | .recover _ => [.regs]
  | .busOffRecoveryDone _ => [.regs, .evr]
  | .aloneRetry _ => [.can]
  | .canEvent _ => [.regs, .can, .obs]
  | .supplyChangeover _ _ => [.regs, .evr, .aon, .obs]
  | .coldStartHandover _ _ => [.aon]
  | .openCircuitMeasure _ => [.aon]
  | .aonDomainStart _ _ _ => [.regs, .ram, .evr, .aon, .obs]
  | .burstRequest _ _ _ => [.regs, .evr, .aon, .obs]
  | .inventory _ _ _ _ _ => [.regs, .evr, .aon, .obs, .answers]
  | .stayQuiet _ _ _ => [.regs, .evr, .aon, .obs, .answers]
  | .readSingleBlock _ _ _ _ => [.regs, .evr, .aon, .obs, .answers]
  | .readMultipleBlocks _ _ _ _ _ => [.regs, .evr, .aon, .obs, .answers]
  | .getSystemInformation _ _ _ => [.regs, .evr, .aon, .obs, .answers]
  | .rfUnsupportedCommand _ _ _ _ => [.regs, .evr, .aon, .obs, .answers]
  | .checkpointCommit => [.regs, .ram, .aon]
  | .logCommit _ => [.regs, .ram, .evr, .aon, .obs]
  | .tamperSample _ _ _ => [.regs, .ram, .evr, .aon, .obs]
  | .rtcWrite _ _ _ => [.regs, .ram, .evr, .mtr, .aon, .answers, .free]
  | .obsSnapTake _ _ => [.regs, .answers]
  | .counterClear _ _ => [.regs, .obs, .answers]
  | .preciseSampleDrain => [.regs, .ram, .obs, .free]
  | .preciseSampleRead _ _ _ => [.regs, .answers]
  | .recordArm _ _ => [.regs, .ram, .obs, .answers, .free]
  | .recordDisarm _ _ => [.regs, .ram, .obs, .answers, .free]
  | .periodicDump => [.regs, .ram, .clk, .acq, .win, .evr, .frm, .eng, .grd, .mod, .gtp, .mtr, .seq, .gov, .fab, .twn, .obs, .free]
  | .clockStopTest _ _ => [.regs, .clk, .obs, .answers]
  | .clockStopAbort _ _ => [.regs, .clk, .obs, .answers]
  | .powerDownDone => [.regs, .clk, .evr, .gtp, .twn, .obs]
  | .clockTestOffEnd _ => [.regs, .clk, .obs]
  | .halt _ _ => [.regs, .ram, .evr, .eng, .gtp, .twn, .obs, .answers, .free]
  | .engineStep _ _ _ => [.regs, .ram, .evr, .eng, .gtp, .twn, .obs, .answers, .free]
  | .haltClear _ _ => [.regs, .ram, .evr, .eng, .gtp, .twn, .obs, .answers, .free]
  | .idcode => [.tap, .answers]
  | .samplePreload _ => [.tap]
  | .extest => [.regs, .tap]
  | .extestPulse => [.regs, .tap]
  | .extestTrain => [.regs, .tap]
  | .clamp => [.regs, .tap]
  | .highz => [.regs, .tap]
  | .bypass _ => [.tap]
  | .debugAccess _ => [.regs, .ram, .boot, .sess, .clk, .acq, .win, .evr, .frm, .eng, .grd, .mod, .gtp, .mtr, .seq, .fab, .twn, .aon, .obs, .tap, .answers, .free]
  | .resetAssert _ => [.regs, .ram, .boot, .sess, .clk, .acq, .win, .evr, .frm, .eng, .grd, .mod, .gtp, .mtr, .seq, .gov, .fab, .twn, .can, .obs, .tap, .pins, .free]
  | .resetNPulse _ => [.regs, .ram, .boot, .sess, .clk, .acq, .win, .evr, .frm, .eng, .grd, .mod, .gtp, .mtr, .seq, .gov, .fab, .twn, .can, .obs, .tap, .pins, .free]
  | .railBelowReset _ => [.regs, .ram, .boot, .sess, .clk, .acq, .win, .evr, .frm, .eng, .grd, .mod, .gtp, .mtr, .seq, .gov, .fab, .twn, .can, .aon, .obs, .tap, .pins, .free]
  | .supplyWarn _ => [.evr]
  | .railGood _ => [.regs, .evr, .aon, .pins]
  | .sessionVerificationDone => [.regs, .sess, .seq, .fab, .can, .aon, .obs, .answers]
  | .domainLosesPower _ _ => [.regs, .ram, .aon]
  | .rfFieldLost => [.aon]
  | .canError _ _ => [.regs, .evr, .can]
  | .helloSend _ => [.regs, .fab]
  | .heartbeatSend => [.twn]
  | .twinQueueRoom _ => [.regs, .ram, .clk, .acq, .win, .evr, .eng, .grd, .mod, .gtp, .mtr, .seq, .gov, .twn, .obs, .free]

/-! ### Accesses over a link -/

/-- Requester `req` may write word `a` over link `link` now: the device answers, the word is mapped, and its role or grant allows
the write (R7, R8, R11, R67). -/
def State.permits (s : State) (link req a : Nat) : Prop :=
  s.linkOpen link = true ∧ s.reserved a = false ∧ s.writeForbidden link req a = false

/-- `t` is `s` after a write that is permitted, answers no error over `link`, and changes no words outside `l` and, beside the
answer, only the parts `A`. -/
def Wrote (link : Nat) (l : List Nat) (A : List Part) (s t : State) : Prop :=
  tget t.answers link { } = { } ∧ (∀ k, k ≠ link → tget t.answers k { } = tget s.answers k { }) ∧ WordsBut l s t
    ∧ Within (.regs :: .answers :: A) s t

/-! ### Frames of the STAT pins -/

/-- The level of a STAT pin in the half bits of a frame: the preamble, then 28 bits from the highest, a 0 high first (R276). -/
def statHalfBits (bits : Nat) : List Bool :=
  [true, true, true, false, false, false] ++ ((List.range 28).map (fun k => bits.testBit (27 - k))).flatMap (fun b => [!b, b])

/-- The lengths of the runs of equal elements. -/
def runLengths : List Bool → List Nat
  | [] => []
  | [_] => [1]
  | a :: b :: r => if a = b then (runLengths (b :: r)).modifyHead (fun n => n + 1) else 1 :: runLengths (b :: r)

/-- A level of `n` half bits may last `ps` ps (table STAT receive timing, R484; 4 is a preamble half that a half bit continues, log
entry 32). -/
def statFits (n ps : Nat) : Prop :=
  (n = 1 ∧ 8000 ≤ ps ∧ ps ≤ 17000) ∨ (n = 2 ∧ 20000 ≤ ps ∧ ps ≤ 30000) ∨ (n = 3 ∧ 33000 ≤ ps ∧ ps ≤ 43000) ∨ (n = 4 ∧ 43000 < ps ∧ ps ≤ 60000)

/-- The levels `levels` are a well-coded frame of `bits`; after a last bit of 0 the line stays low for as long as it does. -/
def codesStat (bits : Nat) (levels : List Nat) : Prop :=
  levels.length = (runLengths (statHalfBits bits)).length ∧ ∀ k, k < levels.length → (k + 1 = levels.length ∧ bits % 2 = 0)
    ∨ statFits ((runLengths (statHalfBits bits)).getD k 0) (levels.getD k 0)

/-! ### Instructions of the engine -/

/-- Context `c` runs, its next instruction has opcode `op`, no word that it reads meets an error, and none whose poisoning faults it is
poisoned (R170, R180, R182). -/
def State.executes (s : State) (c op : Nat) (one two : List Nat) : Prop :=
  s.live = true ∧ 1 ≤ c ∧ c < 64 ∧ (s.fr c).phase = .running ∧ s.programDone c = false ∧ s.mayRun c = true ∧ insOp (s.ins c) = op
    ∧ (∀ k, k ∈ s.insReads c → k ∉ one ∧ k ∉ two) ∧ ∀ k, k ∈ s.faultReads c → s.poisonedAt k = false

/-- `t` is `s` after an instruction of context `c` of `cyc` table cycles and `stall` more has left the frame `f` but for its
program counter, cycles and sample places. Below the observability block only ENG_CTX_STAT of the context and ENG_ERR_CNT change. -/
def Executed (c cyc stall : Nat) (f : FrameS) (s t : State) : Prop :=
  t.ctx c = { s.ctx c with frame := { f with pc := (s.fr c).pc + 1, cycles := (s.fr c).cycles + cyc + stall, samples := (t.fr c).samples } }
    ∧ (∀ d, d ≠ c → t.ctx d = s.ctx d) ∧ t.eng = { s.eng with ctx := t.eng.ctx }
    ∧ (∀ a, a < 0x0D000000 → a ≠ R.ENG_CTX_STAT c → a ≠ R.ENG_ERR_CNT → t.word a = s.word a)
    ∧ Within [.regs, .evr, .eng, .obs] s t

/-- The flags of an instruction that reads `reads` and writes `vals`: an unreadable operand and a signal that the context does not
own show, a saturation shows, and an instruction with nothing to flag leaves both words alone (R26, R153, R158). -/
def Flagged (c : Nat) (reads : List Nat) (vals : List (Nat × Int)) (flag : Bool) (s t : State) : Prop :=
  (∀ x, x ∈ reads → s.readable c x = false → t.on (R.ENG_CTX_STAT_op_seen c) = true ∧ t.on (R.ENG_CTX_STAT_satf c) = true)
    ∧ (∀ p, p ∈ vals → saturates p.2 = true → t.on (R.ENG_CTX_STAT_satf c) = true ∧ t.on (R.ENG_CTX_STAT_sat_seen c) = true)
    ∧ (∀ p, p ∈ vals → s.owns c p.1 = false → t.on (R.ENG_CTX_STAT_own_seen c) = true ∧ tbit t.evr.pulse 445 = true)
    ∧ (flag = true → t.on (R.ENG_CTX_STAT_satf c) = true)
    ∧ ((∀ x, x ∈ reads → s.readable c x = true) → (∀ p, p ∈ vals → saturates p.2 = false ∧ s.owns c p.1 = true) → flag = false →
      t.word (R.ENG_CTX_STAT c) = s.word (R.ENG_CTX_STAT c) ∧ t.word R.ENG_ERR_CNT = s.word R.ENG_ERR_CNT ∧ t.evr = s.evr)

/-- The working values of context `c` after `vals` are written in order: each owned signal takes its value through sat32. -/
def State.workWith (s : State) (c : Nat) (vals : List (Nat × Int)) : Tbl Word :=
  vals.foldl (fun w p => if s.owns c p.1 then tset w p.1 (BitVec.ofInt 32 (sat32 p.2)) else w) (s.fr c).work

/-- An instruction that reads `reads` and writes the values `vals`. -/
def Results (c cyc stall : Nat) (reads : List Nat) (vals : List (Nat × Int)) (flag : Bool) (s t : State) : Prop :=
  Executed c cyc stall { s.fr c with work := s.workWith c vals } s t ∧ Flagged c reads vals flag s t

/-- Values for consecutive signals from `d`. -/
def fromSignal (d : Nat) : List Int → List (Nat × Int)
  | [] => []
  | v :: r => (d, v) :: fromSignal (d + 1) r

end Sys2Proof.Machine
end

