-- ==== Sys2Proof/Certificates/Slice0/Obligations.lean ====
section
/-!
DEFINITION. The statements for the provers. Each docstring names the rules of spec/ that its facts come from, and the log entry of
any choice of the model's that it rests on.
-/

section Statements

open Sys2Proof Sys2Proof.Machine

/-- The command at the front of the queue runs on the state with the queue's rest; on an empty queue one MOD tick passes (log
entry 2). -/
def Obligations.QueueFrontRuns : Prop :=
  ∀ s : State, (∀ c r, s.pending = c :: r → step s = exec c { s with pending := r }) ∧ (s.pending = [] → step s = .next s.tick)

/-- The state after reset: canonical memories, nothing waiting, the device held in reset, registers at the values of the
register tables; bytes of memory read zero, and the TAP holds IDCODE. What the spec gives no value for is log entry 4. -/
def Obligations.ResetIsCanonical : Prop :=
  State.reset.wf = true ∧ State.reset.pending = [] ∧ State.reset.boot.stage = .inReset ∧ (∀ a, State.reset.word a = regReset a)
    ∧ (∀ a, State.reset.byte a = 0) ∧ State.reset.tap.sel = .idcode ∧ State.reset.tap.driving = false
    ∧ (∀ cv e, cv < 16 → e < 32 → State.reset.word (R.ACQ_FB cv e) = 0 ∧ State.reset.word (R.ACQ_FB cv e + 4) = 0x10000000)
    ∧ State.reset.get R.AON_CFG_c_store = 47 ∧ State.reset.get R.AON_CFG_reserve = 40 ∧ State.reset.get R.AON_TAMPER_CFG_en = 15

/-- Every step answers a next state with the queue's rest and keeps both memories canonical, so every run goes on for ever. -/
def Obligations.StepsGoOnAndKeepTheForm : Prop :=
  (∀ s : State, ∃ t, step s = .next t ∧ t.pending = s.pending.tail ∧ (s.wf = true → t.wf = true)) ∧ ∀ k s, runsFor k s

/-- Every command, in every state, answers a next state that differs at most in the parts that `partsOf` names for the command,
keeps the queue and keeps the memories canonical. -/
def Obligations.CommandsStayWithinTheirParts : Prop := ∀ (c : Instr) (s : State), ∃ t, exec c s = .next t ∧ Within (partsOf c) s t

/-- R476 and R477: an asserted reset puts everything but the always-on domain, the fuses and the rails at its reset value, and
the gate-port block too unless legs in two-step turn-off extend the reset; where the core or I/O rail dies nothing is extended,
as the model reads it (log entry 23). The output pins then take the states of the table Pin states in reset (R479). That a reset
leaves the answers already sent is log entry 9; that the elapsed time, a count of the model's own, runs on is log entry 40.
R476: no reset acts on a reset that two-step turn-off extends, be it by RESET_N, by a reboot or by a rail that falls, which is
only recorded; with VDD_CORE or VDD_IO away the gate commands are held by their pull-downs alone (R479). R477: a low of RESET_N
of less than 100 ns is ignored, and one between 100 ns and 1 µs either resets or does not. A good rail is recorded with the time
at which it became good, and the always-on domain has the main supply exactly while VDD_IO and VDD_CORE are good, which its
low-energy warning follows (R420, R426); a supply warning raises source 507 while the device is out of reset (R475); XIN that
starts late is seen (R481). -/
def Obligations.ResetPinsAndRails : Prop :=
  (∀ (s : State) (c : Instr), s.pins.extended = false →
    ((∃ dying, c = .resetAssert dying) ∨ (∃ ns, 1000 ≤ ns ∧ c = .resetNPulse ns) ∨ (s.boot.rebootScheduled = true ∧ c = .rebootReset)
      ∨ (∃ r, r < 6 ∧ c = .railBelowReset r)) →
    ∃ t, exec c s = .next t ∧ t.boot.stage = .inReset ∧ t.boot.slot = 0 ∧ t.boot.rebootScheduled = false
      ∧ (s.boot.stage ≠ .waitFuses → t.boot.fuses = s.boot.fuses)
      ∧ (∀ a, a / 2 ^ 24 ≠ 0x0C → (t.pins.extended = true → a / 2 ^ 24 ≠ 0x07) → t.word a = regReset a)
      ∧ (∀ a, a / 2 ^ 24 ≠ 0x0C → t.byte a = 0)
      ∧ t.eng = { } ∧ t.seq = { } ∧ t.mod = { } ∧ t.sess = { } ∧ t.acq = { } ∧ t.win = { } ∧ t.grd = { } ∧ t.mtr = { } ∧ t.fab = { }
      ∧ t.twn = { } ∧ t.can = { } ∧ t.obs = { } ∧ t.clk = { elapsed := s.clk.elapsed }
      ∧ ((∀ r, c ≠ .railBelowReset r) → t.evr = { }) ∧ (∀ n, n ≠ 506 → tbit t.evr.level n = false ∧ tbit t.evr.pulse n = false)
      ∧ (t.pins.extended = false → t.gtp = { }) ∧ t.answers = s.answers ∧ t.pending = s.pending
      ∧ ((c = .resetAssert true ∨ c = .railBelowReset 0 ∨ c = .railBelowReset 5) → t.pins.extended = false)
      ∧ (∀ r, tbit t.pins.rails r = (if c = .railBelowReset r then false else tbit s.pins.rails r))
      ∧ (t.pins.extended = false → ∀ l, t.pin (.gh l) = .pulledLow ∧ t.pin (.gl l) = .pulledLow ∧ t.pin (.gsoft l) = .pulledLow)
      ∧ (∀ k, t.pin (.chop k) = .pulledLow ∧ t.pin (.po k) = .pulledLow ∧ t.pin (.canTx k) = .pulledHigh ∧ t.pin (.faultN k) = .off
        ∧ t.pin (.fabTx k) = .commonMode ∧ t.pin (.twinTx k) = .commonMode)
      ∧ t.pin .qspiCs = .pulledHigh ∧ t.pin .tdo = .off ∧ t.pin .rstoutN = (if tbit t.pins.rails 5 then .low else .off))
  ∧ (∀ s : State,
    (∀ ns, ns < 100 → exec (.resetNPulse ns) s = .next s)
    ∧ (∀ ns, 100 ≤ ns → ns < 1000 → ∃ u, (u = s.burn ∨ u = s.burn.assertReset false) ∧ exec (.resetNPulse ns) s = .next u)
    ∧ (s.pins.extended = true → ∃ t, exec (.resetAssert false) s = .next t ∧ t.pins = { s.pins with resetN := false } ∧ Within [.pins] s t)
    ∧ (s.pins.extended = true → exec .rebootReset s = .next s ∧ ∀ ns, 1000 ≤ ns → exec (.resetNPulse ns) s = .next s)
    ∧ (s.pins.extended = true → ∀ r, r < 6 → ∃ t, exec (.railBelowReset r) s = .next t
      ∧ t.pins = { s.pins with rails := tset s.pins.rails r false } ∧ t.aon = { s.aon with main := tbit t.pins.rails 0 && tbit t.pins.rails 5 }
      ∧ (r = 0 ∨ r = 5 → ∀ l, t.pin (.gh l) = .pulledLow ∧ t.pin (.gl l) = .pulledLow ∧ t.pin (.gsoft l) = .pulledLow)
      ∧ WordsBut [R.AON_STATUS] s t ∧ Within [.regs, .evr, .aon, .pins] s t)
    ∧ (∀ r, r < 6 → ∃ t, exec (.railGood r) s = .next t ∧ tbit t.pins.rails r = true
      ∧ (∀ q, q ≠ r → tbit t.pins.rails q = tbit s.pins.rails q)
      ∧ tnum t.pins.goodAt r = (if tbit s.pins.rails r = true then tnum s.pins.goodAt r else s.clk.elapsed)
      ∧ t.aon = { s.aon with main := tbit t.pins.rails 0 && tbit t.pins.rails 5 }
      ∧ (∀ n, n ≠ 506 → tbit t.evr.level n = tbit s.evr.level n ∧ tbit t.evr.pulse n = tbit s.evr.pulse n)
      ∧ WordsBut [R.AON_STATUS] s t ∧ Within [.regs, .evr, .aon, .pins] s t)
    ∧ (∀ r, r < 6 → s.boot.stage ≠ .inReset → ∃ t, exec (.supplyWarn r) s = .next t ∧ tbit t.evr.pulse 507 = true
      ∧ (∀ n, n ≠ 507 → tbit t.evr.pulse n = tbit s.evr.pulse n) ∧ Within [.evr] s t)
    ∧ (∃ t, exec .xinStart s = .next t ∧ t.pins = { s.pins with xin := true } ∧ t.get R.CLK_STATUS_ref_present % 2 = 1
      ∧ WordsBut [R.CLK_STATUS] s t ∧ Within [.regs, .pins] s t))

/-- R63 and R474: reset is released once every rail has been good for 2 ms, RESET_N has been high for 2 ms and the TEST balls
are low; then the boot counter has counted, the fuses show in BOOT_STATUS, AON_CFG and AON_TAMPER_CFG are at their reset values
(R2, R441), the notices of RF commands that wait in Q31 are counted (R432; log entry 16) and the loader waits for the SFDP read.
Until then the pins are only recorded. R41, R43, R501: a valid SFDP table gives the read command, its form and the density, an
invalid one leaves 0x6C with four address bytes and eight dummy cycles and no density; SYN_A's search over 16 bands keeps the
highest band whose count is not above the expected 128 N, the lowest where there is none (R83; stated for counts that rise with
the band), its lock by two good windows in a row starts slot A, and without them the boot waits (R86); a header without a fault
starts the streaming of its sections. -/
def Obligations.BootStartsAndStreams : Prop :=
  (∀ (s : State) (resetN : Bool) (test refs : Nat), s.boot.stage = .inReset → s.pins.extended = false → s.aon.powered = true →
    test < 16 → refs < 8 →
    let good := (∀ r, r < 6 → tbit s.pins.rails r = true ∧ tnum s.pins.goodAt r + 16000000 ≤ s.clk.elapsed) ∧ resetN = true ∧ test = 0
    ∃ t, exec (.resetRelease resetN test refs) s = .next t ∧ t.pins = { s.pins with resetN := resetN, test := test, xin := refs % 2 == 1 }
      ∧ t.get R.CLK_STATUS_ref_present = refs
      ∧ (¬ good → t.boot = s.boot ∧ t.ram = s.ram ∧ WordsBut [R.CLK_STATUS] s t ∧ Within [.regs, .pins] s t)
      ∧ (good → t.boot = { s.boot with stage := .waitSfdp } ∧ t.bootCount = min (s.bootCount + 1) (2 ^ 32 - 1)
        ∧ t.on R.BOOT_STATUS_bound = s.boot.fuses.integratorValid ∧ t.on R.BOOT_STATUS_debug_locked = s.boot.fuses.debugLock
        ∧ t.get R.BOOT_STATUS_fuse_svn = s.boot.fuses.rollback % 2 ^ R.BOOT_STATUS_fuse_svn.w
        ∧ t.word R.AON_CFG = regReset R.AON_CFG ∧ t.word R.AON_TAMPER_CFG = regReset R.AON_TAMPER_CFG
        ∧ t.aon = { s.aon with q31 := [] }
        ∧ t.get R.AON_RF_CNT_commands = min (2 ^ R.AON_RF_CNT_commands.w - 1) (s.get R.AON_RF_CNT_commands + s.aon.q31.length)
        ∧ t.get R.AON_RF_CNT_errors = min (2 ^ R.AON_RF_CNT_errors.w - 1)
            (s.get R.AON_RF_CNT_errors + (s.aon.q31.filter (fun e => e.2.2.2)).length))
      ∧ WordsBut [R.CLK_STATUS, R.BOOT_STATUS, R.AON_CFG, R.AON_TAMPER_CFG, R.AON_STATUS, R.AON_RF_CNT] s t
      ∧ Within [.regs, .ram, .boot, .evr, .aon, .pins] s t)
  ∧ (∀ s : State,
    (∀ valid d k n y, s.boot.stage = .waitSfdp → s.pins.xin = true → ∃ t, exec (.sfdpReadDone valid d k n y) s = .next t
      ∧ t.boot = (if valid then { s.boot with density := some d, readCmd := k, addrBytes := n, dummies := y, stage := .waitSynA }
        else { s.boot with density := none, readCmd := 0x6C, addrBytes := 4, dummies := 8, stage := .waitSynA }) ∧ Within [.boot] s t)
    ∧ (∀ counts windows : List Nat, s.boot.stage = .waitSynA → counts.length = 16 →
      (s.locksOn 2 windows = false → exec (.synALock counts windows) s = .next s)
      ∧ (s.locksOn 2 windows = true → ∃ t, exec (.synALock counts windows) s = .next t
        ∧ t.boot = { s.boot with stage := .waitHeader, slot := 0 } ∧ t.on R.CLK_STATUS_locked_a = true
        ∧ ((∀ i j, i < j → j < 16 → counts.getD i 0 ≤ counts.getD j 0) → t.clk.bandA < 16
          ∧ (t.clk.bandA ≠ 0 → counts.getD t.clk.bandA 0 * 2 ^ 20 ≤ 128 * s.synN 2)
          ∧ (t.clk.bandA < 15 → 128 * s.synN 2 < counts.getD (t.clk.bandA + 1) 0 * 2 ^ 20))
        ∧ t.clk = { s.clk with bandA := t.clk.bandA } ∧ WordsBut [R.CLK_STATUS] s t ∧ Within [.regs, .boot, .clk] s t))
    ∧ (∀ b : List Byte, s.boot.stage = .waitHeader → b.length = 1280 →
      headerFault s.boot.slot s.boot.density s.boot.fuses.rollback b = none →
      ∃ t, exec (.headerCheck true b) s = .next t ∧ t.boot.stage = .streaming ∧ t.boot.header = headerOf b
        ∧ t.boot.sections = sectionsOf b ∧ t.boot.nextSection = 0 ∧ Within [.boot] s t))

/-- R54, R66, R67: what rejects a slot in the header, in streaming or at the trailer is recorded with its code and section in
BOOT_FAIL (stated for a slot of which no section has streamed, because clearing a section rewrites its target words); slot A is
followed by slot B with the fallback shown, slot B by SAFE without an image. R44, R45, R54, R56, R83: the words that the master
reads pass through Q28 to the store writer, the master stops where 32 wait and resumes when one is taken (their width of 32 bits
is the model's choice, log entry 24); a section that lands whole is counted and kept; the search of a plan's band keeps the band
that the counts give, its neighbour where that lies closer (which neighbour, and the tie, are log entry 12); a trailer that the
chain accepts gives the image's hash, the integrator's key and the vendor's root key (which the spec holds nowhere else, log
entry 11). -/
def Obligations.SlotsStreamOrFallBack : Prop :=
  (∀ (s : State) (c : Instr) (code sec : Nat),
    ((∃ b, c = .headerCheck true b ∧ s.boot.stage = .waitHeader ∧ b.length = 1280
        ∧ headerFault s.boot.slot s.boot.density s.boot.fuses.rollback b = some (code, sec))
      ∨ (∃ b, c = .headerCheck false b ∧ s.boot.stage = .waitHeader ∧ b.length = 1280 ∧ code = 0x11 ∧ sec = 0)
      ∨ (∃ d k g, c = .sectionStreamed d k false g ∧ s.boot.stage = .streaming ∧ s.boot.flashStopped = false
        ∧ s.boot.nextSection < s.boot.sections.length ∧ code = 0x11 ∧ sec = s.boot.nextSection)
      ∨ (∃ i r, c = .trailerVerify true i r ∧ s.boot.stage = .streaming ∧ s.boot.flashStopped = false
        ∧ s.boot.nextSection = s.boot.sections.length ∧ r.length = 416 ∧ s.imageAgrees i = true
        ∧ s.boot.fuses.chainFault i r = some code ∧ sec = 0)) →
    (s.boot.slot = 0 → (∀ d, s.boot.density = some d → 0x02000000 ≤ d) → ∃ t, exec c s = .next t
      ∧ (s.boot.nextSection = 0 → t.get (R.BOOT_FAIL_code 0) = code % 2 ^ (R.BOOT_FAIL_code 0).w
        ∧ t.get (R.BOOT_FAIL_section 0) = sec % 2 ^ (R.BOOT_FAIL_section 0).w)
      ∧ t.boot.stage = .waitHeader ∧ t.boot.slot = 1 ∧ t.on R.BOOT_STATUS_fallback = true ∧ t.boot.sections = []
      ∧ t.boot.fuses = s.boot.fuses ∧ Within [.regs, .boot] s t)
    ∧ (s.boot.slot = 1 → ∃ t, exec c s = .next t
      ∧ (s.boot.nextSection = 0 → t.get (R.BOOT_FAIL_code 1) = code % 2 ^ (R.BOOT_FAIL_code 1).w
        ∧ t.get (R.BOOT_FAIL_section 1) = sec % 2 ^ (R.BOOT_FAIL_section 1).w)
      ∧ t.boot.stage = .noImage ∧ t.boot.sections = [] ∧ t.boot.fuses = s.boot.fuses
      ∧ t.on (R.CAN_CFG_en 0) = true ∧ t.get (R.CAN_CFG_node_id 0) = s.boot.fuses.serial.toNat % 65536 ∧ Within [.regs, .boot] s t))
  ∧ (∀ s : State,
    let x := s.boot.sections.getD s.boot.nextSection { }
    let len := if x.zeroFill then 0 else x.length
    (∀ d k g, s.boot.stage = .streaming → s.boot.flashStopped = false → s.boot.nextSection < s.boot.sections.length →
      let all := s.boot.q28 ++ flashWords d
      let part := s.boot.part ++ (all.take k).flatten
      d.length % 4 = 0 → s.boot.part.length + 4 * all.length ≤ len → (all.drop k).length ≤ 32 →
      (part.length ≠ len → ∃ t, exec (.sectionStreamed d k true g) s = .next t
        ∧ t.boot = { s.boot with part := part, q28 := all.drop k, flashStopped := (all.drop k).length == 32 } ∧ Within [.boot] s t)
      ∧ (part.length = len → g = false → x.type ≠ 1 → (x.type = 10 → glazeBad part = false) → readsBack x part = true →
        toStore x.type = false →
        let b : BootS := { s.boot with q28 := all.drop k, flashStopped := (all.drop k).length == 32 }
        ∃ t, exec (.sectionStreamed d k true g) s = .next t
          ∧ t.boot = { b with nextSection := s.boot.nextSection + 1, part := [], sectionData := tset s.boot.sectionData s.boot.nextSection part }
          ∧ Within [.boot] s t))
    ∧ (s.boot.flashStopped = true → (s.boot.part ++ s.boot.q28.headD []).length ≠ x.length →
      ∃ t, exec .flashReadResume s = .next t
        ∧ t.boot = { s.boot with flashStopped := false, part := s.boot.part ++ s.boot.q28.headD [], q28 := s.boot.q28.tail }
        ∧ Within [.boot] s t)
    ∧ (∀ counts p n r, counts.length = 64 → s.boot.searches = (p, n) :: r → ∃ t, exec (.bandSearchDone counts true) s = .next t
      ∧ t.boot = { s.boot with searches := r, bands := tset s.boot.bands p (bandOf counts n) } ∧ bandOf counts n < 64
      ∧ (0 < s.boot.nextSection → p < 12 → t.get (R.CLK_PLAN_band p) = bandOf counts n ∧ t.on (R.CLK_PLAN_valid p) = true)
      ∧ WordsBut [R.CLK_PLAN p] s t ∧ Within [.regs, .boot] s t)
    ∧ (∀ i r, s.boot.stage = .streaming → s.boot.flashStopped = false → s.boot.nextSection = s.boot.sections.length →
      r.length = 416 → s.imageAgrees i = true → s.boot.fuses.chainFault i r = none →
      ∃ t, exec (.trailerVerify true i r) s = .next t
        ∧ t.boot = { s.boot with stage := .waitChecks, imageHash := sha384 i, integratorKey := certKey (slice r 96 224), rootKey := slice r 0 96 }
        ∧ Within [.boot] s t))

/-- R54, R58, R60, R61, R64: load checks without a fault accept the slot, to fuse programming where the image binds the device
or raises the count, else to SAFE-ready; programming only sets bits, and a hash that reads back wrong binds nothing; SAFE-ready
makes the device run. -/
def Obligations.AcceptedImageReachesSafeReady : Prop :=
  ∀ s : State,
    (s.boot.stage = .waitChecks → s.boot.searches = [] → s.loadRegs.loadFaults = [] → ∃ t, exec .loadChecksDone s = .next t
      ∧ t.boot.stage = (if s.binds ∨ s.commits then .waitFuses else .waitReady)
      ∧ t.get R.BOOT_STATUS_image_svn = s.boot.header.svn % 2 ^ R.BOOT_STATUS_image_svn.w ∧ t.boot.fuses = s.boot.fuses
      ∧ Within [.regs, .boot, .eng, .seq, .free] s t)
    ∧ (∀ missed, s.boot.stage = .waitFuses → ∃ t, exec (.fuseProgrammingDone missed) s = .next t ∧ t.boot.stage = .waitReady
      ∧ (s.boot.fuses.integratorHash &&& ~~~ t.boot.fuses.integratorHash) = 0
      ∧ s.boot.fuses.rollback ≤ t.boot.fuses.rollback
      ∧ (s.boot.fuses.integratorValid = true → t.boot.fuses.integratorValid = true ∧ t.boot.fuses.integratorHash = s.boot.fuses.integratorHash)
      ∧ (s.binds = true → (t.boot.fuses.integratorValid = true ↔ t.boot.fuses.integratorHash = sha384 s.boot.integratorKey))
      ∧ (s.commits = true → t.boot.fuses.rollback = s.boot.header.svn)
      ∧ t.on R.BOOT_STATUS_svn_committed = s.commits ∧ WordsBut [R.BOOT_STATUS] s t ∧ Within [.regs, .boot] s t)
    ∧ (s.boot.stage = .waitReady → ∃ t, exec .safeReady s = .next t
      ∧ t.boot.stage = .running ∧ t.on R.BOOT_STATUS_safe_ready = true ∧ t.boot.fuses = s.boot.fuses
      ∧ Within [.regs, .boot, .clk, .acq, .win, .evr, .grd, .mod, .gtp, .mtr, .seq, .twn, .can, .aon, .obs, .free] s t)

/-- R68, R69: an integrator's start while no command runs takes the address, slot and page buffer as they are and makes the
controller busy; command 4 schedules the reboot; a start while busy is answered 0x0B and starts nothing; a requester without the
integrator's role is answered 0x01, and only BOOT_ERR_CNT counts it. The code 0x0B and the check of the role here are the
model's choices (log entry 24). R68, R69: a command's end clears busy; a page that was read is in the page buffer, a verified
slot's code in `result`, a failure sets `error`; a verify that fails to read leaves the code 0x11 in `result`, which is the
model's choice (log entry 24). -/
def Obligations.FlashCommandsRun : Prop :=
  (∀ (s : State) (link req slot : Nat), s.linkOpen link = true → slot < 2 →
    (s.permits link req R.BOOT_FLASH_CTL → s.on R.BOOT_FLASH_CTL_busy = false →
      ∀ c k n, (c, k, n) ∈ [(Instr.flashReadPage link req, 0, s.get R.BOOT_FLASH_CTL_slot),
        (Instr.flashProgramPage link req, 1, s.get R.BOOT_FLASH_CTL_slot), (Instr.flashErase link req, 2, s.get R.BOOT_FLASH_CTL_slot),
        (Instr.flashVerify link req slot, 3, slot)] →
      ∃ t, exec c s = .next t ∧ t.boot = { s.boot with flashRun := some k, flashAddr := (s.word R.BOOT_FLASH_ADDR).toNat, flashSlot := n, flashPage := s.bytes pageBase 256 }
        ∧ t.on R.BOOT_FLASH_CTL_busy = true ∧ t.get R.BOOT_FLASH_CTL_cmd = k ∧ Wrote link [R.BOOT_FLASH_CTL] [.boot] s t)
    ∧ (s.permits link req R.BOOT_FLASH_CTL → s.on R.BOOT_FLASH_CTL_busy = false → ∃ t, exec (.rebootCommand link req) s = .next t
      ∧ t.boot = { s.boot with rebootScheduled := true } ∧ t.on R.BOOT_FLASH_CTL_busy = true ∧ Wrote link [R.BOOT_FLASH_CTL] [.boot] s t)
    ∧ (∀ c, c ∈ [Instr.flashReadPage link req, .flashProgramPage link req, .flashErase link req, .flashVerify link req slot,
        .rebootCommand link req] →
      (s.permits link req R.BOOT_FLASH_CTL → s.on R.BOOT_FLASH_CTL_busy = true →
        ∃ t, exec c s = .next t ∧ t.boot = s.boot ∧ t.on R.BOOT_FLASH_CTL_busy = true ∧ (tget t.answers link { }).code = 0x0B
          ∧ WordsBut [R.BOOT_FLASH_CTL] s t ∧ Within [.regs, .answers] s t)
      ∧ (s.roleOf link req ≠ 2 → ∃ t, exec c s = .next t ∧ t.boot = s.boot ∧ (tget t.answers link { }).code = 1
        ∧ t.get R.BOOT_ERR_CNT_access = min (s.get R.BOOT_ERR_CNT_access + 1) (2 ^ R.BOOT_ERR_CNT_access.w - 1)
        ∧ WordsBut [R.BOOT_ERR_CNT] s t ∧ Within [.regs, .answers] s t)))
  ∧ (∀ (s : State) (k : Nat) (data : List Byte), s.awake = true → s.boot.flashRun = some k → k < 4 →
    (∃ t, exec (.flashCommandDone true data) s = .next t ∧ t.boot = { s.boot with flashRun := none }
      ∧ t.on R.BOOT_FLASH_CTL_busy = false ∧ t.on R.BOOT_FLASH_CTL_error = true
      ∧ t.get R.BOOT_FLASH_CTL_result = (if k = 3 then 0x11 else s.get R.BOOT_FLASH_CTL_result)
      ∧ WordsBut [R.BOOT_FLASH_CTL] s t ∧ Within [.regs, .boot] s t)
    ∧ (k = 0 → data.length = 256 → ∃ t, exec (.flashCommandDone false data) s = .next t ∧ t.bytes pageBase 256 = data
      ∧ (∀ a, a < pageBase ∨ pageBase + 256 ≤ a → t.byte a = s.byte a) ∧ t.on R.BOOT_FLASH_CTL_busy = false
      ∧ t.boot = { s.boot with flashRun := none } ∧ WordsBut [R.BOOT_FLASH_CTL] s t ∧ Within [.regs, .ram, .boot] s t)
    ∧ (k = 1 ∨ k = 2 → ∃ t, exec (.flashCommandDone false data) s = .next t ∧ t.on R.BOOT_FLASH_CTL_busy = false
      ∧ t.on R.BOOT_FLASH_CTL_error = s.on R.BOOT_FLASH_CTL_error ∧ t.boot = { s.boot with flashRun := none }
      ∧ WordsBut [R.BOOT_FLASH_CTL] s t ∧ Within [.regs, .boot] s t)
    ∧ (k = 3 → 1280 ≤ data.length → data.length = (headerOf data).imageLength + 416 →
      ∃ t, exec (.flashCommandDone false data) s = .next t ∧ t.on R.BOOT_FLASH_CTL_busy = false
        ∧ t.get R.BOOT_FLASH_CTL_result = s.verifyCode s.boot.flashSlot data % 2 ^ R.BOOT_FLASH_CTL_result.w
        ∧ t.boot = { s.boot with flashRun := none } ∧ WordsBut [R.BOOT_FLASH_CTL] s t ∧ Within [.regs, .boot, .free] s t))

/-- R73, R74: a request that reaches the control plane ends the link's session; on a locked-out link it is answered 0x07; a
request of an operator or an integrator that nothing turns away is answered with a challenge that becomes the pending one, and a
key index that the image does not hold with 0x09 (R498). That a request on a locked-out link still ends the session, and the
code 0x01 of a link that takes no operator, are the model's choices (log entry 11). R72, R74, R76: a response to the pending
challenge while the signing engine is idle opens the session if its signature verifies, and else counts as a failure; while the
engine serves a request, two may wait, and one more is answered 0x08; one that answers an earlier challenge of the link fails
with 0x04. That this one counts as a failure and leaves the present challenge pending is the model's choice (log entry 11). -/
def Obligations.SessionsOpenOrFail : Prop :=
  (∀ (s u : State) (link requester prio seq : Nat) (body : List Byte), s.awake = true → link < 4 →
    s.takeReq ⟨link, requester, prio, seq, body⟩ 8 = some u → (link < 2 → s.canOn link = true) → (link = 2 → s.fab.q21.length < 64) →
    ∃ t, exec (.sessionRequest link requester prio seq body) s = .next t
      ∧ t.get (R.BOOT_SESSION_role link) = 0
      ∧ (∀ l, l ≠ link → t.linkS l = s.linkS l)
      ∧ (s.on (R.BOOT_SESSION_locked_out link) = true → (tget t.answers link { }).code = 7 ∧ t.on (R.BOOT_SESSION_pending link) = false)
      ∧ (s.on (R.BOOT_SESSION_locked_out link) = false → body.length = 4 → leAt body 0 1 = 1 → s.operatorFault link (leAt body 1 1) = 0 →
        t.on (R.BOOT_SESSION_pending link) = true ∧ (t.linkS link).challenge = s.challengeBytes link 1 (leAt body 1 1)
        ∧ (tget t.answers link { }).bytes = s.challengeBytes link 1 (leAt body 1 1) ∧ (t.linkS link).reqRole = 1
        ∧ (t.linkS link).reqNode = requester ∧ t.sess.challenges = s.sess.challenges + 1)
      ∧ (s.on (R.BOOT_SESSION_locked_out link) = false → body.length = 4 → leAt body 0 1 = 1 → s.operatorFault link (leAt body 1 1) ≠ 0 →
        t.on (R.BOOT_SESSION_pending link) = false ∧ (tget t.answers link { }).code = s.operatorFault link (leAt body 1 1)
        ∧ (s.boot.operatorKeys.length ≤ leAt body 1 1 → (tget t.answers link { }).code = 9))
      ∧ (s.on (R.BOOT_SESSION_locked_out link) = false → body.length = 228 → leAt body 0 1 = 2 → s.integratorFault (slice body 4 224) = 0 →
        t.on (R.BOOT_SESSION_pending link) = true ∧ (t.linkS link).challenge = s.challengeBytes link 2 (leAt body 1 1)
        ∧ (tget t.answers link { }).bytes = s.challengeBytes link 2 (leAt body 1 1) ∧ (t.linkS link).reqRole = 2
        ∧ (t.linkS link).reqCertKey = certKey (slice body 4 224) ∧ (t.linkS link).reqNode = requester)
      ∧ t.sess.jobs = s.sess.jobs
      ∧ Within [.regs, .sess, .fab, .can, .obs, .answers, .free] s t)
  ∧ (∀ (s u : State) (link requester prio seq : Nat) (body : List Byte), s.awake = true → link < 4 →
    s.takeReq ⟨link, requester, prio, seq, body⟩ 0x0A = some u → (link < 2 → s.canOn link = true) → (link = 2 → s.fab.q21.length < 64) →
    s.on (R.BOOT_SESSION_pending link) = true → (s.linkS link).reqNode = requester → body.length = 96 →
    let key := if (s.linkS link).reqRole = 2 then (s.linkS link).reqCertKey else s.boot.operatorKeys.getD (s.linkS link).reqKey []
    (s.answersEarlier link body = true → ∃ t, exec (.sessionResponse link requester prio seq false body) s = .next t
        ∧ t.on (R.BOOT_SESSION_pending link) = true ∧ (t.linkS link).failures = (s.linkS link).failures + 1
        ∧ (tget t.answers link { }).code = 4 ∧ Within [.regs, .sess, .fab, .can, .aon, .obs, .answers] s t)
    ∧ (s.answersEarlier link body = false → s.sess.jobs = [] → ecdsaVerify key (s.linkS link).challenge body = true →
      ∃ t, exec (.sessionResponse link requester prio seq false body) s = .next t
        ∧ t.get (R.BOOT_SESSION_role link) = (s.linkS link).reqRole % 4 ∧ t.on (R.BOOT_SESSION_pending link) = false
        ∧ (t.linkS link).failures = 0 ∧ (tget t.answers link { }).code = 0
        ∧ Within [.regs, .sess, .fab, .can, .obs, .answers] s t)
    ∧ (s.answersEarlier link body = false → s.sess.jobs = [] → ecdsaVerify key (s.linkS link).challenge body = false →
      ∃ t, exec (.sessionResponse link requester prio seq false body) s = .next t
        ∧ t.get (R.BOOT_SESSION_role link) = s.get (R.BOOT_SESSION_role link) ∧ t.on (R.BOOT_SESSION_pending link) = false
        ∧ (t.linkS link).failures = (s.linkS link).failures + 1 ∧ (tget t.answers link { }).code = 5
        ∧ (max 1 (s.get R.BOOT_POLICY_lock_fail) ≤ (s.linkS link).failures + 1 → t.on (R.BOOT_SESSION_locked_out link) = true)
        ∧ Within [.regs, .sess, .fab, .can, .aon, .obs, .answers] s t)
    ∧ (s.answersEarlier link body = false → 0 < s.sess.jobs.length → s.sess.jobs.length < 3 →
      ∃ t, exec (.sessionResponse link requester prio seq false body) s = .next t
        ∧ t.sess = { s.sess with jobs := s.sess.jobs ++ [.verify link requester prio seq (s.linkS link).number body] }
        ∧ Within [.regs, .sess, .fab, .can, .obs] s t)
    ∧ (s.answersEarlier link body = false → 3 ≤ s.sess.jobs.length → ∃ t, exec (.sessionResponse link requester prio seq false body) s = .next t
        ∧ t.sess = s.sess ∧ (tget t.answers link { }).code = 8 ∧ Within [.regs, .fab, .can, .obs, .answers] s t))

/-- R72, R74: the response that waited first is verified against the challenge it answered, and opens the session or counts as a
failure; one whose challenge is no longer the pending one fails with 0x04, which counts as a failure by the model's choice (log
entry 11). R75, R76, R369: a session that closes or times out leaves role, key index and requester 0 and drops the link's held
low word; a lockout that expires lets requests in again and restarts the failure count. The refusals of a close, with 0x0A where
the message has a body and with 0x01 to a node without the role, and their order are the model's choice (log entry 11). -/
def Obligations.SessionsAreVerifiedAndEnd : Prop :=
  (∀ (s : State) (l n p q c : Nat) (sig : List Byte) (js : List SignJob), s.awake = true → l < 4 →
    s.sess.jobs = .verify l n p q c sig :: js → (l = 2 → s.fab.q21.length < 64) →
    let key := if (s.linkS l).reqRole = 2 then (s.linkS l).reqCertKey else s.boot.operatorKeys.getD (s.linkS l).reqKey []
    ∃ t, exec .sessionVerificationDone s = .next t ∧ t.sess.jobs = js
      ∧ (s.on (R.BOOT_SESSION_pending l) = true → (s.linkS l).number = c →
        t.on (R.BOOT_SESSION_pending l) = false
        ∧ (ecdsaVerify key (s.linkS l).challenge sig = true →
          t.get (R.BOOT_SESSION_role l) = (s.linkS l).reqRole % 4 ∧ (t.linkS l).failures = 0 ∧ (tget t.answers l { }).code = 0)
        ∧ (ecdsaVerify key (s.linkS l).challenge sig = false →
          (t.linkS l).failures = (s.linkS l).failures + 1 ∧ (tget t.answers l { }).code = 5))
      ∧ ((s.on (R.BOOT_SESSION_pending l) = false ∨ (s.linkS l).number ≠ c) →
        (t.linkS l).failures = (s.linkS l).failures + 1 ∧ (tget t.answers l { }).code = 4))
  ∧ (∀ (s : State) (link : Nat), s.awake = true → link < 4 →
    (s.on (R.BOOT_SESSION_role link) = true → ∃ t, exec (.sessionIdleTimeout link) s = .next t
      ∧ t.get (R.BOOT_SESSION_role link) = 0 ∧ t.get (R.BOOT_SESSION_key_index link) = 0 ∧ t.get (R.BOOT_SESSION_requester link) = 0
      ∧ (∀ p ∈ t.sess.writeShadow, p.1 ≠ link) ∧ t.sess = { s.sess with writeShadow := t.sess.writeShadow }
      ∧ WordsBut [R.BOOT_SESSION link] s t ∧ Within [.regs, .sess] s t)
    ∧ (s.on (R.BOOT_SESSION_locked_out link) = true → ∃ t, exec (.lockoutExpiry link) s = .next t
      ∧ t.on (R.BOOT_SESSION_locked_out link) = false ∧ t.linkS link = { s.linkS link with failures := 0 }
      ∧ (∀ l, l ≠ link → t.linkS l = s.linkS l) ∧ WordsBut [R.BOOT_SESSION link] s t ∧ Within [.regs, .sess] s t)
    ∧ (∀ u requester prio seq body, s.takeReq ⟨link, requester, prio, seq, body⟩ 0x0B = some u → (link < 2 → s.canOn link = true) →
      (link = 2 → s.fab.q21.length < 64) → ∃ t, exec (.sessionClose link requester prio seq body) s = .next t
        ∧ (body = [] → s.roleOf link requester ≠ 0 → t.get (R.BOOT_SESSION_role link) = 0 ∧ (tget t.answers link { }).code = 0)
        ∧ (body = [] → s.roleOf link requester = 0 → t.sess = s.sess ∧ (tget t.answers link { }).code = 1)
        ∧ (body ≠ [] → t.sess = s.sess ∧ (tget t.answers link { }).code = 0x0A)
        ∧ Within [.regs, .sess, .fab, .can, .obs, .answers] s t))

/-- R71, R72: an attestation request is served or waits, one more than the two that may wait is answered 0x08; one without a
role on a device whose PUBLIC section does not open attestation is answered 0x01; the report goes out on its link. That the role
is checked before the waiting requests are counted is the model's choice (log entry 11). -/
def Obligations.AttestationIsQueuedAndReported : Prop :=
  ∀ s : State, s.awake = true →
    (∀ u link requester prio seq body, link < 4 → body.length = 32 → s.takeReq ⟨link, requester, prio, seq, body⟩ 0x0C = some u →
      (link < 2 → s.canOn link = true) → (link = 2 → s.fab.q21.length < 64) →
      ∃ t, exec (.attestationRequest link requester prio seq body) s = .next t
        ∧ (s.roleOf link requester = 0 → s.boot.publicAttest = false → t.sess = s.sess ∧ (tget t.answers link { }).code = 1)
        ∧ (s.roleOf link requester ≠ 0 ∨ s.boot.publicAttest = true → 3 ≤ s.sess.jobs.length →
          t.sess = s.sess ∧ (tget t.answers link { }).code = 8)
        ∧ (s.roleOf link requester ≠ 0 ∨ s.boot.publicAttest = true → s.sess.jobs.length < 3 →
          t.sess = { s.sess with jobs := s.sess.jobs ++ [.attest link requester prio seq body] })
        ∧ Within [.regs, .sess, .fab, .can, .obs, .answers] s t)
    ∧ (∀ l n p q nonce js, s.sess.jobs = .attest l n p q nonce :: js → s.fab.q21.length + 2 ≤ 64 →
      ∃ t, exec .attestationReportDone s = .next t ∧ (tget t.answers l { }).bytes = s.report nonce ∧ t.sess = { s.sess with jobs := js }
        ∧ Within [.regs, .sess, .fab, .can, .obs, .answers] s t)

/-- R497: an access is checked for its alignment, then for a word at its address, then for its role and grant; the first check
that fails gives the access code 0x03, 0x02 or 0x01 and counts once, in `rsvd` for a reserved address and in `access` else; a
read answers zero, and no other word changes. -/
def Obligations.AccessesAreCheckedInOrder : Prop :=
  ∀ (s : State) (link requester a : Nat) (w : Word), s.awake = true → link < 4 →
    let first : Nat := if a % 4 ≠ 0 then 3 else if s.reserved a then 2 else 1
    let counter : Fld := if first = 2 then R.BOOT_ERR_CNT_rsvd else R.BOOT_ERR_CNT_access
    (a % 4 ≠ 0 ∨ s.reserved a = true ∨ s.writeForbidden link requester a = true →
      ∃ t, exec (.registerWrite link requester a w) s = .next t ∧ tget t.answers link { } = { code := first }
        ∧ t.get counter = min (s.get counter + 1) 255 ∧ WordsBut [R.BOOT_ERR_CNT] s t ∧ Within [.regs, .answers] s t)
    ∧ (a % 4 ≠ 0 ∨ s.reserved a = true ∨ s.mayRead (s.roleOf link requester) a = false →
      ∃ t, exec (.registerReadClear link requester a) s = .next t ∧ tget t.answers link { } = { code := first, words := [0] }
        ∧ t.get counter = min (s.get counter + 1) 255 ∧ WordsBut [R.BOOT_ERR_CNT] s t ∧ Within [.regs, .answers] s t)

/-- R10 on the kinds of fields: a permitted write of a register without a rule of its own takes the RW bits of the written word,
clears the W1C bits where it is 1 and keeps the rest; one of a grid word, or of a metering word while metering is on, clears its
W1C bits and holds the RW bits for the unit's next instant (R211, R333). A permitted read answers the word, WO bits as zero, and
clears its RC bits, in every region. That a metering word is written at once while metering is off is the model's choice (log
entry 15). -/
def Obligations.FieldKindsOfAnAccess : Prop :=
  ∀ (s : State) (link requester a : Nat) (w : Word) (h : RegHit), s.awake = true → link < 4 → a % 4 = 0 → s.reserved a = false →
    regFind a = some h → a ∉ plantLows → a ∉ plantLows.map (· + 4) → inPage a = false → inBoard a = false → inRet a = false →
    inObsRam a = false → inIdentity a = false → ¬ (R.OBS_CNT 0 ≤ a ∧ a < R.OBS_CNT 64) → a ≠ R.AON_RTC →
    (s.writeForbidden link requester a = false → w &&& BitVec.ofNat 32 h.wd.wo = 0 → isStore a = false →
      a ∉ [R.BOOT_FLASH_CTL, R.CLK_SYNC_CTL, R.AON_CFG, R.OBS_RAM_RD, R.OBS_DBG_CTL] →
      ¬ (R.EVR_ROUTE 0 ≤ a ∧ a < R.EVR_ROUTE 4096) → ¬ (R.ACQ_SEQ 0 0 ≤ a ∧ a < R.ACQ_SEQ 16 0) →
      ¬ (R.ACQ_SEQ_CTL 0 ≤ a ∧ a < R.ACQ_SEQ_CTL 16) → ¬ (R.ENG_CTX_CTL 1 ≤ a ∧ a < R.ENG_CTX_CTL 64 ∧ (a - R.ENG_CTX_CTL 0) % 0x20 = 0) →
      ¬ (R.WIN_CFG 0 ≤ a ∧ a < R.WIN_CFG 96) →
      let held := a / 2 ^ 24 = 5 ∨ (a / 2 ^ 24 = 8 ∧ s.on R.MTR_CFG_en = true)
      ∃ t, exec (.registerWrite link requester a w) s = .next t ∧ tget t.answers link { } = { } ∧ WordsBut [a] s t
        ∧ (¬ held → (∀ i, i < 32 → (t.word a).getLsbD i
            = ((if h.wd.rw.testBit i then w.getLsbD i else (s.word a).getLsbD i) && !(w.getLsbD i && h.wd.w1c.testBit i)))
          ∧ Within [.regs, .answers] s t)
        ∧ (held → (∀ i, i < 32 → (t.word a).getLsbD i = ((s.word a).getLsbD i && !(w.getLsbD i && h.wd.w1c.testBit i)))
          ∧ t.grd.writes = s.grd.writes ++ (if a / 2 ^ 24 = 5 ∧ h.wd.rw ≠ 0 then [⟨a, w, BitVec.ofNat 32 h.wd.rw, false⟩] else [])
          ∧ t.mtr.writes = s.mtr.writes ++ (if a / 2 ^ 24 = 8 ∧ h.wd.rw ≠ 0 then [⟨a, w, BitVec.ofNat 32 h.wd.rw, false⟩] else [])
          ∧ Within [.regs, .grd, .mtr, .answers] s t))
    ∧ (s.mayRead (s.roleOf link requester) a = true → ¬ (R.ACQ_RES 0 0 ≤ a ∧ a < R.ACQ_RES 16 0 ∧ a % 16 = 0) →
      ¬ (R.MTR_E 0 0 ≤ a ∧ a < R.MTR_E 4 0) → ¬ (R.OBS_PS 0 ≤ a ∧ a < R.OBS_PS 1024 ∧ a % 16 = 12) →
      ∃ t, exec (.registerReadClear link requester a) s = .next t
        ∧ tget t.answers link { } = { words := [s.word a &&& ~~~ BitVec.ofNat 32 h.wd.wo] }
        ∧ t.word a = s.word a &&& ~~~ BitVec.ofNat 32 h.wd.rc ∧ WordsBut [a] s t ∧ Within [.regs, .answers] s t)

/-- R369: a permitted read of the low word of a plant-time register answers it and holds the whole value for the link's next
high read; a permitted write of a low word is held for the link, and the high write that follows writes both halves; a high
write with nothing held is answered 0x03 and writes nothing. -/
def Obligations.PlantTimeGoesThroughTheShadow : Prop :=
  ∀ (s : State) (link requester k : Nat) (w : Word), s.awake = true → link < 4 → k < 4 →
    let a := plantLows.getD k R.FAB_TIME
    (s.reserved a = false → s.mayRead (s.roleOf link requester) a = true → ∃ t, exec (.plantTimeLowRead link requester k) s = .next t
      ∧ tget t.answers link { } = { words := [BitVec.ofNat 32 (s.plantValue a)] } ∧ tnum t.sess.readShadow link = s.plantValue a
      ∧ WordsBut [] s t ∧ Within [.sess, .answers] s t)
    ∧ (s.reserved a = false → s.writeForbidden link requester a = false → s.plantWritable a = true →
      ∃ t, exec (.plantTimeLowWrite link requester k w) s = .next t ∧ tget t.answers link { } = { }
        ∧ tnum t.sess.writeShadow link = w.toNat ∧ WordsBut [] s t ∧ Within [.sess, .answers] s t)
    ∧ (s.reserved (a + 4) = false → s.writeForbidden link requester (a + 4) = false → s.plantWritable a = true →
      (∀ p ∈ s.sess.writeShadow, p.1 ≠ link) → ∃ t, exec (.plantTimeHighWrite link requester k w) s = .next t
        ∧ tget t.answers link { } = { code := 3 } ∧ WordsBut [R.BOOT_ERR_CNT] s t ∧ Within [.regs, .answers] s t)
    ∧ (∀ p, s.reserved (a + 4) = false → s.writeForbidden link requester (a + 4) = false → s.plantWritable a = true →
      s.sess.writeShadow.find? (fun q => q.1 == link) = some p → ∃ t, exec (.plantTimeHighWrite link requester k w) s = .next t
        ∧ tget t.answers link { } = { } ∧ (∀ q ∈ t.sess.writeShadow, q.1 ≠ link)
        ∧ (k = 0 → t.fab = { s.fab with timeWrite := some ((p.2 + 2 ^ 32 * w.toNat) % 2 ^ 64) } ∧ WordsBut [] s t)
        ∧ (k ≠ 0 → t.word64 a = (p.2 + 2 ^ 32 * w.toNat) % 2 ^ 64 ∧ WordsBut [a, a + 4] s t)
        ∧ Within [.regs, .sess, .fab, .answers] s t)

/-- R149: a write of a parameter signal is held for the next latch of its frame source, the last one standing; a write of
another signal, or of one that a glaze patches (R337), is answered 0x01. -/
def Obligations.ParameterWriteIsHeld : Prop :=
  ∀ (s : State) (link sig : Nat) (w : Word), s.live = true → link < 4 → sig < 4096 →
    ((s.paramSrc sig).isSome = true → s.glazed (R.S sig) = false → ∃ t, exec (.parameterWrite link sig w) s = .next t
      ∧ tget t.eng.paramPend sig 0 = w ∧ (∀ g, g ≠ sig → tget t.eng.paramPend g 0 = tget s.eng.paramPend g 0)
      ∧ t.eng = { s.eng with paramPend := t.eng.paramPend } ∧ tget t.answers link { } = { } ∧ WordsBut [] s t
      ∧ Within [.eng, .answers] s t)
    ∧ ((s.paramSrc sig).isSome = false ∨ s.glazed (R.S sig) = true → ∃ t, exec (.parameterWrite link sig w) s = .next t ∧ tget t.answers link { } = { code := 1 }
      ∧ WordsBut [R.BOOT_ERR_CNT] s t ∧ Within [.regs, .answers] s t)

/-- R460: an update of the DEBUG register makes the access that its bits give, on link 3, and captures the access's code and
data; the port holds the DEBUG instruction. -/
def Obligations.DebugRegisterAccesses : Prop :=
  ∀ (s : State) (data : Nat), s.awake = true →
    let a := data % 2 ^ 32 / 2 * 2
    let u := s.tapTo 0x10 .debug
    (data % 2 = 0 → ∃ t, exec (.debugAccess data) s = .next t ∧ t.tap.ir = 0x10 ∧ t.tap.sel = .debug
      ∧ t.tap.debug = data % 2 ^ 32 + (u.readAccess 3 0 a).2.2.toNat * 2 ^ 32 + (u.readAccess 3 0 a).2.1 * 2 ^ 64
      ∧ t.regs = (u.readAccess 3 0 a).1.regs ∧ (tget t.answers 3 { }).words = [(u.readAccess 3 0 a).2.2]
      ∧ (tget t.answers 3 { }).code = (u.readAccess 3 0 a).2.1 ∧ Within [.regs, .sess, .acq, .tap, .answers] s t)
    ∧ (data % 2 = 1 → let w := data / 2 ^ 32 % 2 ^ 32
      ∃ t, exec (.debugAccess data) s = .next t ∧ t.tap.ir = 0x10 ∧ t.tap.sel = .debug
        ∧ t.tap.debug = data % 2 ^ 32 + w * 2 ^ 32 + (u.writeAccess 3 0 a (BitVec.ofNat 32 w)).2 * 2 ^ 64
        ∧ t.regs = (u.writeAccess 3 0 a (BitVec.ofNat 32 w)).1.regs
        ∧ (tget t.answers 3 { }).code = (u.writeAccess 3 0 a (BitVec.ofNat 32 w)).2)

/-- R375: a read or write request is answered on its link: 0x0A for a body that does not fit its count or a count outside 1 to
60, 0x03 for an unaligned address, with no access made; else its words are accessed in rising order, and the answer carries a
code of theirs and, for a read, every word. The model's choices: that code is that of the first access that failed (log entry
10), and 0x0A comes before 0x03 (log entry 11). -/
def Obligations.RequestsAccessTheirWords : Prop :=
  ∀ (s u : State) (link requester prio seq : Nat) (body : List Byte), s.awake = true → link < 4 →
    (link < 2 → s.canOn link = true) → (link = 2 → s.fab.q21.length < 64) →
    let a := leAt body 0 4
    let n := leAt body 4 1
    (s.takeReq ⟨link, requester, prio, seq, body⟩ 1 = some u → ∃ t, exec (.readRequest link requester prio seq body) s = .next t
      ∧ (body.length ≠ 8 ∨ n = 0 ∨ 60 < n → tget t.answers link { } = { code := 0x0A })
      ∧ (body.length = 8 → 1 ≤ n → n ≤ 60 → a % 4 ≠ 0 → tget t.answers link { } = { code := 3 })
      ∧ (body.length = 8 → 1 ≤ n → n ≤ 60 → a % 4 = 0 → (tget t.answers link { }).words.length = n
        ∧ tget t.answers link { } = { code := (u.readMany link requester a n).2.1, words := (u.readMany link requester a n).2.2 })
      ∧ Within [.regs, .sess, .acq, .fab, .can, .obs, .answers] s t)
    ∧ (s.takeReq ⟨link, requester, prio, seq, body⟩ 2 = some u → ∃ t, exec (.writeRequest link requester prio seq body) s = .next t
      ∧ (body.length ≠ 8 + 4 * n ∨ n = 0 ∨ 60 < n → tget t.answers link { } = { code := 0x0A })
      ∧ (body.length = 8 + 4 * n → 1 ≤ n → n ≤ 60 → a % 4 ≠ 0 → tget t.answers link { } = { code := 3 })
      ∧ (body.length = 8 + 4 * n → 1 ≤ n → n ≤ 60 → a % 4 = 0 →
        tget t.answers link { } = { code := (u.writeMany link requester a (leWords (body.drop 8) n)).2 }))

/-- R86: without lock, two good windows in a row lock a synthesizer and a bad one restarts the count; with lock, a window beyond
lol_tol loses it, raises the source and shows it. A synthesizer that is powered down or holds its tuning measures nothing. That
the source is raised at every loss, whether or not the flag still stands, is the model's choice (log entry 37). R88: the loss of
a reference shows in ref_present and makes every synthesizer that uses it hold its tuning; one that is used also sets `lor` and
raises 403. Its return lets them relock. That a loss leaves the locked bit as it is and a return clears it is the model's choice
(log entry 26), and so is that 403 is raised at every loss (log entry 37). -/
def Obligations.LocksAndReferences : Prop :=
  (∀ (s : State) (i c : Nat), s.live = true → i < 3 →
    ((s.syn i).poweredDown = true ∨ s.holdover i = true → exec (.lockWindowEnd i c) s = .next s)
    ∧ ((s.syn i).poweredDown = false → s.holdover i = false →
    (s.on (lockedFld i) = true → s.lockError i c ≤ s.lolTol * 2 ^ 20 → exec (.lockWindowEnd i c) s = .next s)
    ∧ (s.on (lockedFld i) = true → s.lolTol * 2 ^ 20 < s.lockError i c → ∃ t, exec (.lockWindowEnd i c) s = .next t
      ∧ t.on (lockedFld i) = false ∧ t.on (lolFld i) = true ∧ tbit t.evr.pulse (400 + i) = true
      ∧ t.syn i = { s.syn i with goodWindows := 0 } ∧ WordsBut [R.CLK_STATUS] s t ∧ Within [.regs, .clk, .evr] s t)
    ∧ (s.on (lockedFld i) = false → ∃ t, exec (.lockWindowEnd i c) s = .next t
      ∧ (s.lockTol * 2 ^ 20 < s.lockError i c → t.syn i = { s.syn i with goodWindows := 0 } ∧ t.on (lockedFld i) = false)
      ∧ (s.lockError i c ≤ s.lockTol * 2 ^ 20 → t.syn i = { s.syn i with goodWindows := (s.syn i).goodWindows + 1 }
        ∧ t.on (lockedFld i) = decide (1 ≤ (s.syn i).goodWindows))
      ∧ (∀ j, j ≠ i → t.syn j = s.syn j) ∧ WordsBut [R.CLK_STATUS] s t ∧ Within [.regs, .clk] s t)))
  ∧ (∀ (s : State) (r : Nat), s.live = true → r < 3 →
    (s.get R.CLK_STATUS_ref_present / 2 ^ r % 2 = 1 → ∃ t, exec (.referenceLoss r) s = .next t
      ∧ t.get R.CLK_STATUS_ref_present / 2 ^ r % 2 = 0
      ∧ (∀ i, i < 3 → t.syn i = (if s.usesRef i r then { s.syn i with goodWindows := 0 } else s.syn i)
        ∧ t.holdover i = (s.usesRef i r || s.holdover i) ∧ t.on (lockedFld i) = s.on (lockedFld i))
      ∧ ((∃ i, i < 3 ∧ s.usesRef i r = true) → t.on R.CLK_STATUS_lor = true ∧ tbit t.evr.pulse 403 = true)
      ∧ WordsBut [R.CLK_STATUS] s t ∧ Within [.regs, .clk, .evr] s t)
    ∧ (s.get R.CLK_STATUS_ref_present / 2 ^ r % 2 = 0 → ∃ t, exec (.referenceReturn r) s = .next t
      ∧ t.get R.CLK_STATUS_ref_present / 2 ^ r % 2 = 1
      ∧ (∀ i, i < 3 → t.syn i = (if s.usesRef i r then { s.syn i with goodWindows := 0 } else s.syn i)
        ∧ (s.usesRef i r = true → t.holdover i = false ∧ t.on (lockedFld i) = false)
        ∧ (s.usesRef i r = false → t.holdover i = s.holdover i ∧ t.on (lockedFld i) = s.on (lockedFld i)))
      ∧ WordsBut [R.CLK_STATUS] s t ∧ Within [.regs, .clk] s t))

/-- R93: a request for an undefined plan, or for an ENG plan slower than the slowest that the header allows, whose index is
above slowest_eplan, is discarded and counted; one during a hop waits; one for the plan in force is discarded, counted, and
takes back a request that waits; another waits for its instant, at CLK_HOP_TIME unless that has passed, which is counted, and
replaces one that waits. R89, R92, R93: at its instant, for one at a plant time not before CLK_HOP_TIME as it then stands (the
model's choice, log entry 37), a waiting hop gates the output off, unlocked; it is done with lock, when the plan comes into
force, counts and raises its source, or it fails, when the plan comes into force too and hop_fail and the loss of lock show.
That the count of hops takes only those that end with lock is the model's choice (log entry 37). -/
def Obligations.HopsAreTakenAndComeIntoForce : Prop :=
  (∀ (s : State) (atTime : Bool) (c : Instr) (i p : Nat), s.live = true →
    ((i = 0 ∧ p < 8 ∧ c = .hopRequestM p atTime) ∨ (i = 1 ∧ p < 4 ∧ c = .hopRequestE p atTime)) →
    let turnedAway := s.on (R.CLK_PLAN_defined (planReg i p)) = false ∨ (i = 1 ∧ s.boot.header.slowestEplan < p)
    let late := atTime = true ∧ s.word64 R.CLK_HOP_TIME < s.clk.plantTime
    (turnedAway → ∃ t, exec c s = .next t ∧ t.get R.CLK_HOP_CNT_null = min (s.get R.CLK_HOP_CNT_null + 1) (2 ^ R.CLK_HOP_CNT_null.w - 1)
      ∧ WordsBut [R.CLK_HOP_CNT] s t ∧ Within [.regs] s t)
    ∧ (¬ turnedAway → (s.syn i).hopping = false → p = s.planIn i → ∃ t, exec c s = .next t
      ∧ t.syn i = { s.syn i with pendingHop := none }
      ∧ t.get R.CLK_HOP_CNT_null = min (s.get R.CLK_HOP_CNT_null + 1) (2 ^ R.CLK_HOP_CNT_null.w - 1)
      ∧ WordsBut [R.CLK_STATUS, R.CLK_HOP_CNT] s t ∧ Within [.regs, .clk] s t)
    ∧ (¬ turnedAway → ((s.syn i).hopping = true ∨ p ≠ s.planIn i) → ∃ t, exec c s = .next t
      ∧ (t.syn i).pendingHop = some p ∧ ((t.syn i).atTime = true ↔ atTime = true ∧ ¬ late) ∧ (t.syn i).hopping = (s.syn i).hopping
      ∧ t.on R.CLK_STATUS_hop_busy = true
      ∧ t.get R.CLK_HOP_CNT_late = (if late then min (s.get R.CLK_HOP_CNT_late + 1) (2 ^ R.CLK_HOP_CNT_late.w - 1) else s.get R.CLK_HOP_CNT_late)
      ∧ (∀ j, j ≠ i → t.syn j = s.syn j) ∧ WordsBut [R.CLK_STATUS, R.CLK_HOP_CNT] s t ∧ Within [.regs, .clk] s t))
  ∧ (∀ (s : State) (i : Nat), s.live = true → i < 2 →
    (∀ p, (s.syn i).pendingHop = some p → (s.syn i).hopping = false → (s.syn i).poweredDown = false →
      ((s.syn i).atTime = true → s.word64 R.CLK_HOP_TIME ≤ s.clk.plantTime) →
      ∃ t, exec (.hopInstant i) s = .next t
        ∧ t.syn i = { s.syn i with hopping := true, hopTarget := p, pendingHop := none, atTime := false, goodWindows := 0 }
        ∧ (i = 0 → t.gov = { s.gov with lastHopM := some s.clk.plantTime } ∧ Within [.regs, .clk, .evr, .gtp, .gov, .twn] s t)
        ∧ (i = 1 → t.gov = { s.gov with lastHopE := some s.clk.plantTime } ∧ t.on (lockedFld 1) = false ∧ t.on R.CLK_STATUS_hop_busy = true
          ∧ WordsBut [R.CLK_STATUS] s t ∧ Within [.regs, .clk, .gov] s t))
    ∧ ((s.syn i).atTime = true → s.clk.plantTime < s.word64 R.CLK_HOP_TIME → exec (.hopInstant i) s = .next s)
    ∧ ((s.syn i).hopping = true → s.on (lockedFld i) = true → ∃ t, exec (.hopDone i) s = .next t
      ∧ (t.syn i).hopping = false ∧ t.planIn i = (s.syn i).hopTarget % 2 ^ (if i = 0 then R.CLK_STATUS_mplan.w else R.CLK_STATUS_eplan.w)
      ∧ t.on (lockedFld i) = true ∧ tbit t.evr.pulse (404 + i) = true
      ∧ t.get R.CLK_HOP_CNT_done = min (s.get R.CLK_HOP_CNT_done + 1) (2 ^ R.CLK_HOP_CNT_done.w - 1)
      ∧ Within [.regs, .clk, .evr, .mod, .gtp, .obs] s t)
    ∧ ((s.syn i).hopping = true → s.on (lockedFld i) = false → ∃ t, exec (.hopFail i) s = .next t
      ∧ (t.syn i).hopping = false ∧ t.planIn i = (s.syn i).hopTarget % 2 ^ (if i = 0 then R.CLK_STATUS_mplan.w else R.CLK_STATUS_eplan.w)
      ∧ t.on R.CLK_STATUS_hop_fail = true ∧ t.on (lolFld i) = true ∧ tbit t.evr.pulse 406 = true
      ∧ t.get R.CLK_HOP_CNT_done = s.get R.CLK_HOP_CNT_done ∧ Within [.regs, .clk, .evr, .mod, .gtp, .obs] s t))

/-- Divider synchronisation (R94, R95): a write of CLK_SYNC_CTL arms the synthesizers of its bits and sets the target time of
its mark; an event of the selected kind, for the mark from its target time on, executes for every armed synthesizer, disarms it
and raises 407, and is deferred for one that hops. -/
def Obligations.SynchronisationArmsAndExecutes : Prop :=
  ∀ s : State, s.live = true →
    (∀ w : Word, ∃ t, exec (.syncArm w) s = .next t ∧ t.word R.CLK_SYNC_CTL = w
      ∧ t.clk = { s.clk with syncTarget := syncTarget s.clk.plantTime (R.CLK_SYNC_CTL_mark_lsb.of w) }
      ∧ WordsBut [R.CLK_SYNC_CTL] s t ∧ Within [.regs, .clk] s t)
    ∧ (∀ mark time, s.on R.CLK_SYNC_CTL_source = mark → (mark = true → s.clk.syncTarget ≤ time) → ∃ t, exec (.syncEvent mark time) s = .next t
      ∧ (∀ i, i < 3 → s.get ⟨R.CLK_SYNC_CTL, i, 1⟩ = 1 →
        ((s.syn i).hopping = true → t.syn i = { s.syn i with syncDeferred := true } ∧ t.get ⟨R.CLK_SYNC_CTL, i, 1⟩ = 1)
        ∧ ((s.syn i).hopping = false → t.syn i = { s.syn i with syncDeferred := false } ∧ t.get ⟨R.CLK_SYNC_CTL, i, 1⟩ = 0
          ∧ tbit t.evr.pulse 407 = true))
      ∧ WordsBut [R.CLK_SYNC_CTL] s t ∧ Within [.regs, .clk, .evr] s t)
    ∧ (∀ mark time, (s.on R.CLK_SYNC_CTL_source ≠ mark ∨ (mark = true ∧ time < s.clk.syncTarget)) → exec (.syncEvent mark time) s = .next s)

/-- R97, R98, R99, R102, R104, R112: converter `cv` converts the AIN pin of its pair that its entry names, or an internal
channel; its code is the nearest to 65,536 × ΔV ÷ VREFP, clamped to 0 to 65,535 (which of two as near is open, log entry 3); a
conversion of a usable entry stores its code and adds it to the entry's sum and count, which stop at 16,777,215, where cnt_sat
of the table sets and stays, unless its entry was rewritten meanwhile, when it updates nothing; no other entry's result changes;
the table goes on to its next entry, and a converter with its own and its retired partner's table running goes on to the other
of the two. R102, R109, R119, R120: an entry whose channel or acquisition time a write changes restarts its sum and count; a
read of a result copies all of it into the entry's words, answers the first and restarts an entry that no frame source binds; a
read of a frame record changes nothing. A write of an entry that a glaze patches does nothing (R337), and a read that the
requester's role does not allow is answered 0x01 (R497). -/
def Obligations.ConversionsAndTheirReaders : Prop :=
  (∀ (s : State) (cv t e : Nat) (v agnd : Int) (vref : Nat), s.live = true → cv < 16 → 0 < vref → s.current cv = some (t, e) →
    s.entryOk t (s.get (R.ACQ_SEQ_chan t e)) = true → (s.conv cv).idle = false → (s.conv cv).urgentOf = none →
    let chan := s.get (R.ACQ_SEQ_chan t e)
    let dv : Int := (if chan < 16 then (tnum s.pins.ain (16 * (cv / 2) + chan) : Int) else v) - agnd
    let code := adcCode dv vref
    ∃ u, exec (.conversionDone cv v agnd vref) s = .next u
      ∧ code ≤ 65535 ∧ (dv ≤ 0 → code = 0) ∧ ((vref : Int) ≤ dv → code = 65535)
      ∧ (0 ≤ dv → 65536 * dv ≤ 65535 * vref → 2 * (65536 * dv - code * vref : Int).natAbs ≤ vref)
      ∧ ((s.conv cv).discard = true → u.res t e = s.res t e ∧ u.on (R.ACQ_SEQ_CTL_cnt_sat t) = s.on (R.ACQ_SEQ_CTL_cnt_sat t))
      ∧ ((s.conv cv).discard = false → (u.res t e).last = code
        ∧ ((s.res t e).count ≠ 16777215 → (u.res t e).count = (s.res t e).count + 1 ∧ (u.res t e).sum = (s.res t e).sum + code)
        ∧ ((s.res t e).count = 16777215 → (u.res t e).count = 16777215 ∧ (u.res t e).sum = (s.res t e).sum)
        ∧ u.on (R.ACQ_SEQ_CTL_cnt_sat t) = (s.on (R.ACQ_SEQ_CTL_cnt_sat t) || (u.res t e).count == 16777215))
      ∧ (∀ k, k ≠ 32 * t + e → tget u.acq.res k { } = tget s.acq.res k { })
      ∧ (s.get (R.ACQ_SEQ_CTL_len t) ≠ 0 → e + 1 < 32 → e + 1 < (s.conv t).len → u.get (R.ACQ_SEQ_CTL_pos t) = e + 1
        ∧ (s.retired cv = false → (s.conv cv).stopped = false → (u.conv cv).slot
          = some (if t = cv ∧ s.retired (partnerOf cv) = true ∧ (s.conv (partnerOf cv)).stopped = false then partnerOf cv else cv)))
      ∧ Within [.regs, .acq] s u)
  ∧ (∀ (s : State) (cv e : Nat), s.live = true → cv < 16 → e < 32 →
    (∀ w : Word, s.glazed (R.ACQ_SEQ cv e) = true → exec (.seqEntryWrite cv e w) s = .next s)
    ∧ (∀ w : Word, s.glazed (R.ACQ_SEQ cv e) = false → ∃ t, exec (.seqEntryWrite cv e w) s = .next t ∧ t.word (R.ACQ_SEQ cv e) = w &&& 0x001FFFFF
      ∧ t.res cv e = (if (R.ACQ_SEQ_chan cv e).of w ≠ s.get (R.ACQ_SEQ_chan cv e) ∨ (R.ACQ_SEQ_acq cv e).of w ≠ s.get (R.ACQ_SEQ_acq cv e)
        then { s.res cv e with count := 0, sum := 0 } else s.res cv e)
      ∧ WordsBut [R.ACQ_SEQ cv e] s t ∧ Within [.regs, .acq] s t)
    ∧ (∀ link req, link < 4 → s.reserved (R.ACQ_RES cv e) = false → s.mayRead (s.roleOf link req) (R.ACQ_RES cv e) = false →
      ∃ t, exec (.resultSnapshot link req cv e) s = .next t ∧ tget t.answers link { } = { code := 1, words := [0] }
        ∧ t.acq = s.acq ∧ WordsBut [R.BOOT_ERR_CNT] s t ∧ Within [.regs, .answers] s t)
    ∧ (∀ link req, link < 4 → s.reserved (R.ACQ_RES cv e) = false → s.mayRead (s.roleOf link req) (R.ACQ_RES cv e) = true →
      ∃ t, exec (.resultSnapshot link req cv e) s = .next t
      ∧ t.get (R.ACQ_RES_last cv e) = (s.res cv e).last % 2 ^ 16 ∧ t.get (R.ACQ_RES_count cv e) = (s.res cv e).count % 2 ^ 24
      ∧ t.get (R.ACQ_RES_sum_lo cv e) = (s.res cv e).sum % 2 ^ 32 ∧ t.get (R.ACQ_RES_sum_hi cv e) = (s.res cv e).sum / 2 ^ 32 % 2 ^ 8
      ∧ tget t.answers link { } = { words := [t.word (R.ACQ_RES cv e)] }
      ∧ t.res cv e = (if s.on (R.ACQ_SEQ_bind cv e) then s.res cv e else { s.res cv e with count := 0, sum := 0 })
      ∧ WordsBut [R.ACQ_RES cv e, R.ACQ_RES cv e + 4, R.ACQ_RES cv e + 8, R.ACQ_RES cv e + 12] s t ∧ Within [.regs, .acq, .answers] s t)
    ∧ (∀ link req, link < 4 → (∀ a ∈ [R.ACQ_FB cv e, R.ACQ_FB cv e + 4], s.reserved a = false ∧ s.mayRead (s.roleOf link req) a = true) →
      ∃ t, exec (.frameRecordRead link req cv e) s = .next t
        ∧ tget t.answers link { } = { words := s.words (R.ACQ_FB cv e) 2 } ∧ WordsBut [] s t ∧ Within [.regs, .answers] s t))

/-- R110, R111, R112: a check that is due while its pair is busy, stopped, retired or has no usable source is skipped and shown,
else it is wanted; one whose pair stops before it runs is skipped too (R113); a check whose codes differ by more than chk_tol
counts a mismatch and leads to the reference test, one within it clears check_fail; the reference test records its outcome,
raises its source, and retires the converter that it names if retire_en is set, else sets check_fail. R113: a restore request of
a pair with a retired converter is wanted; the test of a retired converter whose reference is within ref_tol lets it return at
its next pass, and one outside it changes nothing but the pair's want. That one whose table is stopped, and so starts no pass,
returns at once is the model's choice (log entry 27). -/
def Obligations.PairsAreCheckedRetiredAndRestored : Prop :=
  (∀ (s : State) (p : Nat), s.live = true → p < 8 →
    (s.on (R.ACQ_PAIR_CFG_chk_en p) = true →
      let skip := s.want p ≠ .nothing ∨ (s.conv (2 * p)).stopped = true ∨ (s.conv (2 * p + 1)).stopped = true ∨ s.retired (2 * p) = true
        ∨ s.retired (2 * p + 1) = true ∨ (p ≠ 7 ∧ chanOk p (s.get (R.ACQ_PAIR_CFG_chk_src p)) = false)
      ∃ t, exec (.pairCheckDue p) s = .next t
        ∧ (skip → t.on (R.ACQ_PAIR_STAT_chk_skip p) = true ∧ WordsBut [R.ACQ_PAIR_STAT p] s t ∧ Within [.regs] s t)
        ∧ (¬ skip → t.want p = .check ∧ WordsBut [] s t ∧ Within [.acq] s t))
    ∧ (∀ v agnd eLo eHi vref, 0 < vref → s.want p = .check → s.pairOut p = true → ∃ t, exec (.pairCheck p v agnd eLo eHi vref) s = .next t
      ∧ t.want p = .nothing ∧ t.on (R.ACQ_PAIR_STAT_chk_skip p) = true ∧ WordsBut [R.ACQ_PAIR_STAT p] s t ∧ Within [.regs, .acq] s t)
    ∧ (∀ v agnd eLo eHi vref, 0 < vref → s.want p = .check → s.pairOut p = false → s.joint (2 * p) = true → s.joint (2 * p + 1) = true →
      let d := s.channelLevel p (if p = 7 then 0x0F else s.get (R.ACQ_PAIR_CFG_chk_src p)) v - agnd
      let lo := adcCode (d + eLo) vref
      let hi := adcCode (d + eHi) vref
      ∃ t, exec (.pairCheck p v agnd eLo eHi vref) s = .next t
      ∧ (s.get (R.ACQ_PAIR_TOL_chk_tol p) < (lo - hi) + (hi - lo) → t.want p = .reference
        ∧ t.get (R.ACQ_PAIR_STAT_mismatches p) = min (s.get (R.ACQ_PAIR_STAT_mismatches p) + 1) 255)
      ∧ ((lo - hi) + (hi - lo) ≤ s.get (R.ACQ_PAIR_TOL_chk_tol p) → t.want p = .nothing
        ∧ t.get (R.ACQ_PAIR_STAT_last_outcome p) = 0 ∧ t.on (R.ACQ_PAIR_STAT_check_fail p) = false
        ∧ (t.conv (2 * p)).idle = false ∧ (t.conv (2 * p + 1)).idle = false)
      ∧ WordsBut [R.ACQ_PAIR_STAT p] s t ∧ Within [.regs, .acq] s t)
    ∧ (∀ dLo dHi vref, 0 < vref → s.want p = .reference → s.joint (2 * p) = true → s.joint (2 * p + 1) = true →
      let lo := adcCode dLo vref
      let hi := adcCode dHi vref
      ∃ t, exec (.referenceTest p dLo dHi vref) s = .next t
      ∧ t.want p = .nothing ∧ tbit t.evr.pulse (384 + p) = true
      ∧ t.get (R.ACQ_PAIR_STAT_last_outcome p)
        = (if s.refOut p lo && s.refOut p hi then 3 else if s.refOut p lo || s.refOut p hi then 1 else 2)
      ∧ (s.refOut p lo = s.refOut p hi ∨ s.on (R.ACQ_PAIR_CFG_retire_en p) = false → t.on (R.ACQ_PAIR_STAT_check_fail p) = true)
      ∧ (s.refOut p lo = true → s.refOut p hi = false → s.on (R.ACQ_PAIR_CFG_retire_en p) = true →
        t.retired (2 * p) = true ∧ t.on (R.ACQ_PAIR_STAT_retired_lo p) = true ∧ t.on (R.ACQ_SEQ_CTL_host (2 * p + 1)) = true)
      ∧ (s.refOut p lo = false → s.refOut p hi = true → s.on (R.ACQ_PAIR_CFG_retire_en p) = true →
        t.retired (2 * p + 1) = true ∧ t.on (R.ACQ_PAIR_STAT_retired_hi p) = true ∧ t.on (R.ACQ_SEQ_CTL_host (2 * p)) = true)
      ∧ WordsBut [R.ACQ_PAIR_STAT p, R.ACQ_SEQ_CTL (2 * p), R.ACQ_SEQ_CTL (2 * p + 1), R.ACQ_STATUS] s t ∧ Within [.regs, .acq, .evr] s t))
  ∧ (∀ (s : State) (p : Nat), s.live = true → p < 8 →
    (∃ t, exec (.restoreRequest p) s = .next t
      ∧ t.want p = (if s.retired (2 * p) || s.retired (2 * p + 1) then .restore else s.want p) ∧ Within [.acq] s t)
    ∧ (∀ dv vref, 0 < vref → let code := adcCode dv vref
      let cv := if s.retired (2 * p) then 2 * p else 2 * p + 1
      s.want p = .restore → s.retired cv = true → s.joint (partnerOf cv) = true → ∃ t, exec (.restoreTest p dv vref) s = .next t
        ∧ t.want p = .nothing
        ∧ (s.refOut p code = true → t.retired cv = true ∧ (t.conv cv).restored = (s.conv cv).restored ∧ WordsBut [] s t)
        ∧ (s.refOut p code = false → (s.conv cv).stopped = false → (t.conv cv).restored = true ∧ t.retired cv = true ∧ WordsBut [] s t)
        ∧ (s.refOut p code = false → (s.conv cv).stopped = true → t.retired cv = false ∧ t.on (R.ACQ_SEQ_CTL_host (partnerOf cv)) = false)
        ∧ Within [.regs, .acq] s t))

/-- R115 to R118: an urgent request starts its conversion at once, waits one deep behind another, or is merged and counted; one
on an unusable channel is turned away and counted, which is judged as it arrives by the model's choice, as is that a converter
that serves its retired partner holds one request of each and runs its own first (log entry 27); its end stores the code with
its sequence number, says whether the partner converted, raises the pair's source and enters Q29, or is dropped and counted
there. -/
def Obligations.UrgentConversions : Prop :=
  ∀ (s : State), s.live = true →
    (∀ cv, cv < 16 → (s.conv cv).requested = true →
      let v := if s.retired cv then partnerOf cv else cv
      let held := if v = cv then (s.conv v).heldOwn else (s.conv v).heldHost
      let usable := chanOk (cv / 2) (s.get (R.ACQ_URG_CFG_chan cv))
      ∃ t, exec (.urgentRequest cv) s = .next t ∧ (t.conv cv).requested = false
        ∧ (usable = false → t.on (R.ACQ_SEQ_CTL_bad_entry cv) = true
          ∧ t.get R.ACQ_ERR_CNT_skipped = min (s.get R.ACQ_ERR_CNT_skipped + 1) 255 ∧ (t.conv v).urgentOf = (s.conv v).urgentOf)
        ∧ (usable = true → (s.conv v).urgentOf = none → (t.conv v).urgentOf = some cv ∧ (t.conv v).discard = false ∧ (t.conv v).idle = false)
        ∧ (usable = true → (s.conv v).urgentOf ≠ none → held = true →
          t.get R.ACQ_ERR_CNT_urg_merged = min (s.get R.ACQ_ERR_CNT_urg_merged + 1) 255)
        ∧ (usable = true → (s.conv v).urgentOf ≠ none → held = false →
          (if v = cv then (t.conv v).heldOwn else (t.conv v).heldHost) = true ∧ WordsBut [] s t)
        ∧ WordsBut [R.ACQ_SEQ_CTL cv, R.ACQ_ERR_CNT] s t ∧ Within [.regs, .acq] s t)
    ∧ (∀ v cv u agnd vref, v < 16 → cv < 16 → 0 < vref → (s.conv v).urgentOf = some cv →
      let code := adcCode (s.channelLevel (v / 2) (s.conv v).urgChan u - agnd) vref
      ∃ t, exec (.urgentDone v u agnd vref) s = .next t
      ∧ t.get (R.ACQ_URG_code cv) = code ∧ t.on (R.ACQ_URG_new cv) = true ∧ t.on (R.ACQ_URG_by_partner cv) = (v != cv)
      ∧ t.get (R.ACQ_URG_seq cv) = (s.get (R.ACQ_URG_seq cv) + 1) % 256 ∧ tbit t.evr.pulse (392 + cv / 2) = true
      ∧ (t.conv v).urgentOf = (if (s.conv v).heldOwn then some v else if (s.conv v).heldHost then some (partnerOf v) else none)
      ∧ (s.acq.q29.length < 16 → t.acq.q29 = s.acq.q29 ++ [⟨cv, code, (s.get (R.ACQ_URG_seq cv) + 1) % 256⟩])
      ∧ (16 ≤ s.acq.q29.length → t.acq.q29 = s.acq.q29 ∧ t.get R.ACQ_ERR_CNT_q29_drop = min (s.get R.ACQ_ERR_CNT_q29_drop + 1) 255)
      ∧ WordsBut [R.ACQ_URG cv, R.ACQ_ERR_CNT] s t ∧ Within [.regs, .acq, .evr, .obs] s t)

/-- R121, R122, R123, R126, R131, R135: an enabled side compares the AIN level that its comparator watches: above th_hi (below
th_lo) its raw output asserts, its latch sets, counts and drives its source unless a blanking window masks it, and every armed
domain of its mask is tripped; beyond the hysteresis point (17 to 31 act as 16) the raw output alone falls; between, it keeps. A
side whose enable is 0 is not asserted, and a tie test holds the comparator off its input. A crossing is a new level of one AIN
input: the comparator that watches it compares both sides. Levels count 2.5 V / 1,024,000 (log entry 38). R126, R135: at the end
of a blanking window the window closes, and a side that asserted in it and still asserts sets its latch; while a tie test holds
the latches the window closes alone, and the test's end settles them. -/
def Obligations.ComparatorSidesAssertAndBlank : Prop :=
  ((∀ (s : State) (n : Nat) (hi : Bool), n < 96 →
    let raw := if hi then R.WIN_STATUS_raw_hi n else R.WIN_STATUS_raw_lo n
    let latch := if hi then R.WIN_STATUS_hi n else R.WIN_STATUS_lo n
    let cnt := if hi then R.WIN_STATUS_hi_cnt n else R.WIN_STATUS_lo_cnt n
    let mask := if hi then s.get (R.WIN_CFG_pd_hi n) else s.get (R.WIN_CFG_pd_lo n)
    let src := if hi then n else 96 + n
    let v := tnum s.pins.ain (16 * (n / 12) + s.get (R.WIN_CFG_src n))
    let h := 1024 * min (s.get (R.WIN_TH_hyst n)) 16
    let beyond := if hi then 1000 * s.get (R.WIN_TH_th_hi n) < v else v < 1000 * s.get (R.WIN_TH_th_lo n)
    let past := if hi then v + h < 1000 * s.get (R.WIN_TH_th_hi n) else 1000 * s.get (R.WIN_TH_th_lo n) + h < v
    let t := s.compareSide n hi
    (s.tied n = true → t = s)
    ∧ (s.tied n = false → s.sideOn n hi = true → s.on raw = false → beyond → t.on raw = true
      ∧ ((s.cmp n).window = false → t.on latch = true
        ∧ t.get cnt = (if s.on latch then s.get cnt else min (s.get cnt + 1) 255)
        ∧ (s.on latch = false → tbit t.evr.level src = true ∧ tbit t.evr.pulse src = true))
      ∧ ((s.cmp n).window = true → t.on latch = s.on latch ∧ t.get cnt = s.get cnt
        ∧ (if hi then (t.cmp n).blankHi else (t.cmp n).blankLo) = true)
      ∧ (∀ d, d < 4 → s.on (R.WIN_PD_armed d) = true → mask / 2 ^ d % 2 = 1 → t.on (R.WIN_PD_tripped d) = true)
      ∧ (∀ a, a < 0x07000000 → a ≠ R.WIN_STATUS n → (∀ d, d < 4 → a ≠ R.WIN_PD d) → t.word a = s.word a)
      ∧ Within [.regs, .win, .evr, .gtp, .twn] s t)
    ∧ (s.tied n = false → s.on raw = true → (s.sideOn n hi = true → past) → t.on raw = false
      ∧ t.on latch = s.on latch ∧ t.get cnt = s.get cnt
      ∧ (∀ a, a < 0x07000000 → a ≠ R.WIN_STATUS n → t.word a = s.word a) ∧ Within [.regs, .win, .gtp] s t)
    ∧ (s.tied n = false → s.sideOn n hi = true → ¬ beyond → ¬ past → t.on raw = s.on raw
      ∧ (∀ a, a < 0x07000000 → t.word a = s.word a) ∧ Within [.regs, .win, .gtp] s t)
    ∧ (s.tied n = false → s.sideOn n hi = true → (s.on raw = true ∧ beyond) ∨ (s.on raw = false ∧ past) → t.on raw = s.on raw
      ∧ t.on latch = s.on latch ∧ (∀ a, a < 0x07000000 → a ≠ R.WIN_STATUS n → t.word a = s.word a) ∧ Within [.regs, .win, .gtp] s t)
    ∧ (s.tied n = false → s.sideOn n hi = false → s.on raw = false → t = s))
  ∧ ∀ (s : State) (a level : Nat), a < 128 →
    let s1 : State := { s with pins := { s.pins with ain := tset s.pins.ain a level } }
    ∃ t, exec (.thresholdCrossing a level) s = .next t ∧ tnum t.pins.ain a = level ∧ (∀ b, b ≠ a → tnum t.pins.ain b = tnum s.pins.ain b)
      ∧ (s.live = false → t = s1)
      ∧ (∀ n, s.live = true → n < 96 → n / 12 = a / 16 → 16 * (n / 12) + s.get (R.WIN_CFG_src n) = a →
        (∀ m, m < 96 → m / 12 = a / 16 → 16 * (m / 12) + s.get (R.WIN_CFG_src m) = a → m = n) →
        t = (s1.compareSide n true).compareSide n false))
  ∧ (∀ (s : State) (n : Nat), s.live = true → n < 96 → (s.cmp n).window = true →
    ∃ t, exec (.blankingWindowEnd n) s = .next t ∧ (∀ m, m ≠ n → t.cmp m = s.cmp m)
      ∧ (s.tied n = false → t.cmp n = { s.cmp n with window := false, blankHi := false, blankLo := false }
        ∧ t.on (R.WIN_STATUS_hi n) = (s.on (R.WIN_STATUS_hi n) || ((s.cmp n).blankHi && s.on (R.WIN_STATUS_raw_hi n)))
        ∧ t.on (R.WIN_STATUS_lo n) = (s.on (R.WIN_STATUS_lo n) || ((s.cmp n).blankLo && s.on (R.WIN_STATUS_raw_lo n)))
        ∧ WordsBut [R.WIN_STATUS n] s t ∧ Within [.regs, .win, .evr] s t)
      ∧ (s.tied n = true → t.cmp n = { s.cmp n with window := false } ∧ Within [.win] s t))

/-- R128, R129, R130, R131, R133, R145: in START a domain whose comparators are resolved and of whose inputs none asserts arms;
its route destination acts on its level, so one that already stands trips it at once, with the source of its route as first
source (of several the lowest, log entry 38). The external trip input does nothing in a low pulse of less than 2 ns; a longer
one trips every armed domain of its mask, and one of 3 MOD ticks or more shows as its level and as source 504 too (R487). -/
def Obligations.DomainsArmAndTripOutside : Prop :=
  ∀ s : State, s.live = true →
    (∀ d, d < 4 → s.mode = 1 → s.on (R.WIN_PD_armed d) = false → s.domainUnresolved d = false → s.assertedInputs d = [] →
      ∃ t, exec (.domainArm d) s = .next t ∧ t.on (R.WIN_PD_armed d) = true
        ∧ (∀ a, a < 0x07000000 → a ≠ R.WIN_PD d → (s.dst (48 + d) = true → ∀ e, e < 4 → a ≠ R.WIN_PD e) → t.word a = s.word a)
        ∧ (s.dst (48 + d) = false → t.on (R.WIN_PD_tripped d) = s.on (R.WIN_PD_tripped d) ∧ Within [.regs, .evr, .gtp] s t)
        ∧ (s.dst (48 + d) = true → t.on (R.WIN_PD_tripped d) = true
          ∧ (s.on (R.WIN_PD_tripped d) = false → t.get (R.WIN_PD_first_src d) = s.holdingSource (48 + d) % 512 ∧ t.on (R.WIN_PD_via_route d) = true)
          ∧ Within [.regs, .evr, .gtp, .twn] s t))
    ∧ (∀ ps, ps < 2000 → exec (.extTripNFall true ps) s = .next s)
    ∧ (∀ ps, 2000 ≤ ps → s.on R.WIN_TRIP_EXT_asserted = false → s.pins.extTrip = false →
      let long : Prop := 3 * 10 ^ 12 * (s.planHz s.mplan).2 ≤ ps * (s.planHz s.mplan).1
      ∃ t, exec (.extTripNFall true ps) s = .next t ∧ (t.on R.WIN_TRIP_EXT_asserted = true ↔ long)
      ∧ (t.pins.extTrip = true ↔ long) ∧ (tbit t.evr.level 504 = true ↔ long)
      ∧ (∀ d, d < 4 → s.on (R.WIN_PD_armed d) = true → s.get R.WIN_TRIP_EXT_pd / 2 ^ d % 2 = 1 → t.on (R.WIN_PD_tripped d) = true)
      ∧ (∀ a, a < 0x07000000 → a ≠ R.WIN_TRIP_EXT → (∀ d, d < 4 → a ≠ R.WIN_PD d) → t.word a = s.word a)
      ∧ Within [.regs, .evr, .gtp, .twn, .pins] s t)
    ∧ (∀ ps, ∃ t, exec (.extTripNFall false ps) s = .next t ∧ t.on R.WIN_TRIP_EXT_asserted = false ∧ tbit t.evr.level 504 = false
      ∧ t.pins = { s.pins with extTrip := false } ∧ WordsBut [R.WIN_TRIP_EXT] s t ∧ Within [.regs, .evr, .pins] s t)

/-- R134 to R138: a readback test of an idle engine starts, and in a slot of CV(2p) that nothing else has taken it finds whether
the two DAC codes lie within rb_tol of 64 times their settings, and the converter goes on with its sequence after it; a tie test
finds whether both raw outputs were seen, and one that is not allowed answers result 2 at once; a matrix test is allowed in TEST
alone with every gate port disabled, trips the domains that see its input armed or not, and passes if then exactly those of the
mask stand tripped. R135, R137: a test that ends leaves its result, frees the comparator, and a failed one counts, shows and
raises 511; after a tie test the comparator follows its input again. The readback of an automatic sweep is followed by the tie
of its comparator, and a manual start that waited then runs. The sweep begins with the next comparator that test_en names. -/
def Obligations.ComparatorTestsRunAndEnd : Prop :=
  (∀ s : State, s.live = true →
    (∀ n dHi dLo vref, n < 96 → 0 < vref →
      s.on R.WIN_TEST_busy = false ∨ (s.win.run = some (.readback n) ∧ s.win.outcome = none) →
      let near (code set : Nat) : Prop := (code - 64 * set) + (64 * set - code) ≤ s.get R.WIN_TEST_CFG_rb_tol
      let hiOk := near (adcCode dHi vref) (s.get (R.WIN_TH_th_hi n))
      let loOk := near (adcCode dLo vref) (s.get (R.WIN_TH_th_lo n))
      let c := s.conv (2 * (n / 12))
      let ready := (c.idle = true ∨ (c.slot = none ∧ c.discard = false)) ∧ c.urgentOf = none ∧ s.want (n / 12) = .nothing
      ∃ t, exec (.readbackTest n dHi dLo vref) s = .next t ∧ t.on R.WIN_TEST_busy = true ∧ t.win.run = some (.readback n)
        ∧ (s.on R.WIN_TEST_busy = false → t.on (R.WIN_STATUS_in_test n) = true ∧ t.win.runAuto = false)
        ∧ (s.on R.WIN_TEST_busy = true → t.win.runAuto = s.win.runAuto ∧ WordsBut [] s t)
        ∧ (¬ ready → t.win.outcome = none)
        ∧ (ready →
          (t.conv (2 * (n / 12))).idle = false
          ∧ (n < 80 → (t.win.outcome = some 0 ↔ hiOk ∧ loOk) ∧ (t.win.outcome = some 1 ↔ ¬ (hiOk ∧ loOk)))
          ∧ (80 ≤ n → (t.win.outcome = some 3 ↔ hiOk) ∧ (t.win.outcome = some 1 ↔ ¬ hiOk)))
        ∧ (∀ cv, cv ≠ 2 * (n / 12) → t.conv cv = s.conv cv)
        ∧ WordsBut [R.WIN_TEST, R.WIN_STATUS n] s t ∧ Within [.regs, .acq, .win] s t)
    ∧ (∀ n a b, n < 96 → s.on R.WIN_TEST_busy = false →
      let skipHi := s.get (R.WIN_TH_th_hi n) = 1023 ∧ s.get (R.WIN_TH_hyst n) ≠ 0
      let skipLo := s.get (R.WIN_TH_th_lo n) = 0
      (s.tieAllowed n = true → ∃ t, exec (.tieTest n a b) s = .next t ∧ t.win.run = some (.tie n) ∧ t.on (R.WIN_STATUS_in_test n) = true
        ∧ (t.win.outcome = some 0 ↔ (a = true ∨ skipHi) ∧ (b = true ∨ skipLo)) ∧ WordsBut [R.WIN_TEST, R.WIN_STATUS n] s t
        ∧ Within [.regs, .win] s t)
      ∧ (s.tieAllowed n = false → s.win.run = none → ∃ t, exec (.tieTest n a b) s = .next t ∧ t.get R.WIN_TEST_result = 2
        ∧ t.on R.WIN_TEST_busy = false ∧ WordsBut [R.WIN_TEST] s t ∧ Within [.regs] s t))
    ∧ (∀ src seen, src < 240 ∨ src = 504 → s.on R.WIN_TEST_busy = false →
      (s.testMode = true → ∃ t, exec (.matrixTest src seen) s = .next t ∧ t.win.run = some (.matrix src)
        ∧ (t.win.outcome = some 0 ∨ t.win.outcome = some 1)
        ∧ (t.win.outcome = some 0 ↔ ∀ d, d < 4 →
          (t.on (R.WIN_PD_tripped d) = true ↔ s.matrixMask src / 2 ^ d % 2 = 1))
        ∧ (∀ d, d < 4 → s.on (R.WIN_PD_tripped d) = true → t.on (R.WIN_PD_tripped d) = true)
        ∧ (∀ d, d < 4 → seen / 2 ^ d % 2 = 1 → t.on (R.WIN_PD_tripped d) = true)
        ∧ (∀ a, a < 0x07000000 → a ≠ R.WIN_TEST → (∀ d, d < 4 → a ≠ R.WIN_PD d) → t.word a = s.word a)
        ∧ Within [.regs, .win, .evr, .gtp, .twn] s t)
      ∧ (s.testMode = false → s.win.run = none → ∃ t, exec (.matrixTest src seen) s = .next t ∧ t.get R.WIN_TEST_result = 2
        ∧ WordsBut [R.WIN_TEST] s t ∧ Within [.regs] s t)))
  ∧ (∀ s : State,
    (∀ n r, n < 96 → s.win.run = some (.tie n) → s.win.outcome = some r → s.win.manualWaits = false → ∃ t, exec .winTestDone s = .next t
      ∧ t.get R.WIN_TEST_result = r % 4 ∧ t.on R.WIN_TEST_busy = false ∧ t.on (R.WIN_STATUS_in_test n) = false ∧ t.win.run = none
      ∧ (r = 1 → t.on (R.WIN_STATUS_tie_fail n) = true ∧ t.get R.WIN_TEST_STAT_last_fail = n ∧ tbit t.evr.pulse 511 = true
        ∧ t.get R.WIN_TEST_STAT_fails = min (s.get R.WIN_TEST_STAT_fails + 1) 255)
      ∧ (∀ a, a < 0x07000000 → a ∉ [R.WIN_TEST, R.WIN_TEST_STAT, R.WIN_STATUS n] → (∀ d, d < 4 → a ≠ R.WIN_PD d) → t.word a = s.word a)
      ∧ Within [.regs, .win, .evr, .gtp, .twn] s t)
    ∧ (∀ n r m, n < 96 → s.win.run = some (.tie n) → s.win.outcome = some r → s.win.manualWaits = true →
      s.get R.WIN_TEST_cmd = 0 ∨ s.get R.WIN_TEST_cmd = 3 → s.get R.WIN_TEST_target = m → m < 96 → ∃ t, exec .winTestDone s = .next t
      ∧ t.win.run = some (.readback m) ∧ t.win.runAuto = false ∧ t.win.manualWaits = false ∧ t.on R.WIN_TEST_busy = true
      ∧ t.on (R.WIN_STATUS_in_test m) = true ∧ t.get R.WIN_TEST_result = r % 4
      ∧ (r = 1 → t.on (R.WIN_STATUS_tie_fail n) = true ∧ tbit t.evr.pulse 511 = true) ∧ Within [.regs, .win, .evr, .gtp, .twn] s t)
    ∧ (∀ n r, n < 96 → s.win.run = some (.readback n) → s.win.outcome = some r → s.win.runAuto = false → s.win.manualWaits = false →
      ∃ t, exec .winTestDone s = .next t ∧ t.get R.WIN_TEST_result = r % 4 ∧ t.on R.WIN_TEST_busy = false
        ∧ t.on (R.WIN_STATUS_in_test n) = false ∧ t.win.run = none ∧ (r = 1 → t.on (R.WIN_STATUS_rb_fail n) = true)
        ∧ WordsBut [R.WIN_TEST, R.WIN_TEST_STAT, R.WIN_STATUS n] s t ∧ Within [.regs, .win, .evr] s t)
    ∧ (∀ n r, n < 96 → s.win.run = some (.readback n) → s.win.outcome = some r → s.win.runAuto = true → s.win.manualWaits = false →
      s.get (R.WIN_CFG_pd_hi n) = 0 → s.get (R.WIN_CFG_pd_lo n) = 0 → ∃ t, exec .winTestDone s = .next t ∧ t.get R.WIN_TEST_result = r % 4
        ∧ t.win.run = some (.tie n) ∧ t.win.runAuto = true ∧ t.win.outcome = none ∧ t.on R.WIN_TEST_busy = true
        ∧ t.on (R.WIN_STATUS_in_test n) = true ∧ (r = 1 → t.on (R.WIN_STATUS_rb_fail n) = true)
        ∧ WordsBut [R.WIN_TEST, R.WIN_TEST_STAT, R.WIN_STATUS n] s t ∧ Within [.regs, .win, .evr] s t)
    ∧ (∀ n, s.live = true → s.get R.WIN_TEST_CFG_auto_period ≠ 0 → s.on R.WIN_TEST_busy = false → s.sweepNext s.win.sweepPos = some n →
      ∃ t, exec .autoSweepStep s = .next t ∧ t.win.run = some (.readback n) ∧ t.win.runAuto = true ∧ t.win.sweepPos = (n + 1) % 96
        ∧ t.on R.WIN_TEST_busy = true ∧ t.on (R.WIN_STATUS_in_test n) = true ∧ s.on (R.WIN_CFG_test_en n) = true
        ∧ WordsBut [R.WIN_TEST, R.WIN_STATUS n] s t ∧ Within [.regs, .win] s t))

/-- R139 to R145: a written entry is stored without its reserved bits and comes into force at the router's next sample, with a
filter that starts at the previous sample and has seen no edge; a word naming a reserved destination is refused with 0x0C and
counted. The router takes a source's sample, a held pulse included; a source with one level route that no filter delays drives
that route's destination with it, inverted where the route says so, and an event input that rises is sticky. A filter acts on
the inverted source: a debounce (type 0) asserts when its time has passed with its input asserted without a break, at once with
time 0, and deasserts with it; a count (1) asserts while n rising edges or more lie in its window; a stretch (2) asserts with
its input and, once that has deasserted, holds until its time has passed since the latest assertion. A filter's expiry passes
nothing in an edge mode until the source of a fresh route has changed. An entry that a glaze patches is refused with 0x01
(R337). -/
def Obligations.RoutesCarryTheirSources : Prop :=
  ∀ s : State, s.live = true → s.wf = true →
    let kept (t : State) : Prop := ∀ a, a < 0x04000000 → (∀ d, d < 4 → a ≠ R.WIN_PD d) → t.word a = s.word a
    let u := s.routesNow
    (s.evr.wrote = [] → u = s)
    ∧ (∀ i old, i < 4096 → s.evr.wrote = [(i, old)] → u.evr.wrote = [] ∧ (tget u.evr.filt i { }).fresh = true
      ∧ (tget u.evr.filt i { }).inp = (tbit s.evr.prev (s.get (R.EVR_ROUTE_src i)) != s.on (R.EVR_ROUTE_invert i))
      ∧ (tget u.evr.filt i { }).edges = [] ∧ (∀ j, j ≠ i → tget u.evr.filt j { } = tget s.evr.filt j { }) ∧ kept u)
    ∧ (∀ src, src < 512 → s.modStopped = false →
      let now := tbit u.evr.level src || tbit u.evr.pulse src
      ∃ t, exec (.routeDelivery src) s = .next t ∧ tbit t.evr.prev src = now ∧ t.evr.wrote = [] ∧ kept t
        ∧ (∀ i d, i < 4096 → s.on (R.EVR_ROUTE_valid i) = true → s.get (R.EVR_ROUTE_src i) = src → s.get (R.EVR_ROUTE_filt i) = 0 →
          s.get (R.EVR_ROUTE_dst i) = d → d < 211 → s.get (R.EVR_ROUTE_mode i) = 0 →
          (∀ j, j < 4096 → j ≠ i → s.on (R.EVR_ROUTE_valid j) = true → s.get (R.EVR_ROUTE_src j) ≠ src ∧ s.get (R.EVR_ROUTE_dst j) ≠ d) →
          t.dst d = (now != s.on (R.EVR_ROUTE_invert i))
          ∧ (70 ≤ d → d < 134 → s.dst d = false → t.dst d = true → t.on (R.ENG_EI_sticky (d - 70)) = true))
        ∧ (∀ i k, i < 4096 → s.on (R.EVR_ROUTE_valid i) = true → s.get (R.EVR_ROUTE_src i) = src → s.get (R.EVR_ROUTE_filt i) = k → k ≠ 0 →
          let f := tget u.evr.filt i { }
          let g := tget t.evr.filt i { }
          let x := now != s.on (R.EVR_ROUTE_invert i)
          let rise := x && !f.inp
          let ticks := s.nsTicks (10 * s.get (R.EVR_FILT_time k))
          g.inp = x ∧ 10 * s.get (R.EVR_FILT_time k) * (s.planHz s.mplan).1 ≤ ticks * (10 ^ 9 * (s.planHz s.mplan).2)
          ∧ (s.get (R.EVR_FILT_type k) = 0 →
            (x = false → g.out = false ∧ g.timing = false)
            ∧ (rise = true → s.get (R.EVR_FILT_time k) = 0 → g.out = true)
            ∧ (rise = true → s.get (R.EVR_FILT_time k) ≠ 0 → g.out = f.out ∧ g.timing = true)
            ∧ (x = true → rise = false → g.out = f.out ∧ g.timing = f.timing))
          ∧ (s.get (R.EVR_FILT_type k) = 1 →
            (∀ e, e ∈ g.edges ↔ s.clk.modTick < e + max 1 ticks ∧ (e ∈ f.edges ∨ (rise = true ∧ e = s.clk.modTick)))
            ∧ g.out = decide (max 1 (s.get (R.EVR_FILT_n k)) ≤ g.edges.length))
          ∧ (s.get (R.EVR_FILT_type k) = 2 →
            (x = true → g.out = true) ∧ (x = false → g.out = (f.out && f.minimum) ∧ g.minimum = f.minimum)
            ∧ (rise = true → g.minimum = decide (s.get (R.EVR_FILT_time k) ≠ 0))))
        ∧ Within [.regs, .acq, .evr, .gtp, .seq, .fab, .twn, .obs] s t)
    ∧ (∀ i, i < 4096 → s.on (R.EVR_ROUTE_valid i) = true → s.on (R.EVR_ROUTE_filt i) = true → s.modStopped = false →
      let f := tget u.evr.filt i { }
      let k := s.get (R.EVR_ROUTE_filt i)
      ∃ t g, exec (.filterExpiry i) s = .next t ∧ tget t.evr.filt i { } = g
        ∧ (s.get (R.EVR_FILT_type k) = 0 → g = { f with timing := false, out := f.out || (f.timing && f.inp) })
        ∧ (s.get (R.EVR_FILT_type k) = 1 → g.out = decide (max 1 (s.get (R.EVR_FILT_n k)) ≤ g.edges.length)
          ∧ ∀ e, e ∈ g.edges ↔ s.clk.modTick < e + max 1 (s.nsTicks (10 * s.get (R.EVR_FILT_time k))) ∧ e ∈ f.edges)
        ∧ (s.get (R.EVR_FILT_type k) = 2 → g = { f with minimum := false, out := f.inp })
        ∧ (∀ j, j ≠ i → tget t.evr.filt j { } = tget u.evr.filt j { }) ∧ kept t
        ∧ (s.get (R.EVR_ROUTE_mode i) = 0 → s.get (R.EVR_ROUTE_dst i) < 211 → tbit t.evr.held i = g.out)
        ∧ (f.fresh = true → s.get (R.EVR_ROUTE_mode i) ≠ 0 → ∀ d, t.dst d = u.dst d)
        ∧ Within [.regs, .acq, .evr, .gtp, .seq, .fab, .twn, .obs] s t)
    ∧ (∀ link req i w, i < 4096 → s.linkOpen link = true → s.reserved (R.EVR_ROUTE i) = false →
      (s.glazed (R.EVR_ROUTE i) = true → ∃ t, exec (.routeEntryWrite link req i w) s = .next t ∧ tget t.answers link { } = { code := 1 }
        ∧ WordsBut [R.BOOT_ERR_CNT] s t ∧ Within [.regs, .answers] s t)
      ∧ (s.writeForbidden link req (R.EVR_ROUTE i) = false → routeRefused w = true →
        ∃ t, exec (.routeEntryWrite link req i w) s = .next t ∧ tget t.answers link { } = { code := 0x0C }
        ∧ t.get R.BOOT_ERR_CNT_access = min (s.get R.BOOT_ERR_CNT_access + 1) 255 ∧ WordsBut [R.BOOT_ERR_CNT] s t
        ∧ Within [.regs, .answers] s t)
      ∧ (s.writeForbidden link req (R.EVR_ROUTE i) = false → routeRefused w = false →
        ∃ t, exec (.routeEntryWrite link req i w) s = .next t ∧ tget t.answers link { } = { }
        ∧ t.word (R.EVR_ROUTE i) = w &&& 0x80FFFFFF ∧ t.evr = { s.evr with wrote := tset s.evr.wrote i (s.routeNow i) }
        ∧ WordsBut [R.EVR_ROUTE i] s t ∧ Within [.regs, .evr, .answers] s t))

/-- R17, R165, R166, R168, R170: a latch counts for its source, is no longer due, and opens a frame of every context that takes
part and whose imports are sound; the frame is ready once its records and imports are copied; the ready context of earliest
deadline starts on the lowest free lane with 8 start cycles. R24, R29, R105, R107, R149, R166, R336 to R340: at a latch every
entry bound to the source forms its record of the last code, the 16-fold mean, the count and the four flags, and starts anew; a
context's pending values and the parameter writes of the source are published. A composition collects the words that the
outgoing and the incoming glazes patch and the sources that these concern, each word the base under the mode's glaze under the
auxiliaries' in ascending order. A source that swaps puts its words of the engine's stores and of the board in force, heals them
and shows in the composition; every source that has not swapped reads on what it read. R169, R170, R173, R250: a context whose
program is done and whose queues have room commits: its working values become pending, its OUTs enter the commit queues in
order, its lane is free and its index shows; without room it waits, counted, and commits once there is room. Its commit step
takes 8 cycles, and cycles that pass while it waits add to its frame as stalls. Of another context's frame it changes at most
the tracked values that wait for that frame's end (R194). -/
def Obligations.FramesOpenStartAndCommit : Prop :=
  (∀ s : State, s.live = true →
    (∀ f one two, f < 16 → tbit s.frm.due f = true →
      let u := s.latchFirst.wrapsNow
      ∃ t, exec (.frameLatch f one two) s = .next t ∧ tnum t.frm.total f = tnum u.frm.total f + 1
        ∧ tbit t.frm.due f = false ∧ tbit t.frm.published f = false
        ∧ (∀ g, g ≠ f → tnum t.frm.total g = tnum u.frm.total g ∧ tbit t.frm.due g = tbit u.frm.due g)
        ∧ (∀ c, c < 64 → one = [] → two = [] → (u.ctx c).present = true → u.srcOf c = f → u.enters c (u.frameIndex f) = true →
          u.mayOpen c = true → (∀ x, x ∈ (u.ctx c).imports → u.poisonedAt (eccKey 3 (R.S x)) = false) →
          (t.fr c).phase = .copying ∧ (t.fr c).index = u.frameIndex f ∧ (t.fr c).latchNo = tnum u.frm.total f + 1 ∧ (t.fr c).pointDone = false)
        ∧ Within [.regs, .ram, .clk, .acq, .win, .evr, .frm, .eng, .grd, .mod, .gtp, .mtr, .seq, .gov, .fab, .twn, .obs, .free] s t)
    ∧ (∀ c, c < 64 → (s.fr c).phase = .copying → s.heldByMirror c = false → ∃ t, exec (.contextReady c) s = .next t
      ∧ t.fr c = { s.fr c with phase := .ready } ∧ (∀ d, d ≠ c → t.ctx d = s.ctx d)
      ∧ t.get R.ENG_STATUS_ready = t.readyCtxs.length % 64 ∧ WordsBut [R.ENG_STATUS] s t ∧ Within [.regs, .eng] s t)
    ∧ (∀ c l, c < 64 → (s.fr c).phase = .ready → s.firstDue c = true → s.mayRun c = true → l < 8 → s.laneBusy l = false →
      (∀ k, k < l → s.laneBusy k = true) → ∃ t, exec (.contextDispatch c) s = .next t
        ∧ t.fr c = { s.fr c with phase := .running, lane := l, pc := 0, cycles := 8, sch := s.schStartAll c }
        ∧ (∀ d, d ≠ c → t.ctx d = s.ctx d) ∧ t.laneBusy l = true ∧ t.on (R.ENG_CTX_CTL_running c) = true
        ∧ (∀ k, k ≠ l → k < 8 → t.laneBusy k = s.laneBusy k) ∧ Within [.regs, .eng, .obs] s t))
  ∧ ((∀ (s : State) (f cv e : Nat), s.live = true → s.wf = true → f < 16 → cv < 16 → e < 32 → tbit s.frm.due f = true →
    let u := s.latchFirst.wrapsNow
    let r := u.res cv e
    u.on (R.ACQ_SEQ_bind cv e) = true → u.get (R.ACQ_SEQ_fsrc cv e) = f →
    ∃ t m, exec (.frameLatch f [] []) s = .next t ∧ t.res cv e = { r with count := 0, sum := 0 }
      ∧ (r.count = 0 → m = 16 * r.last)
      ∧ (r.count ≠ 0 → 2 * (m * r.count - 16 * r.sum : Int).natAbs ≤ r.count ∧ (2 * (m * r.count - 16 * r.sum : Int).natAbs = r.count → m % 2 = 0))
      ∧ t.word64 (R.ACQ_FB cv e) = (r.last + 2 ^ 16 * m + 2 ^ 36 * r.count + (if r.count = 0 then 2 ^ 60 else 0)
        + (if u.retired (2 * (cv / 2)) || u.retired (2 * (cv / 2) + 1) then 2 ^ 61 else 0) + (if r.count = 16777215 then 2 ^ 62 else 0)
        + 2 ^ 63 * u.get (R.ACQ_PAIR_STAT_check_fail (cv / 2))) % 2 ^ 64)
  ∧ (∀ (s : State) (c : Nat), let t := s.publishCtx c
    (t.ctx c).pend = [] ∧ (∀ x, (∀ p, p ∈ (s.ctx c).pend → p.1 ≠ x) → t.word (R.S x) = s.word (R.S x))
      ∧ (∀ p, p ∈ (s.ctx c).pend → (∀ q, q ∈ (s.ctx c).pend → q.1 = p.1 → q = p) →
        t.word (R.S p.1) = p.2 ∧ t.poisonedAt (eccKey 3 (R.S p.1)) = false)
      ∧ Within [.regs, .eng] s t)
  ∧ (∀ (s : State) (f : Nat), let t := s.publishParams f
    (∀ p, p ∈ t.eng.paramPend ↔ p ∈ s.eng.paramPend ∧ s.paramSrc p.1 ≠ some f)
      ∧ (∀ p, p ∈ s.eng.paramPend → s.paramSrc p.1 = some f → (∀ q, q ∈ s.eng.paramPend → q.1 = p.1 → q = p) → t.word (R.S p.1) = p.2))
  ∧ (∀ (s : State) (mode : Nat) (aux : List Nat) (asked : Bool), mode < 8 → (∀ k, k ∈ aux → 8 ≤ k ∧ k < 16) →
    let patched (k a : Nat) : List Patch := (s.glaze k).filter (fun p => p.addr == a)
    ∃ c, (s.startComp mode aux asked).seq.comp = some c ∧ c.mode = mode ∧ c.aux = aux ∧ c.applied = false ∧ c.swapped = [] ∧ c.done = []
      ∧ (∀ f, f ∈ c.sources ↔ f < 16 ∧ ∃ k a, k ∈ s.mode :: mode :: s.auxOn ++ aux ∧ patched k a ≠ [] ∧ s.wordOf a f = true)
      ∧ ∀ a k, k ∈ s.mode :: mode :: s.auxOn ++ aux → patched k a ≠ [] →
        ((∀ j, j ∈ mode :: aux → patched j a = []) → tget c.shadow a 0 = tget s.seq.base a (s.word a))
        ∧ (∀ p, patched mode a = [p] → (∀ j, j ∈ aux → patched j a = []) →
          tget c.shadow a 0 = maskIn (tget s.seq.base a (s.word a)) (BitVec.ofNat 32 p.value) (BitVec.ofNat 32 p.mask))
        ∧ (∀ p j i, j ∈ aux → patched j a = [p] → (∀ l, l ∈ aux → j < l → patched l a = []) → i < 32 → p.mask.testBit i = true →
          (tget c.shadow a 0).getLsbD i = p.value.testBit i))
  ∧ (∀ (s : State) (f : Nat) (c : CompS), s.seq.comp = some c → c.applied = true → f ∈ c.sources → f ∉ c.swapped → s.goPassed c = true →
    s.evr.wrote = [] → (∀ p, p ∈ c.old → p.1 ∈ c.done) →
    (∀ p, p ∈ c.shadow → 0x04100000 ≤ p.1 ∧ p.1 < 0x04500000 ∧ (∀ q, q ∈ c.shadow → q.1 = p.1 → q = p) ∧ ∀ h, regFind p.1 = some h → h.wd.w1c = 0) →
    let t := s.swapSource f
    (∃ d, t.seq.comp = some d ∧ d.swapped = c.swapped ++ [f] ∧ d.shadow = c.shadow ∧ d.sources = c.sources)
      ∧ (∀ a w, (a, w) ∈ c.shadow → s.wordOf a f = true → a ∉ c.done →
        t.word a = maskIn (s.word a) w (glazeMask a) ∧ t.poisonedAt (storeKey a) = false)
      ∧ (∀ a, 0x04100000 ≤ a → a < 0x04500000 → ((∀ p, p ∈ c.shadow → p.1 ≠ a) ∨ s.wordOf a f = false ∨ a ∈ c.done) → t.word a = s.word a)
      ∧ (∀ a, 0x04100000 ≤ a → a < 0x04500000 → t.wordFor f a = t.word a ∧ ∀ g, g ≠ f → g ∉ c.swapped → t.wordFor g a = s.wordFor g a)))
  ∧ (∀ (s : State) (c : Nat), s.live = true → c < 64 →
    let f := s.fr c
    let committed (t : State) : Prop := (t.fr c).phase = .completed ∧ (t.fr c).cycles = f.cycles + 8
      ∧ (t.ctx c).pend = f.work.foldl (fun p w => tset p w.1 w.2) (s.ctx c).pend
      ∧ (∀ q, q < 4 → t.commitQueue q = s.commitQueue q ++ (f.outs.filter (fun o => s.outQueue o.1 == q)).map (fun o => s.outEntry c o.1 o.2))
      ∧ t.get (R.ENG_CTX_FRAME_last_done c) = f.index % 2 ^ 32 ∧ t.on (R.ENG_CTX_CTL_running c) = false
      ∧ (f.lane < 8 → t.laneBusy f.lane = false) ∧ (∀ d, d ≠ c → t.ctx d = { s.ctx d with frame := { s.fr d with track := (t.fr d).track } })
      ∧ Within [.regs, .ram, .eng, .mod, .twn, .obs, .free] s t
    (f.phase = .running → s.programDone c = true →
      (s.queuesHaveRoom c = true → s.mirrorHasRoom c = true → ∃ t, exec (.contextCommit c) s = .next t ∧ committed t)
      ∧ (s.queuesHaveRoom c = false → ∃ t, exec (.contextCommit c) s = .next t ∧ t.fr c = { f with phase := .waiting }
        ∧ t.get R.MOD_ERR_CNT_q_full = min (s.get R.MOD_ERR_CNT_q_full + 1) 255 ∧ (∀ d, d ≠ c → t.ctx d = s.ctx d)
        ∧ (∀ q, t.commitQueue q = s.commitQueue q) ∧ WordsBut [R.MOD_ERR_CNT, R.TWN_ERR_CNT] s t
        ∧ Within [.regs, .ram, .eng, .mod, .twn, .obs, .free] s t))
    ∧ (f.phase = .waiting →
      (s.queuesHaveRoom c = true → s.mirrorHasRoom c = true → ∃ t, exec (.commitQueueRoom c) s = .next t ∧ committed t)
      ∧ ((s.queuesHaveRoom c && s.mirrorHasRoom c) = false → exec (.commitQueueRoom c) s = .next s)
      ∧ ∀ n, ((s.passWaits n).fr c).cycles = f.cycles + n))

/-- R153, R157 to R159, R162: the moves and the arithmetic write their exact result through sat32 to dst, operand B being srcB
or the sign-extended immediate; DIV by zero and SQRT of a negative number give what R159 says, SAT clamps, and a reserved opcode
acts as NOP with satf. Each takes its table cycles and the stalls it meets. That a saturated result sets its flag also where the
write is discarded, the context not owning the signal, is the model's choice (log entries 21 and 29). -/
def Obligations.ArithmeticInstructionsRun : Prop :=
  ∀ (s : State) (c stall : Nat) (one two : List Nat),
    let w := s.ins c
    let d := insDst w
    let a := s.opA c
    let b := s.opB c
    let bs := s.opnd c (insB w)
    let bin (f : Int → Int → Int) (t : State) : Prop := Results c 1 stall (insA w :: s.readsB c) [(d, f a b)] false s t
    (s.executes c 0x00 one two → ∃ t, exec (.nop c stall one two) s = .next t ∧ Results c 1 stall [] [] false s t)
    ∧ (∀ op, 0x18 ≤ op → s.executes c op one two → ∃ t, exec (.reservedOpcode c stall one two) s = .next t ∧ Results c 1 stall [] [] true s t
      ∧ t.on (R.ENG_CTX_STAT_op_seen c) = true)
    ∧ (s.executes c 0x01 one two → ∃ t, exec (.ldf c stall one two) s = .next t
      ∧ (∀ v, s.ldfField c = some v → Results c 2 stall (if immBit w 12 then [insA w] else []) [(d, if immBit w 12 then v - a else v)] false s t)
      ∧ (s.ldfField c = none → Results c 2 stall [] [(d, 0)] true s t ∧ t.on (R.ENG_CTX_STAT_op_seen c) = true))
    ∧ (s.executes c 0x02 one two → ∃ t, exec (.add c stall one two) s = .next t ∧ bin (fun x y => x + y) t)
    ∧ (s.executes c 0x03 one two → ∃ t, exec (.sub c stall one two) s = .next t ∧ bin (fun x y => x - y) t)
    ∧ (s.executes c 0x04 one two → ∃ t, exec (.mul c stall one two) s = .next t
      ∧ Results c 2 stall [insA w, insB w] [(d, shrRound (a * bs) (immBits w 0 6))] false s t)
    ∧ (s.executes c 0x05 one two → ∃ t, exec (.mac c stall one two) s = .next t
      ∧ Results c 2 stall [insA w, insB w, d] [(d, s.opnd c d + shrRound (a * bs) (immBits w 0 6))] false s t)
    ∧ (s.executes c 0x06 one two → ∃ t, exec (.neg c stall one two) s = .next t ∧ Results c 1 stall [insA w] [(d, -a)] false s t)
    ∧ (s.executes c 0x07 one two → ∃ t, exec (.abs c stall one two) s = .next t ∧ Results c 1 stall [insA w] [(d, (a.natAbs : Int))] false s t)
    ∧ (s.executes c 0x08 one two → ∃ t, exec (.min c stall one two) s = .next t ∧ bin (fun x y => if x ≤ y then x else y) t)
    ∧ (s.executes c 0x09 one two → ∃ t, exec (.max c stall one two) s = .next t ∧ bin (fun x y => if x ≤ y then y else x) t)
    ∧ (s.executes c 0x0A one two →
      let hi := s.opnd c (insB w + 1)
      let v := if hi < bs then bs else if a < bs then bs else if hi < a then hi else a
      ∃ t, exec (.sat c stall one two) s = .next t
        ∧ Results c 1 stall [insA w, insB w, insB w + 1] [(d, v)] (decide (hi < bs) || (v != a)) s t
        ∧ (hi < bs → t.on (R.ENG_CTX_STAT_op_seen c) = true))
    ∧ (s.executes c 0x0B one two → ∃ t, exec (.cmp c stall one two) s = .next t ∧ bin (fun x y => ((cmpRel (immBits w 16 3) x y).toNat : Int)) t)
    ∧ (s.executes c 0x0C one two → ∃ t, exec (.sel c stall one two) s = .next t
      ∧ Results c 1 stall [insA w, insB w, immBits w 0 12] [(d, if s.opnd c (immBits w 0 12) ≠ 0 then a else bs)] false s t)
    ∧ (s.executes c 0x13 one two → ∃ t, exec (.div c stall one two) s = .next t
      ∧ Results c 20 stall [insA w, insB w]
        [(d, if bs = 0 then (if 0 < a then satMax else if a < 0 then satMin else 0) else divEven (a * 2 ^ immBits w 0 5) bs)] (decide (bs = 0)) s t)
    ∧ (s.executes c 0x14 one two → ∃ t, exec (.sqrt c stall one two) s = .next t
      ∧ Results c 18 stall [insA w] [(d, if a < 0 then 0 else (sqrtRound (a.toNat * 2 ^ immBits w 0 5) : Int))] (decide (a < 0)) s t)

/-- R154, R155, R160, R161, R172, R174, R182, R185, R191, R198: CLARKE, ROT and IROT write their vectors; SOS runs its cascade,
one section giving the rounded sum of R154 and moving its history; SCHED forms its indices and region; MINSEL enters its value;
TRACK takes the step of R198, in which a power above its cap raises the reference by one step up to v_max; OUT and EVT set the
frame's target and line. A poisoned fetch faults the context instead: the frame is lost, counted and raises 444; an arithmetic
instruction that meets a double-bit error in an operand of the import buffer poisons the word, raises 444 and goes on with what
it holds. The model's choices: TRACK on slots that its context does not own is an operand fault (log entry 7), and an EVT line
without an owner takes the EVT of any context (log entry 28). -/
def Obligations.FrameInstructionsRun : Prop :=
  ∀ (s : State) (c stall : Nat) (one two : List Nat),
    let w := s.ins c
    let d := insDst w
    let a := s.opA c
    let o (k : Nat) : Int := s.opnd c (insA w + k)
    let th := s.angleB c
    (s.executes c 0x10 one two → ∃ t, exec (.clarke c stall one two) s = .next t
      ∧ (immBit w 0 = false → Results c 3 stall [insA w, insA w + 1, insA w + 2] (fromSignal d (clarkeFwd (o 0) (o 1) (o 2) (immBit w 1))) false s t)
      ∧ (immBit w 0 = true → Results c 3 stall ([insA w, insA w + 1] ++ (if immBit w 1 then [insA w + 2] else []))
        (fromSignal d (clarkeInv (o 0) (o 1) (if immBit w 1 then o 2 else 0))) false s t))
    ∧ (s.executes c 0x11 one two → ∃ t, exec (.rot c stall one two) s = .next t
      ∧ Results c 5 stall [insA w, insA w + 1, insB w] (fromSignal d [shrRound (o 0 * cosA th + o 1 * sinA th) 30, shrRound (o 1 * cosA th - o 0 * sinA th) 30]) false s t)
    ∧ (s.executes c 0x12 one two → ∃ t, exec (.irot c stall one two) s = .next t
      ∧ Results c 5 stall [insA w, insA w + 1, insB w] (fromSignal d [shrRound (o 0 * cosA th - o 1 * sinA th) 30, shrRound (o 0 * sinA th + o 1 * cosA th) 30]) false s t)
    ∧ (s.executes c 0x0D one two → ∃ t, exec (.sos c stall one two) s = .next t
      ∧ Executed c (s.sosCycles c) stall ((s.sosOp c).fr c) s t
      ∧ (s.sosFault c = true → (t.fr c).work = (s.fr c).work ∧ (t.fr c).shadow = (s.fr c).shadow ∧ t.on (R.ENG_CTX_STAT_op_seen c) = true)
      ∧ (s.sosFault c = false → sosN w = 1 → immBit w 16 = false →
        let raw := s.sectionRaw c (immBits w 0 14) (insB w) a
        (t.fr c).work = s.workWith c [(d, raw)]
          ∧ t.slotW c (insB w) 0 = a ∧ t.slotW c (insB w) 1 = s.slotW c (insB w) 0
          ∧ t.slotW c (insB w) 2 = sat32 raw ∧ t.slotW c (insB w) 3 = s.slotW c (insB w) 2
          ∧ (saturates raw = true → t.on (R.ENG_CTX_STAT_satf c) = true ∧ (t.fr c).sat = (s.fr c).sat ++ [insB w])))
    ∧ (s.executes c 0x0E one two →
      let k := immBits w 0 2
      let i := 4 * c + k
      let ix := tget s.eng.schIdx i (0, 0)
      let hy (j : Nat) : Int := signed 32 (s.frameGet c (R.ENG_SCH_HYST_hyst i j))
      let ia := if s.get (R.ENG_SCH_CFG_src_a i) = 1 then axisIndex ix.1 a (s.schBps c i false) (hy 0) (s.schNa i) else ix.1
      let ib := if s.get (R.ENG_SCH_CFG_src_b i) = 1 then axisIndex ix.2 (s.opnd c (insB w)) (s.schBps c i true) (hy 1) (s.schNb i) else ix.2
      ∃ t, exec (.sched c stall one two) s = .next t
        ∧ (tbit s.eng.schPresent i = true → Executed c 6 stall { s.fr c with newIdx := tset (s.fr c).newIdx k (ia, ib), work := s.workWith c [(d, (s.regionOf i ia ib (s.fr c).plan : Int))] } s t)
        ∧ (tbit s.eng.schPresent i = false → Results c 6 stall [] [] true s t ∧ t.on (R.ENG_CTX_STAT_op_seen c) = true))
    ∧ (s.executes c 0x0F one two →
      let g := immBits w 0 4
      ∃ t, exec (.minsel c stall one two) s = .next t
        ∧ ((s.members g).any (fun m => s.memberIs g m c) = true → Executed c 2 stall { s.fr c with minsel := (s.fr c).minsel ++ [(g, a)] } s t)
        ∧ ((s.members g).any (fun m => s.memberIs g m c) = false → Results c 2 stall [] [] true s t ∧ t.on (R.ENG_CTX_STAT_op_seen c) = true))
    ∧ (s.executes c 0x15 one two →
      let j := insB w
      let par (k : Nat) : Int := s.opnd c (immBits w 0 12 + k)
      let ref := s.slotW c j 0
      ∃ t, exec (.track c stall one two) s = .next t ∧ Executed c 8 stall ((s.trackOp c).fr c) s t
        ∧ (s.ownsSlots c j 2 = false → Results c 8 stall [] [] true s t ∧ t.on (R.ENG_CTX_STAT_op_seen c) = true)
        ∧ (s.ownsSlots c j 2 = true → unsigned 32 (s.slotW c j 2) % 4 ≠ 1 → par 1 ≤ ref → ref ≤ par 2 → immBit w 18 = false → par 5 ≤ 0 → o 1 < o 0 →
          t.slotW c j 0 = sat32 (if ref + par 0 ≤ par 2 then ref + par 0 else par 2) ∧ t.slotW c j 1 = o 0
          ∧ (s.owns c d = true → s.owns c (d + 1) = true → tget (t.fr c).work d 0 = BitVec.ofInt 32 (t.slotW c j 0))))
    ∧ (s.executes c 0x16 one two →
      let abs := immBit w 0
      let u := unsigned 32 a
      ∃ t, exec (.out c stall one two) s = .next t
        ∧ ((outReserved d = true ∨ tnum s.eng.outOwner d ≠ c ∨ (outIsPeriod d = true ∧ abs = false)) → Executed c 2 stall (s.fr c) s t
          ∧ t.on (R.ENG_CTX_STAT_own_seen c) = true ∧ t.on (R.ENG_CTX_STAT_satf c) = true)
        ∧ (outReserved d = false → tnum s.eng.outOwner d = c → (outIsPeriod d = true → abs = true) →
          Executed c 2 stall { s.fr c with outs := tset (s.fr c).outs d ⟨if abs && decide (2 ^ 31 ≤ u) then 2 ^ 31 - 1 else u, abs, if abs then unsigned 32 (s.opnd c (insB w)) % 256 else 0⟩ } s t))
    ∧ (s.executes c 0x17 one two →
      let l := immBits w 0 4
      let own := tnum s.eng.evtOwner l
      ∃ t, exec (.evt c stall one two) s = .next t
        ∧ (own ≠ 0 → own ≠ c → Executed c 1 stall (s.fr c) s t ∧ t.on (R.ENG_CTX_STAT_own_seen c) = true)
        ∧ ((own = 0 ∨ own = c) → Executed c 1 stall { s.fr c with evt := tset (s.fr c).evt l (a != 0) } s t))
    ∧ (∀ k, s.live = true → 1 ≤ c → c < 64 → (s.fr c).phase = .running → s.programDone c = false → s.mayRun c = true →
      insOp (s.ins c) = 0x02 → one = [] → two = [k] → k ∈ s.faultReads c →
      ∃ t, exec (.add c stall one two) s = .next t ∧ (t.fr c).phase = .faulted ∧ (t.fr c).work = (s.fr c).work
        ∧ t.poisonedAt k = true ∧ tbit t.evr.pulse 444 = true
        ∧ t.get (R.ENG_CTX_STAT_ecc c) = min (s.get (R.ENG_CTX_STAT_ecc c) + 1) (2 ^ (R.ENG_CTX_STAT_ecc c).w - 1)
        ∧ Within [.regs, .ram, .evr, .eng, .obs, .free] s t)
    ∧ (∀ k, s.live = true → 1 ≤ c → c < 64 → (s.fr c).phase = .running → s.programDone c = false → s.mayRun c = true →
      insOp (s.ins c) = 0x02 → one = [] → two = [k] → k ∈ s.insReads c → k ∉ s.faultReads c → (∀ j, j ∈ s.faultReads c → s.poisonedAt j = false) →
      ∃ t, exec (.add c stall one two) s = .next t ∧ (t.fr c).phase = .running ∧ (t.fr c).pc = (s.fr c).pc + 1
        ∧ t.poisonedAt k = true ∧ tbit t.evr.pulse 444 = true ∧ t.get (R.ENG_CTX_STAT_ecc c) = s.get (R.ENG_CTX_STAT_ecc c)
        ∧ Within [.regs, .ram, .evr, .eng, .obs, .free] s t)

/-- R22, R168, R171, R174, R180 to R182: the commit point of a completed frame drives its context's EVT lines, those included
that it was the last to set and nobody owns, which is the model's choice (log entry 28); a frame still under way overruns and
counts. Clearing the enable of an enabled context starts a drain, and setting it without a record does nothing. The scrubber
goes on by one word, a single-bit error is counted and queued for write-back, a double-bit error poisons the word, and one in
the observation RAM shows in OBS_STATUS.ram_ecc (R450); the oldest entry is written back. R192 to R196: a group's frame resolves
to the least of its participating members' clamped values, of the lowest such member, which becomes its pending output; a limit
pair out of order sets fault; y1 of every enabled context member's tracked slot takes the output through that member's clamp, at
the end of a frame that the member still runs, and no other word of a slot changes; a frame without participants holds. A member
that commits while others are to come leaves its value, one without a MINSEL fails the frame, and a failed frame holds the group
with a fault at that member's commit point. The pending output is published at the group's next latch. -/
def Obligations.CommitPointsEnablesAndScrubbing : Prop :=
  (∀ s : State, s.live = true →
    (∀ c, 1 ≤ c → c < 64 → (s.ctx c).present = true → (s.fr c).pointDone = false →
      s.get (R.ENG_CTX_COMMIT_offset c) ≠ 0 → (s.fr c).tick + s.get (R.ENG_CTX_COMMIT_offset c) ≤ s.clk.modTick → ∃ t, exec (.commitPoint c) s = .next t
      ∧ (t.fr c).phase = .idle ∧ (t.fr c).pointDone = true ∧ (∀ d, d ≠ c → t.ctx d = { s.ctx d with frame := { s.fr d with track := (t.fr d).track } })
      ∧ ((s.fr c).phase = .completed → (∀ l, l < 16 → tnum s.eng.evtOwner l = c ∨ (tnum s.eng.evtOwner l = 0 ∧ tnum s.eng.evtHolder l = c) →
          tbit t.evr.level (416 + l) = tbit (s.fr c).evt l)
        ∧ t.word (R.ENG_CTX_STAT c) = s.word (R.ENG_CTX_STAT c))
      ∧ ((s.fr c).phase.underWay = true → s.on R.ENG_STATUS_halted = false →
        t.get (R.ENG_CTX_STAT_overruns c) = min (s.get (R.ENG_CTX_STAT_overruns c) + 1) 255)
      ∧ Within [.regs, .ram, .evr, .eng, .twn, .obs, .free] s t)
    ∧ (∀ c, 1 ≤ c → c < 64 →
      (∃ t, exec (.contextEnableWrite c true) s = .next t ∧ t.on (R.ENG_CTX_CTL_en c) = ((s.ctx c).present || s.on (R.ENG_CTX_CTL_en c))
        ∧ t.on (R.ENG_CTX_CTL_draining c) = s.on (R.ENG_CTX_CTL_draining c) ∧ WordsBut [R.ENG_CTX_CTL c] s t ∧ Within [.regs] s t)
      ∧ (∃ t, exec (.contextEnableWrite c false) s = .next t ∧ t.on (R.ENG_CTX_CTL_en c) = false
        ∧ t.on (R.ENG_CTX_CTL_draining c) = (s.on (R.ENG_CTX_CTL_en c) || s.on (R.ENG_CTX_CTL_draining c))
        ∧ WordsBut [R.ENG_CTX_CTL c] s t ∧ Within [.regs] s t))
    ∧ (∀ store err, store < 6 →
      let i := tnum s.eng.scrubPos store
      let k := scrubKey store i
      ∃ t, exec (.scrubRead store err) s = .next t ∧ tnum t.eng.scrubPos store = (i + 1) % scrubWords store
        ∧ (err ≠ 1 → err ≠ 2 → WordsBut [] s t ∧ Within [.eng] s t)
        ∧ (err = 1 → t.eng.writeBack.getLast? = some k ∧ t.get R.ENG_ECC_STAT_single = min (s.get R.ENG_ECC_STAT_single + 1) 65535
          ∧ WordsBut [R.ENG_ECC_STAT, R.ENG_ERR_CNT] s t)
        ∧ (err = 2 → t.poisonedAt k = true ∧ tbit t.evr.pulse 444 = true ∧ t.get R.ENG_ECC_STAT_double = min (s.get R.ENG_ECC_STAT_double + 1) 255)
        ∧ Within [.regs, .ram, .evr, .eng, .obs, .free] s t)
    ∧ (∃ t, exec (.scrubRead 6 2) s = .next t ∧ t.on R.OBS_STATUS_ram_ecc = true ∧ t.eng.poisoned = s.eng.poisoned
      ∧ tnum t.eng.scrubPos 6 = (tnum s.eng.scrubPos 6 + 1) % scrubWords 6 ∧ WordsBut [R.OBS_STATUS] s t ∧ Within [.regs, .ram, .eng, .obs, .free] s t)
    ∧ (∃ t, exec .eccWriteBack s = .next t ∧ t.eng = { s.eng with writeBack := s.eng.writeBack.drop 1 } ∧ WordsBut [] s t ∧ Within [.eng] s t))
  ∧ (∀ (s : State) (g : Nat), g < 16 →
    (∀ x : GrpFrame,
      let n := min 8 (s.get (R.ENG_GRP_CFG_members g))
      let ctxOf (m : Nat) : Nat := s.get (R.ENG_GRP_MEM_ctx g m)
      let isSig (m : Nat) : Bool := s.on (R.ENG_GRP_MEM_kind g m)
      let part (m : Nat) : Prop := m < n ∧ (isSig m = true ∨ ctxOf m ∈ x.parts)
      let tracked (m : Nat) : Prop := m < n ∧ isSig m = false ∧ s.on (R.ENG_CTX_CTL_en (ctxOf m)) = true
      let lo (m : Nat) : Int := (tget x.lims m (0, 0)).1
      let hi (m : Nat) : Int := (tget x.lims m (0, 0)).2
      let clamp (m : Nat) (v : Int) : Int := if hi m < lo m then lo m else max (lo m) (min v (hi m))
      let v (m : Nat) : Int := clamp m (tget x.vals m 0)
      let slot (m : Nat) : Nat := s.get (R.ENG_GRP_MEM_track_slot g m)
      let t := s.groupResolve g x
      ((∀ m, ¬ part m) → t.on (R.ENG_GRP_STAT_held g) = true ∧ (t.grp g).pend = (s.grp g).pend ∧ t.get (R.ENG_GRP_STAT_winner g) = s.get (R.ENG_GRP_STAT_winner g)
        ∧ t.on (R.ENG_GRP_STAT_fault g) = s.on (R.ENG_GRP_STAT_fault g) ∧ WordsBut [R.ENG_GRP_STAT g] s t ∧ Within [.regs, .eng] s t)
      ∧ (∀ w, part w → (∀ m, part m → v w ≤ v m ∧ (v m = v w → w ≤ m)) →
        t.get (R.ENG_GRP_STAT_winner g) = w ∧ t.on (R.ENG_GRP_STAT_held g) = false ∧ (t.grp g).pend = some (BitVec.ofInt 32 (v w))
        ∧ t.word (R.ENG_GRP_OUT g) = BitVec.ofInt 32 (v w)
        ∧ t.get (R.ENG_GRP_STAT_winner_changes g) = (if s.get (R.ENG_GRP_STAT_winner g) = w then s.get (R.ENG_GRP_STAT_winner_changes g)
          else min (s.get (R.ENG_GRP_STAT_winner_changes g) + 1) 255)
        ∧ ((∃ m, (part m ∨ tracked m) ∧ hi m < lo m) → t.on (R.ENG_GRP_STAT_fault g) = true)
        ∧ ((∀ m, part m ∨ tracked m → lo m ≤ hi m) → t.on (R.ENG_GRP_STAT_fault g) = s.on (R.ENG_GRP_STAT_fault g))
        ∧ (∀ m, tracked m → (∀ k, tracked k → k ≠ m → slot k ≠ slot m) →
          ((s.fr (ctxOf m)).phase.underWay = false → t.word (R.SLOT (slot m) 2) = BitVec.ofInt 32 (clamp m (v w)))
          ∧ ((s.fr (ctxOf m)).phase.underWay = true → tget (t.fr (ctxOf m)).track (slot m) 0 = BitVec.ofInt 32 (clamp m (v w))))
        ∧ (∀ j k, j < 4096 → k < 4 → k ≠ 2 → t.word (R.SLOT j k) = s.word (R.SLOT j k)))
      ∧ (∀ y, y ∈ (t.grp g).frames ↔ y ∈ (s.grp g).frames ∧ y.latchNo ≠ x.latchNo) ∧ Within [.regs, .eng, .twn, .obs] s t)
    ∧ (∀ c x, s.groupOf c = some g → (s.grp g).frames = [x] → x.latchNo = (s.fr c).latchNo → c ∈ x.parts →
      (∀ v, x.failed = false → (∃ d, d ∈ x.left ∧ d ≠ c) → ∃ y, ((s.groupMember c [(g, v)]).grp g).frames = [y] ∧ y.parts = x.parts
        ∧ y.failed = false ∧ (∀ d, d ∈ y.left ↔ d ∈ x.left ∧ d ≠ c)
        ∧ (∀ m, m < min 8 (s.get (R.ENG_GRP_CFG_members g)) → s.memberIs g m c = true → (∀ k, k < m → s.memberIs g k c = false) → tget y.vals m 0 = v))
      ∧ ((s.groupMember c []).grp g).frames = [{ x with failed := true }]
      ∧ (let t := s.groupPoint c false
        t.on (R.ENG_GRP_STAT_held g) = true ∧ t.on (R.ENG_GRP_STAT_fault g) = true ∧ tbit t.evr.pulse 446 = true ∧ (t.grp g).pend = (s.grp g).pend
        ∧ t.get (R.ENG_GRP_STAT_faults g) = min (s.get (R.ENG_GRP_STAT_faults g) + 1) 255
        ∧ (t.grp g).frames = [] ∧ WordsBut [R.ENG_GRP_STAT g] s t ∧ Within [.regs, .evr, .eng] s t))
    ∧ (∀ w, (s.grp g).pend = some w → (∀ h, h < 16 → h ≠ g → s.get (R.ENG_GRP_CFG_out h) ≠ s.get (R.ENG_GRP_CFG_out g)) →
      let t := s.publishGroups (s.get (R.ENG_GRP_CFG_fsrc g))
      t.word (R.S (s.get (R.ENG_GRP_CFG_out g))) = w ∧ (t.grp g).pend = none))

/-- R209 to R214, R239: an update uses up its sample; while not forming the grid unit takes the synchroniser's frequency, its
increment follows the frequency, a positive sequence below v_min keeps the frequency and takes the lock, an overload or dropped
record shows as suspect, and a formed frequency stays within 40 to 72 Hz. The formats are the model's (log entry 14). R231,
R232: when a sample ends chip 127 or 254 with 255 chips behind it, an estimate is formed if none was paused, and counted as
discarded otherwise; one above z_isl counts, and the second in a row, or one above z_step times a valid baseline, declares the
island. The eighth estimate makes the baseline valid; one that declares nothing then moves it by an eighth of the difference,
half to even. z_est is the root of rr² + xx² to within one unit of Q8.24; that its rounding and that of the first baseline are
free is log entry 3, and the bounds on amp and share are log entry 14. R236 to R238: a support curve holds its end values
outside its points and interpolates between them, half to even. At each sample q_ref, p_lim and p_droop follow their targets
through their lags: qmode selects q_ref's, p_lim is 1.0 pu and p_droop 0 while disabled, and V_ref stays within 0.95 to 1.05 pu
and shifts the volt-var axis. The lag's steps of 10 ms and its clamp to 0.1 to 90 s are the register's format. -/
def Obligations.GridUpdateTakesASample : Prop :=
  (∀ (s : State) (l : GridLatch), s.live = true → s.on R.GRD_CTL_en = true → s.modStopped = false → s.grd.sample = some l →
    ∃ t, exec .gridUpdate s = .next t ∧ t.grd.sample = none ∧ t.grd.inc = s.incFor t.grd.f
      ∧ t.on R.GRD_STATUS_in_suspect = l.recs.any (fun r => r / 2 ^ 63 % 2 = 1 || r / 2 ^ 61 % 2 = 1)
      ∧ (s.on R.GRD_STATUS_form_active = false → t.grd.f = t.grd.fSync)
      ∧ (s.on R.GRD_STATUS_form_active = true → hz48 40 ≤ t.grd.f ∧ t.grd.f ≤ hz48 72)
      ∧ (t.grd.vpos < s.vMin → t.on R.GRD_STATUS_locked = false ∧ t.on R.GRD_STATUS_v_low = true ∧ t.grd.fSync = s.grd.fSync
        ∧ (s.on R.GRD_STATUS_locked = true → tbit t.evr.pulse 459 = true))
      ∧ t.grd.window = (s.gridVolts l.recs :: s.grd.window).take 512
      ∧ (∀ a, a < 0x05000000 → t.word a = s.word a) ∧ Within [.regs, .ram, .evr, .grd, .obs, .free] s t)
  ∧ (∀ s : State,
    (s.grd.chips.length = 255 → s.zEst < 2 ^ 32 - 1 →
      let c := s.grd.chips
      let corr (f : ChipS → Int) : Int := (c.map (fun k => k.sign * (255 * f k - (c.map f).sum))).sum
      let n : Int := (corr (fun k => k.r) ^ 2 + corr (fun k => k.x) ^ 2) * 2 ^ 48
      let d : Int := 255 * 255 * s.sprAmp * s.sprShare
      n < (((s.zEst : Int) + 1) * d) ^ 2 ∧ (s.zEst = 0 ∨ (((s.zEst : Int) - 1) * d) ^ 2 < n))
    ∧ (∀ (l : GridLatch) (cur : Nat), s.live = true → s.on R.GRD_CTL_en = true → s.modStopped = false → s.grd.sample = some l →
      s.on R.GRD_CTL_spr_en = true → s.grd.code ≠ 255 → s.grd.chip = some cur → s.clk.plantTime / chipLsb ≠ cur →
      (cur % 255 = 127 ∨ cur % 255 = 254) → (∀ e, e ∈ s.grd.estimates → 0 ≤ e ∧ e < 2 ^ 32) →
      ∃ t, exec .gridUpdate s = .next t ∧ t.grd.chip = some (s.clk.plantTime / chipLsb)
        ∧ (t.grd.chips.length = 255 → t.sprWhole = false →
          t.get R.GRD_SPR_STAT_discarded = min 255 (s.get R.GRD_SPR_STAT_discarded + 1)
          ∧ t.get R.GRD_SPR_STAT_z_last = s.get R.GRD_SPR_STAT_z_last ∧ t.get R.GRD_SPR_STAT_estimates = s.get R.GRD_SPR_STAT_estimates)
        ∧ (t.grd.chips.length = 255 → t.sprWhole = true →
          let above := if s.get R.GRD_SPR_CFG_z_isl < t.zEst then min 255 (s.get R.GRD_SPR_STAT_above + 1) else 0
          let base : Int := s.get R.GRD_SPR_STAT_baseline
          let valid := s.on R.GRD_STATUS_baseline_valid
          let island : Prop := 2 ≤ above ∨ (valid = true ∧ (s.get R.GRD_SPR_CFG_z_step : Int) * base < 256 * t.zEst)
          t.get R.GRD_SPR_STAT_z_last = t.zEst ∧ t.get R.GRD_SPR_STAT_above = above
          ∧ t.get R.GRD_SPR_STAT_estimates = min 255 (s.get R.GRD_SPR_STAT_estimates + 1)
          ∧ t.get R.GRD_SPR_STAT_discarded = s.get R.GRD_SPR_STAT_discarded
          ∧ (island → t.on R.GRD_STATUS_island = true ∧ tbit t.evr.pulse 458 = true)
          ∧ (¬ island → t.on R.GRD_STATUS_island = s.on R.GRD_STATUS_island)
          ∧ (valid = true → (t.get R.GRD_SPR_STAT_baseline : Int) =
            if (2 ≤ above ∨ (s.get R.GRD_SPR_CFG_z_step : Int) * base < 256 * t.zEst) then base else base + divRound (t.zEst - base) 8)
          ∧ (valid = false → t.grd.estimates = (t.zEst : Int) :: s.grd.estimates
            ∧ (t.on R.GRD_STATUS_baseline_valid = true ↔ s.grd.estimates.length = 7)
            ∧ (s.grd.estimates.length = 7 →
              (8 * (t.get R.GRD_SPR_STAT_baseline : Int) - ((t.zEst : Int) + s.grd.estimates.sum)).natAbs < 8)))))
  ∧ ((∀ (s : State) (c : Nat) (x off : Int), 2 ≤ s.supN c →
    let cx (k : Nat) : Int := s.getI (R.GRD_SUP_CURVE_x c k)
    let cy (k : Nat) : Int := s.getI (R.GRD_SUP_CURVE_y c k)
    (∀ k, k + 1 < s.supN c → cx k < cx (k + 1)) →
      (x ≤ cx 0 → s.supCurve c x off = cy 0)
      ∧ (cx (s.supN c - 1) ≤ x → s.supCurve c x off = cy (s.supN c - 1))
      ∧ (∀ k, k + 1 < s.supN c → cx k ≤ x → x < cx (k + 1) →
        s.supCurve c x off = divRound (cy k * (cx (k + 1) - cx k) + (x - cx k) * (cy (k + 1) - cy k)) (cx (k + 1) - cx k).toNat))
  ∧ (∀ (s : State) (l : GridLatch), s.live = true → s.on R.GRD_CTL_en = true → s.modStopped = false → s.grd.sample = some l →
    ∃ t, exec .gridUpdate s = .next t ∧
      let v := if s.on R.GRD_SUP_CFG_vsrc then t.grd.hcMax else t.grd.vpos
      let follow (tm : Nat) (out target : Int) : Int :=
        sat32 (out + shrRound ((target - out) * s.lagOf (10 * min 9000 (max 10 tm)) ln10x128) 32)
      let qTo (x : Int) : Prop := t.grd.qOut = follow (s.get R.GRD_SUP_CFG_t_q) s.grd.qOut x
      (s.get R.GRD_SUP_CFG_qmode = 0 → qTo 0)
      ∧ (s.get R.GRD_SUP_CFG_qmode = 1 → s.on R.GRD_SUP_CFG_vref_en = false → qTo (s.supCurve 0 v 0))
      ∧ (s.get R.GRD_SUP_CFG_qmode = 1 → s.on R.GRD_SUP_CFG_vref_en = true → qTo (s.supCurve 0 (v - (t.grd.vRef - pu1)) 0))
      ∧ (s.get R.GRD_SUP_CFG_qmode = 2 → qTo (s.supCurve 2 l.p 0))
      ∧ (s.get R.GRD_SUP_CFG_qmode = 3 → qTo (sat32 (shrRound (l.p * s.getI R.GRD_SUP_CFG_tan_phi) 30)))
      ∧ (s.get R.GRD_SUP_CFG_qmode = 4 → qTo (s.getI R.GRD_SUP_CFG_q_set))
      ∧ (t.grd.pOut = if s.on R.GRD_SUP_CFG_vw_en then follow (s.get R.GRD_SUP_CFG_t_p) s.grd.pOut (s.supCurve 1 v pu1) else pu1)
      ∧ (s.on R.GRD_SUP_CFG_droop_en = false → t.grd.dOut = 0)
      ∧ (s.on R.GRD_SUP_CFG_droop_en = true → hz48 40 ≤ t.grd.f → t.grd.f ≤ hz48 72 → ∃ f : Int, (f * 2 ^ 32 - t.grd.f).natAbs < 2 ^ 32
        ∧ t.grd.dOut = follow (s.get R.GRD_SUP_CFG_t_f) s.grd.dOut (s.supCurve 3 f 0))
      ∧ (s.on R.GRD_SUP_CFG_vref_en = false → t.grd.vRef = s.grd.vRef)
      ∧ (s.on R.GRD_SUP_CFG_vref_en = true → divRound (95 * pu1) 100 ≤ t.grd.vRef ∧ t.grd.vRef ≤ divRound (105 * pu1) 100)))

/-- R211, R213, R215, R240: a GS instant takes its sector and sequence number, publishes the angle (or the reset values, if a
held write disables the unit), brings the held writes and the form request into force and latches the GS sources; a granted
write waits for it, and a word that a glaze patches keeps its value (R337). At Sprinkle's T0 a new code index acts, and the
estimator's chips stand only if it is the old one (R229). R219, R222, R227: the expiry of a trip curve's point raises the
curve's source once and shows it; the ride state ends after exit_time inside the limits with its duration; a passive method
whose condition has held for its time speaks once. -/
def Obligations.GridInstantsRideAndIslanding : Prop :=
  (∀ s : State, s.live = true →
    (s.on R.GRD_CTL_en = true → s.modStopped = false → s.gsSector ≠ s.grd.sector → (∀ h, h ∈ s.grd.writes → h.addr / 2 ^ 16 = 0x0500) →
      ∃ t, exec .gsInstant s = .next t ∧ t.grd.sector = s.gsSector ∧ t.grd.gsSeq = (s.grd.gsSeq + 1) % 2 ^ 32 ∧ t.grd.writes = [] ∧ t.grd.fGs = s.grd.f
        ∧ (t.on R.GRD_CTL_en = true → t.word (R.S 0) = BitVec.ofNat 32 (angleOf s.grd.phase)
          ∧ t.word (R.S 15) = BitVec.ofNat 32 (s.grd.gsSeq + 1))
        ∧ (t.on R.GRD_CTL_en = false → ∀ i, i < 32 → t.word (R.S i) = 0)
        ∧ t.on R.GRD_STATUS_form_active = t.on R.GRD_CTL_form
        ∧ (∀ h, s.grd.writes = [h] → h.addr = R.GRD_CTL → t.word R.GRD_CTL = maskIn (s.word R.GRD_CTL) h.value h.mask)
        ∧ (s.grd.writes = [] → ∀ f, f < 16 → s.get (R.ENG_FSRC_type f) = 2 →
          (s.on (R.ENG_FSRC_gs32 f) = true ∨ s.on R.GRD_CTL_gs32 = false ∨ s.gsSector % 2 = 0) → tbit t.frm.due f = true)
        ∧ Within [.regs, .ram, .evr, .frm, .eng, .grd, .obs, .free] s t)
    ∧ (∀ a w, R.GRD_CTL ≤ a → a < 0x05010000 → (regFind a).isSome = true → rwMask a ≠ 0 →
      (s.glazed a = true → exec (.gridWrite a w) s = .next s)
      ∧ (s.glazed a = false → ∃ t, exec (.gridWrite a w) s = .next t
        ∧ t.grd = { s.grd with writes := s.grd.writes ++ [⟨a, w, rwMask a, false⟩] } ∧ WordsBut [] s t ∧ Within [.grd] s t))
    ∧ (s.on R.GRD_CTL_en = true → ∃ t, exec .sprinklePeriodStart s = .next t ∧ t.grd.code = s.get R.GRD_SPR_CFG_code
      ∧ t.grd.share = max 1 (s.get R.GRD_SPR_CFG_share)
      ∧ t.grd.chips = (if s.get R.GRD_SPR_CFG_code = s.grd.code then s.grd.chips else [])
      ∧ WordsBut [R.GRD_STATUS] s t ∧ Within [.regs, .grd] s t))
  ∧ (∀ s : State, s.live = true →
    (∀ c k, isTripCurve c = true → k < s.npts c → tnum s.grd.timers (16 * c + k) ≠ 0 →
      s.get (R.GRD_CURVE_time c k) * 10 ^ 9 ≤ tnum s.grd.timers (16 * c + k) → tbit s.grd.firedPts (16 * c + k) = false →
      ∃ t, exec (.tripCurveExpiry c k) s = .next t ∧ t.get ⟨R.GRD_RT_STAT, c, 1⟩ = 1 ∧ tbit t.evr.pulse (448 + c) = true
        ∧ t.grd = { s.grd with firedPts := tset s.grd.firedPts (16 * c + k) true }
        ∧ WordsBut [R.GRD_RT_STAT] s t ∧ Within [.regs, .evr, .grd] s t)
    ∧ (s.on R.GRD_STATUS_ride = true → 0 < s.grd.calm → s.get R.GRD_RT_CFG_exit_time * 10 ^ 9 ≤ s.grd.calm →
      ∃ t, exec .rideExit s = .next t ∧ t.on R.GRD_STATUS_ride = false ∧ t.on R.GRD_STATUS_must_ride = false ∧ t.get R.GRD_STATUS_region = 0
        ∧ t.on R.GRD_STATUS_ride_ov = false ∧ t.get R.GRD_RT_STAT_last_duration = min 65535 (s.grd.excursion / 10 ^ 9)
        ∧ t.on R.GRD_STATUS_locked = s.on R.GRD_STATUS_locked
        ∧ tbit t.evr.pulse 460 = true ∧ WordsBut [R.GRD_STATUS, R.GRD_RT_STAT] s t ∧ Within [.regs, .evr] s t)
    ∧ (∀ m, m < 3 → tnum s.grd.pasTimers m ≠ 0 → s.pasTime m * 10 ^ 9 ≤ tnum s.grd.pasTimers m → tbit s.grd.pasFired m = false →
      ∃ t, exec (.passiveTimerExpiry m) s = .next t ∧ t.get (pasBit m) = 1 ∧ tbit t.evr.pulse (pasSource m) = true
        ∧ t.grd = { s.grd with pasFired := tset s.grd.pasFired m true } ∧ WordsBut [R.GRD_PAS_STAT] s t ∧ Within [.regs, .evr, .grd] s t))

/-- R16, R166, R243, R244, R246, R251 to R254, R265: each MOD tick counts a running carrier, and at the end of its period the
count starts again with the fraction carried, the wrap is due and the sources that divide it latch where their divider is at
zero. The wrap acts after the latches of its tick: a due period of the generation in force, and a due absolute compare of it on
a single-edge leg, come into force, and so does a new tap count. Stated for a group with no glaze patch waiting. A queue entry
goes to its target's slots, and a period below 400 ticks is discarded and counted. R260 to R263: what the minimum-pulse rule
delivers under each policy; at a wrap of a leg with no compare or patch waiting, the window is that of the rule with the crumb,
or with none where one was to be discarded, and a due refresh moves its start to t_refresh and adds the time removed to the
crumb. A glaze in force or a hop marks the crumb of every leg to be discarded. The crumb that a wrap of the same tick does not
discard goes at the next one (log entry 32). -/
def Obligations.WrapsAndQueuesBringValuesIntoForce : Prop :=
  ((∀ (s : State) (g : Nat), g < 8 →
    let n := s.get (R.MOD_CG_COUNT_count g)
    let w := s.get (R.MOD_CG_COUNT_wrap_fine g) + s.period g
    let last := w / 128 + (s.group g).lengthen
    let t := s.carrierTick g
    (n + 1 < last → t.get (R.MOD_CG_COUNT_count g) = (n + 1) % 2 ^ (R.MOD_CG_COUNT_count g).w ∧ t.frm = s.frm ∧ t.mod = s.mod)
    ∧ (last ≤ n + 1 → t.get (R.MOD_CG_COUNT_count g) = 0 ∧ t.get (R.MOD_CG_COUNT_wrap_fine g) = w % 128
      ∧ (t.group g).wrapDue = true ∧ (t.group g).lengthen = 0
      ∧ (∀ f, f < 16 → s.get (R.ENG_FSRC_type f) = 0 → s.get (R.ENG_FSRC_sel f) = g → tnum s.frm.div f = 0 → tbit t.frm.due f = true)
      ∧ (∀ f, s.get (R.ENG_FSRC_type f) ≠ 0 ∨ s.get (R.ENG_FSRC_sel f) ≠ g ∨ tnum s.frm.div f ≠ 0 → tbit t.frm.due f = tbit s.frm.due f))
    ∧ WordsBut [R.MOD_CG_COUNT g] s t ∧ Within [.regs, .frm, .mod] s t)
  ∧ (∀ (s : State) (g : Nat), s.live = true → g < 8 → (s.group g).running = true → (s.group g).wrapDue = true → s.modStopped = false →
    exec (.carrierWrap g) s = .next (s.latchFirst.carrierWrap g))
  ∧ (∀ (s : State) (g : Nat), g < 8 → (s.group g).patches = [] →
    let t := s.carrierWrap g
    (t.group g).wrapDue = false
    ∧ (∀ c k, (s.group g).slots = [c] → c.tick = some k → k ≤ s.clk.modTick → c.gen = s.get (R.MOD_CG_STAT_gen g) →
      t.word (R.MOD_CG_PERIOD g) = BitVec.ofNat 32 (c.value % 2 ^ 31) ∧ (t.group g).slots = [] ∧ t.get (R.MOD_CG_STAT_split_run g) = 0)
    ∧ (∀ l c k, l < 48 → (s.group g).slots = [] → s.get (R.MOD_LEG_CFG_cg l) = g →
      (∀ m, m < 48 → s.get (R.MOD_LEG_CFG_cg m) = g → s.get (R.MOD_LEG_CFG_pattern m) ≠ 1) → s.get (R.MOD_LEG_CFG_pattern l) ≠ 2 →
      (s.mleg l).onSlots = [c] → c.tick = some k → k ≤ s.clk.modTick → c.abs = true → c.gen = s.get (R.MOD_CG_STAT_gen g) →
      t.get (R.MOD_LEG_CMP_on l) = c.value % 2 ^ (R.MOD_LEG_CMP_on l).w ∧ (t.mleg l).onSlots = [])
    ∧ (∀ n, s.mod.tapsNew = some n → t.get R.MOD_CAL_taps = n % 256 ∧ (t.group g).taps = n % 256 ∧ t.on R.MOD_CAL_valid = true
      ∧ t.mod.tapsNew = none)
    ∧ (∀ k, k ≠ g → (t.group k).taps = (s.group k).taps)
    ∧ Within [.regs, .win, .evr, .mod, .gtp, .twn] s t)
  ∧ (∀ (s : State) (q : Nat) (c : Commit) (r : List Commit), s.live = true → q < 4 → s.modStopped = false → s.commitQueue q = c :: r →
    ∃ t, exec (.commitQueueDrain q) s = .next t ∧ t.commitQueue q = r
      ∧ (∀ k, k ≠ q → t.commitQueue k = s.commitQueue k)
      ∧ (c.kind = 2 → c.value / 128 % 2 ^ 24 < 400 → t.get R.MOD_ERR_CNT_bad_period = min (s.get R.MOD_ERR_CNT_bad_period + 1) 255
        ∧ t.mod = { s.mod with queues := t.mod.queues })
      ∧ (c.kind = 2 → 400 ≤ c.value / 128 % 2 ^ 24 → (s.group c.idx).slots.length < 4 → (t.group c.idx).slots = (s.group c.idx).slots ++ [c])
      ∧ (c.kind = 0 → (s.mleg c.idx).onSlots.length < 4 → (t.mleg c.idx).onSlots = (s.mleg c.idx).onSlots ++ [c])
      ∧ (c.kind = 1 → (s.mleg c.idx).offSlots.length < 4 → (t.mleg c.idx).offSlots = (s.mleg c.idx).offSlots ++ [c])
      ∧ (c.kind = 1 → 4 ≤ (s.mleg c.idx).offSlots.length → (t.mleg c.idx).offSlots = (s.mleg c.idx).offSlots.drop 1 ++ [c]
        ∧ t.get R.MOD_ERR_CNT_superseded = min (s.get R.MOD_ERR_CNT_superseded + 1) (2 ^ R.MOD_ERR_CNT_superseded.w - 1))
      ∧ Within [.regs, .mod] s t))
  ∧ ((∀ (policy : Nat) (p on off thr crumb : Int), 0 ≤ p →
    let w := p - on
    let want := max (min off p - on) 0 + crumb
    let r := minPulse policy p on off thr crumb
    (want ≤ 0 → r.t = 0 ∧ r.short = false) ∧ (0 < want → w ≤ want → r.t = w ∧ r.short = false)
    ∧ (0 < want → want < w → want < thr → r.t = (if policy = 1 then min thr w else 0) ∧ r.short = true)
    ∧ (0 < want → want < w → thr ≤ want → w - want < thr → r.t = (if policy = 1 then max (w - thr) 0 else w) ∧ r.short = true)
    ∧ (0 < want → want < w → thr ≤ want → thr ≤ w - want → r.t = want ∧ r.short = false)
    ∧ (policy = 2 → r.crumb = 0 ∧ r.clip = false)
    ∧ (policy ≠ 2 → r.crumb = max (-p) (min p (want - r.t)) ∧ (r.clip = true ↔ want - r.t < -p ∨ p < want - r.t)))
  ∧ (∀ (s : State) (g l : Nat), g < 8 → l < 48 → (s.group g).patches = [] → (s.group g).slots = [] → s.get (R.MOD_LEG_CFG_cg l) = g →
    (∀ m, m < 48 → s.get (R.MOD_LEG_CFG_cg m) = g → s.get (R.MOD_LEG_CFG_pattern m) ≠ 1) → s.get (R.MOD_LEG_CFG_pattern l) ≠ 2 →
    s.on (R.MOD_LEG_CFG_en l) = true → (s.mleg l).onSlots = [] → (s.mleg l).offSlots = [] → (s.mleg l).fracOn = none → (s.mleg l).fracOff = none →
    let t := s.carrierWrap g
    let drop := (s.mleg l).crumbDrop
    let c0 : Int := if drop then 0 else s.getI (R.MOD_LEG_CRUMB_crumb l)
    let policy := s.get (R.MOD_LEG_CFG_short_pulse l)
    let p : Int := s.period g
    let on : Int := min (s.get (R.MOD_LEG_CMP_on l)) (s.period g)
    let thr : Int := s.thr l
    let r := minPulse policy p on (s.get (R.MOD_LEG_CMP_off l)) thr c0
    let m := s.mleg l
    let run := if m.swapped then 0 else if m.winTop && m.winOn < m.winEnd then (if m.winOn = 0 then m.hRun + 1 else 1) else 0
    let n := s.get (R.MOD_LEG_BOOT_boot_max_periods l)
    let due : Prop := s.on (R.MOD_LEG_CFG_refresh_en l) = true ∧ 0 < r.t ∧ on = 0
      ∧ ((n ≠ 0 ∧ n ≤ run) ∨ s.bootBelow l (s.get (R.MOD_LEG_BOOT_boot_low l)) = true)
    (t.mleg l).crumbDrop = (s.mleg l).crumbHold ∧ (t.mleg l).crumbHold = false
    ∧ (¬ due → ((t.mleg l).winOn : Int) = on ∧ ((t.mleg l).winEnd : Int) = max 0 (on + r.t) ∧ t.getI (R.MOD_LEG_CRUMB_crumb l) = r.crumb
      ∧ t.get (R.MOD_LEG_STAT_short_cnt l) = min 255 (s.get (R.MOD_LEG_STAT_short_cnt l) + r.short.toNat)
      ∧ t.get (R.MOD_LEG_STAT_clip_cnt l) = min 255 (s.get (R.MOD_LEG_STAT_clip_cnt l) + r.clip.toNat)
      ∧ (r.clip = true → t.on (R.MOD_LEG_STAT_crumb_clip l) = true ∧ t.on R.MOD_STATUS_crumb_clip = true))
    ∧ (due →
      let start := min (max (s.fine (s.get (R.MOD_LEG_TIME_t_refresh l)) : Int) thr) p
      let rest := max (r.t - start) 0
      let held := if rest < thr then (if policy = 1 then min thr (p - start) else 0) else rest
      ((t.mleg l).winOn : Int) = start ∧ ((t.mleg l).winEnd : Int) = start + held
      ∧ t.getI (R.MOD_LEG_CRUMB_crumb l) = (if policy = 2 then 0 else max (-p) (min p (r.crumb + (r.t - held))))
      ∧ t.on (R.MOD_LEG_STAT_refresh_seen l) = true
      ∧ t.get (R.MOD_LEG_STAT_refresh_cnt l) = min 255 (s.get (R.MOD_LEG_STAT_refresh_cnt l) + 1)))
  ∧ (∀ (s : State) (l : Nat), l < 48 → s.get (R.MOD_LEG_CRUMB_crumb l) ≠ 0 → (s.mleg l).crumbDrop = true →
    (s.discardCrumb l).get (R.MOD_LEG_CRUMB_crumb l) = 0
    ∧ (s.discardCrumb l).get R.MOD_CRUMB_CNT_discards = min (2 ^ 16 - 1) (s.get R.MOD_CRUMB_CNT_discards + 1))
  ∧ (∀ (s : State) (l : Nat), l < 48 →
    let due := (s.group (s.get (R.MOD_LEG_CFG_cg l))).wrapDue
    (due = false → (s.dropCrumbs.mleg l).crumbDrop = true) ∧ (due = true → (s.dropCrumbs.mleg l).crumbHold = true)))

/-- R244, R248, R257 to R259, R264, R275, R282, R283, R287, R302: when the window commands a port, its edge is dated at the
wrap's instant plus the compare; it turns the outgoing port off and starts dead time, with the tap of its fine position; an
effective port starts, and a leg fault whose causes are gone clears (at the command edge, log entry 32). At the end of the dead
time the incoming port turns on, or waits while the outgoing feedback reads on, until that falls or the interlock times out,
which shows and raises the outgoing port's source, and the incoming port then waits for the leg's next edge. The comparators of
the feedback and of the node compare the levels of their pins, show their reading, arm the watchdog of a port whose level is
absent and disarm it. Levels count 2.5 V / 1,024,000, and the hysteresis lies below the threshold (log entry 38). R265, R268,
R269, R285: tap counts of 96 to 160 are averaged sixteen at a time into a new count, but not with a period below 4 µs between
swaps; when the MOD clock stops, every leg that is enabled in the modulator rests in the safe state and the blanking of every
gate ends, but a bypassed leg's DESAT does not pass (R285, R304). That the sixteen measurements after a swap are taken too is
the model's choice (log entry 32). -/
def Obligations.EdgesCalibrationAndClockStop : Prop :=
  (∀ (s : State) (l : Nat), s.live = true → l < 48 →
    let port (h : Bool) : Nat := if h then 2 * l else 2 * l + 1
    (∀ toH, s.modStopped = false → s.on (R.MOD_LEG_CFG_en l) = true → (s.group (s.get (R.MOD_LEG_CFG_cg l))).running = true →
      (s.group (s.get (R.MOD_LEG_CFG_cg l))).wrapDue = false → s.commanded l toH = true → s.edgeSeen l toH = false →
      let at0 := s.edgeTime l toH
      let dt := (s.deadTime l ((if toH then 2 else 0) + (s.mleg l).binNeg.toNat)).1
      let tap := (divRound (at0 % 128 * (s.group (s.get (R.MOD_LEG_CFG_cg l))).taps : Nat) 128).toNat
      ((s.mleg l).names toH = true → (s.mleg l).winOn ≠ 0 → at0 = (s.mleg l).wrapAt + (s.mleg l).winOn)
      ∧ ((s.mleg l).names toH = false → (s.mleg l).winOn < (s.mleg l).winEnd →
        (s.winBounds l).2 / 128 ≤ s.get (R.MOD_CG_COUNT_count (s.get (R.MOD_LEG_CFG_cg l))) → at0 = (s.mleg l).wrapAt + (s.mleg l).winEnd)
      ∧ ∃ t, exec (.commandEdge l toH) s = .next t
        ∧ t.mleg l = { s.mleg l with edge := some toH, edgeAt := at0, dtUntil := at0 + dt, dtDone := false, measuring := true, measToH := toH, measNeg := (s.mleg l).binNeg, tap := tap, lastEdge := some (toH, at0) }
        ∧ (if toH then (t.gleg l).cmdL else (t.gleg l).cmdH) = false
        ∧ (s.on (R.GTP_LEG_STAT_in_soft l) = false → (if toH then (t.gleg l).gl else (t.gleg l).gh) = false
          ∧ t.on (R.GTP_LEG_STAT_enable_pending l) = false)
        ∧ (s.effective l toH = true → (if toH then (t.gleg l).startedH else (t.gleg l).startedL) = true)
        ∧ (s.on (R.GTP_LEG_STAT_fault l) = true → s.on (R.GTP_LEG_STAT_locked l) = false → s.on (R.GTP_LEG_STAT_in_soft l) = false →
          s.causesGone l = true → (s.gleg l).faultTimes = [] → t.on (R.GTP_LEG_STAT_fault l) = false)
        ∧ (∀ m, m ≠ l → t.mleg m = s.mleg m ∧ t.gleg m = s.gleg m) ∧ (∀ a, a < 0x07000000 → t.word a = s.word a)
        ∧ Within [.regs, .win, .evr, .mod, .gtp] s t)
    ∧ (∀ toH, s.modStopped = false → (s.mleg l).edge = some toH → (s.mleg l).dtDone = false → (s.mleg l).dtUntil / 128 ≤ s.clk.modTick →
      ∃ t, exec (.deadTimeExpiry l) s = .next t
        ∧ (s.fbOn (port (!toH)) = true → t.mleg l = { s.mleg l with dtDone := true } ∧ t.gtp = s.gtp)
        ∧ (s.fbOn (port (!toH)) = false → t.mleg l = { s.mleg l with edge := none, dtDone := false }
          ∧ (if toH then (t.gleg l).cmdH else (t.gleg l).cmdL) = true
          ∧ (s.on (R.GTP_LEG_STAT_in_soft l) = false → (if toH then (t.gleg l).gh else (t.gleg l).gl) = (if toH then (s.gleg l).startedH else (s.gleg l).startedL)))
        ∧ WordsBut [] s t ∧ Within [.evr, .mod, .gtp] s t)
    ∧ (∀ toH, s.modStopped = false → (s.mleg l).edge = some toH → s.fbOn (port (!toH)) = true →
      ((s.mleg l).edgeAt + s.interlockTime l) / 128 ≤ s.clk.modTick → ∃ t, exec (.interlockTimeout l) s = .next t
      ∧ t.mleg l = { s.mleg l with edge := none, dtDone := false } ∧ t.on (R.MOD_LEG_STAT_il_timeout l) = true
      ∧ tbit t.evr.pulse (240 + port (!toH)) = true ∧ t.gtp = s.gtp
      ∧ ((s.mleg l).lastEdge = some (toH, s.edgeTime l toH) → exec (.commandEdge l toH) t = .next t) ∧ WordsBut [R.MOD_LEG_STAT l] s t ∧ Within [.regs, .evr, .mod] s t)
    ∧ (∀ h v sub, sub < 128 →
      let p := port h
      let th := 4800 * s.get (R.GTP_FB_TH_th p)
      ∃ t, exec (.fbComparatorChange p v sub) s = .next t ∧ t.pins = { s.pins with fb := tset s.pins.fb p v }
      ∧ (th < v → t.fbOn p = true) ∧ (v + 8192 < th → t.fbOn p = false) ∧ (¬ th < v → ¬ v + 8192 < th → t.fbOn p = s.fbOn p)
      ∧ (t.fbOn p = s.fbOn p → WordsBut [] s t ∧ Within [.pins] s t)
      ∧ (t.fbOn p = true → s.fbOn p = false → (p < 64 → t.on (R.GTP_FB_TH_fb_on p) = true)
        ∧ (if h then (t.gleg l).wdH else (t.gleg l).wdL)
          = ((if h then s.on (R.GTP_LEG_CFG_node_wd_h l) else s.on (R.GTP_LEG_CFG_node_wd_l l)) && (s.on (R.GTP_NODE_TH_node_hi l) != h)
            && !s.on (R.GTP_LEG_CFG_bypass l))
        ∧ (if h then (t.gleg l).wdHUntil else (t.gleg l).wdLUntil) = s.clk.modTick + s.nodeTicks l
        ∧ (∀ a, a < 0x07000000 → t.word a = s.word a) ∧ Within [.regs, .gtp, .pins] s t)
      ∧ (t.fbOn p = false → s.fbOn p = true → (p < 64 → t.on (R.GTP_FB_TH_fb_on p) = false)
        ∧ ((s.mleg l).edge = some (!h) → (s.mleg l).dtDone = true → s.modStopped = false → (t.mleg l).edge = none
          ∧ (if h then (t.gleg l).cmdL else (t.gleg l).cmdH) = true)
        ∧ ((s.mleg l).edge = none → t.gtp.legs = s.gtp.legs)
        ∧ ((s.mleg l).measuring = true → (s.mleg l).measToH = (!h) → s.modStopped = false →
          let k := (if h then 0 else 2) + (s.mleg l).measNeg.toNat
          (t.mleg l).measuring = false
          ∧ tget (t.mleg l).meas k [] = ((128 * s.clk.modTick + sub - (s.mleg l).edgeAt) :: tget (s.mleg l).meas k []).take 8)
        ∧ Within [.regs, .evr, .mod, .gtp, .pins] s t))
    ∧ (∀ v sub, sub < 128 →
      let th := 4000 * s.get (R.GTP_NODE_TH_th l)
      let was := s.on (R.GTP_NODE_TH_node_hi l)
      ∃ t, exec (.nodeComparatorChange l v sub) s = .next t ∧ t.pins = { s.pins with node := tset s.pins.node l v }
      ∧ (th < v → t.on (R.GTP_NODE_TH_node_hi l) = true) ∧ (v + 10240 < th → t.on (R.GTP_NODE_TH_node_hi l) = false)
      ∧ (¬ th < v → ¬ v + 10240 < th → t.on (R.GTP_NODE_TH_node_hi l) = was)
      ∧ (t.on (R.GTP_NODE_TH_node_hi l) = was → WordsBut [] s t ∧ Within [.pins] s t)
      ∧ (t.on (R.GTP_NODE_TH_node_hi l) = (!was) → (if was then (t.gleg l).wdL else (t.gleg l).wdH) = false ∧ (t.mleg l).measuring = false
        ∧ ((s.mleg l).measuring = false → t.mod = s.mod))
      ∧ Within [.regs, .mod, .gtp, .pins] s t))
  ∧ (∀ s : State, s.live = true →
    (∀ taps, 96 ≤ taps → taps ≤ 160 → s.modStopped = false →
      let sum := (taps :: s.mod.tapSamples).foldl (fun a b => a + b) 0
      let runs := s.calDegraded = false ∨ s.on R.SEQ_STATUS_swapping = true ∨ 0 < s.mod.calLeft
      let left := s.mod.calLeft - 1
      ∃ t, exec (.calibrationMeasurement taps) s = .next t
        ∧ (¬ runs → t.mod = { s.mod with calLeft := left })
        ∧ (runs → s.mod.tapSamples.length < 15 → t.mod = { s.mod with tapSamples := taps :: s.mod.tapSamples, calLeft := left })
        ∧ (runs → s.mod.tapSamples.length = 15 → t.mod.tapSamples = [] ∧ t.mod.calLeft = left ∧ ∃ n, t.mod.tapsNew = some n ∧ tnum t.mod.tapsOf s.mplan = n ∧ 16 * n < sum + 16 ∧ sum < 16 * n + 16)
        ∧ t.on R.MOD_STATUS_cal_degraded = s.calDegraded ∧ WordsBut [R.MOD_STATUS] s t ∧ Within [.regs, .mod] s t)
    ∧ (∃ t, exec .modClockStop s = .next t ∧ t.on R.MOD_STATUS_clk_stop = true ∧ t.on R.MOD_STATUS_safe = true
      ∧ (∀ l, l < 48 → s.on (R.MOD_LEG_CFG_en l) = true → (t.gleg l).safeHeld = true)
      ∧ (∀ l, l < 48 → (t.gleg l).gateClosed = false ∧ (s.on (R.GTP_LEG_CFG_bypass l) = true → t.desatPasses l = false))
      ∧ (∀ a, a < 0x06000000 → (∀ d, d < 4 → a ≠ R.WIN_PD d) → t.word a = s.word a) ∧ Within [.regs, .evr, .gtp, .twn] s t))

/-- R276, R277, R279, R280, R484: a STAT frame on a leg whose link is in use, whose levels have the accepted lengths and whose
CRC holds, is stored bit by bit in GTP_LEG_LINK; a frame that fails the CRC, or in which a level has no accepted length or a new
preamble begins, and a missing frame count, and the third bad or missing one in a row shows the link as lost. How long the
preamble's low half is that the first bit continues is the model's reading (log entry 32). -/
def Obligations.StatFramesAreRecorded : Prop :=
  ∀ (s : State) (l bits : Nat) (levels : List Nat), s.live = true → l < 48 → bits < 2 ^ 28 → s.on (R.GTP_LEG_CFG_stat_en l) = true →
    s.modStopped = false →
    (codesStat bits levels → crc4 28 bits 0xF = 0 → ∃ t, exec (.statFrame l levels) s = .next t
      ∧ t.get (R.GTP_LEG_LINK_seq l) = bits / 2 ^ 25 % 8 ∧ t.on (R.GTP_LEG_LINK_uvlo_h l) = bits.testBit 24
      ∧ t.on (R.GTP_LEG_LINK_uvlo_l l) = bits.testBit 23 ∧ t.on (R.GTP_LEG_LINK_desat_h l) = bits.testBit 22
      ∧ t.on (R.GTP_LEG_LINK_desat_l l) = bits.testBit 21 ∧ t.on (R.GTP_LEG_LINK_ot l) = bits.testBit 20
      ∧ t.get (R.GTP_LEG_LINK_boot_code l) = bits / 2 ^ 12 % 256 ∧ t.get (R.GTP_LEG_LINK_temp l) = bits / 2 ^ 4 % 256
      ∧ (t.gleg l).badRun = 0
      ∧ (∀ a, a < 0x07000000 → (∀ d, d < 4 → a ≠ R.WIN_PD d) → t.word a = s.word a) ∧ Within [.regs, .evr, .gtp, .twn] s t)
    ∧ ((codesStat bits levels ∧ crc4 28 bits 0xF ≠ 0)
        ∨ (∃ k, k < 30 ∧ k + 1 < levels.length ∧ (statClass (levels.getD k 0) = none ∨ (2 ≤ k ∧ statClass (levels.getD k 0) = some 3))
          ∧ ¬ (k = 1 ∧ statFits 4 (levels.getD 1 0))) → ∃ t, exec (.statFrame l levels) s = .next t
      ∧ t.get (R.GTP_LEG_CNT_bad_frames l) = min (s.get (R.GTP_LEG_CNT_bad_frames l) + 1) 255
      ∧ (2 = (s.gleg l).badRun → t.on (R.GTP_LEG_STAT_stat_lost l) = true)
      ∧ (∀ a, a < 0x07000000 → (∀ d, d < 4 → a ≠ R.WIN_PD d) → t.word a = s.word a) ∧ Within [.regs, .evr, .gtp, .twn] s t)
    ∧ (∃ t, exec (.statFrameMissing l) s = .next t
      ∧ t.get (R.GTP_LEG_CNT_missing l) = min (s.get (R.GTP_LEG_CNT_missing l) + 1) 255
      ∧ (2 = (s.gleg l).badRun → t.on (R.GTP_LEG_STAT_stat_lost l) = true)
      ∧ (∀ a, a < 0x07000000 → (∀ d, d < 4 → a ≠ R.WIN_PD d) → t.word a = s.word a) ∧ Within [.regs, .evr, .gtp, .twn] s t)

/-- R284, R286, R287: a DESAT that its blanking gate lets through latches the leg's fault at once, one behind a closed gate
waits until the gate opens; the fall of the pin takes its source back; an armed node watchdog that finds its level absent after
t_node latches the leg's fault. A bypassed leg does none of this. R291 to R294, R298, R476: the final step of a leg whose turn
it is lowers GH, GL and GSOFT and ends its two-step turn-off; a stopped ring gives every leg in step 1 its final step; a
calibration stores the cycles and counts; trip assist for a domain ends once its extension has passed, and the chopper shows it
until every domain's has. Where a reset waited for the turn-off, the last final step lets the block enter it. -/
def Obligations.LegFaultsAndTwoStepTurnOff : Prop :=
  (∀ (s : State) (l : Nat), s.live = true → l < 48 →
    (s.on (R.GTP_LEG_CFG_bypass l) = false → (s.gleg l).gateClosed = false → tbit s.pins.desat l = false →
      ∃ t, exec (.desatAssert l true) s = .next t ∧ t.on (R.GTP_LEG_STAT_fault l) = true ∧ tbit t.evr.level (192 + l) = true
        ∧ tbit t.pins.desat l = true
        ∧ (∀ d, d < 4 → s.on (R.WIN_PD_armed d) = true → s.get (R.WIN_TRIP_DESAT_pd l) / 2 ^ d % 2 = 1 → t.on (R.WIN_PD_tripped d) = true)
        ∧ (∀ a, a < 0x07000000 → (∀ d, d < 4 → a ≠ R.WIN_PD d) → t.word a = s.word a) ∧ Within [.regs, .evr, .gtp, .twn, .pins] s t)
    ∧ (s.on (R.GTP_LEG_CFG_bypass l) = true ∨ (s.gleg l).gateClosed = true ∨ tbit s.pins.desat l = true →
      exec (.desatAssert l true) s = .next { s with pins := { s.pins with desat := tset s.pins.desat l true } })
    ∧ (∃ t, exec (.desatAssert l false) s = .next t ∧ t.pins = { s.pins with desat := tset s.pins.desat l false }
      ∧ t.gleg l = s.gleg l ∧ tbit t.evr.level (192 + l) = false ∧ WordsBut [] s t ∧ Within [.evr, .pins] s t)
    ∧ ((s.gleg l).gateClosed = true → (s.gleg l).blankUntil ≤ s.clk.modTick → ∃ t, exec (.blankingEnd l) s = .next t
      ∧ (t.gleg l).gateClosed = false
      ∧ (tbit s.pins.desat l = true → s.on (R.GTP_LEG_CFG_bypass l) = false → t.on (R.GTP_LEG_STAT_fault l) = true)
      ∧ (tbit s.pins.desat l = false → t.gleg l = { s.gleg l with gateClosed := false } ∧ WordsBut [] s t)
      ∧ Within [.regs, .evr, .gtp, .twn] s t)
    ∧ (∀ h, (if h then (s.gleg l).wdH else (s.gleg l).wdL) = true →
      (if h then (s.gleg l).wdHUntil else (s.gleg l).wdLUntil) ≤ s.clk.modTick → s.on (R.GTP_NODE_TH_node_hi l) ≠ h →
      s.on (R.GTP_LEG_CFG_bypass l) = false → ∃ t, exec (.nodeWatchdogTimeout l h) s = .next t
        ∧ t.on (R.GTP_LEG_STAT_fault l) = true ∧ (s.on (R.GTP_LEG_STAT_fault l) = false → tbit s.pins.desat l = false →
          t.get (R.GTP_LEG_STAT_first_cause l) = 2)
        ∧ (∀ a, a < 0x07000000 → (∀ d, d < 4 → a ≠ R.WIN_PD d) → t.word a = s.word a) ∧ Within [.regs, .evr, .gtp, .twn] s t))
  ∧ ((∀ s : State, s.pins.extended = false →
    (∀ l, l < 48 → s.on (R.GTP_LEG_STAT_in_soft l) = true → s.myTurn l = true → ∃ t, exec (.finalStep l) s = .next t
      ∧ t.on (R.GTP_LEG_STAT_in_soft l) = false ∧ (t.gleg l).gh = false ∧ (t.gleg l).gl = false ∧ (t.gleg l).gsoft = false
      ∧ (t.gleg l).startedH = false ∧ (t.gleg l).startedL = false ∧ (t.gleg l).wdH = false ∧ (t.gleg l).wdL = false
      ∧ (∀ m, m ≠ l → t.gleg m = s.gleg m) ∧ (∀ a, a < 0x07000000 → t.word a = s.word a) ∧ Within [.regs, .evr, .gtp] s t)
    ∧ (s.live = true → ∃ t, exec .ringStopped s = .next t ∧ t.on R.GTP_STATUS_ring_stopped = true
      ∧ (∀ l, l < 48 → t.on (R.GTP_LEG_STAT_in_soft l) = false) ∧ (∀ a, a < 0x07000000 → t.word a = s.word a)
      ∧ Within [.regs, .evr, .gtp] s t)
    ∧ (∀ n, s.live = true → n < 65536 → s.modStopped = false → ∃ t, exec (.ringCalibration n) s = .next t
      ∧ t.get R.GTP_RING_cycles = n ∧ t.get R.GTP_RING_updates = min (s.get R.GTP_RING_updates + 1) 65535
      ∧ t.on R.GTP_STATUS_ring_valid = true ∧ (∀ a, a < 0x07000000 → t.word a = s.word a) ∧ Within [.regs, .evr, .gtp] s t)
    ∧ (∀ c d, c < 2 → d < 4 → tbit s.gtp.assist (4 * c + d) = true → tbit s.gtp.assistEnding (4 * c + d) = true →
      ∃ t, exec (.tripAssistEnd c d) s = .next t ∧ tbit t.gtp.assist (4 * c + d) = false
      ∧ (∀ k, k ≠ 4 * c + d → tbit t.gtp.assist k = tbit s.gtp.assist k)
      ∧ (t.on (R.GTP_CHOP_STAT_by_trip c) = true ↔ ∃ e, e < 4 ∧ e ≠ d ∧ tbit s.gtp.assist (4 * c + e) = true)
      ∧ WordsBut [R.GTP_CHOP_STAT c, R.GTP_STATUS] s t ∧ Within [.regs, .gtp] s t))
  ∧ ∀ (s : State) (l : Nat), s.pins.extended = true → l < 48 → s.on (R.GTP_LEG_STAT_in_soft l) = true → s.myTurn l = true →
    (∀ m, m < 48 → m ≠ l → s.on (R.GTP_LEG_STAT_in_soft m) = false) → ∃ t, exec (.finalStep l) s = .next t
      ∧ t.gtp = { } ∧ t.pins.extended = false ∧ (∀ m, m < 48 → t.on (R.GTP_LEG_STAT_in_soft m) = false)
      ∧ t.aon = s.aon ∧ t.boot.fuses = s.boot.fuses)

/-- R224, R306 to R316, R333: a metering sample of eight 24-bit codes is counted and heads the history, the total power is the
sum of the phases, an overloaded channel shows, the sample set joins Q30, held writes have acted, and a pending snapshot bank
takes the registers as they then are. While no phase reaches 10 % of U_din the frequency is held and shows so. A snapshot
request waits for the sample, a second one is merged and counted. R312 to R315: a phase enters its no-load state, for active and
for reactive power, below its threshold and leaves it after eight samples at 1.2 times it; its contribution is then zero, and
the total's is the sum. A contribution goes to the register of its direction or of its quadrant by the sign of the raw p, whole
LSBs to the register and the rest to its accumulator, and a register that wraps counts it, shows it and raises 470; every other
register is as before. Stated with no write waiting. R326 to R329: at each half-cycle update a sag, a swell and an interruption
start and end by the table of thresholds, each start raises its source and each end 467, the half cycles count, and the records
of both enter a Q07 that has room. At each cycle, phase sequence and lost neutral are set and cleared after 5 and 10 consecutive
cycles, and phase sequence is judged only from half of U_din on. -/
def Obligations.MeteringSamplesAreTaken : Prop :=
  (∀ s : State, s.live = true →
    (∀ codes, s.on R.MTR_CFG_en = true → codes.length = 8 → (∀ c, c ∈ codes → -8388608 ≤ c ∧ c ≤ 8388607) →
      let u := s.mtrWrites.takeSample codes
      ∃ t, exec (.meteringSample codes) s = .next t
      ∧ t.on R.MTR_STATUS_f_hold = (List.range 3).all (fun x => decide (cycleRms u.mtr.hist u.mtrF x < 10 * u.uDin))
      ∧ (t.on R.MTR_STATUS_f_hold = true → t.mtr.f = s.mtr.f)
      ∧ t.mtr.samples = s.mtr.samples + 1 ∧ t.mtr.writes = [] ∧ (t.mtr.hist.getD 0 []).length = 8
      ∧ t.mtr.p.length = 4 ∧ t.mtr.p.getD 3 0 = t.mtr.p.getD 0 0 + t.mtr.p.getD 1 0 + t.mtr.p.getD 2 0
      ∧ (∀ ch, ch < 8 → 8388000 ≤ (codes.getD ch 0).natAbs → t.get ⟨R.MTR_STATUS, ch, 1⟩ = 1)
      ∧ (s.grd.q30.length < 32 → t.grd = { s.grd with q30 := s.grd.q30 ++ [(t.mtr.hist.getD 0 []).take 3] })
      ∧ (32 ≤ s.grd.q30.length → t.grd = s.grd)
      ∧ (∀ l, l < 4 → s.mtr.writes = [] → s.on (R.MTR_SNAP_pending l) = true → t.on (R.MTR_SNAP_pending l) = false ∧ t.on (R.MTR_SNAP_done l) = true
        ∧ t.get (R.MTR_SNAP_sample l) = (s.mtr.samples + 1) % 2 ^ 32
        ∧ (∀ e, e < 24 → t.word (R.MTR_E l e) = BitVec.ofNat 32 (tnum t.mtr.reg e)
          ∧ (tnum t.mtr.reg e < 2 ^ 48 → t.get (R.MTR_E_wrap l e) = tnum t.mtr.wraps e % 2 ^ 16)))
      ∧ (s.mtr.writes = [] → ∀ l, l < 4 → s.on (R.MTR_SNAP_pending l) = false → ∀ e, e < 24 → t.word (R.MTR_E l e) = s.word (R.MTR_E l e))
      ∧ Within [.regs, .ram, .evr, .grd, .mtr, .aon, .obs, .free] s t)
    ∧ (∀ l, l < 4 → ∃ t, exec (.snapshotTake l) s = .next t
      ∧ t.on (R.MTR_SNAP_pending l) = true
      ∧ (s.on (R.MTR_SNAP_pending l) = true → t.get R.MTR_ERR_CNT_snap_merged = min (s.get R.MTR_ERR_CNT_snap_merged + 1) 255 ∧ WordsBut [R.MTR_ERR_CNT] s t)
      ∧ (s.on (R.MTR_SNAP_pending l) = false → t.on (R.MTR_SNAP_done l) = false ∧ WordsBut [R.MTR_SNAP l] s t)
      ∧ Within [.regs] s t))
  ∧ (∀ (s : State) (codes : List Int), s.live = true → s.on R.MTR_CFG_en = true → codes.length = 8 →
    (∀ c, c ∈ codes → -8388608 ≤ c ∧ c ≤ 8388607) → s.mtr.writes = [] →
    ∃ t, exec (.meteringSample codes) s = .next t ∧
      let unit := max 1 (s.get R.MTR_CFG_lsb) * 28800000
      let kept (e : Nat) : Prop := tnum t.mtr.acc e = tnum s.mtr.acc e ∧ tnum t.mtr.reg e = tnum s.mtr.reg e ∧ tnum t.mtr.wraps e = tnum s.mtr.wraps e
      let fed (e c : Nat) : Prop :=
        let v := tnum s.mtr.reg e + (tnum s.mtr.acc e + c) / unit
        tnum t.mtr.acc e = (tnum s.mtr.acc e + c) % unit ∧ tnum t.mtr.reg e = v % 2 ^ 48
        ∧ (2 ^ 48 ≤ v → tnum t.mtr.wraps e = (tnum s.mtr.wraps e + 1) % 65536 ∧ t.on R.MTR_STATUS_wrap = true ∧ tbit t.evr.pulse 470 = true)
        ∧ (v < 2 ^ 48 → tnum t.mtr.wraps e = tnum s.mtr.wraps e)
      let judged (k : Nat) (p : Int) (f : Fld) : Prop :=
        let thr := s.get f * s.uDin * s.get (R.MTR_CFG_i_nom)
        tnum t.mtr.loadRun k = (if 12 * thr ≤ p.natAbs * 10000 then tnum s.mtr.loadRun k + 1 else 0)
        ∧ (tbit t.mtr.noLoad k = true ↔ p.natAbs * 1000 < thr ∨ (tbit s.mtr.noLoad k = true ∧ tnum t.mtr.loadRun k < 8))
      let share (k : Nat) (p : Int) : Int := if tbit t.mtr.noLoad k then 0 else p
      let c (x : Nat) : Int := share x (t.mtr.p.getD x 0)
      let cq (x : Nat) : Int := share (4 + x) (t.mtr.q.getD x 0)
      let goes (ph : Nat) (c cq p : Int) : Prop :=
        (0 < c → fed ph c.natAbs ∧ kept (4 + ph)) ∧ (c < 0 → fed (4 + ph) c.natAbs ∧ kept ph) ∧ (c = 0 → kept ph ∧ kept (4 + ph))
        ∧ (0 < cq → 0 ≤ p → fed (8 + ph) cq.natAbs ∧ kept (12 + ph) ∧ kept (16 + ph) ∧ kept (20 + ph))
        ∧ (0 < cq → p < 0 → fed (12 + ph) cq.natAbs ∧ kept (8 + ph) ∧ kept (16 + ph) ∧ kept (20 + ph))
        ∧ (cq < 0 → p < 0 → fed (16 + ph) cq.natAbs ∧ kept (8 + ph) ∧ kept (12 + ph) ∧ kept (20 + ph))
        ∧ (cq < 0 → 0 ≤ p → fed (20 + ph) cq.natAbs ∧ kept (8 + ph) ∧ kept (12 + ph) ∧ kept (16 + ph))
        ∧ (cq = 0 → kept (8 + ph) ∧ kept (12 + ph) ∧ kept (16 + ph) ∧ kept (20 + ph))
      (∀ x, x < 3 → judged x (t.mtr.p.getD x 0) R.MTR_NOLOAD_noload_p ∧ judged (4 + x) (t.mtr.q.getD x 0) R.MTR_NOLOAD_noload_q
        ∧ goes x (c x) (cq x) (t.mtr.p.getD x 0))
      ∧ goes 3 (c 0 + c 1 + c 2) (cq 0 + cq 1 + cq 2) (t.mtr.p.getD 3 0))
  ∧ ((∀ s : State,
    let t := s.halfCycle
    let rms (x : Nat) : Nat := 10 * cycleRms s.mtr.hist s.mtrF x
    let u := max 1 s.uDin
    let hy := s.get R.MTR_EVT_CFG_hyst
    let sag := s.get R.MTR_EVT_CFG_sag_th
    let sw := s.get R.MTR_EVT_CFG_swell_th
    let it := s.get R.MTR_EVT_CFG_intr_th
    let ev (ty src : Nat) (starts ends : Prop) : Prop :=
      let e := s.pq ty
      ((e.active = false ∧ starts) → (t.pq ty).active = true ∧ (t.pq ty).hc = 0 ∧ (t.pq ty).samples = 0 ∧ tbit t.evr.pulse src = true
        ∧ (s.aon.q07.length ≤ 13 → ∃ m x, (1, leBytes 1 ty ++ leBytes 1 m ++ leBytes 1 (if ty = 3 then 3 else 1) ++ leBytes 9 0 ++ leBytes 4 x) ∈ t.aon.q07))
      ∧ ((e.active = false ∧ ¬ starts) → (t.pq ty).active = false)
      ∧ ((e.active = true ∧ ends) → (t.pq ty).active = false ∧ tbit t.evr.pulse 467 = true
        ∧ (s.aon.q07.length ≤ 13 → ∃ m x, (1, leBytes 1 ty ++ leBytes 1 m
            ++ leBytes 1 ((if ty = 3 then 2 else 0) + (if 16777215 ≤ e.hc + 1 then 4 else 0)) ++ leBytes 1 0
            ++ leBytes 4 (min 16777215 (e.hc + 1)) ++ leBytes 4 (divRound e.samples 8).toNat ++ leBytes 4 x) ∈ t.aon.q07))
      ∧ ((e.active = true ∧ ¬ ends) → (t.pq ty).active = true ∧ (t.pq ty).hc = e.hc + 1)
    ev 1 464 (∃ x, x < 3 ∧ rms x < sag * u) (∀ x, x < 3 → (sag + hy) * u ≤ rms x)
    ∧ ev 2 465 (∃ x, x < 3 ∧ sw * u < rms x) (∀ x, x < 3 → rms x ≤ (sw - hy) * u)
    ∧ ev 3 466 (∀ x, x < 3 → rms x < it * u) (∃ x, x < 3 ∧ (it + hy) * u ≤ rms x))
  ∧ (∀ s : State,
    let t := s.cycleUpdate
    let x (k : Nat) : Int × Int := phasor s.mtr.hist s.mtrF k
    let us (k : Nat) : Nat := cycleRms s.mtr.hist s.mtrF k
    let u := 100 * s.uDin
    let sq := seqPowers (x 0) (x 1) (x 2)
    let judged : Prop := 9 * (u * u) * (fundScale * fundScale) * 2 ^ 128 ≤ 8 * max sq.1 sq.2
    let line (k : Nat) : Nat := 200 * power (cSub (x k) (x ((k + 1) % 3)))
    let full := 3 * (u * u) * (fundScale * fundScale)
    let lost : Prop := u < 5 * us 3 ∨ ((∃ k, k < 3 ∧ 6 * u < 5 * us k) ∧ (∃ k, k < 3 ∧ 5 * us k < 4 * u)
      ∧ ∀ k, k < 3 → 81 * full ≤ line k ∧ line k ≤ 121 * full)
    let ev (ty n src : Nat) (f : Fld) (cond : Prop) : Prop :=
      let e := s.pq ty
      (e.active = false → cond → n ≤ e.run + 1 → (t.pq ty).active = true ∧ t.on f = true ∧ tbit t.evr.pulse src = true)
      ∧ (e.active = false → cond → e.run + 1 < n → (t.pq ty).active = false ∧ (t.pq ty).run = e.run + 1 ∧ t.on f = s.on f)
      ∧ (e.active = false → ¬ cond → (t.pq ty).active = false ∧ (t.pq ty).run = 0 ∧ t.on f = s.on f)
      ∧ (e.active = true → ¬ cond → n ≤ e.run + 1 → (t.pq ty).active = false ∧ t.on f = false)
      ∧ (e.active = true → ¬ cond → e.run + 1 < n → (t.pq ty).active = true ∧ (t.pq ty).run = e.run + 1 ∧ t.on f = s.on f)
      ∧ (e.active = true → cond → (t.pq ty).active = true ∧ (t.pq ty).run = 0 ∧ t.on f = s.on f)
    (judged → ev 4 5 468 R.MTR_EVT_STAT_phseq (16 * sq.1 < 25 * sq.2)) ∧ (¬ judged → t.pq 4 = s.pq 4)
    ∧ ev 5 10 469 R.MTR_EVT_STAT_lost_n lost))

/-- R320, R434, R497: where the local time, with tz held to −48 to +56 quarters of an hour, is a whole multiple of the demand
length, a demand interval closes, once in its second and with metering enabled (log entry 40): the records move down by one, the
new one has its time and energies, and 472 is raised. A permitted write of the clock sets the seconds, makes them valid and,
with metering on, closes the interval; the sub-second that it leaves is open, within its range. R321 to R325: a low pulse input
that has read high for its debounce time goes high, counts a pulse and adds its energy; a pulse output starts an owed pulse,
ends it, and spaces it; an export power beyond its limit for its time raises 473 once. -/
def Obligations.DemandPulsesAndExport : Prop :=
  (∀ s : State,
    (s.live = true → s.on R.MTR_CFG_en = true →
      let at0 : Int := s.get R.AON_RTC_seconds + 900 * max (-48) (min 56 (s.getI R.MTR_DEMAND_CFG_tz))
      let due := at0 % (60 * s.get R.MTR_DEMAND_CFG_length : Nat) = 0 ∧ s.mtr.demAt ≠ some (s.get R.AON_RTC_seconds)
      (¬ due → exec .demandClose s = .next s)
      ∧ (due → ∃ t, exec .demandClose s = .next t
        ∧ t.mtr = { s.mtr with dem := [], demPartial := false, demAt := some (s.get R.AON_RTC_seconds) }
        ∧ t.word (R.MTR_DEMAND 0) = s.word R.AON_RTC
        ∧ t.on (R.MTR_DEMAND_dir_change 0) = (tnum s.mtr.dem 0 != 0 && tnum s.mtr.dem 1 != 0)
        ∧ t.on (R.MTR_DEMAND_partial 0) = s.mtr.demPartial
        ∧ t.word64 (R.MTR_DEMAND 0 + 8) = tnum s.mtr.dem 0 % 2 ^ 64 ∧ t.word64 (R.MTR_DEMAND 0 + 16) = tnum s.mtr.dem 1 % 2 ^ 64
        ∧ (∀ k, k < 7 → t.words (R.MTR_DEMAND (k + 1)) 10 = s.words (R.MTR_DEMAND k) 10)
        ∧ tbit t.evr.pulse 472 = true ∧ Within [.regs, .evr, .mtr] s t))
    ∧ (∀ link req sec, sec < 2 ^ 32 → s.permits link req R.AON_RTC → ∃ t, exec (.rtcWrite link req sec) s = .next t
      ∧ t.get R.AON_RTC_seconds = sec ∧ t.on R.AON_STATUS_rtc_valid = true ∧ t.aon = { s.aon with sub := t.aon.sub } ∧ t.aon.sub < 32768
      ∧ tget t.answers link { } = { }
      ∧ (s.on R.MTR_CFG_en = true → tbit t.evr.pulse 472 = true ∧ t.mtr.dem = [] ∧ t.on (R.MTR_DEMAND_partial 0) = true)
      ∧ (s.on R.MTR_CFG_en = false → WordsBut [R.AON_RTC, R.AON_STATUS] s t ∧ t.mtr = s.mtr)
      ∧ Within [.regs, .ram, .evr, .mtr, .aon, .answers, .free] s t))
  ∧ (∀ s : State, s.live = true →
    (∀ levels, levels < 16 → ∃ t, exec (.pulseInputSample levels) s = .next t
      ∧ (∀ k, k < 4 → s.on (R.MTR_PI_CFG_en k) = true →
        let x := tget s.mtr.ins k { }
        let y := tget t.mtr.ins k { }
        let deb := min 25 (max 1 (s.get (R.MTR_PI_CFG_debounce k)))
        (levels.testBit k = true → s.on (R.MTR_PI_STAT_level k) = false → deb ≤ x.high + 1 →
          t.on (R.MTR_PI_STAT_level k) = true ∧ y.pulses = x.pulses + 1 ∧ y.energy = x.energy + max 1 (s.get (R.MTR_PI_CFG_pi_mwh k)))
        ∧ (levels.testBit k = false → s.on (R.MTR_PI_STAT_level k) = true → deb ≤ x.low + 1 → t.on (R.MTR_PI_STAT_level k) = false)
        ∧ ((levels.testBit k = false ∨ s.on (R.MTR_PI_STAT_level k) = true ∨ x.high + 1 < deb) → y.pulses = x.pulses ∧ y.energy = x.energy))
      ∧ (∀ k, 4 ≤ k ∨ s.on (R.MTR_PI_CFG_en k) = false → tget t.mtr.ins k { } = tget s.mtr.ins k { })
      ∧ Within [.regs, .evr, .mtr, .aon, .obs] s t)
    ∧ (∀ k, k < 2 → s.on (R.MTR_PO_CFG_en k) = true → let o := tget s.mtr.outs k { }
      ∃ t, exec (.pulseOutputTimer k) s = .next t
        ∧ (o.phase = .high → tget t.mtr.outs k { } = { o with phase := .gap })
        ∧ (o.phase ≠ .high → o.owed = 0 → tget t.mtr.outs k { } = { o with phase := .idle })
        ∧ (o.phase ≠ .high → o.owed ≠ 0 → tget t.mtr.outs k { } = { o with phase := .high, owed := o.owed - 1 })
        ∧ (∀ j, j ≠ k → tget t.mtr.outs j { } = tget s.mtr.outs j { }) ∧ WordsBut [] s t ∧ Within [.mtr] s t)
    ∧ (0 < s.mtr.expRun → 8 * s.get R.MTR_EXPORT_CFG_time ≤ s.mtr.expRun → s.mtr.expRaised = false → ∃ t, exec .exportLimit s = .next t
      ∧ t.mtr = { s.mtr with expRaised := true } ∧ tbit t.evr.pulse 473 = true ∧ WordsBut [] s t ∧ Within [.evr, .mtr] s t))

/-- R430: a checkpoint of metering enters Q06, or is discarded and counted in ckpt_skip while Q06 is full; the controller drains
Q06, writes only the newest entry, to the slot that does not hold the last one, and counts every older entry in ckpt_skip. -/
def Obligations.CheckpointsAreQueuedAndCommitted : Prop :=
  ∀ s : State,
    (s.live = true → s.on R.MTR_CFG_en = true → ∃ t, exec .checkpoint s = .next t
      ∧ (s.aon.q06.length < 16 → t.aon = { s.aon with q06 := s.aon.q06 ++ [s.ckptBytes] } ∧ WordsBut [] s t)
      ∧ (16 ≤ s.aon.q06.length → t.aon = s.aon ∧ t.get R.AON_ERR_CNT_ckpt_skip = min (s.get R.AON_ERR_CNT_ckpt_skip + 1) 255
        ∧ WordsBut [R.AON_ERR_CNT] s t)
      ∧ Within [.regs, .aon, .obs] s t)
    ∧ (s.aon.powered = true → ∃ t, exec .checkpointCommit s = .next t ∧ (s.aon.q06 = [] → t = s)
      ∧ (∀ b q, s.aon.q06 = q ++ [b] →
        let body := b ++ leBytes 8 (s.aon.ckptSeq + 1)
        let a := retBlock (16 + 64 * s.aon.ckptSlot)
        t.aon = { s.aon with q06 := [], ckptSeq := s.aon.ckptSeq + 1, ckptSlot := 1 - s.aon.ckptSlot }
        ∧ t.bytes a (b.length + 12) = body ++ leBytes 4 (crc32 body)
        ∧ (∀ x, x < a ∨ a + b.length + 12 ≤ x → t.byte x = s.byte x)
        ∧ t.get R.AON_ERR_CNT_ckpt_skip = min (s.get R.AON_ERR_CNT_ckpt_skip + q.length) 255)
      ∧ WordsBut [R.AON_ERR_CNT] s t ∧ Within [.regs, .ram, .aon] s t)

/-- R335, R341, R344 to R348: a step takes the oldest edge of Q04, or of Q05 while Q04 is empty; with no rule in the table it
turns a host's mode request into the application of that mode, or refuses and counts a transition that is not permitted, and
counts a second one of the same step as shadowed; the shadow that it starts holds each word's composed value: the base, the
mode's patches, those of the auxiliary slots ascending (R336). A rule whose condition holds unconditionally starts its timer and
raises its event. That several requests of hosts are taken in one step is log entry 39. Stated while no composition is pending,
for a device that does not follow a partner. R339, R340, R346, R347: a timer's count that reaches zero stops it, shows and makes
a step due, which its expiry runs; a completed shadow waits for its sources, or, when all of them have swapped or it affects
none and the device is not paired, comes into force: the mode is the requested one, its entry step is due, and nothing is
pending. That a composition without sources is in force at once is log entry 33, and that each timer's expiry makes a step of
its own is log entry 39. R349 to R356: at a latch of its source an enabled governor of a device that does not follow a partner
takes the least headroom of its temperatures, derates between h_start and lim_min with a limited rise, moves one ladder step at
a time and wants a SYN_M hop unless the dwell, the stored energy or plant mode holds it back, steps the engine plan by the die
temperature, adds or drops a bridge with one auxiliary composition, and defers by the die temperature; its publisher puts the
last decision out at the next latch and drives DERATE. The headroom without any temperature and the ladder step while no step's
plan is in force are log entry 34, and that a hop already asked for is not asked again is log entry 39. -/
def Obligations.SequencerActsAndTimersExpire : Prop :=
  (∀ s : State, s.live = true → s.seq.comp = none → s.follows = false →
    (∀ e r, s.seq.q04 = e :: r → ∃ t, exec (.sequencerStep 0) s = .next t ∧ t.seq.q04 = r ∧ t.seq.q05 = s.seq.q05)
    ∧ (∀ e r, s.seq.q04 = [] → s.seq.q05 = e :: r → ∃ t, exec (.sequencerStep 1) s = .next t ∧ t.seq.q04 = [] ∧ t.seq.q05 = r)
    ∧ (∀ k r, s.seq.timersDue = k :: r → (∀ i, i < 256 → s.on (R.SEQ_RULE_valid i) = false) →
      ∃ t, exec (.sequencerStep 2) s = .next t ∧ t.seq.timersDue = r)
    ∧ (s.seq.entryStep = true → ∃ t, exec (.sequencerStep 3) s = .next t ∧ t.seq.entryStep = false)
    ∧ (s.seq.hostAux = [] → s.eng.degrade = [] → (∀ i, i < 256 → s.on (R.SEQ_RULE_valid i) = false) →
      (s.seq.hostModes = [] → ∃ t, exec (.sequencerStep 4) s = .next t ∧ t.seq = s.seq ∧ WordsBut [] s t)
      ∧ (∀ m, s.seq.hostModes = [m] → mayEnter m s.mode = false → ∃ t, exec (.sequencerStep 4) s = .next t
        ∧ t.seq = { s.seq with hostModes := [] } ∧ t.get R.SEQ_ERR_CNT_req_refused = min (s.get R.SEQ_ERR_CNT_req_refused + 1) 63
        ∧ WordsBut [R.SEQ_ERR_CNT] s t)
      ∧ (∀ m n, s.seq.hostModes = [m, n] → mayEnter m s.mode = true → mayEnter n s.mode = true → ∃ t, exec (.sequencerStep 4) s = .next t
        ∧ t.seq.hostModes = [] ∧ t.get R.SEQ_ERR_CNT_shadowed = min (s.get R.SEQ_ERR_CNT_shadowed + 1) (2 ^ R.SEQ_ERR_CNT_shadowed.w - 1)
        ∧ (m ≠ s.mode → t.get R.SEQ_STATUS_target = m % 8) ∧ (m = s.mode → t.seq.comp = none))
      ∧ (∀ m, s.seq.hostModes = [m] → mayEnter m s.mode = true → m ≠ s.mode → ∃ t c, exec (.sequencerStep 4) s = .next t
        ∧ t.seq = { s.seq with hostModes := [], comp := some c, nextModes := [], heldComp := none, compNo := c.no } ∧ c.no = s.seq.compNo + 1
        ∧ (∀ a, a ∈ s.compWords m s.auxOn → tget c.shadow a 0 = s.composed m s.auxOn a) ∧ c.sources = s.wordSources (s.compWords m s.auxOn)
        ∧ c.mode = m ∧ c.aux = s.auxOn ∧ c.modeAsked = true ∧ c.applied = false
        ∧ c.swapped = [] ∧ t.get R.SEQ_STATUS_target = m % 8 ∧ t.on R.SEQ_STATUS_busy = true ∧ t.mode = s.mode
        ∧ WordsBut [R.SEQ_STATUS, R.TWN_ERR_CNT] s t))
    ∧ (∀ i, i < 256 → s.seq.hostAux = [] → s.eng.degrade = [] → s.seq.hostModes = [] → (∀ j, j < 256 → j ≠ i → s.on (R.SEQ_RULE_valid j) = false) →
      s.on (R.SEQ_RULE_valid i) = true → s.get (R.SEQ_RULE_from i) / 2 ^ s.target % 2 = 1 → s.get (R.SEQ_RULE_cond_a i) = 97 →
      s.on (R.SEQ_RULE_a_neg i) = false → s.get (R.SEQ_RULE_cond_b i) = 127 → s.get (R.SEQ_RULE_act i) = 4 →
      let k := s.get (R.SEQ_RULE_arg i)
      ∃ t, exec (.sequencerStep 4) s = .next t ∧ t.get (R.SEQ_TIMER_remaining k) = s.get (R.SEQ_TIMER_period k)
        ∧ t.on (R.SEQ_TIMER_running k) = decide (s.get (R.SEQ_TIMER_period k) ≠ 0)
        ∧ t.on (R.SEQ_TIMER_expired k) = decide (s.get (R.SEQ_TIMER_period k) = 0)
        ∧ t.seq.timersDue = s.seq.timersDue ++ (if s.get (R.SEQ_TIMER_period k) = 0 then [k] else [])
        ∧ (s.on (R.SEQ_RULE_evt0 i) = true → tbit t.evr.pulse 508 = true) ∧ (s.on (R.SEQ_RULE_evt1 i) = true → tbit t.evr.pulse 509 = true))
    ∧ (∀ m a,
      let apply (k : Nat) (w : Word) : Word := ((s.glaze k).filter (fun p => p.addr == a)).foldl (fun v p => patchWord v p.value p.mask) w
      let base := tget s.seq.base a (s.word a)
      s.composed m [] a = apply m base
      ∧ (∀ k, 8 ≤ k → k < 16 → s.composed m [k] a = apply k (apply m base))
      ∧ (∀ j k, 8 ≤ j → j < k → k < 16 → s.composed m [j, k] a = apply k (apply j (apply m base)) ∧ s.composed m [k, j] a = s.composed m [j, k] a)))
  ∧ (∀ s : State, s.live = true →
    (∀ k n, k < 32 →
      let t := s.timerCount k n
      (n < s.get (R.SEQ_TIMER_remaining k) → t.get (R.SEQ_TIMER_remaining k) = s.get (R.SEQ_TIMER_remaining k) - n
        ∧ t.on (R.SEQ_TIMER_running k) = s.on (R.SEQ_TIMER_running k) ∧ t.seq = s.seq)
      ∧ (s.get (R.SEQ_TIMER_remaining k) ≤ n → t.on (R.SEQ_TIMER_running k) = false ∧ t.on (R.SEQ_TIMER_expired k) = true
        ∧ t.get (R.SEQ_TIMER_remaining k) = 0 ∧ t.seq = { s.seq with timersDue := s.seq.timersDue ++ [k] })
      ∧ WordsBut [R.SEQ_TIMER k + 4] s t ∧ Within [.regs, .seq] s t)
    ∧ (∀ k, k ∈ s.seq.timersDue → s.seq.comp = none → s.seq.hostModes = [] → s.seq.hostAux = [] → s.eng.degrade = [] →
      (∀ i, i < 256 → s.on (R.SEQ_RULE_valid i) = false) → ∃ t, exec (.seqTimerExpiry k) s = .next t
      ∧ t.seq = { s.seq with timersDue := s.seq.timersDue.erase k } ∧ WordsBut [] s t)
    ∧ (∀ k, k ∉ s.seq.timersDue → exec (.seqTimerExpiry k) s = .next s)
    ∧ (∀ c, s.seq.comp = some c → c.applied = false → s.get R.TWN_STATUS_state ≠ 3 →
      ∃ t, exec .glazeApplicationDone s = .next t
        ∧ ((∃ f, f ∈ c.sources ∧ f ∉ c.swapped) → t.seq = { s.seq with comp := some { c with applied := true } } ∧ WordsBut [] s t)
        ∧ ((∀ f, f ∈ c.sources → f ∈ c.swapped) → c.modeAsked = true → s.seq.nextModes = [] → s.seq.heldComp = none → s.seq.auxHeld = [] → t.seq.comp = none ∧ t.mode = c.mode % 8
          ∧ t.on R.SEQ_STATUS_busy = false ∧ t.get R.GTP_STATUS_mode_class = modeClass c.mode ∧ t.seq.entryStep = true)
        ∧ Within [.regs, .clk, .acq, .win, .evr, .eng, .grd, .mod, .gtp, .mtr, .seq, .twn, .obs] s t))
  ∧ ((∀ s : State, s.on R.GOV_CFG_en = true → s.follows = false →
    let t := s.govDecide
    let h := s.headroom
    let tj (k : Nat) : Int := s.getI R.GOV_TH_tj_max - s.sigI (s.get R.GOV_IN_tj_first + k)
    let hs (k : Nat) : Int := s.getI R.GOV_TH_hs_max - s.sigI (s.get R.GOV_IN_hs_first + k)
    let tjs := min 64 (s.get R.GOV_IN_tj_count)
    let hss := min 8 (s.get R.GOV_IN_hs_count)
    let start : Nat := max 1 (s.get R.GOV_TH_h_start)
    let low := s.getI R.GOV_TH_lim_min
    let target : Int := if (start : Int) ≤ h then pu1 else divRound (low * start + (pu1 - low) * max h 0) start
    let dt := (s.gov.lastLatch.map (fun x => s.clk.plantTime - x)).getD 0
    let last := s.gov.last.toInt
    let k := s.ladderStep
    let down : Prop := k < 7 ∧ s.on (R.GOV_LADDER_valid (k + 1)) = true ∧ h < s.get (R.GOV_LADDER_down_th k)
    let up : Prop := 0 < k ∧ s.on (R.GOV_LADDER_valid (k - 1)) = true ∧ s.get (R.GOV_LADDER_up_th (k - 1)) < h
    let want := t.get R.GOV_STAT_want
    let e := s.sigI (s.get R.GOV_IN_e_sig)
    let inhibit : Prop := e < s.getI R.GOV_TH_e_lo ∨ s.getI R.GOV_TH_e_hi < e
    let die := s.sigI (s.get R.GOV_IN_die_sig)
    let cur := s.get R.CLK_STATUS_eplan
    let has (p : Nat) : Prop := s.on (R.CLK_PLAN_defined (8 + p)) = true
    (0 < tjs + hss → (∀ j, j < tjs → h ≤ tj j) ∧ (∀ j, j < hss → h ≤ hs j) ∧ ((∃ j, j < tjs ∧ h = tj j) ∨ ∃ j, j < hss ∧ h = hs j))
    ∧ t.gov.last.toInt = (if target ≤ last then target else min target (last + divRound (s.get R.GOV_TH_rise_rate * dt : Nat) 8000000000))
    ∧ tget t.gov.pub 64 0 = t.gov.last ∧ t.gov.lastLatch = some s.clk.plantTime
    ∧ (∀ j, j < 8 → s.on (R.GOV_LADDER_valid j) = true → s.get (R.GOV_LADDER_mplan j) = s.mplan →
      (∀ i, i < j → s.on (R.GOV_LADDER_valid i) = false ∨ s.get (R.GOV_LADDER_mplan i) ≠ s.mplan) → k = j)
    ∧ t.get R.GOV_STAT_step = k ∧ (down → want = k + 1) ∧ (up → ¬ down → want = k - 1) ∧ (¬ up → ¬ down → want = k)
    ∧ (t.on R.GOV_STAT_inhibit = true ↔ inhibit)
    ∧ ((want = k ∨ inhibit ∨ s.passed s.gov.lastHopM s.dwell = false ∨ s.on R.GOV_CFG_plant = true) → t.gov.hopM = s.gov.hopM)
    ∧ (want ≠ k → ¬ inhibit → s.passed s.gov.lastHopM s.dwell = true → s.on R.GOV_CFG_plant = false →
      s.hopAsked 0 (s.get (R.GOV_LADDER_mplan want)) = false → t.gov.hopM = some (s.get (R.GOV_LADDER_mplan want)))
    ∧ (want ≠ k → inhibit → s.on R.GOV_CFG_plant = false → s.hopAsked 0 (s.get (R.GOV_LADDER_mplan want)) = false →
      t.get R.GOV_CNT_inhibited = min (s.get R.GOV_CNT_inhibited + 1) (2 ^ R.GOV_CNT_inhibited.w - 1))
    ∧ (∀ p, s.getI R.GOV_TH_die_hot ≤ die → cur < p → p < 4 → has p → p ≤ s.boot.header.slowestEplan → (∀ q, cur < q → q < p → ¬ has q) →
      s.hopAsked 1 p = false → s.passed s.gov.lastHopE s.dwell = true → t.gov.hopE = some p)
    ∧ (∀ p, die < s.getI R.GOV_TH_die_hot → die ≤ s.getI R.GOV_TH_die_hot - s.getI R.GOV_TH_die_hyst → p < cur → cur < 4 → has p →
      s.get R.GOV_CFG_eplan_fast ≤ p → (∀ q, p < q → q < cur → ¬ has q) → s.hopAsked 1 p = false → s.passed s.gov.lastHopE s.dwell = true →
      t.gov.hopE = some p)
    ∧ (∀ m, let n := max 1 (s.get R.GOV_STAT_bridges)
      let p := (s.sigI (s.get R.GOV_IN_p_sig)).natAbs
      let g (x : Nat) : Nat := s.get (R.GOV_BRIDGE_glaze x)
      (s.mode = 2 ∨ s.mode = 3 ∨ s.mode = 5) → s.seq.comp = none → s.passed s.gov.lastBridge (max 1 (s.get R.GOV_CFG_bridge_dwell) * 8000000000) = true →
      ((m = n + 1 ∧ n < 4 ∧ s.get (R.GOV_BRIDGE_p_on n) < p)
        ∨ (n = m + 1 ∧ 0 < m ∧ (4 ≤ n ∨ p ≤ s.get (R.GOV_BRIDGE_p_on n)) ∧ (p : Int) < (s.get (R.GOV_BRIDGE_p_on m) : Int) - s.get R.GOV_TH_p_hyst)) →
      t.get R.GOV_STAT_bridges = m ∧ t.gov.lastBridge = some s.clk.plantTime
      ∧ (8 ≤ g m → g m < 16 → g m ∉ s.auxOn → s.seq.auxHeld = [] → ∃ c, t.seq.comp = some c ∧ g m ∈ c.aux ∧ (g n ≠ g m → g n ∉ c.aux)))
    ∧ (s.getI R.GOV_TH_defer_th ≤ die → tget t.gov.pub 68 0 = s.word R.GOV_DEFER ∧ tget t.gov.pub 69 0 = s.word (R.GOV_DEFER + 4))
    ∧ (die < s.getI R.GOV_TH_defer_th → die ≤ s.getI R.GOV_TH_defer_th - s.getI R.GOV_TH_die_hyst → tget t.gov.pub 68 0 = 0 ∧ tget t.gov.pub 69 0 = 0)
    ∧ Within [.regs, .eng, .seq, .gov, .twn, .obs] s t)
  ∧ (∀ s : State, s.on R.GOV_CFG_en = true → s.follows = false →
    let t := s.govPublish
    t.word (R.S 64) = tget s.gov.pub 64 s.gov.last ∧ t.word (R.S 65) = BitVec.ofNat 32 s.mplan
    ∧ t.word (R.S 66) = BitVec.ofNat 32 (s.get R.CLK_STATUS_eplan)
    ∧ (s.get (R.GOV_BRIDGE_glaze (max 1 (s.get R.GOV_STAT_bridges))) ∈ s.auxOn →
      t.word (R.S 67) = BitVec.ofNat 32 (s.get (R.GOV_BRIDGE_mask (max 1 (s.get R.GOV_STAT_bridges)))))
    ∧ t.word (R.S 68) = tget s.gov.pub 68 0 ∧ t.word (R.S 69) = tget s.gov.pub 69 0
    ∧ tbit t.evr.level 510 = decide ((tget s.gov.pub 64 s.gov.last).toInt < pu1) ∧ t.gov.hopM = none ∧ t.gov.hopE = none
    ∧ t.get R.GOV_CNT_hops = min (s.get R.GOV_CNT_hops + s.gov.hopM.isSome.toNat + s.gov.hopE.isSome.toNat) (2 ^ R.GOV_CNT_hops.w - 1)))

/-- R348: the mode requests and the auxiliary requests of hosts wait for the next step, in the order of their arrival. -/
def Obligations.RequestsWaitForTheStep : Prop :=
  ∀ s : State, s.live = true →
    (∀ m, m < 8 → ∃ t, exec (.modeRequest m) s = .next t ∧ t.seq = { s.seq with hostModes := s.seq.hostModes ++ [m] } ∧ WordsBut [] s t ∧ Within [.seq] s t)
    ∧ (∀ k, 8 ≤ k → k < 16 →
      (∃ t, exec (.auxOnRequest k) s = .next t ∧ t.seq = { s.seq with hostAux := s.seq.hostAux ++ [(k, true)] } ∧ WordsBut [] s t ∧ Within [.seq] s t)
      ∧ (∃ t, exec (.auxOffRequest k) s = .next t ∧ t.seq = { s.seq with hostAux := s.seq.hostAux ++ [(k, false)] } ∧ WordsBut [] s t ∧ Within [.seq] s t))

/-- R335, R341, R348: a host's mode request that meets a pending composition no source of which has swapped is judged by the
mode in force: refused and counted, or it is for the pending mode and no other mode follows then, or it replaces the
composition, keeping its auxiliary slots, and counts; once a source has swapped it is judged by the pending mode, follows that
composition, and is the target. An auxiliary request is held, one flag per slot, and applied as a composition of its own when
the mode composition is in force. Stated for a table without rules and a device that does not follow a partner. Keeping the
auxiliary slots, and the composition of a request for its own mode, is log entry 33; the mode that a request is judged by is log
entry 39. -/
def Obligations.RequestsMeetAPendingComposition : Prop :=
  (∀ (s : State) (c : CompS) (m : Nat), s.live = true → s.follows = false → s.seq.comp = some c → c.applied = false →
    s.seq.hostAux = [] → s.eng.degrade = [] → (∀ i, i < 256 → s.on (R.SEQ_RULE_valid i) = false) → s.seq.hostModes = [m] →
    ∃ t, exec (.sequencerStep 4) s = .next t
      ∧ (mayEnter m (if c.swapped = [] then s.mode else c.mode) = false → t.seq = { s.seq with hostModes := [] }
        ∧ t.get R.SEQ_ERR_CNT_req_refused = min (s.get R.SEQ_ERR_CNT_req_refused + 1) 63 ∧ WordsBut [R.SEQ_ERR_CNT] s t)
      ∧ (c.swapped = [] → mayEnter m s.mode = true → m = c.mode → t.seq = { s.seq with hostModes := [], nextModes := [] }
        ∧ t.get R.SEQ_STATUS_target = m % 8 ∧ WordsBut [R.SEQ_STATUS] s t)
      ∧ (c.swapped = [] → mayEnter m s.mode = true → m ≠ c.mode →
        (∃ d, t.seq = { s.seq with hostModes := [], comp := some d, nextModes := [], heldComp := none, compNo := d.no }
          ∧ d.mode = m ∧ d.aux = c.aux ∧ d.modeAsked = true ∧ d.applied = false ∧ d.swapped = [])
        ∧ t.get R.SEQ_ERR_CNT_replaced = min (s.get R.SEQ_ERR_CNT_replaced + 1) (2 ^ R.SEQ_ERR_CNT_replaced.w - 1)
        ∧ t.get R.SEQ_STATUS_target = m % 8 ∧ t.mode = s.mode ∧ WordsBut [R.SEQ_STATUS, R.SEQ_ERR_CNT, R.TWN_ERR_CNT] s t)
      ∧ (c.swapped ≠ [] → mayEnter m c.mode = true → t.seq = { s.seq with hostModes := [], nextModes := if m = c.mode then [] else [m] }
        ∧ t.get R.SEQ_STATUS_target = m % 8 ∧ t.mode = s.mode ∧ WordsBut [R.SEQ_STATUS] s t))
  ∧ (∀ (s : State) (c : CompS) (k : Nat) (on : Bool), s.live = true → s.follows = false → s.seq.comp = some c → c.applied = false →
    s.seq.hostModes = [] → s.eng.degrade = [] → (∀ i, i < 256 → s.on (R.SEQ_RULE_valid i) = false) → 8 ≤ k → k < 16 → s.seq.hostAux = [(k, on)] →
    ∃ t, exec (.sequencerStep 4) s = .next t ∧ t.seq = { s.seq with hostAux := [], auxHeld := tset s.seq.auxHeld k on }
      ∧ t.get R.SEQ_STATUS_aux_req / 2 ^ (k - 8) % 2 = 1 ∧ t.get R.SEQ_STATUS_aux_on = s.get R.SEQ_STATUS_aux_on ∧ t.mode = s.mode)
  ∧ (∀ (s : State) (c : CompS) (k : Nat) (on : Bool), s.live = true → s.seq.comp = some c → c.applied = false → s.get R.TWN_STATUS_state ≠ 3 →
    c.sources = [] → c.modeAsked = true → s.seq.nextModes = [] → s.seq.heldComp = none → 8 ≤ k → k < 16 → s.seq.auxHeld = [(k, on)] →
    c.aux.contains k = !on →
    ∃ t d, exec .glazeApplicationDone s = .next t ∧ t.mode = c.mode % 8 ∧ t.seq.comp = some d ∧ t.seq.auxHeld = [] ∧ d.mode = c.mode % 8
      ∧ d.modeAsked = false ∧ d.applied = false
      ∧ (∀ j, 8 ≤ j → j < 16 → (j ∈ d.aux ↔ if j = k then on = true else j ∈ c.aux)) ∧ t.get R.SEQ_STATUS_aux_req = 0)

/-- R359, R362 to R364, R366, R385, R388, R485: aligned ports train, unless their LOS stands; hellos are counted both ways until
both ends have sixteen, an invalid one starting the count anew, when the child's port probes its parent; an owed echo is due and
the eighth brings the parent's port up; the child's eighth round trip gives its delay, its node number and level, and joins the
plant; a damaged set counts its code errors and does nothing else. A D port that is up carries marks with the time and the
level. A failing port aligns again, and with its parent the node stands alone and loses the time. That code errors come with the
commands that find them, and that ALIGN_RESTART counts a down, is log entry 18. -/
def Obligations.LinksTrainAndFail : Prop :=
  ∀ s : State, s.live = true →
    (∀ p, p < 4 → let x := s.fport p
      (s.linkState p = 1 → tbit s.pins.los p = false → s.mayTrain p = true → ∃ t, exec (.alignment p) s = .next t ∧ t.linkState p = 2
        ∧ t.fport p = { x with heard := 0, told := 0 } ∧ WordsBut [R.FAB_PORT p] s t ∧ Within [.regs, .fab, .twn] s t)
      ∧ (tbit s.pins.los p = true → exec (.alignment p) s = .next s)
      ∧ (s.linkState p = 1 → ∃ t, exec (.alignRestart p) s = .next t ∧ t.get (R.FAB_PORT_downs p) = min (s.get (R.FAB_PORT_downs p) + 1) 255
        ∧ WordsBut [R.FAB_PORT p] s t ∧ Within [.regs] s t)
      ∧ (∀ role port id level, role < 3 → port < 4 → s.linkState p = 2 →
        let y : FabPort := { x with heard := x.heard + 1, peerRole := role, peerPort := port, peerId := id, peerLevel := level }
        ∃ t, exec (.hello p 0 role port id level) s = .next t
          ∧ ((x.heard < 15 ∨ x.told < 16) → t.fport p = y ∧ WordsBut [] s t)
          ∧ (15 ≤ x.heard → 16 ≤ x.told → p = 0 → role = 2 → 3 * id + 1 + port ≤ 65535 → t.linkState 0 = 3
            ∧ t.fport 0 = { y with trips := [], awaited := true, echoDue := false, echoes := 0 } ∧ t.fabDue 0 = dueInsert (s.fabDue 0) .probe)
          ∧ (15 ≤ x.heard → 16 ≤ x.told → p = 0 → role ≠ 2 → t.linkState 0 = 5)
          ∧ (15 ≤ x.heard → 16 ≤ x.told → p ≠ 0 → role = 2 → t.linkState p = 5)
          ∧ WordsBut [R.FAB_PORT p] s t ∧ Within [.regs, .fab] s t)
      ∧ (∀ codes role port id level, port < 4 → s.linkState p = 2 → (0 < codes ∨ 3 ≤ role) → ∃ t, exec (.hello p codes role port id level) s = .next t
        ∧ t.fport p = { x with heard := 0 } ∧ t.get R.FAB_ERR_CNT2_code = min (s.get R.FAB_ERR_CNT2_code + codes) 255
        ∧ WordsBut [R.FAB_ERR_CNT2] s t ∧ Within [.regs, .fab] s t)
      ∧ (s.linkState p = 2 → (x.heard < 16 ∨ x.told < 15) → ∃ t, exec (.helloSend p) s = .next t ∧ t.fport p = { x with told := x.told + 1 }
        ∧ t.fabDue p = dueInsert (s.fabDue p) (.hello (s.helloRole p) (p - 1) s.nodeId (s.get R.FAB_STATUS_level)) ∧ WordsBut [] s t ∧ Within [.regs, .fab] s t)
      ∧ (∀ codes, 2 ≤ s.linkState p → s.linkState p ≤ 5 → ∃ t, exec (.linkDown p codes) s = .next t ∧ t.linkState p = 1 ∧ t.portUp p = false
        ∧ t.get R.FAB_ERR_CNT2_code = min (s.get R.FAB_ERR_CNT2_code + codes) 255
        ∧ (s.portUp p = true → tbit t.evr.level (481 + p) = true)
        ∧ (p = 0 → s.portUp 0 = true → t.on R.FAB_STATUS_joined = false ∧ t.on R.FAB_STATUS_standalone = true ∧ t.on R.FAB_STATUS_time_locked = false)
        ∧ Within [.regs, .evr, .fab] s t)
      ∧ (∃ t, exec (.losAssert p false) s = .next t ∧ t.pins = { s.pins with los := tset s.pins.los p false } ∧ WordsBut [] s t ∧ Within [.pins] s t)
      ∧ (2 ≤ s.linkState p → s.linkState p ≤ 5 → ∃ t, exec (.losAssert p true) s = .next t ∧ t.linkState p = 1 ∧ t.portUp p = false
        ∧ t.pins = { s.pins with los := tset s.pins.los p true } ∧ Within [.regs, .evr, .fab, .pins] s t)
      ∧ (1 ≤ p → (s.linkState p = 3 ∨ s.linkState p = 4) → ∃ t, exec (.probe p 0) s = .next t ∧ t.fport p = { x with echoDue := true }
        ∧ WordsBut [] s t ∧ Within [.fab] s t)
      ∧ (1 ≤ p → x.echoDue = true → ∃ t, exec (.echoSend p) s = .next t ∧ t.fabDue p = dueInsert (s.fabDue p) .echo
        ∧ (s.linkState p = 3 → 7 ≤ x.echoes → t.linkState p = 4 ∧ t.portUp p = true ∧ tbit t.evr.level (481 + p) = false)
        ∧ (x.echoes < 7 → t.fport p = { x with echoDue := false, echoes := x.echoes + 1 } ∧ WordsBut [] s t)
        ∧ Within [.regs, .evr, .fab, .free] s t))
    ∧ (∀ p, 4 ≤ p → p < 8 → s.twinUsed = true → ∃ t, exec (.alignment p) s = .next t ∧ t.lane (p - 4) = { s.lane (p - 4) with aligned := true, good := 0 }
      ∧ WordsBut [] s t ∧ Within [.regs, .fab, .twn] s t)
    ∧ (∀ rt : Nat, let x := s.fport 0
      let tr := (((rt : Int) - 2048) :: x.trips).take 8
      x.awaited = true → ∃ t, exec (.echo rt 0) s = .next t ∧ t.get (R.FAB_PORT_delay 0) = meanDelay tr % 2 ^ 20 ∧ (t.fport 0).trips = tr
        ∧ (s.linkState 0 = 3 → tr.length = 8 → t.linkState 0 = 4 ∧ t.portUp 0 = true ∧ t.on R.FAB_STATUS_joined = true
          ∧ t.nodeId = (3 * x.peerId + 1 + x.peerPort) % 65536
          ∧ t.get R.FAB_STATUS_level = (x.peerLevel + 1) % 2 ^ R.FAB_STATUS_level.w ∧ t.on R.FAB_STATUS_standalone = false)
        ∧ (s.linkState 0 = 3 → tr.length < 8 → (t.fport 0).awaited = true ∧ t.fabDue 0 = dueInsert (s.fabDue 0) .probe ∧ t.linkState 0 = 3)
        ∧ (s.linkState 0 ≠ 3 → (t.fport 0).awaited = false ∧ WordsBut [R.FAB_PORT 0] s t)
        ∧ Within [.regs, .evr, .fab, .free] s t)
    ∧ (s.linkState 0 = 3 → (s.fport 0).awaited = true → ∃ t, exec .echoTimeout s = .next t ∧ t.linkState 0 = 1 ∧ (t.fport 0).awaited = false
      ∧ t.get (R.FAB_PORT_downs 0) = min (s.get (R.FAB_PORT_downs 0) + 1) 255 ∧ Within [.regs, .evr, .fab] s t)
    ∧ (s.portUp 0 = true → ∃ t, exec .periodicProbe s = .next t ∧ (t.fport 0).awaited = true ∧ t.fabDue 0 = dueInsert (s.fabDue 0) .probe
      ∧ WordsBut [] s t ∧ Within [.fab] s t)
    ∧ (s.inPlant = true → s.on R.FAB_STATUS_time_valid = true → s.fab.timeWrite = none → s.fab.markAt ≠ some (s.clk.plantTime / 8000) →
      ∃ t, exec .timeMarkSend s = .next t
        ∧ (∀ p, 1 ≤ p → p < 4 → s.portUp p = true → t.fabDue p = dueInsert (s.fabDue p) (.mark s.clk.plantTime true (s.get R.FAB_STATUS_level)))
        ∧ (∀ p, p = 0 ∨ s.portUp p = false → t.fabDue p = s.fabDue p))
    ∧ (∀ codes, 0 < codes →
      let damaged (i : Instr) : Prop := ∃ t, exec i s = .next t ∧ t.get R.FAB_ERR_CNT2_code = min (s.get R.FAB_ERR_CNT2_code + codes) 255
        ∧ WordsBut [R.FAB_ERR_CNT2] s t ∧ Within [.regs] s t
      (∀ p, 1 ≤ p → p < 4 → (s.linkState p = 3 ∨ s.linkState p = 4) → damaged (.probe p codes))
      ∧ (∀ rt, (s.fport 0).awaited = true → damaged (.echo rt codes))
      ∧ (∀ p a b, p < 4 → s.portUp p = true → damaged (.tripSetReceived p codes a b))
      ∧ (∀ p b, 1 ≤ p → p < 4 → s.portUp p = true → damaged (.statusReceived p codes b) ∧ damaged (.barrierArrive p codes b))
      ∧ (∀ n, n < 256 → s.portUp 0 = true → damaged (.barrierRelease codes n))
      ∧ (∀ v ok, s.portUp 0 = true → damaged (.timeMark false codes v ok)))

/-- R360, R365 to R367, R376 to R378: the sets due on a port go out in the order of R360, one at a time, a mark with the time at
which it leaves. Marks carry the plant time out of the ports that are up, once a microsecond (log entry 40), after a waiting
write has stepped it; a mark is compared with value plus delay, the next one after a large error steps the time to its value
plus delay, and a small error is trimmed away, at most one unit a cycle; missing marks lose it. A trip set floods on, statuses
are combined upwards, and barriers gather arrivals and release; a standalone node enters none. The step to value plus delay, the
comparison of invalid marks, the depth within what the nodes can make, the kept early arrivals and the release by number are log
entry 18. -/
def Obligations.PlantTimeFloodsAndBarriers : Prop :=
  ∀ s : State, s.live = true →
    ((s.inPlant = true ∨ s.get R.TWN_CFG_role = 1) → s.fab.markAt ≠ some (s.clk.plantTime / 8000) → ∃ t, exec .timeMarkSend s = .next t
      ∧ t.fab.timeWrite = none ∧ t.fab.markAt = some (t.clk.plantTime / 8000)
      ∧ (s.fab.timeWrite = none → t.clk = s.clk ∧ WordsBut [] s t
        ∧ (∀ p, 1 ≤ p → p < 4 → s.portUp p = true → s.on R.FAB_STATUS_time_valid = true →
          t.fabDue p = dueInsert (s.fabDue p) (.mark s.clk.plantTime true (s.get R.FAB_STATUS_level))))
      ∧ (∀ w, s.fab.timeWrite = some w → t.clk.plantTime = w % 2 ^ 64) ∧ Within [.regs, .clk, .evr, .frm, .eng, .mod, .fab, .twn] s t)
    ∧ (s.fab.markAt = some (s.clk.plantTime / 8000) → exec .timeMarkSend s = .next s)
    ∧ (∀ (value : Nat) (valid : Bool), s.portUp 0 = true →
      let e : Int := (s.clk.plantTime : Int) - (value + s.get (R.FAB_PORT_delay 0) : Nat)
      ∃ t, exec (.timeMark false 0 value valid) s = .next t ∧ t.getI R.FAB_TIME_STAT_err = sat16 e
        ∧ (s.fab.stepArmed = true → t.clk.plantTime = (value + s.get (R.FAB_PORT_delay 0)) % 2 ^ 64 ∧ t.fab.stepArmed = false
          ∧ t.get R.FAB_TIME_STAT_steps = min (s.get R.FAB_TIME_STAT_steps + 1) 255)
        ∧ (s.fab.stepArmed = false → (8000 < e.natAbs ∨ (valid = true ∧ s.fab.marked = false)) → t.clk = s.clk ∧ t.fab.stepArmed = true)
        ∧ (s.fab.stepArmed = false → e.natAbs ≤ 8000 → (valid = false ∨ s.fab.marked = true) →
          t.clk = s.clk ∧ t.fab.trim = max (-125) (min 125 e) ∧ t.fab.stepArmed = false)
        ∧ Within [.regs, .clk, .evr, .frm, .eng, .mod, .fab] s t)
    ∧ (∀ u, s.standaloneTime = false → (s.isRoot = false ∨ s.rootClock = true) →
      let n := (s.fab.cycleFrac + u) / 64
      let t := s.passPlant u
      let cut := s.fab.trim - t.fab.trim
      t.clk.plantTime = (((s.clk.plantTime + 64 * n : Nat) : Int) - cut).toNat % 2 ^ 64 ∧ cut.natAbs = min n s.fab.trim.natAbs
      ∧ t.fab.trim.natAbs = s.fab.trim.natAbs - n)
    ∧ (∀ p x r, s.fabDue p = x :: r → let t := s.fabSlot p
      t.fabDue p = r ∧ tget t.fab.sent p .echo = (match x with
        | .mark _ v l => .mark s.clk.plantTime v l
        | y => y))
    ∧ (∀ (q : List FabSet) (x y : FabSet), (y ∈ dueInsert q x ↔ y ∈ q ∨ y = x)
      ∧ (q.Pairwise (fun a b => a.rank ≤ b.rank) → (dueInsert q x).Pairwise (fun a b => a.rank ≤ b.rank)))
    ∧ (∀ o n r v l b i m st a h e2 pl, ([.trip o n, .mark v r l, .barrier b i, .status st, .probe, .echo, .hello a h e2 m, .packet pl] : List FabSet).map
      FabSet.rank = [0, 1, 2, 3, 4, 4, 5, 6])
    ∧ (∀ twin, (s.on (lockFld twin) = true ∨ (twin = false ∧ s.portUp 0 = true ∧ s.on R.FAB_STATUS_time_valid = true)) →
      ∃ t, exec (.markTimeout twin) s = .next t ∧ t.on (lockFld twin) = false ∧ tbit t.evr.pulse 485 = true
        ∧ t.get R.FAB_TIME_STAT_lost = min (s.get R.FAB_TIME_STAT_lost + 1) 255
        ∧ WordsBut [R.FAB_STATUS, R.TWN_STATUS, R.FAB_TIME_STAT] s t ∧ Within [.regs, .evr, .fab] s t)
    ∧ (∀ w, s.isRoot = true → ∃ t, exec (.fabTimeWrite w) s = .next t ∧ t.fab = { s.fab with timeWrite := some (w % 2 ^ 64) }
      ∧ WordsBut [] s t ∧ Within [.fab] s t)
    ∧ (∀ p origin seq, p < 4 → s.portUp p = true → ∃ t, exec (.tripSetReceived p 0 origin seq) s = .next t ∧ tbit t.evr.pulse 480 = true
      ∧ t.get R.FAB_FLOOD_last_origin = origin % 65536 ∧ t.get R.FAB_FLOOD_last_seq = seq % 256
      ∧ t.get R.FAB_FLOOD_received = min (s.get R.FAB_FLOOD_received + 1) 255
      ∧ (∀ q, q < 4 → q ≠ p → s.portUp q = true → t.fabDue q = dueInsert (s.fabDue q) (.trip origin seq))
      ∧ (∀ q, (q = p ∨ s.portUp q = false) → t.fabDue q = s.fabDue q)
      ∧ WordsBut [R.FAB_FLOOD] s t ∧ Within [.regs, .evr, .fab] s t)
    ∧ (s.inPlant = true → ∃ t, exec .statusSend s = .next t
      ∧ (s.isRoot = false → t.fabDue 0 = dueInsert (s.fabDue 0) (.status s.statusBits) ∧ WordsBut [] s t)
      ∧ (s.isRoot = true → t.get R.FAB_PLANT_nodes = s.statusBits / 2 ^ 11 % 2 ^ 17 ∧ t.get R.FAB_PLANT_flags = s.statusBits % 128
        ∧ t.get R.FAB_PLANT_want = s.statusBits / 2 ^ 8 % 8
        ∧ levelsMin (t.get R.FAB_PLANT_nodes) ≤ t.get R.FAB_PLANT_depth ∧ t.get R.FAB_PLANT_depth ≤ min 11 (t.get R.FAB_PLANT_nodes) ∧ WordsBut [R.FAB_PLANT, R.FAB_PLANT + 4] s t)
      ∧ Within [.regs, .fab, .free] s t)
    ∧ (∀ p bits, 1 ≤ p → p < 4 → s.portUp p = true → ∃ t, exec (.statusReceived p 0 bits) s = .next t
      ∧ t.fport p = { s.fport p with status := some (bits % 2 ^ 40) } ∧ WordsBut [] s t ∧ Within [.fab] s t)
    ∧ (∀ n, n < 256 → s.on R.FAB_BARRIER_pending = false → s.inPlant = true → (∀ p, 1 ≤ p → p < 4 → s.portUp p = false) →
      ∃ t, exec (.barrierEnter n) s = .next t ∧ t.get R.FAB_BARRIER_number = n ∧ t.fab.barrierNum = n
      ∧ (s.isRoot = false → t.on R.FAB_BARRIER_pending = true ∧ t.fab.barrierSent = true ∧ t.fabDue 0 = dueInsert (s.fabDue 0) (.barrier false n))
      ∧ (s.isRoot = true → t.on R.FAB_BARRIER_pending = false ∧ t.on R.FAB_BARRIER_done = true ∧ tbit t.evr.pulse 487 = true)
      ∧ WordsBut [R.FAB_BARRIER] s t ∧ Within [.regs, .evr, .fab] s t)
    ∧ (∀ n, (s.on R.FAB_BARRIER_pending = true ∨ s.inPlant = false) → n < 256 → exec (.barrierEnter n) s = .next s)
    ∧ (∀ p n, 1 ≤ p → p < 4 → s.portUp p = true → s.on R.FAB_BARRIER_pending = false → ∃ t, exec (.barrierArrive p 0 n) s = .next t
      ∧ t.fport p = { s.fport p with arrived := some n } ∧ WordsBut [] s t ∧ Within [.regs, .evr, .fab] s t)
    ∧ (∀ n, n < 256 → s.portUp 0 = true → ∃ t, exec (.barrierRelease 0 n) s = .next t ∧ t.on R.FAB_BARRIER_done = true ∧ tbit t.evr.pulse 487 = true
      ∧ (s.fab.barrierNum = n → t.on R.FAB_BARRIER_pending = false ∧ t.fab.barrierSent = false)
      ∧ (s.fab.barrierNum ≠ n → t.on R.FAB_BARRIER_pending = s.on R.FAB_BARRIER_pending)
      ∧ (∀ p, 1 ≤ p → p < 4 → s.portUp p = true → t.fabDue p = dueInsert (s.fabDue p) (.barrier true n) ∧ (t.fport p).arrived = none)
      ∧ WordsBut [R.FAB_BARRIER] s t ∧ Within [.regs, .evr, .fab] s t)

/-- R371 to R374, R379 to R381, R383, R497: a damaged, misshapen or corrupted packet, or one that finds its receive queue full,
is counted and goes no further; a request for this node joins Q20, or waits in its receive queue while the control plane waits
for Q21, and one for another leaves by the port towards it; a scheduled operation with its grants waits for its time, or runs
late, and runs with its effect, its number and its source; the root sends one from its registers; an assignment of a Sprinkle
code needs its source and its grants. That the receive queues hold only while the control plane waits, that damaged symbols
between packets come as an empty packet, that the grants are checked at arrival and the mode at the run, arg0 modulo 8, and busy
until Q18 is empty are log entry 18. -/
def Obligations.PacketsAndScheduledOperations : Prop :=
  ∀ s : State, s.live = true →
    let refused (t : State) : Prop := t.get R.FAB_SCHED_STAT_refused = min (s.get R.FAB_SCHED_STAT_refused + 1) 255 ∧ t.fab = s.fab
    let ran (o : SchedOp) (t : State) : Prop := t.fab.sched = s.fab.sched.erase o ∧ tbit t.evr.pulse 486 = true
      ∧ t.get R.FAB_SCHED_STAT_last_id = o.id % 256 ∧ t.get R.FAB_SCHED_STAT_last_op = o.op % 8
    (∀ p codes b, p < 4 → s.portUp p = true → ∃ t, exec (.packetReceived p codes b) s = .next t
      ∧ (b = [] → t.get R.FAB_ERR_CNT2_code = min (s.get R.FAB_ERR_CNT2_code + codes) 255 ∧ t.fab = s.fab ∧ WordsBut [R.FAB_ERR_CNT2] s t)
      ∧ (b ≠ [] → 0 < codes → t.get R.FAB_ERR_CNT_crc = min (s.get R.FAB_ERR_CNT_crc + 1) 255 ∧ t.get R.FAB_ERR_CNT2_code = min (s.get R.FAB_ERR_CNT2_code + codes) 255
        ∧ t.fab = s.fab ∧ WordsBut [R.FAB_ERR_CNT, R.FAB_ERR_CNT2] s t)
      ∧ (b ≠ [] → codes = 0 → (62 < leAt b 5 1 ∨ b.length ≠ 12 + 4 * leAt b 5 1) → t.get R.FAB_ERR_CNT_len = min (s.get R.FAB_ERR_CNT_len + 1) 255
        ∧ t.fab = s.fab ∧ WordsBut [R.FAB_ERR_CNT] s t)
      ∧ (codes = 0 → leAt b 5 1 ≤ 62 → b.length = 12 + 4 * leAt b 5 1 → crc32 (b.take (b.length - 4)) ≠ leNat (b.drop (b.length - 4)) →
        t.get R.FAB_ERR_CNT_crc = min (s.get R.FAB_ERR_CNT_crc + 1) 255 ∧ tbit t.evr.pulse 489 = true ∧ t.fab = s.fab)
      ∧ (codes = 0 → leAt b 5 1 ≤ 62 → b.length = 12 + 4 * leAt b 5 1 → crc32 (b.take (b.length - 4)) = leNat (b.drop (b.length - 4)) →
        let full := 64 ≤ (if p = 0 then s.fab.q17.length else s.fab.q19.length)
        let here := isBcast b = false ∧ leAt b 1 2 = s.nodeId
        let away := isBcast b = false ∧ leAt b 1 2 ≠ s.nodeId
        (full → t.get R.FAB_ERR_CNT_drop = min (s.get R.FAB_ERR_CNT_drop + 1) (2 ^ R.FAB_ERR_CNT_drop.w - 1) ∧ t.fab = s.fab ∧ WordsBut [R.FAB_ERR_CNT] s t)
        ∧ (¬ full → here → s.fab.q21Wait = false → isRequest (leAt b 0 1) = true → s.fab.q20.length < 64 →
          t.fab = { s.fab with q20 := s.fab.q20 ++ [b] } ∧ WordsBut [] s t)
        ∧ (¬ full → here → s.fab.q21Wait = true → WordsBut [] s t
          ∧ t.fab = (if p = 0 then { s.fab with q17 := txInsert isPrio s.fab.q17 b } else { s.fab with q19 := txInsert isPrio s.fab.q19 b }))
        ∧ (¬ full → away → s.routeTo (leAt b 1 2) = 0 → s.portUp 0 = true → txRoom isPrio s.fab.q16 b = true →
          t.fab = { s.fab with q16 := txInsert isPrio s.fab.q16 b } ∧ WordsBut [] s t)
        ∧ (¬ full → away → s.routeTo (leAt b 1 2) ≠ 0 → s.portUp (s.routeTo (leAt b 1 2)) = true →
          txRoom (fun x => isPrio x.2) s.fab.q18 (s.routeTo (leAt b 1 2), b) = true →
          t.fab = { s.fab with q18 := txInsert (fun x => isPrio x.2) s.fab.q18 (s.routeTo (leAt b 1 2), b) } ∧ WordsBut [] s t))
      ∧ Within [.regs, .clk, .evr, .frm, .eng, .mod, .fab, .obs] s t)
    ∧ (∀ src op id time a0 a1, s.inPlant = true → let o : SchedOp := ⟨op, id, time, a0, a1⟩
      ∃ t, exec (.scheduledOperation src op id time a0 a1) s = .next t
        ∧ ((op = 0 ∨ 4 < op ∨ s.schedAllowed src o = false) → refused t
          ∧ (op = 2 → t.get R.BOOT_ERR_CNT_access = min (s.get R.BOOT_ERR_CNT_access + 1) 255 ∧ WordsBut [R.FAB_SCHED_STAT, R.BOOT_ERR_CNT] s t)
          ∧ (op ≠ 2 → WordsBut [R.FAB_SCHED_STAT] s t))
        ∧ (1 ≤ op → op ≤ 4 → s.schedAllowed src o = true → s.clk.plantTime ≤ time → s.fab.sched.length < 8 →
          t.fab = { s.fab with sched := s.fab.sched ++ [o] } ∧ t.get R.FAB_SCHED_STAT_pending = s.fab.sched.length + 1 ∧ WordsBut [R.FAB_SCHED_STAT] s t)
        ∧ (1 ≤ op → op ≤ 4 → s.schedAllowed src o = true → s.clk.plantTime ≤ time → 8 ≤ s.fab.sched.length → refused t ∧ WordsBut [R.FAB_SCHED_STAT] s t)
        ∧ (1 ≤ op → op ≤ 4 → s.schedAllowed src o = true → time < s.clk.plantTime → t.get R.FAB_SCHED_STAT_late = min (s.get R.FAB_SCHED_STAT_late + 1) 255
          ∧ t.fab.sched = s.fab.sched)
        ∧ Within [.regs, .clk, .evr, .frm, .eng, .mod, .fab] s t)
    ∧ (∀ o, s.inPlant = true → s.schedDue = some o →
      (o.op = 1 → ∃ t, exec .scheduledSnapshot s = .next t ∧ ran o t ∧ t.get R.FAB_SNAP_id = o.id % 256 ∧ t.on R.FAB_SNAP_valid = true
        ∧ t.word64 (R.FAB_SNAP + 4) = s.clk.plantTime % 2 ^ 64 ∧ (∀ f, f < 16 → t.word (R.FAB_SNAP_FIDX f) = s.word (R.ENG_FIDX f))
        ∧ t.on (R.MTR_SNAP_pending 2) = true ∧ Within [.regs, .clk, .evr, .frm, .eng, .mod, .fab] s t)
      ∧ (o.op = 2 → ∃ t, exec .scheduledSetpoint s = .next t ∧ ran o t
        ∧ t.eng = { s.eng with paramPend := tset s.eng.paramPend o.arg0 (BitVec.ofNat 32 o.arg1) } ∧ WordsBut [R.FAB_SCHED_STAT] s t)
      ∧ (o.op = 3 → ∃ t, exec .scheduledPlanHop s = .next t ∧ ran o t ∧ t.word64 R.CLK_HOP_TIME = o.t % 2 ^ 64
        ∧ (s.on (R.CLK_PLAN_defined (planReg 0 (o.arg0 % 8))) = true → (s.syn 0).hopping = true →
          t.syn 0 = { s.syn 0 with pendingHop := some (o.arg0 % 8), atTime := false }))
      ∧ (o.op = 4 → (s.mode = 0 ∨ s.mode = 1 ∨ s.mode = 6) → ∃ t, exec .plantReset s = .next t ∧ ran o t
        ∧ (∀ f, f < 16 → t.word (R.ENG_FIDX f) = 0) ∧ (∀ g, g < 8 → s.on (R.MOD_CG_CFG_en g) = true → (t.group g).running = true))
      ∧ (o.op = 4 → s.mode ≠ 0 → s.mode ≠ 1 → s.mode ≠ 6 → ∃ t, exec .plantReset s = .next t ∧ t.fab.sched = s.fab.sched.erase o
        ∧ t.get R.FAB_SCHED_STAT_refused = min (s.get R.FAB_SCHED_STAT_refused + 1) 255 ∧ WordsBut [R.FAB_SCHED_STAT] s t))
    ∧ (∀ link req, s.permits link req R.FAB_SCHED_TX →
      (s.on R.FAB_SCHED_TX_busy = true → ∃ t, exec (.schedTxGo link req) s = .next t ∧ Wrote link [] [] s t)
      ∧ (s.on R.FAB_SCHED_TX_busy = false → s.get R.FAB_SCHED_TX_op = 1 → s.get R.FAB_SCHED_TX_dst = s.nodeId →
        (∀ p, 1 ≤ p → p < 4 → s.portUp p = false) → s.clk.plantTime ≤ s.word64 (R.FAB_SCHED_TX + 4) → s.fab.sched.length < 8 →
        ∃ t, exec (.schedTxGo link req) s = .next t ∧ t.fab = { s.fab with sched := s.fab.sched
            ++ [⟨1, s.get R.FAB_SCHED_TX_id, s.word64 (R.FAB_SCHED_TX + 4), s.get R.FAB_SCHED_TX_arg0, s.get R.FAB_SCHED_TX_arg1⟩] }
          ∧ t.on R.FAB_SCHED_TX_busy = !s.fab.q18.isEmpty ∧ Wrote link [R.FAB_SCHED_TX, R.FAB_SCHED_STAT] [.fab, .obs] s t))
    ∧ (∀ src code share, s.inPlant = true → let r := s.packetRole src
      ∃ t, exec (.sprinkleAssignment src code share) s = .next t
        ∧ (s.on R.GRD_SPR_CFG_src = false → t.get R.FAB_ERR_CNT2_type = min (s.get R.FAB_ERR_CNT2_type + 1) 255 ∧ WordsBut [R.FAB_ERR_CNT2] s t)
        ∧ (s.on R.GRD_SPR_CFG_src = true → (s.mayWrite r.1 r.2 R.GRD_SPR_CFG = false ∨ s.glazed R.GRD_SPR_CFG = true) →
          t.get R.BOOT_ERR_CNT_access = min (s.get R.BOOT_ERR_CNT_access + 1) 255 ∧ WordsBut [R.BOOT_ERR_CNT] s t)
        ∧ (s.on R.GRD_SPR_CFG_src = true → s.mayWrite r.1 r.2 R.GRD_SPR_CFG = true → s.glazed R.GRD_SPR_CFG = false → tbit t.evr.pulse 488 = true
          ∧ t.get R.GRD_SPR_CFG_code = code % 2 ^ R.GRD_SPR_CFG_code.w ∧ t.get R.GRD_SPR_CFG_share = share % 2 ^ R.GRD_SPR_CFG_share.w)
        ∧ Within [.regs, .evr] s t)

/-- R388, R389, R391, R392, R400: a valid heartbeat counts for its aligned lane, the sixteenth in a row brings it up, and one
that is not valid starts the count anew; with two lanes up devices that match, that are both in SAFE and of which the partner
pairs too start to pair, while a mismatch is refused; a paired, refused or deserted device whose partner aligns again in SAFE
pairs anew, and a follower then leaves the fabric; at the start time both run together; a lane that goes down counts, and with
fewer than two the partner is lost; REPAIR with both in SAFE pairs anew and does nothing elsewhere. That heartbeats carry the
pairing's data and the hash of plans and sources are log entry 19; which states pair anew, and that a repair knows the partner's
mode by its last heartbeat, are log entry 40. -/
def Obligations.LanesPairStartAndLose : Prop :=
  ∀ s : State, s.live = true →
    (s.twinUsed = true →
      (∀ l role pst mode locked pairId hash, l < 4 → (s.lane l).aligned = true →
        let state := s.get R.TWN_STATUS_state
        ∃ t, exec (.twinHeartbeat l true role pst mode locked pairId hash) s = .next t
          ∧ t.lane l = { s.lane l with good := min ((s.lane l).good + 1) 16 } ∧ (∀ k, k ≠ l → t.lane k = s.lane k)
          ∧ t.twn.partnerRole = role ∧ t.twn.partnerState = pst ∧ t.twn.partnerMode = mode
          ∧ t.on (laneFld l) = (s.on (laneFld l) || decide (15 ≤ (s.lane l).good)) ∧ (∀ k, k < 4 → k ≠ l → t.on (laneFld k) = s.on (laneFld k))
          ∧ (let matches_ : Prop := role + s.get R.TWN_CFG_role = 3 ∧ pairId = (s.word R.TWN_PAIR).toNat ∧ hash = s.pairHash
            let anew : Prop := 3 ≤ state ∧ state ≤ 5 ∧ 2 ≤ t.lanesUp ∧ pst = 1 ∧ s.mode = 0 ∧ mode = 0
            (state = 1 → t.lanesUp < 2 → t.get R.TWN_STATUS_state = 1)
            ∧ (state = 1 → 2 ≤ t.lanesUp → matches_ → (t.get R.TWN_STATUS_state = 2 ↔ s.mode = 0 ∧ mode = 0 ∧ (pst = 1 ∨ pst = 2))
              ∧ (t.get R.TWN_STATUS_state = 2 ∨ t.get R.TWN_STATUS_state = 1))
            ∧ (state = 1 → 2 ≤ t.lanesUp → ¬ matches_ → t.get R.TWN_STATUS_state = 4)
            ∧ (anew → (matches_ → t.get R.TWN_STATUS_state = 2) ∧ (¬ matches_ → t.get R.TWN_STATUS_state = 4) ∧ t.twn.partnerLocked = false
              ∧ t.on R.TWN_STATUS_time_locked = false ∧ t.twn.startAt = none ∧ t.twn.q23 = []
              ∧ (s.get R.TWN_CFG_role = 2 → ∀ p, p < 4 → t.linkState p = 0))
            ∧ (¬ anew → t.twn.partnerLocked = locked)
            ∧ (state ≠ 1 → ¬ anew → t.get R.TWN_STATUS_state = state)
            ∧ (¬ anew → (state ≠ 1 ∨ matches_ ∨ s.get R.TWN_CFG_role = 2) → WordsBut [R.TWN_STATUS, R.TWN_ERR_CNT] s t))
          ∧ Within [.regs, .evr, .fab, .twn, .obs, .free] s t)
      ∧ (∀ l role pst mode locked pairId hash, l < 4 → (s.lane l).aligned = true →
        exec (.twinHeartbeat l false role pst mode locked pairId hash) s = .next (s.setTwinLane l { s.lane l with good := 0 }))
      ∧ (∃ t, exec .heartbeatSend s = .next t ∧ WordsBut [] s t
        ∧ t.twn = { s.twn with beat := (List.range 4).map (fun l => (s.get R.TWN_CFG_role, s.get R.TWN_STATUS_state, l)) } ∧ Within [.twn] s t)
      ∧ (∀ l, l < 4 → (s.lane l).aligned = true → s.on (laneFld l) = false → exec (.twinLaneDown l) s = .next (s.setTwinLane l { }))
      ∧ (∀ l, l < 4 → (s.lane l).aligned = true → s.on (laneFld l) = true → ∃ t, exec (.twinLaneDown l) s = .next t ∧ t.on (laneFld l) = false ∧ t.lane l = { }
        ∧ t.get R.TWN_ERR_CNT_lane_downs = min (s.get R.TWN_ERR_CNT_lane_downs + 1) 255 ∧ tbit t.evr.pulse 492 = true
        ∧ (s.lanesUp ≤ 2 → (s.get R.TWN_STATUS_state = 2 ∨ s.get R.TWN_STATUS_state = 3) →
          t.get R.TWN_STATUS_state = 5 ∧ tbit t.evr.pulse 490 = true ∧ t.on R.TWN_STATUS_time_locked = false ∧ t.twn.held = [])
        ∧ (3 ≤ s.lanesUp → t.get R.TWN_STATUS_state = s.get R.TWN_STATUS_state ∧ WordsBut [R.TWN_STATUS, R.TWN_ERR_CNT] s t)
        ∧ Within [.regs, .clk, .acq, .win, .evr, .eng, .grd, .mod, .gtp, .mtr, .seq, .gov, .twn, .obs] s t))
    ∧ (∀ k, s.twn.startAt = some k → k ≤ s.clk.plantTime → s.get R.TWN_STATUS_state = 2 → ∃ t, exec .twinStart s = .next t ∧ t.twn.startAt = none
      ∧ (s.mode = 0 → s.twn.partnerMode = 0 → t.get R.TWN_STATUS_state = 3 ∧ (∀ f, f < 16 → t.word (R.ENG_FIDX f) = 0)
        ∧ (∀ g, g < 8 → s.on (R.MOD_CG_CFG_en g) = true → (t.group g).running = true))
      ∧ ((s.mode ≠ 0 ∨ s.twn.partnerMode ≠ 0) → t.twn = { s.twn with startAt := none } ∧ WordsBut [] s t)
      ∧ Within [.regs, .frm, .mod, .twn] s t)
    ∧ (s.mode = 0 → s.twn.partnerMode = 0 → s.twinUsed = true → ∃ t, exec .repair s = .next t ∧ t.get R.TWN_STATUS_state = 1 ∧ t.on R.TWN_STATUS_time_locked = false
      ∧ t.twn = { s.twn with startAt := none, q23 := [], q25 := [], held := [], mirrored := [], partnerLocked := false }
      ∧ (s.get R.TWN_CFG_role = 1 → t.fab = s.fab ∧ WordsBut [R.TWN_STATUS] s t) ∧ (s.get R.TWN_CFG_role = 2 → ∀ p, p < 4 → t.linkState p = 0)
      ∧ Within [.regs, .evr, .fab, .twn] s t)
    ∧ ((s.mode ≠ 0 ∨ s.twn.partnerMode ≠ 0 ∨ s.twinUsed = false) → exec .repair s = .next s)

/-- R341, R388, R390, R393 to R398: a cross-trip raises 491 and trips the armed domains of rx_pd; a mirror entry in time waits
in Q23, or is dropped and counted where that is full, and one whose latch has passed is discarded; a latch without its entries
keeps the published values, counts, raises 493 and, with wait, holds the source; the partner's requests, compositions,
completions, start time and governor words act in the device that leads or follows, a composition that would meet a half-swapped
one is held, and messages wait in Q25 while the control plane waits; the leader's go dates the pending composition; the oldest
entry leaves a transmit queue, and what waited for room follows. A packet whose CRC-32 fails is lost. That the partner's
mirrored signals are learnt from its entries, that a miss with wait set counts too, and the operands of control messages are log
entry 19. -/
def Obligations.TwinTrafficActs : Prop :=
  ∀ s : State, s.live = true →
    (s.twinUsed = true → s.get R.TWN_STATUS_lanes_up ≠ 0 → ∀ mask, ∃ t, exec (.crossTripReceived mask) s = .next t ∧ t.twn.crossTotal = s.twn.crossTotal + 1 ∧ t.twn.crossFrom = mask % 16
      ∧ tbit t.evr.pulse 491 = true
      ∧ (∀ d, d < 4 → s.get R.TWN_CFG_rx_pd / 2 ^ d % 2 = 1 → s.on (R.WIN_PD_armed d) = true → t.on (R.WIN_PD_tripped d) = true
        ∧ (s.on (R.WIN_PD_tripped d) = false → t.on (R.WIN_PD_via_twin d) = true ∧ t.get (R.WIN_PD_first_src d) = 491))
      ∧ (∀ a, a < 0x07000000 → (∀ d, d < 4 → a ≠ R.WIN_PD d) → t.word a = s.word a) ∧ Within [.regs, .evr, .gtp, .twn] s t)
    ∧ (∀ f k sig w, s.paired = true → f < 16 → sig < 4096 → s.paramSrc sig = some f → tbit s.twn.held f = false →
      let passed := 2 ≤ s.framesDone f ∧ notAfter (k % 2 ^ 32) ((s.get (R.ENG_FIDX_index f) + 2 ^ 32 - 2) % 2 ^ 32) = true
      (passed → exec (.mirrorEntryReceived true f k sig w) s = .next s)
      ∧ exec (.mirrorEntryReceived false f k sig w) s = .next s
      ∧ (¬ passed → ∃ t, exec (.mirrorEntryReceived true f k sig w) s = .next t
        ∧ (s.twn.q23.length < 256 → t.twn = { s.twn with mirrored := tset s.twn.mirrored sig true, q23 := s.twn.q23 ++ [.mirror f (k % 2 ^ 32) sig w] }
          ∧ WordsBut [] s t)
        ∧ (256 ≤ s.twn.q23.length → t.twn.q23 = s.twn.q23 ∧ t.get R.TWN_ERR_CNT_rx_drop = min (s.get R.TWN_ERR_CNT_rx_drop + 1) 255
          ∧ t.twn.missTotal = s.twn.missTotal + 1 ∧ WordsBut [R.TWN_ERR_CNT] s t)
        ∧ Within [.regs, .eng, .twn, .obs] s t))
    ∧ (∀ f k, s.paired = true → s.mirrorParams f ≠ [] → 2 ≤ s.framesDone f → s.mirrorComplete f ((k + 2 ^ 32 - 1) % 2 ^ 32) = false →
      let t := s.mirrorLatch f k
      tbit t.evr.pulse 493 = true ∧ t.twn.missTotal = s.twn.missTotal + 1 ∧ WordsBut [R.TWN_ERR_CNT] s t
      ∧ tbit t.twn.held f = (tbit s.twn.held f || decide (s.get R.TWN_MIRROR_CFG_wait / 2 ^ f % 2 = 1)))
    ∧ (s.twinUsed = true → s.twn.waitingCtl = [] → s.twn.q25 = [] →
      (∀ m, s.leads = true → m < 8 → ∃ t, exec (.twinControlRequest true 0 [m]) s = .next t ∧ t.seq = { s.seq with hostModes := s.seq.hostModes ++ [m] } ∧ WordsBut [] s t)
      ∧ (∀ k b, s.leads = true → 8 ≤ k → k < 16 → ∃ t, exec (.twinControlRequest true 1 [k, b]) s = .next t
        ∧ t.seq = { s.seq with hostAux := s.seq.hostAux ++ [(k, b != 0)] } ∧ WordsBut [] s t)
      ∧ (∀ c n, s.leads = true → s.seq.comp = some c → c.applied = false → ∃ t, exec (.twinControlRequest true 2 [n]) s = .next t
        ∧ t.seq = { s.seq with comp := some { c with partnerDone := c.partnerDone || n == c.no } } ∧ WordsBut [] s t)
      ∧ (∀ m a n, s.follows = true → m < 8 → 0 < n → (∀ c, s.seq.comp = some c → c.swapped = []) →
        ∃ t c, exec (.twinControlRequest true 3 [m, a, n]) s = .next t ∧ t.seq.comp = some c ∧ c.mode = m ∧ c.no = n
        ∧ c.applied = false ∧ c.modeAsked = (m != s.mode) ∧ auxMask c.aux = a % 256 ∧ t.get R.SEQ_STATUS_target = m)
      ∧ (∀ m a n c, s.follows = true → m < 8 → s.seq.comp = some c → c.swapped ≠ [] →
        ∃ t l, exec (.twinControlRequest true 3 [m, a, n]) s = .next t ∧ t.seq = { s.seq with heldComp := some (m, l, n) } ∧ auxMask l = a % 256
        ∧ WordsBut [] s t)
      ∧ (∀ k, s.get R.TWN_STATUS_state = 2 → s.get R.TWN_CFG_role = 2 → ∃ t, exec (.twinControlRequest true 4 [k]) s = .next t
        ∧ t.twn = { s.twn with startAt := some k } ∧ WordsBut [] s t)
      ∧ (∀ a : List Nat, s.follows = true → ∃ t, exec (.twinControlRequest true 5 a) s = .next t
        ∧ (∀ k, k < 16 → tget t.gov.received k 0 = BitVec.ofNat 32 (a.getD k 0)) ∧ WordsBut [] s t)
      ∧ (∀ k c, s.seq.comp = some c → s.follows = true → c.applied = false → ∃ t, exec (.twinGo true k) s = .next t
        ∧ t.seq = { s.seq with comp := some { c with goAt := some k } } ∧ WordsBut [] s t))
    ∧ (∀ kind a k, exec (.twinControlRequest false kind a) s = .next s ∧ exec (.twinGo false k) s = .next s)
    ∧ (s.twinUsed = true → (s.twn.waitingCtl ≠ [] ∨ s.twn.q25 ≠ []) → ∀ kind a, kind < 7 → ∃ t, exec (.twinControlRequest true kind a) s = .next t
      ∧ (s.twn.q25.length < 256 → t.twn = { s.twn with q25 := s.twn.q25 ++ [(kind, a)] } ∧ WordsBut [] s t)
      ∧ (256 ≤ s.twn.q25.length → t.twn = s.twn ∧ t.get R.TWN_ERR_CNT_rx_drop = min (s.get R.TWN_ERR_CNT_rx_drop + 1) 255
        ∧ WordsBut [R.TWN_ERR_CNT] s t)
      ∧ Within [.regs, .twn, .obs] s t)
    ∧ (s.twinUsed = true →
      (∀ m r, s.twn.q22 = m :: r → (∀ c, c < 64 → (s.fr c).phase ≠ .waiting) → ∃ t, exec (.twinQueueRoom 22) s = .next t
        ∧ (s.twn.waitingMirror = [] → t.twn = { s.twn with q22 := r, sent := some m })
        ∧ (∀ x y, s.twn.waitingMirror = x :: y → t.twn = { s.twn with q22 := r ++ [x], waitingMirror := y, sent := some m }) ∧ WordsBut [] s t)
      ∧ (∀ m r, s.twn.q24 = m :: r → s.twn.waitingCtl = [] → s.twn.q25 = [] → ∃ t, exec (.twinQueueRoom 24) s = .next t
        ∧ t.twn = { s.twn with q24 := r, sent := some m } ∧ WordsBut [] s t)
      ∧ (∀ m r e x, s.twn.q24 = m :: r → s.twn.waitingCtl = [] → s.twn.q25 = e :: x → exec (.twinQueueRoom 24) s
        = .next (State.controlIn { s with twn := { s.twn with q24 := r, sent := some m, q25 := x } } e.1 e.2))
      ∧ (∀ m r x y, s.twn.q24 = m :: r → s.twn.q24.length ≤ 256 → s.twn.waitingCtl = x :: y → s.twn.q25 = [] →
        ∃ t, exec (.twinQueueRoom 24) s = .next t
        ∧ t.twn = { s.twn with q24 := r ++ [x], waitingCtl := y, sent := some m } ∧ WordsBut [] s t))

/-- R403, R408, R413, R415, R416, R497: a valid frame lowers REC and ends the alone state; an FD frame on a channel that has
none is ignored and counted, and the channel integrates into the bus anew, while it receives nothing; a frame of a request for
this node joins its queue, raises its source if it is of high priority, and the reassembly takes the queue's frames one message
at a time: one segment is a whole message, the first of several starts one, the last completes it, and a message of more than
248 bytes is dropped and counted as an access error; behind a whole message that waits the frames wait. A full queue drops the
frame and an unknown function does not join it, each counted. A frame has one of the lengths that its format has (canLength);
nothing else is a valid frame, and it changes nothing. The duration of integration and the reassembly by messages are log entry
41. -/
def Obligations.CanFramesAreReceived : Prop :=
  ∀ (s : State) (ch id : Nat) (fd ext remote : Bool) (data : List Byte), s.canActive ch = true →
    (canLength fd remote data.length = false → exec (.canFrameReceived ch fd ext remote id data) s = .next s)
    ∧ (canLength fd remote data.length = true →
    let fn := id / 2 ^ 21 % 32
    let high := decide (id / 2 ^ 26 % 8 < 4)
    let mine := ext = true ∧ remote = false ∧ id / 2 ^ 5 % 2 ^ 16 = s.get (R.CAN_CFG_node_id ch)
    let x := s.canCh ch
    let r := x.rx high
    let n := leAt data 3 1
    let cap := if fd then 60 else 4
    let anew := 1100 * (s.get (R.CAN_BT_NOM_brp_m1 ch) + 1) * (s.get (R.CAN_BT_NOM_tseg1_m1 ch) + s.get (R.CAN_BT_NOM_tseg2_m1 ch) + 3)
    (x.integ ≠ 0 → ∃ t, exec (.canFrameReceived ch fd ext remote id data) s = .next t ∧ t.canCh ch = { x with integ := anew } ∧ WordsBut [] s t
      ∧ Within [.can] s t)
    ∧ (x.integ = 0 → fd = true → s.on (R.CAN_CFG_fd_en ch) = false → ∃ t, exec (.canFrameReceived ch fd ext remote id data) s = .next t
      ∧ t.get (R.CAN_ERR_CNT2_fd_ignored ch) = min (s.get (R.CAN_ERR_CNT2_fd_ignored ch) + 1) 255 ∧ t.canCh ch = { x with integ := anew }
      ∧ WordsBut [R.CAN_ERR_CNT2 ch] s t ∧ Within [.regs, .can] s t)
    ∧ (x.integ = 0 → (fd = false ∨ s.on (R.CAN_CFG_fd_en ch) = true) → ∃ t, exec (.canFrameReceived ch fd ext remote id data) s = .next t
      ∧ t.on (R.CAN_STATUS_alone ch) = false
      ∧ (s.get (R.CAN_STATUS_rec ch) < 128 → t.get (R.CAN_STATUS_rec ch) = s.get (R.CAN_STATUS_rec ch) - 1)
      ∧ (128 ≤ s.get (R.CAN_STATUS_rec ch) → 119 ≤ t.get (R.CAN_STATUS_rec ch) ∧ t.get (R.CAN_STATUS_rec ch) ≤ 127)
      ∧ (¬ mine → (t.canCh ch).rx high = r ∧ WordsBut [R.CAN_STATUS ch] s t)
      ∧ (mine → canRequest fn = false → t.get (R.CAN_ERR_CNT2_unknown_fn ch) = min (s.get (R.CAN_ERR_CNT2_unknown_fn ch) + 1) 255
        ∧ (t.canCh ch).rx high = r)
      ∧ (mine → canRequest fn = true → 32 ≤ r.frames.length → t.get (R.CAN_ERR_CNT_rx_drop ch) = min (s.get (R.CAN_ERR_CNT_rx_drop ch) + 1) 255
        ∧ (t.canCh ch).rx high = r)
      ∧ (mine → canRequest fn = true → r.frames.length < 32 → (high = true → tbit t.evr.pulse (499 + 4 * ch) = true)
        ∧ (r.whole.isSome = true → (t.canCh ch).rx high = { r with frames := r.frames ++ [{ id := id, fd := fd, data := data }] } ∧ WordsBut [R.CAN_STATUS ch] s t)
        ∧ (r.whole = none → r.frames = [] → r.cur = none → leAt data 2 1 = 128 → n ≤ cap → 4 + n ≤ data.length →
          (t.canCh ch).rx high = { r with whole := some { prio := id / 2 ^ 26 % 8, fn := fn, seq := id % 32, peer := leAt data 0 2, ilen := n, segs := 1, body := slice data 4 n } }
          ∧ WordsBut [R.CAN_STATUS ch] s t)
        ∧ (r.whole = none → r.frames = [] → r.cur = none → leAt data 2 1 = 0 → cap < n → n ≤ 248 → 4 + cap ≤ data.length →
          (t.canCh ch).rx high = { r with cur := some { prio := id / 2 ^ 26 % 8, fn := fn, seq := id % 32, peer := leAt data 0 2, ilen := n, segs := 1, body := slice data 4 cap } }
          ∧ WordsBut [R.CAN_STATUS ch] s t)
        ∧ (∀ m, r.whole = none → r.frames = [] → r.cur = some m → m.segs < 128 → leAt data 2 1 = 128 + m.segs → m.peer = leAt data 0 2 → m.fn = fn →
          m.seq = id % 32 → n = m.ilen → n ≤ 248 → m.body.length ≤ n → n - m.body.length ≤ cap → 4 + (n - m.body.length) ≤ data.length → 4 ≤ data.length →
          (t.canCh ch).rx high = { r with cur := none, whole := some { m with segs := m.segs + 1, body := m.body ++ slice data 4 (n - m.body.length) } } ∧ WordsBut [R.CAN_STATUS ch] s t)
        ∧ (r.whole = none → r.frames = [] → r.cur = none → leAt data 2 1 % 128 = 0 → 4 ≤ data.length → 248 < n →
          (t.canCh ch).rx high = r ∧ t.get R.BOOT_ERR_CNT_access = min (s.get R.BOOT_ERR_CNT_access + 1) 255))
      ∧ Within [.regs, .evr, .seq, .can, .obs, .free] s t))

/-- R403, R409 to R411, R417: an acknowledged frame leaves its queue, in FD format with the bit-rate switch that brs_en asks for
and the error state, lowers TEC and ends the alone state; an ACK error counts and raises TEC in an error-active channel, and at
alone_limit the message goes back marked not sent and the channel is alone until an attempt is made; errors raise their
counters; bus-off shows, and recovery returns with both counters at zero. An event entry counts its edge, one that its source
has shown and that it has not yet taken, and sends it to each channel of its mask that takes part in the bus. That sent segments
hold their places of an unfinished message and that a channel's event number counts unsent events too are log entry 41. -/
def Obligations.CanTransmissionAndConfinement : Prop :=
  ∀ (s : State) (ch : Nat),
    let x := s.canCh ch
    let tec := s.get (R.CAN_STATUS_tec ch)
    (∀ loop, loop < 128 → s.canSends ch = true → ∃ t, exec (.canFrameSent ch loop) s = .next t ∧ t.canCh ch = { x.sent with onBus := s.canOut ch }
      ∧ (∀ f, s.canOut ch = some f → f.brs = (f.fd && s.on (R.CAN_CFG_brs_en ch)) ∧ f.esi = (f.fd && s.get (R.CAN_STATUS_state ch) == 1)
        ∧ ∃ g, x.head = some g ∧ f.id = g.id ∧ f.fd = g.fd ∧ f.data = g.data)
      ∧ t.get (R.CAN_STATUS_tec ch) = tec - 1
      ∧ t.on (R.CAN_STATUS_alone ch) = false ∧ WordsBut [R.CAN_STATUS ch] s t ∧ Within [.regs, .evr, .can, .obs] s t)
    ∧ (s.canSends ch = true → tec < 248 → ∃ t, exec (.ackError ch) s = .next t
      ∧ t.get (R.CAN_STATUS_tec ch) = (if s.get (R.CAN_STATUS_state ch) = 0 then tec + 8 else tec)
      ∧ ((s.canAlone ch = true ∨ x.ackErrors + 1 < max 8 (s.get (R.CAN_ALONE_CFG_alone_limit ch))) →
        t.canCh ch = { x with ackErrors := x.ackErrors + 1, attempt := false } ∧ WordsBut [R.CAN_STATUS ch] s t)
      ∧ (s.canAlone ch = false → max 8 (s.get (R.CAN_ALONE_CFG_alone_limit ch)) ≤ x.ackErrors + 1 →
        t.canCh ch = { x.giveBack with ackErrors := 0, attempt := false } ∧ (∀ f, x.giveBack.head = some f → f.notSent = true) ∧ t.canAlone ch = true ∧ tbit t.evr.level (498 + 4 * ch) = true
        ∧ t.get (R.CAN_ERR_CNT_not_sent ch) = min (s.get (R.CAN_ERR_CNT_not_sent ch) + 1) 255)
      ∧ Within [.regs, .evr, .can] s t)
    ∧ (∀ kind, s.canOnBus ch = true → (kind = 0 → tec < 248) → ∃ t, exec (.canError ch kind) s = .next t
      ∧ t.get (R.CAN_STATUS_tec ch) = (if kind = 0 then tec + 8 else tec)
      ∧ t.get (R.CAN_STATUS_rec ch) = (if kind = 1 then min (s.get (R.CAN_STATUS_rec ch) + 1) 255 else if kind = 2 then min (s.get (R.CAN_STATUS_rec ch) + 8) 255
        else s.get (R.CAN_STATUS_rec ch))
      ∧ t.canCh ch = { x with ackErrors := 0, attempt := false } ∧ WordsBut [R.CAN_STATUS ch] s t ∧ Within [.regs, .evr, .can] s t)
    ∧ (s.canOnBus ch = true → 248 ≤ tec → ∃ t, exec (.busOff ch) s = .next t ∧ t.get (R.CAN_STATUS_state ch) = 2 ∧ t.get (R.CAN_STATUS_tec ch) = 255
      ∧ tbit t.evr.level (496 + 4 * ch) = true ∧ t.get (R.CAN_ERR_CNT2_busoffs ch) = min (s.get (R.CAN_ERR_CNT2_busoffs ch) + 1) 255
      ∧ WordsBut [R.CAN_STATUS ch, R.CAN_ERR_CNT2 ch] s t ∧ Within [.regs, .evr, .can] s t)
    ∧ (s.canOn ch = true → ∃ t, exec (.recover ch) s = .next t
      ∧ (s.get (R.CAN_STATUS_state ch) = 2 → t.get (R.CAN_STATUS_state ch) = 3 ∧ WordsBut [R.CAN_STATUS ch] s t)
      ∧ (s.get (R.CAN_STATUS_state ch) = 3 → t.get (R.CAN_ERR_CNT_recover_ignored ch) = min (s.get (R.CAN_ERR_CNT_recover_ignored ch) + 1) 255
        ∧ WordsBut [R.CAN_ERR_CNT ch] s t)
      ∧ (s.get (R.CAN_STATUS_state ch) < 2 → t = s) ∧ Within [.regs] s t)
    ∧ (s.canOn ch = true → s.get (R.CAN_STATUS_state ch) = 3 → ∃ t, exec (.busOffRecoveryDone ch) s = .next t ∧ t.get (R.CAN_STATUS_state ch) = 0
      ∧ t.get (R.CAN_STATUS_tec ch) = 0 ∧ t.get (R.CAN_STATUS_rec ch) = 0 ∧ tbit t.evr.level (496 + 4 * ch) = false
      ∧ WordsBut [R.CAN_STATUS ch] s t ∧ Within [.regs, .evr] s t)
    ∧ (s.canActive ch = true → s.canAlone ch = true → ∃ t, exec (.aloneRetry ch) s = .next t ∧ t.canCh ch = { x with attempt := true }
      ∧ (∀ k, k ≠ ch → t.canCh k = s.canCh k) ∧ WordsBut [] s t ∧ Within [.can] s t)
    ∧ (∀ k, s.live = true → k < 8 → s.on (R.CAN_EVT_valid k) = true → tnum s.can.seen k < tnum s.evr.rises (s.get (R.CAN_EVT_src k)) →
      let n := (tnum s.can.edges k + 1) % 65536
      ∃ t, exec (.canEvent k) s = .next t ∧ tnum t.can.edges k = n ∧ tnum t.can.seen k = tnum s.can.seen k + 1
        ∧ (s.canOn ch = true → s.get (R.CAN_EVT_chan k) / 2 ^ ch % 2 = 1 → (t.canCh ch).evtSeq = (x.evtSeq + 1) % 32
          ∧ (s.canActive ch = true → x.txHigh.length + x.partHigh.length < 32 → (t.canCh ch).txHigh = x.txHigh
            ++ [{ id := s.get (R.CAN_EVT_priority k) * 2 ^ 26 + 16 * 2 ^ 21 + s.get (R.CAN_CFG_node_id ch) * 2 ^ 5 + x.evtSeq % 32,
                  fd := s.on (R.CAN_CFG_fd_en ch), data := leBytes 2 0 ++ leBytes 1 128 ++ leBytes 1 4 ++ leBytes 2 (s.get (R.CAN_EVT_src k)) ++ leBytes 2 n }])
          ∧ ((s.canActive ch = false ∨ 32 ≤ x.txHigh.length + x.partHigh.length) → (t.canCh ch).txHigh = x.txHigh))
        ∧ ((s.canOn ch = false ∨ s.get (R.CAN_EVT_chan k) / 2 ^ ch % 2 = 0) → t.canCh ch = x)
        ∧ Within [.regs, .can, .obs] s t)

/-- R420, R422, R426: the always-on domain takes the first available source and logs a change; AON_LOW shows the energy below
the reserve plus 52 µJ; VSTORE at 1.4 V, charged from a VRECT of 60 mV or more, hands over to the boost charger, which regulates
on the open-circuit voltage that it measures and stops when VSTORE measures below 1.4 V; a domain that loses power loses its
memory and its registers. What lost memory reads as, that the source in use is left 100 mV lower than it is taken and that the
hand-over is a command are log entry 16. -/
def Obligations.SuppliesChangeAndFail : Prop :=
  ∀ s : State,
    (∀ v c, s.aon.powered = true → (s.aon.main = true ∨ 1400 ≤ v ∨ 2500 ≤ c) → ∃ t, exec (.supplyChangeover v c) s = .next t
      ∧ (s.aon.main = true → t.get R.AON_STATUS_src = 0)
      ∧ (s.aon.main = false → 1800 ≤ v → t.get R.AON_STATUS_src = 1)
      ∧ (s.aon.main = false → v < 1800 → (v < 1700 ∨ s.get R.AON_STATUS_src ≠ 1) → 2500 ≤ c → t.get R.AON_STATUS_src = 2)
      ∧ (s.aon.main = false → v < 1800 → (v < 1700 ∨ s.get R.AON_STATUS_src ≠ 1) → c < 2500 → t.get R.AON_STATUS_src = 3)
      ∧ t.get R.AON_STATUS_vstore = min 4095 v ∧ t.on R.AON_STATUS_no_cell = decide (c < 2500) ∧ t.aon.vcell = c ∧ t.aon.boost = (s.aon.boost && decide (1400 ≤ v))
      ∧ t.on R.AON_STATUS_low = (s.aon.main && !s.holds (min 4095 v) (1000 * (s.reserve + 52))) ∧ tbit t.evr.level 506 = t.on R.AON_STATUS_low
      ∧ (t.get R.AON_STATUS_src = s.get R.AON_STATUS_src → t.aon.q07 = s.aon.q07)
      ∧ (t.get R.AON_STATUS_src ≠ s.get R.AON_STATUS_src → s.aon.q07.length < 16 → t.aon.q07 = s.aon.q07
        ++ [(5, ([1, BitVec.ofNat 8 (t.get R.AON_STATUS_src), 0, 0] ++ leBytes 2 (min 4095 v) ++ List.replicate 16 0).take 16)])
      ∧ WordsBut [R.AON_STATUS, R.AON_ERR_CNT] s t ∧ Within [.regs, .evr, .aon, .obs] s t)
    ∧ (∀ v r, s.aon.boost = false → (1400 ≤ v → 60 ≤ r → ∃ t, exec (.coldStartHandover v r) s = .next t ∧ t.aon = { s.aon with boost := true }
        ∧ WordsBut [] s t ∧ Within [.aon] s t)
      ∧ ((v < 1400 ∨ r < 60) → exec (.coldStartHandover v r) s = .next s))
    ∧ (∀ v, s.aon.boost = true → ∃ t, exec (.openCircuitMeasure v) s = .next t ∧ t.aon = { s.aon with vrectOpen := v }
      ∧ WordsBut [] s t ∧ Within [.aon] s t)
    ∧ (∀ v c, s.aon.powered = true → s.aon.main = false → v < 1400 → c < 2500 → ∃ t, exec (.domainLosesPower v c) s = .next t ∧ t.aon = { }
      ∧ (∀ k, k < 9 → t.word (R.AON_STATUS + 4 * k) = regReset (R.AON_STATUS + 4 * k))
      ∧ (∀ a, retBase ≤ a → a < retBase + 16384 → t.byte a = 0) ∧ (∀ a, a < retBase ∨ retBase + 16384 ≤ a → t.byte a = s.byte a)
      ∧ Within [.regs, .ram, .aon] s t)

/-- R429: at each start of the domain blocks 0 to 5 are checked; a wrong magic or CRC zeroes the whole memory, writes a new
header with rtc_valid = 0 and sets AON_STATUS.rebuilt, and a header that is right leaves the memory as it was. -/
def Obligations.RetentionIsCheckedAtEachStart : Prop :=
  ∀ (s : State) (v c : Nat) (xtal : Bool), s.aon.powered = false → (s.aon.main = true ∨ 1400 ≤ v ∨ 2500 ≤ c) →
    let good := leNat (s.bytes retBase 4) = leNat [0x54, 0x47, 0x41, 0x4F] ∧ leNat (s.bytes (retBlock 5) 4) = crc32 (s.bytes retBase 20)
    ∃ t, exec (.aonDomainStart v c xtal) s = .next t ∧ t.aon.powered = true ∧ t.on R.AON_STATUS_xtal_ok = xtal
      ∧ (∀ k, 1 ≤ k → k < 9 → t.word (R.AON_STATUS + 4 * k) = regReset (R.AON_STATUS + 4 * k))
      ∧ (good → t.ram = s.ram ∧ t.on R.AON_STATUS_rebuilt = false)
      ∧ (¬ good → t.on R.AON_STATUS_rebuilt = true ∧ t.on R.AON_STATUS_rtc_valid = false
        ∧ t.bytes retBase 20 = [0x54, 0x47, 0x41, 0x4F, 1, 0, 0, 0] ++ List.replicate 12 0
        ∧ t.bytes (retBlock 5) 4 = leBytes 4 (crc32 (t.bytes retBase 20))
        ∧ (∀ a, retBase + 24 ≤ a → a < retBase + 16384 → t.byte a = 0)
        ∧ (∀ a, a < retBase ∨ retBase + 16384 ≤ a → t.byte a = s.byte a))
      ∧ Within [.regs, .ram, .evr, .aon, .obs] s t

/-- R424, R425, R431, R433, R435, R436: a burst of one of the four costs is admitted by the main supply, the stored energy ½ C
V² or the cell, and else counted as refused (each with VSTORE measured at its operand); a commit writes the first record of Q07
at the head of the log, after any tamper entry that is pending; a tamper input changes at the fourth equal sample, and with each
sample AON_STATUS shows whether the crystal runs (R434; that it comes with the sample is log entry 16). A VSTORE that measures
below 1.4 V stops the boost charger (R422). -/
def Obligations.BurstsLogsAndTampers : Prop :=
  ∀ s : State, s.aon.powered = true →
    (∀ kind n v, kind < 4 → 1 ≤ n → n ≤ 32 →
      let nj := if kind = 0 then 4000 else if kind = 1 then 5500 else if kind = 2 then 4000 + 1500 * n else 3000
      let m := min 4100 v
      ∃ t, exec (.burstRequest kind n v) s = .next t
      ∧ t.get R.AON_STATUS_vstore = min 4095 v
      ∧ ((s.aon.main = true ∨ 2000 * (nj + 1000 * s.reserve) ≤ s.cStore * m * m) → t.aon.refusedSince = 0
        ∧ t.get R.AON_ERR_CNT_refused = s.get R.AON_ERR_CNT_refused ∧ t.get R.AON_ERR_CNT_cell_bursts = s.get R.AON_ERR_CNT_cell_bursts)
      ∧ (s.aon.main = false → s.cStore * m * m < 2000 * (nj + 1000 * s.reserve) → s.on R.AON_CFG_cell_burst = true → 2500 ≤ s.aon.vcell →
        t.aon.refusedSince = 0 ∧ t.get R.AON_ERR_CNT_cell_bursts = min (s.get R.AON_ERR_CNT_cell_bursts + 1) 255
        ∧ t.get R.AON_ERR_CNT_refused = s.get R.AON_ERR_CNT_refused)
      ∧ (s.aon.main = false → s.cStore * m * m < 2000 * (nj + 1000 * s.reserve) → (s.on R.AON_CFG_cell_burst = false ∨ s.aon.vcell < 2500) →
        t.aon = { s.aon with refusedSince := s.aon.refusedSince + 1, boost := s.aon.boost && decide (1400 ≤ v) }
        ∧ t.get R.AON_ERR_CNT_refused = min (s.get R.AON_ERR_CNT_refused + 1) 255)
      ∧ (s.aon.refusedSince = 0 → WordsBut [R.AON_STATUS, R.AON_ERR_CNT] s t) ∧ Within [.regs, .evr, .aon, .obs] s t)
    ∧ (∀ v, ∃ t, exec (.logCommit v) s = .next t
      ∧ (s.aon.main = false → s.holds (min 4100 v) (3000 + 1000 * s.reserve) = false → (s.on R.AON_CFG_cell_burst = false ∨ s.aon.vcell < 2500) →
        t.ram = s.ram ∧ t.aon.q07 = s.aon.q07 ∧ t.get R.AON_TAMPER_STAT_pending = s.get R.AON_TAMPER_STAT_pending)
      ∧ ((s.aon.main = true ∨ s.holds (min 4100 v) (3000 + 1000 * s.reserve) = true) →
        (s.get R.AON_TAMPER_STAT_pending ≠ 0 → t.get R.AON_TAMPER_STAT_pending = 0 ∧ t.aon.tampers = s.aon.tampers + 1
          ∧ t.retLog 19 5 = (s.retLog 19 5 + 1) % 32 ∧ t.retLog 24 6 = min 32 (s.retLog 24 6 + 1) ∧ t.retLog 0 9 = s.retLog 0 9)
        ∧ (∀ kind p r, s.get R.AON_TAMPER_STAT_pending = 0 → s.aon.q07 = (kind, p) :: r → s.aon.refusedSince = 0 →
          t.aon = { s.aon with q07 := r, boost := s.aon.boost && decide (1400 ≤ v) }
          ∧ t.bytes (retBlock (1024 + 6 * s.retLog 0 9)) (8 + p.length) = s.logEntry kind p
          ∧ t.retLog 0 9 = (s.retLog 0 9 + 1) % 512 ∧ t.retLog 9 10 = min 512 (s.retLog 9 10 + 1) ∧ t.retNum 4 4 = (s.retNum 4 4 + 1) % 2 ^ 32))
      ∧ Within [.regs, .ram, .evr, .aon, .obs] s t)
    ∧ (∀ levels v xtal, levels < 16 → ∃ t, exec (.tamperSample levels v xtal) s = .next t ∧ t.on R.AON_STATUS_xtal_ok = xtal
      ∧ (∀ k, k < 4 →
        let lv := s.get R.AON_TAMPER_STAT_level / 2 ^ k % 2
        let x := levels / 2 ^ k % 2
        let n := tnum s.aon.tamperRun k
        (s.get R.AON_TAMPER_CFG_en / 2 ^ k % 2 = 0 → t.get R.AON_TAMPER_STAT_level / 2 ^ k % 2 = 0 ∧ tnum t.aon.tamperRun k = 0)
        ∧ (s.get R.AON_TAMPER_CFG_en / 2 ^ k % 2 = 1 →
          t.get R.AON_TAMPER_STAT_level / 2 ^ k % 2 = (if x ≠ lv ∧ 3 ≤ n then x else lv)
          ∧ tnum t.aon.tamperRun k = (if x ≠ lv ∧ n < 3 then n + 1 else 0)
          ∧ (x = 1 → lv = 0 → 3 ≤ n → t.get R.AON_TAMPER_STAT_seen / 2 ^ k % 2 = 1 ∧ (s.aon.main = true → tbit t.evr.pulse 505 = true))))
      ∧ ((∀ k, k < 4 → levels / 2 ^ k % 2 ≤ s.get R.AON_TAMPER_STAT_level / 2 ^ k % 2) → t.ram = s.ram ∧ WordsBut [R.AON_STATUS, R.AON_TAMPER_STAT] s t
        ∧ t.get R.AON_TAMPER_STAT_seen = s.get R.AON_TAMPER_STAT_seen)
      ∧ Within [.regs, .ram, .evr, .aon, .obs] s t)

/-- R425, R432, R437 to R440: a request for this device is answered with what it reads or with an error code, each in a burst of
its own cost, and a refused burst is answered 0x0F; a Stay Quiet that is admitted is not answered, and a quiet device answers no
inventory until the field is lost; an inventory of 16 slots is answered in the slot that the four bits of the UID after the mask
name; a notice of the answer is counted while the control plane runs. The frame formats, the slots, and the error for a short
request that reaches past block 255 are log entry 16. -/
def Obligations.RfRequestsAreAnswered : Prop :=
  ∀ s : State,
    let pays (v nj : Nat) : Prop := s.aon.main = true ∨ s.holds (min 4100 v) (nj + 1000 * s.reserve) = true
    let tells (i : Instr) (bytes : List Byte) : Prop := ∃ t, exec i s = .next t ∧ tget t.answers rfLink { } = { bytes := bytes }
      ∧ (∀ l, l ≠ rfLink → tget t.answers l { } = tget s.answers l { })
      ∧ (s.aon.main = true → s.boot.stage ≠ .inReset → t.get R.AON_RF_CNT_commands = min (s.get R.AON_RF_CNT_commands + 1) 65535)
      ∧ Within [.regs, .evr, .aon, .obs, .answers] s t
    let poor (v : Nat) : Prop := s.aon.main = false ∧ s.holds (min 4100 v) (4000 + 1000 * s.reserve) = false ∧ s.on R.AON_CFG_cell_burst = false
    (∀ flags afi len mask v, s.rfHears flags = true → flagBit flags 2 = true → s.aon.quiet = false →
      len ≤ (if flagBit flags 5 then 64 else 60) → (flagBit flags 4 = false ∨ afi = 0) → mask % 2 ^ len = s.uid % 2 ^ len →
      (pays v 4000 → tells (.inventory flags afi len mask v) (if flagBit flags 6 then [1, 3] else [0, 0] ++ leBytes 8 s.uid))
      ∧ (poor v → tells (.inventory flags afi len mask v) [1, 0x0F])
      ∧ ∀ t, exec (.inventory flags afi len mask v) s = .next t → t.aon.slot = if flagBit flags 5 then 0 else s.uid / 2 ^ len % 16)
    ∧ (∀ flags afi len mask v, s.aon.quiet = true → exec (.inventory flags afi len mask v) s = .next s)
    ∧ (∀ flags v, s.rfHears flags = true → flagBit flags 5 = true →
      (flagBit flags 6 = false → pays v 4000 → ∃ t, exec (.stayQuiet flags s.uid v) s = .next t
        ∧ t.aon.quiet = true ∧ Within [.regs, .evr, .aon, .obs] s t)
      ∧ (flagBit flags 6 = true → pays v 4000 → tells (.stayQuiet flags s.uid v) [1, 3])
      ∧ (poor v → tells (.stayQuiet flags s.uid v) [1, 0x0F]))
    ∧ (∃ t, exec .rfFieldLost s = .next t ∧ t.aon = { s.aon with quiet := false } ∧ WordsBut [] s t ∧ Within [.aon] s t)
    ∧ (∀ flags uid v, s.rfForMe flags uid = true →
      (∀ b, b < (if flagBit flags 3 then 65536 else 256) →
        (flagBit flags 6 = false → b ≤ 4095 → pays v 5500 → tells (.readSingleBlock flags uid b v) (0 :: s.bytes (retBlock b) 4))
        ∧ (flagBit flags 6 = false → 4095 < b → pays v 4000 → tells (.readSingleBlock flags uid b v) [1, 0x10])
        ∧ (flagBit flags 6 = true → pays v 4000 → tells (.readSingleBlock flags uid b v) [1, 3])
        ∧ (poor v → tells (.readSingleBlock flags uid b v) [1, 0x0F])
        ∧ (∀ n, n < 256 →
          (flagBit flags 6 = false → b + n ≤ (if flagBit flags 3 then 4095 else 255) → n < 32 → pays v (4000 + 1500 * (n + 1)) →
            tells (.readMultipleBlocks flags uid b n v) (0 :: s.bytes (retBlock b) (4 * (n + 1))))
          ∧ (flagBit flags 6 = false → ((if flagBit flags 3 then 4095 else 255) < b + n ∨ 32 ≤ n) → pays v 4000 → tells (.readMultipleBlocks flags uid b n v) [1, 0x10])
          ∧ (flagBit flags 6 = true → pays v 4000 → tells (.readMultipleBlocks flags uid b n v) [1, 3])
          ∧ (poor v → tells (.readMultipleBlocks flags uid b n v) [1, 0x0F])))
      ∧ (pays v 4000 → tells (.getSystemInformation flags uid v) (if flagBit flags 6 then [1, 3] else
        [0, 0x0C] ++ leBytes 8 s.uid ++ (if flagBit flags 3 then [0xFF, 0x0F] else [0xFF]) ++ [0x03, 0x11]))
      ∧ (poor v → tells (.getSystemInformation flags uid v) [1, 0x0F])
      ∧ (∀ cmd, cmd < 256 → cmd ∉ [1, 2, 0x20, 0x23, 0x2B] →
        (pays v 4000 → tells (.rfUnsupportedCommand flags uid cmd v) (if flagBit flags 6 then [1, 3] else [1, 1]))
        ∧ (poor v → tells (.rfUnsupportedCommand flags uid cmd v) [1, 0x0F])))

/-- R446: a permitted write of take makes a take pending; a MOD tick that finds one pending ends with the copy of all 64
counters and the five accumulators into the read shadow, which increments seq; a permitted write of OBS_CTL.clear zeroes every
counter and accumulator and leaves the shadow (R443). R448: the oldest entry of Q27 leaves for the observation RAM where its
record fits at once; then, with drain set and room for one more of the 64 entries of Q27, the oldest unread entry of the ring
enters Q27 behind the others and is no longer unread, while one that finds Q27 full waits in the ring and counts once as refused
(R14); a permitted read of word 3 of the oldest unread entry over a link answers that word and marks the entry read, and reading
another marks none. -/
def Obligations.CountersAndPreciseSamples : Prop :=
  ((∀ (s : State) (link req : Nat), s.permits link req R.OBS_SNAP → ∃ t, exec (.obsSnapTake link req) s = .next t
      ∧ t.on R.OBS_SNAP_pending = true ∧ t.get R.OBS_SNAP_seq = s.get R.OBS_SNAP_seq ∧ Wrote link [R.OBS_SNAP] [] s t)
  ∧ (∀ s : State, s.modParts.on R.OBS_SNAP_pending = true → s.modTicks = s.modParts.obsTakeSnap)
  ∧ (∀ s : State, let t := s.obsTakeSnap
      (∀ n, n < 64 → t.get (R.OBS_CNT_count_lo n) = tnum s.obs.cnt n % 2 ^ 32
        ∧ t.get (R.OBS_CNT_count_hi n) = tnum s.obs.cnt n / 2 ^ 32 % 2 ^ 16)
      ∧ (∀ c, c < 5 → t.get (R.OBS_LCA_cycles_lo c) = tnum s.obs.lca c % 2 ^ 32
        ∧ t.get (R.OBS_LCA_cycles_hi c) = tnum s.obs.lca c / 2 ^ 32 % 2 ^ 16)
      ∧ t.get R.OBS_SNAP_seq = (s.get R.OBS_SNAP_seq + 1) % 2 ^ 8 ∧ t.on R.OBS_SNAP_pending = false
      ∧ (∀ a, ¬ (R.OBS_CNT 0 ≤ a ∧ a < R.OBS_CNT 64) → ¬ (R.OBS_LCA 0 ≤ a ∧ a < R.OBS_LCA 5) → a ≠ R.OBS_SNAP →
        t.word a = s.word a) ∧ Within [.regs] s t)
  ∧ (∀ (s : State) (link req : Nat), s.permits link req R.OBS_CTL → ∃ t, exec (.counterClear link req) s = .next t
      ∧ (∀ n, tnum t.obs.cnt n = 0 ∧ tnum t.obs.lca n = 0) ∧ t.obs = { s.obs with cnt := [], lca := [] } ∧ Wrote link [] [.obs] s t))
  ∧ (∀ s : State,
    (let leaves : Prop := s.obs.q26 = [] ∧ s.obsUsed + 3 < obsUnits
      ∀ q, (leaves → q = s.obs.q27.tail) → (¬ leaves → q = s.obs.q27) →
        s.live = true → s.on R.OBS_PS_CFG_drain = true → s.get R.OBS_PS_STAT_count ≠ 0 →
        ∃ t, exec .preciseSampleDrain s = .next t
          ∧ (q.length < 64 → t.obs.q27 = q ++ [(tnum s.obs.psPlan s.psOldest, s.words (R.OBS_PS s.psOldest) 4)]
            ∧ t.get R.OBS_PS_STAT_count = s.get R.OBS_PS_STAT_count - 1)
          ∧ (64 ≤ q.length → t.obs.q27 = q ∧ t.get R.OBS_PS_STAT_count = s.get R.OBS_PS_STAT_count ∧ t.obs.q27Wait = true)
          ∧ WordsBut [R.OBS_PS_STAT, R.OBS_STATUS, R.OBS_RAM_STAT, R.OBS_ERR_CNT] s t ∧ Within [.regs, .ram, .obs, .free] s t)
    ∧ (∀ link req i, s.linkOpen link = true → i < 1024 → s.reserved (R.OBS_PS i + 12) = false →
      s.mayRead (s.roleOf link req) (R.OBS_PS i + 12) = true →
      ∃ t, exec (.preciseSampleRead link req i) s = .next t ∧ tget t.answers link { } = { words := [s.word (R.OBS_PS i + 12)] }
        ∧ t.get R.OBS_PS_STAT_count =
          (if s.psOldest = i then s.get R.OBS_PS_STAT_count - 1 else s.get R.OBS_PS_STAT_count)
        ∧ WordsBut [R.OBS_PS_STAT] s t ∧ Within [.regs, .answers] s t))

/-- R452 and R453: a permitted write of arm starts recording and writes a start record, one of disarm ends it. No register
changes but OBS_STATUS and, where the start record goes or is lost, the RAM's write pointer and the loss count. R454: in each
stretch of t µs one dump is due, taken by the first command that asks; one that is due while an earlier one still writes is
skipped and counted; otherwise the valid ranges are written in order, so with one valid range it is one dump record of that
range's words, and with none nothing is written. What the latches of the same tick publish stands first, and a range over the
OBS region takes the counters first (both log entry 29). -/
def Obligations.RecordingAndPeriodicDumps : Prop :=
  (∀ (s : State) (link req : Nat), s.permits link req R.OBS_REC_CTL →
    (∃ t, exec (.recordArm link req) s = .next t ∧ t.obs.recording = true
      ∧ (∃ u v : State, u.on R.OBS_STATUS_recording = true ∧ (∀ c, c < 64 → tbit u.obs.needOrigin c = true) ∧ u.obs.lostSinceGap = s.obs.lostSinceGap
        ∧ WordsBut [R.OBS_STATUS] s u ∧ Within [.regs, .obs] s u
        ∧ v = u.record 0x0A 0 s.mplan (s.clk.plantTime / 2 ^ 10 % 2 ^ 32)
            (beBytes 48 s.boot.imageHash.toNat ++ leBytes 4 s.bootCount ++ leBytes 1 s.boot.slot
              ++ leBytes 1 (s.get R.CLK_STATUS_eplan) ++ leBytes 2 0)
        ∧ t = v.answer link { })
      ∧ Wrote link [R.OBS_STATUS, R.OBS_RAM_STAT, R.OBS_ERR_CNT] [.ram, .obs, .free] s t)
    ∧ (∃ t, exec (.recordDisarm link req) s = .next t ∧ t.obs = { s.obs with recording := false }
      ∧ t.on R.OBS_STATUS_recording = false ∧ Wrote link [R.OBS_STATUS] [.obs] s t))
  ∧ (∀ s : State, s.live = true → s.on R.OBS_DUMP_CFG_en = true → s.on R.OBS_DUMP_CFG_by_time = true →
    let n := s.clk.plantTime / (8000 * max 1 (s.get R.OBS_DUMP_CFG_t))
    let s1 : State := { s.latchFirst with obs := { s.latchFirst.obs with dumpAt := some n } }
    (s.obs.dumpAt = some n → exec .periodicDump s = .next s)
    ∧ (s.obs.dumpAt ≠ some n → s1.dumpBusy = true → ∃ t, exec .periodicDump s = .next t
      ∧ t.get R.OBS_ERR_CNT_dump_skip = min (s1.get R.OBS_ERR_CNT_dump_skip + 1) (2 ^ R.OBS_ERR_CNT_dump_skip.w - 1)
      ∧ t.obs = s1.obs ∧ WordsBut [R.OBS_ERR_CNT] s1 t ∧ Within [.regs, .obs] s1 t)
    ∧ (s.obs.dumpAt ≠ some n → s1.dumpBusy = false → (∀ r, r < 8 → s1.on (R.OBS_DUMP_RANGE_valid r) = false) →
      exec .periodicDump s = .next s1)
    ∧ (∀ r d, r < 8 → s.obs.dumpAt ≠ some n → s1.dumpBusy = false →
      (∀ q, q < 8 → s1.on (R.OBS_DUMP_RANGE_valid q) = decide (q = r)) →
      (s1.get (R.OBS_DUMP_REGION_region r) = 0x0D → d = s1.obsTakeSnap) → (s1.get (R.OBS_DUMP_REGION_region r) ≠ 0x0D → d = s1) →
      ∃ t, exec .periodicDump s = .next t
        ∧ t = d.record 6 0 d.mplan (d.clk.plantTime / 2 ^ 10 % 2 ^ 32) (leBytes 4 r
            ++ ((List.range (d.get (R.OBS_DUMP_RANGE_words_m1 r) + 1)).map (fun k => d.dumpWord r k)).flatMap (fun w => leBytes 4 w.toNat))
        ∧ WordsBut [R.OBS_STATUS, R.OBS_RAM_STAT, R.OBS_ERR_CNT] d t ∧ Within [.regs, .ram, .obs, .free] d t))

/-- R461 and R462: a permitted write of halt sets ENG_STATUS.halted, OBS_DBG_CTL.halt and OBS_DBG_STAT.halted, abandons every
frame that is under way, each of which counts in OBS_DBG_STAT.abandoned, and any step, and takes every leg with en = 1 into the
safe state of R268; an engine already halted stays as it is; while halted no context is dispatched but the one that a step lets
run; a step asked for while halted waits for its context and replaces one that waits, and without a halt it is ignored; the
stepped context's frame opens and starts as any other, and its commit sets step_done; clearing the halt takes the three halt
bits away. That it drops a step which waits is the model's choice (log entry 21). R457: a permitted start while busy is ignored
and one outside TEST with every gate port disabled is refused with result 2; a test powers the synthesizer down 1 µs after its
start; an abort before that waits for it, and one after it powers up at once; once dur has passed or an abort has acted, the
test ends with a result that says whether the synthesizer relocked and the block went into its safe state. The lock counts of
the windows of 2 µs after power-up say whether it relocked (R86). That dur counts from the completed power-down is the model's
choice (log entry 40). -/
def Obligations.HaltStepAndClockStopTest : Prop :=
  (∀ (s : State) (link req : Nat), s.permits link req R.OBS_DBG_CTL →
    (s.on R.ENG_STATUS_halted = false → ∃ t, exec (.halt link req) s = .next t
      ∧ t.on R.ENG_STATUS_halted = true ∧ t.on R.OBS_DBG_CTL_halt = true ∧ t.on R.OBS_DBG_STAT_halted = true
      ∧ t.get R.OBS_DBG_STAT_abandoned = min (2 ^ R.OBS_DBG_STAT_abandoned.w - 1)
          (s.get R.OBS_DBG_STAT_abandoned + ((List.range 64).filter (fun c => (s.fr c).phase.underWay)).length)
      ∧ (∀ l, l < 48 → s.on (R.MOD_LEG_CFG_en l) = true → (t.gleg l).safeHeld = true) ∧ t.on R.MOD_STATUS_safe = true
      ∧ (∀ c, c < 64 → (t.fr c).phase.underWay = false) ∧ t.obs.stepPending = none ∧ t.obs.stepping = none
      ∧ tget t.answers link { } = { } ∧ Within [.regs, .ram, .evr, .eng, .gtp, .twn, .obs, .answers, .free] s t)
    ∧ (s.on R.ENG_STATUS_halted = true → ∃ t, exec (.halt link req) s = .next t ∧ t.on R.OBS_DBG_CTL_halt = true
      ∧ Wrote link [R.OBS_DBG_CTL] [] s t)
    ∧ (∀ c, 1 ≤ c → c < 64 → s.on R.ENG_STATUS_halted = true → s.on R.OBS_DBG_CTL_halt = true →
      ∃ t, exec (.engineStep link req c) s = .next t ∧ t.obs = { s.obs with stepPending := some c }
        ∧ t.get R.OBS_DBG_CTL_step_ctx = c ∧ Wrote link [R.OBS_DBG_CTL] [.obs] s t)
    ∧ (∀ c, 1 ≤ c → c < 64 → s.on R.ENG_STATUS_halted = false → s.on R.OBS_DBG_CTL_halt = false →
      ∃ t, exec (.engineStep link req c) s = .next t ∧ t.get R.OBS_DBG_CTL_step_ctx = c ∧ Wrote link [R.OBS_DBG_CTL] [] s t)
    ∧ (s.on R.ENG_STATUS_halted = true → ∃ t, exec (.haltClear link req) s = .next t ∧ t.on R.ENG_STATUS_halted = false
      ∧ t.on R.OBS_DBG_STAT_halted = false ∧ t.on R.OBS_DBG_CTL_halt = false ∧ t.obs = { s.obs with stepPending := none }
      ∧ Wrote link [R.OBS_DBG_CTL, R.OBS_DBG_STAT, R.ENG_STATUS] [.obs] s t)
    ∧ (∀ c, s.on R.ENG_STATUS_halted = true → s.obs.stepping ≠ some c → exec (.contextDispatch c) s = .next s)
    ∧ (∀ c f idx, s.obs.stepPending = some c →
      (s.openFrame c f idx).obs.stepPending = none ∧ (s.openFrame c f idx).obs.stepping = some c)
    ∧ (∀ c l, s.live = true → c < 64 → s.obs.stepping = some c → (s.fr c).phase = .ready → s.firstDue c = true → s.freeLane = some l →
      ∃ t, exec (.contextDispatch c) s = .next t ∧ (t.fr c).phase = .running ∧ (t.fr c).lane = l ∧ t.obs.stepping = some c)
    ∧ (∀ c, s.live = true → c < 64 → s.obs.stepping = some c → (s.fr c).phase = .running → s.programDone c = true →
      s.queuesHaveRoom c = true → s.mirrorHasRoom c = true →
      ∃ t, exec (.contextCommit c) s = .next t ∧ t.on R.OBS_DBG_STAT_step_done = true ∧ t.obs.stepping = none))
  ∧ (∀ s : State,
    let i := s.get R.OBS_CLKTEST_target
    (∀ link req, s.permits link req R.OBS_CLKTEST →
      (s.on R.OBS_CLKTEST_busy = true → ∃ t, exec (.clockStopTest link req) s = .next t ∧ Wrote link [] [] s t)
      ∧ (s.on R.OBS_CLKTEST_busy = false → s.testMode = false → ∃ t, exec (.clockStopTest link req) s = .next t
        ∧ t.get R.OBS_CLKTEST_result = 2 ∧ t.on R.OBS_CLKTEST_busy = false ∧ Wrote link [R.OBS_CLKTEST] [] s t)
      ∧ (s.on R.OBS_CLKTEST_busy = false → s.testMode = true → ∃ t, exec (.clockStopTest link req) s = .next t
        ∧ t.on R.OBS_CLKTEST_busy = true
        ∧ t.obs = { s.obs with clkTestPoweredDown := false, clkTestAbort := false, clkTestAt := s.clk.elapsed }
        ∧ Wrote link [R.OBS_CLKTEST] [.obs] s t)
      ∧ (s.on R.OBS_CLKTEST_busy = true → s.obs.clkTestPoweredDown = false → ∃ t, exec (.clockStopAbort link req) s = .next t
        ∧ t.obs = { s.obs with clkTestAbort := true } ∧ Wrote link [] [.obs] s t)
      ∧ (s.on R.OBS_CLKTEST_busy = true → s.obs.clkTestPoweredDown = true → ∃ t, exec (.clockStopAbort link req) s = .next t
        ∧ t.syn i = { s.syn i with poweredDown := false, goodWindows := 0 } ∧ Wrote link [] [.clk] s t))
    ∧ (s.live = true → s.on R.OBS_CLKTEST_busy = true → s.obs.clkTestPoweredDown = false → s.obs.clkTestAt + 8000 ≤ s.clk.elapsed →
      ∃ t, exec .powerDownDone s = .next t ∧ (t.syn i).poweredDown = !s.obs.clkTestAbort ∧ t.obs.clkTestPoweredDown = true
        ∧ t.obs.clkTestAt = s.clk.elapsed ∧ Within [.regs, .clk, .evr, .gtp, .twn, .obs] s t)
    ∧ (s.clk.elapsed < s.obs.clkTestAt + 8000 → exec .powerDownDone s = .next s)
    ∧ (∀ windows, s.live = true → s.on R.OBS_CLKTEST_busy = true → s.obs.clkTestPoweredDown = true →
      ((s.syn i).poweredDown = false ∨ s.obs.clkTestAt + 8000 * min 1000 (max 10 (s.get R.OBS_CLKTEST_dur)) ≤ s.clk.elapsed) →
      ∃ t, exec (.clockTestOffEnd windows) s = .next t
        ∧ (t.syn i).poweredDown = false ∧ t.on R.OBS_CLKTEST_busy = false ∧ t.obs.clkTestPoweredDown = false
        ∧ t.get R.OBS_CLKTEST_result
          = (if s.locksOn i windows = true ∧ s.holdover i = false ∧ (if i = 0 then s.on R.MOD_STATUS_clk_stop = true ∧ s.legsSafe = true else s.on (lolFld 1) = true) then 0 else 1)
        ∧ WordsBut [R.CLK_STATUS, R.OBS_CLKTEST] s t ∧ Within [.regs, .clk, .obs] s t)
    ∧ (∀ windows, (s.syn i).poweredDown = true →
      s.clk.elapsed < s.obs.clkTestAt + 8000 * min 1000 (max 10 (s.get R.OBS_CLKTEST_dur)) → exec (.clockTestOffEnd windows) s = .next s))

/-- R458 on the instructions that are always accepted: IDCODE answers 0x148960F3, SAMPLE/PRELOAD fills the boundary register,
every unlisted code acts as BYPASS. None drives a ball. -/
def Obligations.TapOpenInstructions : Prop :=
  ∀ s : State,
    (∃ t, exec .idcode s = .next t ∧ (tget t.answers 3 { }).words = [0x148960F3] ∧ t.tap.ir = 1 ∧ t.tap.sel = .idcode
      ∧ t.tap.driving = false ∧ Within [.tap, .answers] s t)
    ∧ (∀ balls, ∃ t, exec (.samplePreload balls) s = .next t ∧ t.tap.boundary = balls ∧ t.tap.sel = .boundary
      ∧ t.tap.driving = false ∧ Within [.tap] s t)
    ∧ (∀ ir, ∃ t, exec (.bypass ir) s = .next t ∧ t.tap.sel = .bypass ∧ t.tap.driving = false ∧ t.tap.highZ = false
      ∧ Within [.tap] s t)

/-- R459: a restricted instruction is accepted only in SAFE with no image, or in TEST with every gate port disabled, and with
debug_lock blown only in an integrator session on link 3. An accepted one has its effect and changes nothing but the port; a
refused one acts as BYPASS and counts in OBS_ERR_CNT.tap_refused. -/
def Obligations.TapRestrictedInstructions : Prop :=
  ∀ (s : State) (c : Instr), c ∈ [Instr.extest, .extestPulse, .extestTrain, .clamp, .highz] →
    let allowed := (s.bare = true ∨ (s.live = true ∧ s.testMode = true))
      ∧ (s.get R.BOOT_STATUS_debug_locked = 0 ∨ s.get (R.BOOT_SESSION_role 3) = 2)
    (allowed → ∃ t, exec c s = .next t ∧ t.tap.driving = (c != .highz) ∧ t.tap.highZ = (c == .highz)
      ∧ t.tap.acTest = (c == .extestPulse || c == .extestTrain)
      ∧ t.tap.sel = (if c = .clamp ∨ c = .highz then .bypass else .boundary) ∧ t.tap.boundary = s.tap.boundary
      ∧ Within [.tap] s t)
    ∧ (¬ allowed → ∃ t, exec c s = .next t ∧ t.tap.sel = .bypass ∧ t.tap.driving = false ∧ t.tap.highZ = false
      ∧ t.get R.OBS_ERR_CNT_tap_refused = min (s.get R.OBS_ERR_CNT_tap_refused + 1) (2 ^ R.OBS_ERR_CNT_tap_refused.w - 1)
      ∧ WordsBut [R.OBS_ERR_CNT] s t ∧ Within [.regs, .tap] s t)

end Statements
end

