-- ==== Sys2Proof/Laws/State.lean ====
section
/-!
SUPPORT. One lemma per field of State and named update, true by rfl, so that no later proof unfolds a record update.
-/

namespace Sys2Proof.Laws

open Sys2Proof Sys2Proof.Machine

@[simp] theorem setWord_ram (s : State) (a : Nat) (w : Word) : (s.setWord a w).ram = s.ram := rfl
@[simp] theorem setWord_boot (s : State) (a : Nat) (w : Word) : (s.setWord a w).boot = s.boot := rfl
@[simp] theorem setWord_sess (s : State) (a : Nat) (w : Word) : (s.setWord a w).sess = s.sess := rfl
@[simp] theorem setWord_clk (s : State) (a : Nat) (w : Word) : (s.setWord a w).clk = s.clk := rfl
@[simp] theorem setWord_acq (s : State) (a : Nat) (w : Word) : (s.setWord a w).acq = s.acq := rfl
@[simp] theorem setWord_win (s : State) (a : Nat) (w : Word) : (s.setWord a w).win = s.win := rfl
@[simp] theorem setWord_evr (s : State) (a : Nat) (w : Word) : (s.setWord a w).evr = s.evr := rfl
@[simp] theorem setWord_frm (s : State) (a : Nat) (w : Word) : (s.setWord a w).frm = s.frm := rfl
@[simp] theorem setWord_eng (s : State) (a : Nat) (w : Word) : (s.setWord a w).eng = s.eng := rfl
@[simp] theorem setWord_grd (s : State) (a : Nat) (w : Word) : (s.setWord a w).grd = s.grd := rfl
@[simp] theorem setWord_mod (s : State) (a : Nat) (w : Word) : (s.setWord a w).mod = s.mod := rfl
@[simp] theorem setWord_gtp (s : State) (a : Nat) (w : Word) : (s.setWord a w).gtp = s.gtp := rfl
@[simp] theorem setWord_mtr (s : State) (a : Nat) (w : Word) : (s.setWord a w).mtr = s.mtr := rfl
@[simp] theorem setWord_seq (s : State) (a : Nat) (w : Word) : (s.setWord a w).seq = s.seq := rfl
@[simp] theorem setWord_gov (s : State) (a : Nat) (w : Word) : (s.setWord a w).gov = s.gov := rfl
@[simp] theorem setWord_fab (s : State) (a : Nat) (w : Word) : (s.setWord a w).fab = s.fab := rfl
@[simp] theorem setWord_twn (s : State) (a : Nat) (w : Word) : (s.setWord a w).twn = s.twn := rfl
@[simp] theorem setWord_can (s : State) (a : Nat) (w : Word) : (s.setWord a w).can = s.can := rfl
@[simp] theorem setWord_aon (s : State) (a : Nat) (w : Word) : (s.setWord a w).aon = s.aon := rfl
@[simp] theorem setWord_obs (s : State) (a : Nat) (w : Word) : (s.setWord a w).obs = s.obs := rfl
@[simp] theorem setWord_tap (s : State) (a : Nat) (w : Word) : (s.setWord a w).tap = s.tap := rfl
@[simp] theorem setWord_pins (s : State) (a : Nat) (w : Word) : (s.setWord a w).pins = s.pins := rfl
@[simp] theorem setWord_answers (s : State) (a : Nat) (w : Word) : (s.setWord a w).answers = s.answers := rfl
@[simp] theorem setWord_freeCtr (s : State) (a : Nat) (w : Word) : (s.setWord a w).freeCtr = s.freeCtr := rfl
@[simp] theorem setWord_pending (s : State) (a : Nat) (w : Word) : (s.setWord a w).pending = s.pending := rfl
@[simp] theorem setWord_byte (s : State) (a : Nat) (w : Word) (k : Nat) : State.byte (s.setWord a w) k = s.byte k := rfl
@[simp] theorem setWord_live (s : State) (a : Nat) (w : Word) : State.live (s.setWord a w) = s.live := rfl

@[simp] theorem put_ram (s : State) (f : Fld) (n : Nat) : (s.put f n).ram = s.ram := rfl
@[simp] theorem put_boot (s : State) (f : Fld) (n : Nat) : (s.put f n).boot = s.boot := rfl
@[simp] theorem put_sess (s : State) (f : Fld) (n : Nat) : (s.put f n).sess = s.sess := rfl
@[simp] theorem put_clk (s : State) (f : Fld) (n : Nat) : (s.put f n).clk = s.clk := rfl
@[simp] theorem put_acq (s : State) (f : Fld) (n : Nat) : (s.put f n).acq = s.acq := rfl
@[simp] theorem put_win (s : State) (f : Fld) (n : Nat) : (s.put f n).win = s.win := rfl
@[simp] theorem put_evr (s : State) (f : Fld) (n : Nat) : (s.put f n).evr = s.evr := rfl
@[simp] theorem put_frm (s : State) (f : Fld) (n : Nat) : (s.put f n).frm = s.frm := rfl
@[simp] theorem put_eng (s : State) (f : Fld) (n : Nat) : (s.put f n).eng = s.eng := rfl
@[simp] theorem put_grd (s : State) (f : Fld) (n : Nat) : (s.put f n).grd = s.grd := rfl
@[simp] theorem put_mod (s : State) (f : Fld) (n : Nat) : (s.put f n).mod = s.mod := rfl
@[simp] theorem put_gtp (s : State) (f : Fld) (n : Nat) : (s.put f n).gtp = s.gtp := rfl
@[simp] theorem put_mtr (s : State) (f : Fld) (n : Nat) : (s.put f n).mtr = s.mtr := rfl
@[simp] theorem put_seq (s : State) (f : Fld) (n : Nat) : (s.put f n).seq = s.seq := rfl
@[simp] theorem put_gov (s : State) (f : Fld) (n : Nat) : (s.put f n).gov = s.gov := rfl
@[simp] theorem put_fab (s : State) (f : Fld) (n : Nat) : (s.put f n).fab = s.fab := rfl
@[simp] theorem put_twn (s : State) (f : Fld) (n : Nat) : (s.put f n).twn = s.twn := rfl
@[simp] theorem put_can (s : State) (f : Fld) (n : Nat) : (s.put f n).can = s.can := rfl
@[simp] theorem put_aon (s : State) (f : Fld) (n : Nat) : (s.put f n).aon = s.aon := rfl
@[simp] theorem put_obs (s : State) (f : Fld) (n : Nat) : (s.put f n).obs = s.obs := rfl
@[simp] theorem put_tap (s : State) (f : Fld) (n : Nat) : (s.put f n).tap = s.tap := rfl
@[simp] theorem put_pins (s : State) (f : Fld) (n : Nat) : (s.put f n).pins = s.pins := rfl
@[simp] theorem put_answers (s : State) (f : Fld) (n : Nat) : (s.put f n).answers = s.answers := rfl
@[simp] theorem put_freeCtr (s : State) (f : Fld) (n : Nat) : (s.put f n).freeCtr = s.freeCtr := rfl
@[simp] theorem put_pending (s : State) (f : Fld) (n : Nat) : (s.put f n).pending = s.pending := rfl
@[simp] theorem put_byte (s : State) (f : Fld) (n : Nat) (k : Nat) : State.byte (s.put f n) k = s.byte k := rfl
@[simp] theorem put_live (s : State) (f : Fld) (n : Nat) : State.live (s.put f n) = s.live := rfl

@[simp] theorem putB_ram (s : State) (f : Fld) (b : Bool) : (s.putB f b).ram = s.ram := rfl
@[simp] theorem putB_boot (s : State) (f : Fld) (b : Bool) : (s.putB f b).boot = s.boot := rfl
@[simp] theorem putB_sess (s : State) (f : Fld) (b : Bool) : (s.putB f b).sess = s.sess := rfl
@[simp] theorem putB_clk (s : State) (f : Fld) (b : Bool) : (s.putB f b).clk = s.clk := rfl
@[simp] theorem putB_acq (s : State) (f : Fld) (b : Bool) : (s.putB f b).acq = s.acq := rfl
@[simp] theorem putB_win (s : State) (f : Fld) (b : Bool) : (s.putB f b).win = s.win := rfl
@[simp] theorem putB_evr (s : State) (f : Fld) (b : Bool) : (s.putB f b).evr = s.evr := rfl
@[simp] theorem putB_frm (s : State) (f : Fld) (b : Bool) : (s.putB f b).frm = s.frm := rfl
@[simp] theorem putB_eng (s : State) (f : Fld) (b : Bool) : (s.putB f b).eng = s.eng := rfl
@[simp] theorem putB_grd (s : State) (f : Fld) (b : Bool) : (s.putB f b).grd = s.grd := rfl
@[simp] theorem putB_mod (s : State) (f : Fld) (b : Bool) : (s.putB f b).mod = s.mod := rfl
@[simp] theorem putB_gtp (s : State) (f : Fld) (b : Bool) : (s.putB f b).gtp = s.gtp := rfl
@[simp] theorem putB_mtr (s : State) (f : Fld) (b : Bool) : (s.putB f b).mtr = s.mtr := rfl
@[simp] theorem putB_seq (s : State) (f : Fld) (b : Bool) : (s.putB f b).seq = s.seq := rfl
@[simp] theorem putB_gov (s : State) (f : Fld) (b : Bool) : (s.putB f b).gov = s.gov := rfl
@[simp] theorem putB_fab (s : State) (f : Fld) (b : Bool) : (s.putB f b).fab = s.fab := rfl
@[simp] theorem putB_twn (s : State) (f : Fld) (b : Bool) : (s.putB f b).twn = s.twn := rfl
@[simp] theorem putB_can (s : State) (f : Fld) (b : Bool) : (s.putB f b).can = s.can := rfl
@[simp] theorem putB_aon (s : State) (f : Fld) (b : Bool) : (s.putB f b).aon = s.aon := rfl
@[simp] theorem putB_obs (s : State) (f : Fld) (b : Bool) : (s.putB f b).obs = s.obs := rfl
@[simp] theorem putB_tap (s : State) (f : Fld) (b : Bool) : (s.putB f b).tap = s.tap := rfl
@[simp] theorem putB_pins (s : State) (f : Fld) (b : Bool) : (s.putB f b).pins = s.pins := rfl
@[simp] theorem putB_answers (s : State) (f : Fld) (b : Bool) : (s.putB f b).answers = s.answers := rfl
@[simp] theorem putB_freeCtr (s : State) (f : Fld) (b : Bool) : (s.putB f b).freeCtr = s.freeCtr := rfl
@[simp] theorem putB_pending (s : State) (f : Fld) (b : Bool) : (s.putB f b).pending = s.pending := rfl
@[simp] theorem putB_byte (s : State) (f : Fld) (b : Bool) (k : Nat) : State.byte (s.putB f b) k = s.byte k := rfl
@[simp] theorem putB_live (s : State) (f : Fld) (b : Bool) : State.live (s.putB f b) = s.live := rfl

@[simp] theorem putI_ram (s : State) (f : Fld) (i : Int) : (s.putI f i).ram = s.ram := rfl
@[simp] theorem putI_boot (s : State) (f : Fld) (i : Int) : (s.putI f i).boot = s.boot := rfl
@[simp] theorem putI_sess (s : State) (f : Fld) (i : Int) : (s.putI f i).sess = s.sess := rfl
@[simp] theorem putI_clk (s : State) (f : Fld) (i : Int) : (s.putI f i).clk = s.clk := rfl
@[simp] theorem putI_acq (s : State) (f : Fld) (i : Int) : (s.putI f i).acq = s.acq := rfl
@[simp] theorem putI_win (s : State) (f : Fld) (i : Int) : (s.putI f i).win = s.win := rfl
@[simp] theorem putI_evr (s : State) (f : Fld) (i : Int) : (s.putI f i).evr = s.evr := rfl
@[simp] theorem putI_frm (s : State) (f : Fld) (i : Int) : (s.putI f i).frm = s.frm := rfl
@[simp] theorem putI_eng (s : State) (f : Fld) (i : Int) : (s.putI f i).eng = s.eng := rfl
@[simp] theorem putI_grd (s : State) (f : Fld) (i : Int) : (s.putI f i).grd = s.grd := rfl
@[simp] theorem putI_mod (s : State) (f : Fld) (i : Int) : (s.putI f i).mod = s.mod := rfl
@[simp] theorem putI_gtp (s : State) (f : Fld) (i : Int) : (s.putI f i).gtp = s.gtp := rfl
@[simp] theorem putI_mtr (s : State) (f : Fld) (i : Int) : (s.putI f i).mtr = s.mtr := rfl
@[simp] theorem putI_seq (s : State) (f : Fld) (i : Int) : (s.putI f i).seq = s.seq := rfl
@[simp] theorem putI_gov (s : State) (f : Fld) (i : Int) : (s.putI f i).gov = s.gov := rfl
@[simp] theorem putI_fab (s : State) (f : Fld) (i : Int) : (s.putI f i).fab = s.fab := rfl
@[simp] theorem putI_twn (s : State) (f : Fld) (i : Int) : (s.putI f i).twn = s.twn := rfl
@[simp] theorem putI_can (s : State) (f : Fld) (i : Int) : (s.putI f i).can = s.can := rfl
@[simp] theorem putI_aon (s : State) (f : Fld) (i : Int) : (s.putI f i).aon = s.aon := rfl
@[simp] theorem putI_obs (s : State) (f : Fld) (i : Int) : (s.putI f i).obs = s.obs := rfl
@[simp] theorem putI_tap (s : State) (f : Fld) (i : Int) : (s.putI f i).tap = s.tap := rfl
@[simp] theorem putI_pins (s : State) (f : Fld) (i : Int) : (s.putI f i).pins = s.pins := rfl
@[simp] theorem putI_answers (s : State) (f : Fld) (i : Int) : (s.putI f i).answers = s.answers := rfl
@[simp] theorem putI_freeCtr (s : State) (f : Fld) (i : Int) : (s.putI f i).freeCtr = s.freeCtr := rfl
@[simp] theorem putI_pending (s : State) (f : Fld) (i : Int) : (s.putI f i).pending = s.pending := rfl
@[simp] theorem putI_byte (s : State) (f : Fld) (i : Int) (k : Nat) : State.byte (s.putI f i) k = s.byte k := rfl
@[simp] theorem putI_live (s : State) (f : Fld) (i : Int) : State.live (s.putI f i) = s.live := rfl

@[simp] theorem bumpBy_ram (s : State) (f : Fld) (n : Nat) : (s.bumpBy f n).ram = s.ram := rfl
@[simp] theorem bumpBy_boot (s : State) (f : Fld) (n : Nat) : (s.bumpBy f n).boot = s.boot := rfl
@[simp] theorem bumpBy_sess (s : State) (f : Fld) (n : Nat) : (s.bumpBy f n).sess = s.sess := rfl
@[simp] theorem bumpBy_clk (s : State) (f : Fld) (n : Nat) : (s.bumpBy f n).clk = s.clk := rfl
@[simp] theorem bumpBy_acq (s : State) (f : Fld) (n : Nat) : (s.bumpBy f n).acq = s.acq := rfl
@[simp] theorem bumpBy_win (s : State) (f : Fld) (n : Nat) : (s.bumpBy f n).win = s.win := rfl
@[simp] theorem bumpBy_evr (s : State) (f : Fld) (n : Nat) : (s.bumpBy f n).evr = s.evr := rfl
@[simp] theorem bumpBy_frm (s : State) (f : Fld) (n : Nat) : (s.bumpBy f n).frm = s.frm := rfl
@[simp] theorem bumpBy_eng (s : State) (f : Fld) (n : Nat) : (s.bumpBy f n).eng = s.eng := rfl
@[simp] theorem bumpBy_grd (s : State) (f : Fld) (n : Nat) : (s.bumpBy f n).grd = s.grd := rfl
@[simp] theorem bumpBy_mod (s : State) (f : Fld) (n : Nat) : (s.bumpBy f n).mod = s.mod := rfl
@[simp] theorem bumpBy_gtp (s : State) (f : Fld) (n : Nat) : (s.bumpBy f n).gtp = s.gtp := rfl
@[simp] theorem bumpBy_mtr (s : State) (f : Fld) (n : Nat) : (s.bumpBy f n).mtr = s.mtr := rfl
@[simp] theorem bumpBy_seq (s : State) (f : Fld) (n : Nat) : (s.bumpBy f n).seq = s.seq := rfl
@[simp] theorem bumpBy_gov (s : State) (f : Fld) (n : Nat) : (s.bumpBy f n).gov = s.gov := rfl
@[simp] theorem bumpBy_fab (s : State) (f : Fld) (n : Nat) : (s.bumpBy f n).fab = s.fab := rfl
@[simp] theorem bumpBy_twn (s : State) (f : Fld) (n : Nat) : (s.bumpBy f n).twn = s.twn := rfl
@[simp] theorem bumpBy_can (s : State) (f : Fld) (n : Nat) : (s.bumpBy f n).can = s.can := rfl
@[simp] theorem bumpBy_aon (s : State) (f : Fld) (n : Nat) : (s.bumpBy f n).aon = s.aon := rfl
@[simp] theorem bumpBy_obs (s : State) (f : Fld) (n : Nat) : (s.bumpBy f n).obs = s.obs := rfl
@[simp] theorem bumpBy_tap (s : State) (f : Fld) (n : Nat) : (s.bumpBy f n).tap = s.tap := rfl
@[simp] theorem bumpBy_pins (s : State) (f : Fld) (n : Nat) : (s.bumpBy f n).pins = s.pins := rfl
@[simp] theorem bumpBy_answers (s : State) (f : Fld) (n : Nat) : (s.bumpBy f n).answers = s.answers := rfl
@[simp] theorem bumpBy_freeCtr (s : State) (f : Fld) (n : Nat) : (s.bumpBy f n).freeCtr = s.freeCtr := rfl
@[simp] theorem bumpBy_pending (s : State) (f : Fld) (n : Nat) : (s.bumpBy f n).pending = s.pending := rfl
@[simp] theorem bumpBy_byte (s : State) (f : Fld) (n : Nat) (k : Nat) : State.byte (s.bumpBy f n) k = s.byte k := rfl
@[simp] theorem bumpBy_live (s : State) (f : Fld) (n : Nat) : State.live (s.bumpBy f n) = s.live := rfl

@[simp] theorem bump_ram (s : State) (f : Fld) : (s.bump f).ram = s.ram := rfl
@[simp] theorem bump_boot (s : State) (f : Fld) : (s.bump f).boot = s.boot := rfl
@[simp] theorem bump_sess (s : State) (f : Fld) : (s.bump f).sess = s.sess := rfl
@[simp] theorem bump_clk (s : State) (f : Fld) : (s.bump f).clk = s.clk := rfl
@[simp] theorem bump_acq (s : State) (f : Fld) : (s.bump f).acq = s.acq := rfl
@[simp] theorem bump_win (s : State) (f : Fld) : (s.bump f).win = s.win := rfl
@[simp] theorem bump_evr (s : State) (f : Fld) : (s.bump f).evr = s.evr := rfl
@[simp] theorem bump_frm (s : State) (f : Fld) : (s.bump f).frm = s.frm := rfl
@[simp] theorem bump_eng (s : State) (f : Fld) : (s.bump f).eng = s.eng := rfl
@[simp] theorem bump_grd (s : State) (f : Fld) : (s.bump f).grd = s.grd := rfl
@[simp] theorem bump_mod (s : State) (f : Fld) : (s.bump f).mod = s.mod := rfl
@[simp] theorem bump_gtp (s : State) (f : Fld) : (s.bump f).gtp = s.gtp := rfl
@[simp] theorem bump_mtr (s : State) (f : Fld) : (s.bump f).mtr = s.mtr := rfl
@[simp] theorem bump_seq (s : State) (f : Fld) : (s.bump f).seq = s.seq := rfl
@[simp] theorem bump_gov (s : State) (f : Fld) : (s.bump f).gov = s.gov := rfl
@[simp] theorem bump_fab (s : State) (f : Fld) : (s.bump f).fab = s.fab := rfl
@[simp] theorem bump_twn (s : State) (f : Fld) : (s.bump f).twn = s.twn := rfl
@[simp] theorem bump_can (s : State) (f : Fld) : (s.bump f).can = s.can := rfl
@[simp] theorem bump_aon (s : State) (f : Fld) : (s.bump f).aon = s.aon := rfl
@[simp] theorem bump_obs (s : State) (f : Fld) : (s.bump f).obs = s.obs := rfl
@[simp] theorem bump_tap (s : State) (f : Fld) : (s.bump f).tap = s.tap := rfl
@[simp] theorem bump_pins (s : State) (f : Fld) : (s.bump f).pins = s.pins := rfl
@[simp] theorem bump_answers (s : State) (f : Fld) : (s.bump f).answers = s.answers := rfl
@[simp] theorem bump_freeCtr (s : State) (f : Fld) : (s.bump f).freeCtr = s.freeCtr := rfl
@[simp] theorem bump_pending (s : State) (f : Fld) : (s.bump f).pending = s.pending := rfl
@[simp] theorem bump_byte (s : State) (f : Fld) (k : Nat) : State.byte (s.bump f) k = s.byte k := rfl
@[simp] theorem bump_live (s : State) (f : Fld) : State.live (s.bump f) = s.live := rfl

@[simp] theorem bumpWrap_ram (s : State) (f : Fld) : (s.bumpWrap f).ram = s.ram := rfl
@[simp] theorem bumpWrap_boot (s : State) (f : Fld) : (s.bumpWrap f).boot = s.boot := rfl
@[simp] theorem bumpWrap_sess (s : State) (f : Fld) : (s.bumpWrap f).sess = s.sess := rfl
@[simp] theorem bumpWrap_clk (s : State) (f : Fld) : (s.bumpWrap f).clk = s.clk := rfl
@[simp] theorem bumpWrap_acq (s : State) (f : Fld) : (s.bumpWrap f).acq = s.acq := rfl
@[simp] theorem bumpWrap_win (s : State) (f : Fld) : (s.bumpWrap f).win = s.win := rfl
@[simp] theorem bumpWrap_evr (s : State) (f : Fld) : (s.bumpWrap f).evr = s.evr := rfl
@[simp] theorem bumpWrap_frm (s : State) (f : Fld) : (s.bumpWrap f).frm = s.frm := rfl
@[simp] theorem bumpWrap_eng (s : State) (f : Fld) : (s.bumpWrap f).eng = s.eng := rfl
@[simp] theorem bumpWrap_grd (s : State) (f : Fld) : (s.bumpWrap f).grd = s.grd := rfl
@[simp] theorem bumpWrap_mod (s : State) (f : Fld) : (s.bumpWrap f).mod = s.mod := rfl
@[simp] theorem bumpWrap_gtp (s : State) (f : Fld) : (s.bumpWrap f).gtp = s.gtp := rfl
@[simp] theorem bumpWrap_mtr (s : State) (f : Fld) : (s.bumpWrap f).mtr = s.mtr := rfl
@[simp] theorem bumpWrap_seq (s : State) (f : Fld) : (s.bumpWrap f).seq = s.seq := rfl
@[simp] theorem bumpWrap_gov (s : State) (f : Fld) : (s.bumpWrap f).gov = s.gov := rfl
@[simp] theorem bumpWrap_fab (s : State) (f : Fld) : (s.bumpWrap f).fab = s.fab := rfl
@[simp] theorem bumpWrap_twn (s : State) (f : Fld) : (s.bumpWrap f).twn = s.twn := rfl
@[simp] theorem bumpWrap_can (s : State) (f : Fld) : (s.bumpWrap f).can = s.can := rfl
@[simp] theorem bumpWrap_aon (s : State) (f : Fld) : (s.bumpWrap f).aon = s.aon := rfl
@[simp] theorem bumpWrap_obs (s : State) (f : Fld) : (s.bumpWrap f).obs = s.obs := rfl
@[simp] theorem bumpWrap_tap (s : State) (f : Fld) : (s.bumpWrap f).tap = s.tap := rfl
@[simp] theorem bumpWrap_pins (s : State) (f : Fld) : (s.bumpWrap f).pins = s.pins := rfl
@[simp] theorem bumpWrap_answers (s : State) (f : Fld) : (s.bumpWrap f).answers = s.answers := rfl
@[simp] theorem bumpWrap_freeCtr (s : State) (f : Fld) : (s.bumpWrap f).freeCtr = s.freeCtr := rfl
@[simp] theorem bumpWrap_pending (s : State) (f : Fld) : (s.bumpWrap f).pending = s.pending := rfl
@[simp] theorem bumpWrap_byte (s : State) (f : Fld) (k : Nat) : State.byte (s.bumpWrap f) k = s.byte k := rfl
@[simp] theorem bumpWrap_live (s : State) (f : Fld) : State.live (s.bumpWrap f) = s.live := rfl

@[simp] theorem setWord64_ram (s : State) (a n : Nat) : (s.setWord64 a n).ram = s.ram := rfl
@[simp] theorem setWord64_boot (s : State) (a n : Nat) : (s.setWord64 a n).boot = s.boot := rfl
@[simp] theorem setWord64_sess (s : State) (a n : Nat) : (s.setWord64 a n).sess = s.sess := rfl
@[simp] theorem setWord64_clk (s : State) (a n : Nat) : (s.setWord64 a n).clk = s.clk := rfl
@[simp] theorem setWord64_acq (s : State) (a n : Nat) : (s.setWord64 a n).acq = s.acq := rfl
@[simp] theorem setWord64_win (s : State) (a n : Nat) : (s.setWord64 a n).win = s.win := rfl
@[simp] theorem setWord64_evr (s : State) (a n : Nat) : (s.setWord64 a n).evr = s.evr := rfl
@[simp] theorem setWord64_frm (s : State) (a n : Nat) : (s.setWord64 a n).frm = s.frm := rfl
@[simp] theorem setWord64_eng (s : State) (a n : Nat) : (s.setWord64 a n).eng = s.eng := rfl
@[simp] theorem setWord64_grd (s : State) (a n : Nat) : (s.setWord64 a n).grd = s.grd := rfl
@[simp] theorem setWord64_mod (s : State) (a n : Nat) : (s.setWord64 a n).mod = s.mod := rfl
@[simp] theorem setWord64_gtp (s : State) (a n : Nat) : (s.setWord64 a n).gtp = s.gtp := rfl
@[simp] theorem setWord64_mtr (s : State) (a n : Nat) : (s.setWord64 a n).mtr = s.mtr := rfl
@[simp] theorem setWord64_seq (s : State) (a n : Nat) : (s.setWord64 a n).seq = s.seq := rfl
@[simp] theorem setWord64_gov (s : State) (a n : Nat) : (s.setWord64 a n).gov = s.gov := rfl
@[simp] theorem setWord64_fab (s : State) (a n : Nat) : (s.setWord64 a n).fab = s.fab := rfl
@[simp] theorem setWord64_twn (s : State) (a n : Nat) : (s.setWord64 a n).twn = s.twn := rfl
@[simp] theorem setWord64_can (s : State) (a n : Nat) : (s.setWord64 a n).can = s.can := rfl
@[simp] theorem setWord64_aon (s : State) (a n : Nat) : (s.setWord64 a n).aon = s.aon := rfl
@[simp] theorem setWord64_obs (s : State) (a n : Nat) : (s.setWord64 a n).obs = s.obs := rfl
@[simp] theorem setWord64_tap (s : State) (a n : Nat) : (s.setWord64 a n).tap = s.tap := rfl
@[simp] theorem setWord64_pins (s : State) (a n : Nat) : (s.setWord64 a n).pins = s.pins := rfl
@[simp] theorem setWord64_answers (s : State) (a n : Nat) : (s.setWord64 a n).answers = s.answers := rfl
@[simp] theorem setWord64_freeCtr (s : State) (a n : Nat) : (s.setWord64 a n).freeCtr = s.freeCtr := rfl
@[simp] theorem setWord64_pending (s : State) (a n : Nat) : (s.setWord64 a n).pending = s.pending := rfl
@[simp] theorem setWord64_byte (s : State) (a n : Nat) (k : Nat) : State.byte (s.setWord64 a n) k = s.byte k := rfl
@[simp] theorem setWord64_live (s : State) (a n : Nat) : State.live (s.setWord64 a n) = s.live := rfl

@[simp] theorem setByte_regs (s : State) (a : Nat) (v : Byte) : (s.setByte a v).regs = s.regs := rfl
@[simp] theorem setByte_boot (s : State) (a : Nat) (v : Byte) : (s.setByte a v).boot = s.boot := rfl
@[simp] theorem setByte_sess (s : State) (a : Nat) (v : Byte) : (s.setByte a v).sess = s.sess := rfl
@[simp] theorem setByte_clk (s : State) (a : Nat) (v : Byte) : (s.setByte a v).clk = s.clk := rfl
@[simp] theorem setByte_acq (s : State) (a : Nat) (v : Byte) : (s.setByte a v).acq = s.acq := rfl
@[simp] theorem setByte_win (s : State) (a : Nat) (v : Byte) : (s.setByte a v).win = s.win := rfl
@[simp] theorem setByte_evr (s : State) (a : Nat) (v : Byte) : (s.setByte a v).evr = s.evr := rfl
@[simp] theorem setByte_frm (s : State) (a : Nat) (v : Byte) : (s.setByte a v).frm = s.frm := rfl
@[simp] theorem setByte_eng (s : State) (a : Nat) (v : Byte) : (s.setByte a v).eng = s.eng := rfl
@[simp] theorem setByte_grd (s : State) (a : Nat) (v : Byte) : (s.setByte a v).grd = s.grd := rfl
@[simp] theorem setByte_mod (s : State) (a : Nat) (v : Byte) : (s.setByte a v).mod = s.mod := rfl
@[simp] theorem setByte_gtp (s : State) (a : Nat) (v : Byte) : (s.setByte a v).gtp = s.gtp := rfl
@[simp] theorem setByte_mtr (s : State) (a : Nat) (v : Byte) : (s.setByte a v).mtr = s.mtr := rfl
@[simp] theorem setByte_seq (s : State) (a : Nat) (v : Byte) : (s.setByte a v).seq = s.seq := rfl
@[simp] theorem setByte_gov (s : State) (a : Nat) (v : Byte) : (s.setByte a v).gov = s.gov := rfl
@[simp] theorem setByte_fab (s : State) (a : Nat) (v : Byte) : (s.setByte a v).fab = s.fab := rfl
@[simp] theorem setByte_twn (s : State) (a : Nat) (v : Byte) : (s.setByte a v).twn = s.twn := rfl
@[simp] theorem setByte_can (s : State) (a : Nat) (v : Byte) : (s.setByte a v).can = s.can := rfl
@[simp] theorem setByte_aon (s : State) (a : Nat) (v : Byte) : (s.setByte a v).aon = s.aon := rfl
@[simp] theorem setByte_obs (s : State) (a : Nat) (v : Byte) : (s.setByte a v).obs = s.obs := rfl
@[simp] theorem setByte_tap (s : State) (a : Nat) (v : Byte) : (s.setByte a v).tap = s.tap := rfl
@[simp] theorem setByte_pins (s : State) (a : Nat) (v : Byte) : (s.setByte a v).pins = s.pins := rfl
@[simp] theorem setByte_answers (s : State) (a : Nat) (v : Byte) : (s.setByte a v).answers = s.answers := rfl
@[simp] theorem setByte_freeCtr (s : State) (a : Nat) (v : Byte) : (s.setByte a v).freeCtr = s.freeCtr := rfl
@[simp] theorem setByte_pending (s : State) (a : Nat) (v : Byte) : (s.setByte a v).pending = s.pending := rfl
@[simp] theorem setByte_word (s : State) (a : Nat) (v : Byte) (k : Nat) : State.word (s.setByte a v) k = s.word k := rfl
@[simp] theorem setByte_get (s : State) (a : Nat) (v : Byte) (g : Fld) : State.get (s.setByte a v) g = s.get g := rfl
@[simp] theorem setByte_on (s : State) (a : Nat) (v : Byte) (g : Fld) : State.on (s.setByte a v) g = s.on g := rfl
@[simp] theorem setByte_live (s : State) (a : Nat) (v : Byte) : State.live (s.setByte a v) = s.live := rfl

@[simp] theorem raise_regs (s : State) (n : Nat) : (s.raise n).regs = s.regs := rfl
@[simp] theorem raise_ram (s : State) (n : Nat) : (s.raise n).ram = s.ram := rfl
@[simp] theorem raise_boot (s : State) (n : Nat) : (s.raise n).boot = s.boot := rfl
@[simp] theorem raise_sess (s : State) (n : Nat) : (s.raise n).sess = s.sess := rfl
@[simp] theorem raise_clk (s : State) (n : Nat) : (s.raise n).clk = s.clk := rfl
@[simp] theorem raise_acq (s : State) (n : Nat) : (s.raise n).acq = s.acq := rfl
@[simp] theorem raise_win (s : State) (n : Nat) : (s.raise n).win = s.win := rfl
@[simp] theorem raise_frm (s : State) (n : Nat) : (s.raise n).frm = s.frm := rfl
@[simp] theorem raise_eng (s : State) (n : Nat) : (s.raise n).eng = s.eng := rfl
@[simp] theorem raise_grd (s : State) (n : Nat) : (s.raise n).grd = s.grd := rfl
@[simp] theorem raise_mod (s : State) (n : Nat) : (s.raise n).mod = s.mod := rfl
@[simp] theorem raise_gtp (s : State) (n : Nat) : (s.raise n).gtp = s.gtp := rfl
@[simp] theorem raise_mtr (s : State) (n : Nat) : (s.raise n).mtr = s.mtr := rfl
@[simp] theorem raise_seq (s : State) (n : Nat) : (s.raise n).seq = s.seq := rfl
@[simp] theorem raise_gov (s : State) (n : Nat) : (s.raise n).gov = s.gov := rfl
@[simp] theorem raise_fab (s : State) (n : Nat) : (s.raise n).fab = s.fab := rfl
@[simp] theorem raise_twn (s : State) (n : Nat) : (s.raise n).twn = s.twn := rfl
@[simp] theorem raise_can (s : State) (n : Nat) : (s.raise n).can = s.can := rfl
@[simp] theorem raise_aon (s : State) (n : Nat) : (s.raise n).aon = s.aon := rfl
@[simp] theorem raise_obs (s : State) (n : Nat) : (s.raise n).obs = s.obs := rfl
@[simp] theorem raise_tap (s : State) (n : Nat) : (s.raise n).tap = s.tap := rfl
@[simp] theorem raise_pins (s : State) (n : Nat) : (s.raise n).pins = s.pins := rfl
@[simp] theorem raise_answers (s : State) (n : Nat) : (s.raise n).answers = s.answers := rfl
@[simp] theorem raise_freeCtr (s : State) (n : Nat) : (s.raise n).freeCtr = s.freeCtr := rfl
@[simp] theorem raise_pending (s : State) (n : Nat) : (s.raise n).pending = s.pending := rfl
@[simp] theorem raise_word (s : State) (n : Nat) (k : Nat) : State.word (s.raise n) k = s.word k := rfl
@[simp] theorem raise_get (s : State) (n : Nat) (g : Fld) : State.get (s.raise n) g = s.get g := rfl
@[simp] theorem raise_on (s : State) (n : Nat) (g : Fld) : State.on (s.raise n) g = s.on g := rfl
@[simp] theorem raise_byte (s : State) (n : Nat) (k : Nat) : State.byte (s.raise n) k = s.byte k := rfl
@[simp] theorem raise_live (s : State) (n : Nat) : State.live (s.raise n) = s.live := rfl

@[simp] theorem drive_regs (s : State) (n : Nat) (b : Bool) : (s.drive n b).regs = s.regs := rfl
@[simp] theorem drive_ram (s : State) (n : Nat) (b : Bool) : (s.drive n b).ram = s.ram := rfl
@[simp] theorem drive_boot (s : State) (n : Nat) (b : Bool) : (s.drive n b).boot = s.boot := rfl
@[simp] theorem drive_sess (s : State) (n : Nat) (b : Bool) : (s.drive n b).sess = s.sess := rfl
@[simp] theorem drive_clk (s : State) (n : Nat) (b : Bool) : (s.drive n b).clk = s.clk := rfl
@[simp] theorem drive_acq (s : State) (n : Nat) (b : Bool) : (s.drive n b).acq = s.acq := rfl
@[simp] theorem drive_win (s : State) (n : Nat) (b : Bool) : (s.drive n b).win = s.win := rfl
@[simp] theorem drive_frm (s : State) (n : Nat) (b : Bool) : (s.drive n b).frm = s.frm := rfl
@[simp] theorem drive_eng (s : State) (n : Nat) (b : Bool) : (s.drive n b).eng = s.eng := rfl
@[simp] theorem drive_grd (s : State) (n : Nat) (b : Bool) : (s.drive n b).grd = s.grd := rfl
@[simp] theorem drive_mod (s : State) (n : Nat) (b : Bool) : (s.drive n b).mod = s.mod := rfl
@[simp] theorem drive_gtp (s : State) (n : Nat) (b : Bool) : (s.drive n b).gtp = s.gtp := rfl
@[simp] theorem drive_mtr (s : State) (n : Nat) (b : Bool) : (s.drive n b).mtr = s.mtr := rfl
@[simp] theorem drive_seq (s : State) (n : Nat) (b : Bool) : (s.drive n b).seq = s.seq := rfl
@[simp] theorem drive_gov (s : State) (n : Nat) (b : Bool) : (s.drive n b).gov = s.gov := rfl
@[simp] theorem drive_fab (s : State) (n : Nat) (b : Bool) : (s.drive n b).fab = s.fab := rfl
@[simp] theorem drive_twn (s : State) (n : Nat) (b : Bool) : (s.drive n b).twn = s.twn := rfl
@[simp] theorem drive_can (s : State) (n : Nat) (b : Bool) : (s.drive n b).can = s.can := rfl
@[simp] theorem drive_aon (s : State) (n : Nat) (b : Bool) : (s.drive n b).aon = s.aon := rfl
@[simp] theorem drive_obs (s : State) (n : Nat) (b : Bool) : (s.drive n b).obs = s.obs := rfl
@[simp] theorem drive_tap (s : State) (n : Nat) (b : Bool) : (s.drive n b).tap = s.tap := rfl
@[simp] theorem drive_pins (s : State) (n : Nat) (b : Bool) : (s.drive n b).pins = s.pins := rfl
@[simp] theorem drive_answers (s : State) (n : Nat) (b : Bool) : (s.drive n b).answers = s.answers := rfl
@[simp] theorem drive_freeCtr (s : State) (n : Nat) (b : Bool) : (s.drive n b).freeCtr = s.freeCtr := rfl
@[simp] theorem drive_pending (s : State) (n : Nat) (b : Bool) : (s.drive n b).pending = s.pending := rfl
@[simp] theorem drive_word (s : State) (n : Nat) (b : Bool) (k : Nat) : State.word (s.drive n b) k = s.word k := rfl
@[simp] theorem drive_get (s : State) (n : Nat) (b : Bool) (g : Fld) : State.get (s.drive n b) g = s.get g := rfl
@[simp] theorem drive_on (s : State) (n : Nat) (b : Bool) (g : Fld) : State.on (s.drive n b) g = s.on g := rfl
@[simp] theorem drive_byte (s : State) (n : Nat) (b : Bool) (k : Nat) : State.byte (s.drive n b) k = s.byte k := rfl
@[simp] theorem drive_live (s : State) (n : Nat) (b : Bool) : State.live (s.drive n b) = s.live := rfl

@[simp] theorem answer_regs (s : State) (l : Nat) (x : Answer) : (s.answer l x).regs = s.regs := rfl
@[simp] theorem answer_ram (s : State) (l : Nat) (x : Answer) : (s.answer l x).ram = s.ram := rfl
@[simp] theorem answer_boot (s : State) (l : Nat) (x : Answer) : (s.answer l x).boot = s.boot := rfl
@[simp] theorem answer_sess (s : State) (l : Nat) (x : Answer) : (s.answer l x).sess = s.sess := rfl
@[simp] theorem answer_clk (s : State) (l : Nat) (x : Answer) : (s.answer l x).clk = s.clk := rfl
@[simp] theorem answer_acq (s : State) (l : Nat) (x : Answer) : (s.answer l x).acq = s.acq := rfl
@[simp] theorem answer_win (s : State) (l : Nat) (x : Answer) : (s.answer l x).win = s.win := rfl
@[simp] theorem answer_evr (s : State) (l : Nat) (x : Answer) : (s.answer l x).evr = s.evr := rfl
@[simp] theorem answer_frm (s : State) (l : Nat) (x : Answer) : (s.answer l x).frm = s.frm := rfl
@[simp] theorem answer_eng (s : State) (l : Nat) (x : Answer) : (s.answer l x).eng = s.eng := rfl
@[simp] theorem answer_grd (s : State) (l : Nat) (x : Answer) : (s.answer l x).grd = s.grd := rfl
@[simp] theorem answer_mod (s : State) (l : Nat) (x : Answer) : (s.answer l x).mod = s.mod := rfl
@[simp] theorem answer_gtp (s : State) (l : Nat) (x : Answer) : (s.answer l x).gtp = s.gtp := rfl
@[simp] theorem answer_mtr (s : State) (l : Nat) (x : Answer) : (s.answer l x).mtr = s.mtr := rfl
@[simp] theorem answer_seq (s : State) (l : Nat) (x : Answer) : (s.answer l x).seq = s.seq := rfl
@[simp] theorem answer_gov (s : State) (l : Nat) (x : Answer) : (s.answer l x).gov = s.gov := rfl
@[simp] theorem answer_fab (s : State) (l : Nat) (x : Answer) : (s.answer l x).fab = s.fab := rfl
@[simp] theorem answer_twn (s : State) (l : Nat) (x : Answer) : (s.answer l x).twn = s.twn := rfl
@[simp] theorem answer_can (s : State) (l : Nat) (x : Answer) : (s.answer l x).can = s.can := rfl
@[simp] theorem answer_aon (s : State) (l : Nat) (x : Answer) : (s.answer l x).aon = s.aon := rfl
@[simp] theorem answer_obs (s : State) (l : Nat) (x : Answer) : (s.answer l x).obs = s.obs := rfl
@[simp] theorem answer_tap (s : State) (l : Nat) (x : Answer) : (s.answer l x).tap = s.tap := rfl
@[simp] theorem answer_pins (s : State) (l : Nat) (x : Answer) : (s.answer l x).pins = s.pins := rfl
@[simp] theorem answer_freeCtr (s : State) (l : Nat) (x : Answer) : (s.answer l x).freeCtr = s.freeCtr := rfl
@[simp] theorem answer_pending (s : State) (l : Nat) (x : Answer) : (s.answer l x).pending = s.pending := rfl
@[simp] theorem answer_word (s : State) (l : Nat) (x : Answer) (k : Nat) : State.word (s.answer l x) k = s.word k := rfl
@[simp] theorem answer_get (s : State) (l : Nat) (x : Answer) (g : Fld) : State.get (s.answer l x) g = s.get g := rfl
@[simp] theorem answer_on (s : State) (l : Nat) (x : Answer) (g : Fld) : State.on (s.answer l x) g = s.on g := rfl
@[simp] theorem answer_byte (s : State) (l : Nat) (x : Answer) (k : Nat) : State.byte (s.answer l x) k = s.byte k := rfl
@[simp] theorem answer_live (s : State) (l : Nat) (x : Answer) : State.live (s.answer l x) = s.live := rfl

@[simp] theorem burn_regs (s : State) : (s.burn ).regs = s.regs := rfl
@[simp] theorem burn_ram (s : State) : (s.burn ).ram = s.ram := rfl
@[simp] theorem burn_boot (s : State) : (s.burn ).boot = s.boot := rfl
@[simp] theorem burn_sess (s : State) : (s.burn ).sess = s.sess := rfl
@[simp] theorem burn_clk (s : State) : (s.burn ).clk = s.clk := rfl
@[simp] theorem burn_acq (s : State) : (s.burn ).acq = s.acq := rfl
@[simp] theorem burn_win (s : State) : (s.burn ).win = s.win := rfl
@[simp] theorem burn_evr (s : State) : (s.burn ).evr = s.evr := rfl
@[simp] theorem burn_frm (s : State) : (s.burn ).frm = s.frm := rfl
@[simp] theorem burn_eng (s : State) : (s.burn ).eng = s.eng := rfl
@[simp] theorem burn_grd (s : State) : (s.burn ).grd = s.grd := rfl
@[simp] theorem burn_mod (s : State) : (s.burn ).mod = s.mod := rfl
@[simp] theorem burn_gtp (s : State) : (s.burn ).gtp = s.gtp := rfl
@[simp] theorem burn_mtr (s : State) : (s.burn ).mtr = s.mtr := rfl
@[simp] theorem burn_seq (s : State) : (s.burn ).seq = s.seq := rfl
@[simp] theorem burn_gov (s : State) : (s.burn ).gov = s.gov := rfl
@[simp] theorem burn_fab (s : State) : (s.burn ).fab = s.fab := rfl
@[simp] theorem burn_twn (s : State) : (s.burn ).twn = s.twn := rfl
@[simp] theorem burn_can (s : State) : (s.burn ).can = s.can := rfl
@[simp] theorem burn_aon (s : State) : (s.burn ).aon = s.aon := rfl
@[simp] theorem burn_obs (s : State) : (s.burn ).obs = s.obs := rfl
@[simp] theorem burn_tap (s : State) : (s.burn ).tap = s.tap := rfl
@[simp] theorem burn_pins (s : State) : (s.burn ).pins = s.pins := rfl
@[simp] theorem burn_answers (s : State) : (s.burn ).answers = s.answers := rfl
@[simp] theorem burn_pending (s : State) : (s.burn ).pending = s.pending := rfl
@[simp] theorem burn_word (s : State) (k : Nat) : State.word (s.burn ) k = s.word k := rfl
@[simp] theorem burn_get (s : State) (g : Fld) : State.get (s.burn ) g = s.get g := rfl
@[simp] theorem burn_on (s : State) (g : Fld) : State.on (s.burn ) g = s.on g := rfl
@[simp] theorem burn_byte (s : State) (k : Nat) : State.byte (s.burn ) k = s.byte k := rfl
@[simp] theorem burn_live (s : State) : State.live (s.burn ) = s.live := rfl

@[simp] theorem upd_ram_word (s : State) (x) (b : Nat) : State.word { s with ram := x } b = s.word b := rfl
@[simp] theorem upd_ram_get (s : State) (x) (g : Fld) : State.get { s with ram := x } g = s.get g := rfl
@[simp] theorem upd_ram_on (s : State) (x) (g : Fld) : State.on { s with ram := x } g = s.on g := rfl
@[simp] theorem upd_boot_word (s : State) (x) (b : Nat) : State.word { s with boot := x } b = s.word b := rfl
@[simp] theorem upd_boot_get (s : State) (x) (g : Fld) : State.get { s with boot := x } g = s.get g := rfl
@[simp] theorem upd_boot_on (s : State) (x) (g : Fld) : State.on { s with boot := x } g = s.on g := rfl
@[simp] theorem upd_sess_word (s : State) (x) (b : Nat) : State.word { s with sess := x } b = s.word b := rfl
@[simp] theorem upd_sess_get (s : State) (x) (g : Fld) : State.get { s with sess := x } g = s.get g := rfl
@[simp] theorem upd_sess_on (s : State) (x) (g : Fld) : State.on { s with sess := x } g = s.on g := rfl
@[simp] theorem upd_clk_word (s : State) (x) (b : Nat) : State.word { s with clk := x } b = s.word b := rfl
@[simp] theorem upd_clk_get (s : State) (x) (g : Fld) : State.get { s with clk := x } g = s.get g := rfl
@[simp] theorem upd_clk_on (s : State) (x) (g : Fld) : State.on { s with clk := x } g = s.on g := rfl
@[simp] theorem upd_acq_word (s : State) (x) (b : Nat) : State.word { s with acq := x } b = s.word b := rfl
@[simp] theorem upd_acq_get (s : State) (x) (g : Fld) : State.get { s with acq := x } g = s.get g := rfl
@[simp] theorem upd_acq_on (s : State) (x) (g : Fld) : State.on { s with acq := x } g = s.on g := rfl
@[simp] theorem upd_win_word (s : State) (x) (b : Nat) : State.word { s with win := x } b = s.word b := rfl
@[simp] theorem upd_win_get (s : State) (x) (g : Fld) : State.get { s with win := x } g = s.get g := rfl
@[simp] theorem upd_win_on (s : State) (x) (g : Fld) : State.on { s with win := x } g = s.on g := rfl
@[simp] theorem upd_evr_word (s : State) (x) (b : Nat) : State.word { s with evr := x } b = s.word b := rfl
@[simp] theorem upd_evr_get (s : State) (x) (g : Fld) : State.get { s with evr := x } g = s.get g := rfl
@[simp] theorem upd_evr_on (s : State) (x) (g : Fld) : State.on { s with evr := x } g = s.on g := rfl
@[simp] theorem upd_frm_word (s : State) (x) (b : Nat) : State.word { s with frm := x } b = s.word b := rfl
@[simp] theorem upd_frm_get (s : State) (x) (g : Fld) : State.get { s with frm := x } g = s.get g := rfl
@[simp] theorem upd_frm_on (s : State) (x) (g : Fld) : State.on { s with frm := x } g = s.on g := rfl
@[simp] theorem upd_eng_word (s : State) (x) (b : Nat) : State.word { s with eng := x } b = s.word b := rfl
@[simp] theorem upd_eng_get (s : State) (x) (g : Fld) : State.get { s with eng := x } g = s.get g := rfl
@[simp] theorem upd_eng_on (s : State) (x) (g : Fld) : State.on { s with eng := x } g = s.on g := rfl
@[simp] theorem upd_grd_word (s : State) (x) (b : Nat) : State.word { s with grd := x } b = s.word b := rfl
@[simp] theorem upd_grd_get (s : State) (x) (g : Fld) : State.get { s with grd := x } g = s.get g := rfl
@[simp] theorem upd_grd_on (s : State) (x) (g : Fld) : State.on { s with grd := x } g = s.on g := rfl
@[simp] theorem upd_mod_word (s : State) (x) (b : Nat) : State.word { s with mod := x } b = s.word b := rfl
@[simp] theorem upd_mod_get (s : State) (x) (g : Fld) : State.get { s with mod := x } g = s.get g := rfl
@[simp] theorem upd_mod_on (s : State) (x) (g : Fld) : State.on { s with mod := x } g = s.on g := rfl
@[simp] theorem upd_gtp_word (s : State) (x) (b : Nat) : State.word { s with gtp := x } b = s.word b := rfl
@[simp] theorem upd_gtp_get (s : State) (x) (g : Fld) : State.get { s with gtp := x } g = s.get g := rfl
@[simp] theorem upd_gtp_on (s : State) (x) (g : Fld) : State.on { s with gtp := x } g = s.on g := rfl
@[simp] theorem upd_mtr_word (s : State) (x) (b : Nat) : State.word { s with mtr := x } b = s.word b := rfl
@[simp] theorem upd_mtr_get (s : State) (x) (g : Fld) : State.get { s with mtr := x } g = s.get g := rfl
@[simp] theorem upd_mtr_on (s : State) (x) (g : Fld) : State.on { s with mtr := x } g = s.on g := rfl
@[simp] theorem upd_seq_word (s : State) (x) (b : Nat) : State.word { s with seq := x } b = s.word b := rfl
@[simp] theorem upd_seq_get (s : State) (x) (g : Fld) : State.get { s with seq := x } g = s.get g := rfl
@[simp] theorem upd_seq_on (s : State) (x) (g : Fld) : State.on { s with seq := x } g = s.on g := rfl
@[simp] theorem upd_gov_word (s : State) (x) (b : Nat) : State.word { s with gov := x } b = s.word b := rfl
@[simp] theorem upd_gov_get (s : State) (x) (g : Fld) : State.get { s with gov := x } g = s.get g := rfl
@[simp] theorem upd_gov_on (s : State) (x) (g : Fld) : State.on { s with gov := x } g = s.on g := rfl
@[simp] theorem upd_fab_word (s : State) (x) (b : Nat) : State.word { s with fab := x } b = s.word b := rfl
@[simp] theorem upd_fab_get (s : State) (x) (g : Fld) : State.get { s with fab := x } g = s.get g := rfl
@[simp] theorem upd_fab_on (s : State) (x) (g : Fld) : State.on { s with fab := x } g = s.on g := rfl
@[simp] theorem upd_twn_word (s : State) (x) (b : Nat) : State.word { s with twn := x } b = s.word b := rfl
@[simp] theorem upd_twn_get (s : State) (x) (g : Fld) : State.get { s with twn := x } g = s.get g := rfl
@[simp] theorem upd_twn_on (s : State) (x) (g : Fld) : State.on { s with twn := x } g = s.on g := rfl
@[simp] theorem upd_can_word (s : State) (x) (b : Nat) : State.word { s with can := x } b = s.word b := rfl
@[simp] theorem upd_can_get (s : State) (x) (g : Fld) : State.get { s with can := x } g = s.get g := rfl
@[simp] theorem upd_can_on (s : State) (x) (g : Fld) : State.on { s with can := x } g = s.on g := rfl
@[simp] theorem upd_aon_word (s : State) (x) (b : Nat) : State.word { s with aon := x } b = s.word b := rfl
@[simp] theorem upd_aon_get (s : State) (x) (g : Fld) : State.get { s with aon := x } g = s.get g := rfl
@[simp] theorem upd_aon_on (s : State) (x) (g : Fld) : State.on { s with aon := x } g = s.on g := rfl
@[simp] theorem upd_obs_word (s : State) (x) (b : Nat) : State.word { s with obs := x } b = s.word b := rfl
@[simp] theorem upd_obs_get (s : State) (x) (g : Fld) : State.get { s with obs := x } g = s.get g := rfl
@[simp] theorem upd_obs_on (s : State) (x) (g : Fld) : State.on { s with obs := x } g = s.on g := rfl
@[simp] theorem upd_tap_word (s : State) (x) (b : Nat) : State.word { s with tap := x } b = s.word b := rfl
@[simp] theorem upd_tap_get (s : State) (x) (g : Fld) : State.get { s with tap := x } g = s.get g := rfl
@[simp] theorem upd_tap_on (s : State) (x) (g : Fld) : State.on { s with tap := x } g = s.on g := rfl
@[simp] theorem upd_pins_word (s : State) (x) (b : Nat) : State.word { s with pins := x } b = s.word b := rfl
@[simp] theorem upd_pins_get (s : State) (x) (g : Fld) : State.get { s with pins := x } g = s.get g := rfl
@[simp] theorem upd_pins_on (s : State) (x) (g : Fld) : State.on { s with pins := x } g = s.on g := rfl
@[simp] theorem upd_answers_word (s : State) (x) (b : Nat) : State.word { s with answers := x } b = s.word b := rfl
@[simp] theorem upd_answers_get (s : State) (x) (g : Fld) : State.get { s with answers := x } g = s.get g := rfl
@[simp] theorem upd_answers_on (s : State) (x) (g : Fld) : State.on { s with answers := x } g = s.on g := rfl
@[simp] theorem upd_freeCtr_word (s : State) (x) (b : Nat) : State.word { s with freeCtr := x } b = s.word b := rfl
@[simp] theorem upd_freeCtr_get (s : State) (x) (g : Fld) : State.get { s with freeCtr := x } g = s.get g := rfl
@[simp] theorem upd_freeCtr_on (s : State) (x) (g : Fld) : State.on { s with freeCtr := x } g = s.on g := rfl

end Sys2Proof.Laws
end

