-- ==== Sys2Proof/Laws/Ops.lean ====
section
/-!
SUPPORT. What the named operations of Machine/Ops.lean and Machine/Cmap.lean do: reading after writing, word by word and
field by field.
-/

namespace Sys2Proof.Laws

open Sys2Proof Sys2Proof.Machine

/-! ### Maps -/

theorem mget_minsert {α : Type} (d : Nat → α) : ∀ (m : List (Nat × α)) (a : Nat) (v : α) (b : Nat),
    mget d (minsert m a v) b = if b = a then v else mget d m b := by
  intro m
  induction m with
  | nil => intro a v b; simp only [minsert, mget]
  | cons p r ih =>
    intro a v b
    simp only [minsert]
    split
    · next e => subst e; simp only [mget]; split <;> simp_all
    · split
      · simp only [mget]
      · simp only [mget, ih]
        split
        · next h1 h2 => split <;> simp_all
        · rfl

theorem mget_merase {α : Type} (d : Nat → α) : ∀ (m : List (Nat × α)) (a b : Nat),
    mget d (merase m a) b = if b = a then d b else mget d m b := by
  intro m
  induction m with
  | nil => intro a b; simp only [merase, mget]; split <;> rfl
  | cons p r ih =>
    intro a b
    simp only [merase]
    split
    · next e => subst e; rw [ih]; simp only [mget]; split <;> rfl
    · simp only [mget, ih]
      split
      · next h1 h2 => split <;> simp_all
      · rfl

theorem mget_mput {α : Type} [DecidableEq α] (d : Nat → α) (m : List (Nat × α)) (a : Nat) (v : α) (b : Nat) :
    mget d (mput d m a v) b = if b = a then v else mget d m b := by
  unfold mput
  split
  · next e => rw [mget_merase]; split <;> simp_all
  · exact mget_minsert d m a v b

@[simp] theorem tget_tset {α : Type} (t : Tbl α) (k : Nat) (v : α) (j : Nat) (d : α) :
    tget (tset t k v) j d = if j = k then v else tget t j d := mget_minsert _ t k v j

@[simp] theorem tbit_tset (t : Tbl Bool) (k : Nat) (v : Bool) (j : Nat) : tbit (tset t k v) j = if j = k then v else tbit t j :=
  mget_minsert _ t k v j

@[simp] theorem tnum_tset (t : Tbl Nat) (k v j : Nat) : tnum (tset t k v) j = if j = k then v else tnum t j :=
  mget_minsert _ t k v j

/-! ### Words and bytes -/

@[simp] theorem word_setWord (s : State) (a : Nat) (w : Word) (b : Nat) :
    (s.setWord a w).word b = if b = a then w else s.word b := mget_mput _ _ _ _ _

@[simp] theorem byte_setByte (s : State) (a : Nat) (v : Byte) (b : Nat) :
    (s.setByte a v).byte b = if b = a then v else s.byte b := mget_mput _ _ _ _ _

theorem word_put (s : State) (f : Fld) (n b : Nat) : (s.put f n).word b = if b = f.addr then f.ins (s.word f.addr) n else s.word b :=
  word_setWord _ _ _ _

theorem word_put_ne (s : State) (f : Fld) (n b : Nat) (h : b ≠ f.addr) : (s.put f n).word b = s.word b := by
  rw [word_put, if_neg h]

theorem word_putB_ne (s : State) (f : Fld) (v : Bool) (b : Nat) (h : b ≠ f.addr) : (s.putB f v).word b = s.word b :=
  word_put_ne s f _ b h

theorem word_bumpBy_ne (s : State) (f : Fld) (n b : Nat) (h : b ≠ f.addr) : (s.bumpBy f n).word b = s.word b :=
  word_put_ne s f _ b h

theorem word_bump_ne (s : State) (f : Fld) (b : Nat) (h : b ≠ f.addr) : (s.bump f).word b = s.word b :=
  word_put_ne s f _ b h

/-! ### Fields -/

theorem getLsbD_mask (f : Fld) (i : Nat) : f.mask.getLsbD i = (decide (i < 32) && decide (f.lo ≤ i) && decide (i < f.lo + f.w)) := by
  simp only [Fld.mask, BitVec.getLsbD_shiftLeft, BitVec.getLsbD_setWidth, BitVec.getLsbD_allOnes]
  by_cases h1 : i < 32
  · by_cases h2 : i < f.lo
    · have h4 : ¬ f.lo ≤ i := by omega
      simp [h2, h4]
    · have h3 : i - f.lo < 32 := by omega
      have h4 : f.lo ≤ i := by omega
      have h5 : (i - f.lo < f.w) ↔ (i < f.lo + f.w) := by omega
      simp [h1, h2, h3, h4, h5]
  · simp [h1]

theorem getLsbD_ins (f : Fld) (w : Word) (n i : Nat) (hi : i < 32) :
    (f.ins w n).getLsbD i = if f.lo ≤ i ∧ i < f.lo + f.w then n.testBit (i - f.lo) else w.getLsbD i := by
  simp only [Fld.ins, BitVec.getLsbD_or, BitVec.getLsbD_and, BitVec.getLsbD_not, getLsbD_mask, BitVec.getLsbD_shiftLeft,
    BitVec.getLsbD_setWidth, BitVec.getLsbD_ofNat, hi, decide_true, Bool.true_and]
  by_cases h1 : f.lo ≤ i <;> by_cases h2 : i < f.lo + f.w
  · have h3 : i - f.lo < f.w := by omega
    have h4 : i - f.lo < 32 := by omega
    have h5 : ¬ i < f.lo := by omega
    simp [h1, h2, h3, h4, h5]
  · have h3 : ¬ i - f.lo < f.w := by omega
    simp [h1, h2, h3]
  · have h5 : i < f.lo := by omega
    have h6 : ¬ f.lo ≤ i := by omega
    simp [h5, h6]
  · have h5 : i < f.lo := by omega
    have h6 : ¬ f.lo ≤ i := by omega
    simp [h5, h6]

/-- A field reads what was put into it, modulo its width. -/
theorem of_ins_same (f : Fld) (w : Word) (n : Nat) (h : f.lo + f.w ≤ 32) : f.of (f.ins w n) = n % 2 ^ f.w := by
  apply Nat.eq_of_testBit_eq
  intro i
  simp only [Fld.of, BitVec.testBit_toNat, BitVec.getLsbD_extractLsb', Nat.testBit_mod_two_pow]
  by_cases hi : i < f.w
  · rw [getLsbD_ins _ _ _ _ (by omega), if_pos (by omega)]
    simp [hi]
  · simp [hi]

/-- A field apart from the one that is put keeps its value. -/
theorem of_ins_apart (f g : Fld) (w : Word) (n : Nat) (h : g.lo + g.w ≤ 32) (hd : f.lo + f.w ≤ g.lo ∨ g.lo + g.w ≤ f.lo) :
    g.of (f.ins w n) = g.of w := by
  apply Nat.eq_of_testBit_eq
  intro i
  simp only [Fld.of, BitVec.testBit_toNat, BitVec.getLsbD_extractLsb']
  by_cases hi : i < g.w
  · rw [getLsbD_ins _ _ _ _ (by omega), if_neg (by omega)]
  · simp [hi]

theorem get_put_same (s : State) (f : Fld) (n : Nat) (h : f.lo + f.w ≤ 32) : (s.put f n).get f = n % 2 ^ f.w := by
  unfold State.get
  rw [word_put, if_pos rfl]
  exact of_ins_same f _ n h

theorem get_put_ne (s : State) (f g : Fld) (n : Nat) (h : g.addr ≠ f.addr) : (s.put f n).get g = s.get g := by
  unfold State.get
  rw [word_put_ne _ _ _ _ h]

theorem get_put_apart (s : State) (f g : Fld) (n : Nat) (h : g.lo + g.w ≤ 32) (hd : f.lo + f.w ≤ g.lo ∨ g.lo + g.w ≤ f.lo) :
    (s.put f n).get g = s.get g := by
  unfold State.get
  rw [word_put]
  split
  · next e => rw [of_ins_apart f g _ n h hd, ← e]
  · rfl

theorem on_putB_same (s : State) (f : Fld) (b : Bool) (h : f.lo + f.w ≤ 32) (hw : 1 ≤ f.w) : (s.putB f b).on f = b := by
  unfold State.on State.putB
  rw [get_put_same s f _ h]
  cases b
  · simp
  · have : 1 < 2 ^ f.w := Nat.one_lt_two_pow (by omega)
    simp [Nat.mod_eq_of_lt this]

theorem get_bump_same (s : State) (f : Fld) (h : f.lo + f.w ≤ 32) : (s.bump f).get f = min (s.get f + 1) (2 ^ f.w - 1) := by
  unfold State.bump State.bumpBy
  rw [get_put_same s f _ h, Nat.mod_eq_of_lt]
  have : 0 < 2 ^ f.w := Nat.two_pow_pos _
  omega

/-! ### Loops -/

theorem forUpTo_zero {σ : Type} (f : Nat → σ → σ) (s : σ) : forUpTo 0 f s = s := rfl

theorem forUpTo_succ {σ : Type} (n : Nat) (f : Nat → σ → σ) (s : σ) : forUpTo (n + 1) f s = f n (forUpTo n f s) := by
  simp [forUpTo, List.range_succ]

/-- What every round keeps, the loop keeps. -/
theorem forUpTo_inv {σ : Type} (P : σ → Prop) (n : Nat) (f : Nat → σ → σ) (s : σ) (hs : P s) (hf : ∀ i t, i < n → P t → P (f i t)) :
    P (forUpTo n f s) := by
  induction n with
  | zero => exact hs
  | succ n ih =>
    rw [forUpTo_succ]
    exact hf n _ (by omega) (ih (fun i t hi => hf i t (by omega)))

/-- A value that no round changes is unchanged by the loop. -/
theorem forUpTo_const {σ α : Type} (g : σ → α) (n : Nat) (f : Nat → σ → σ) (s : σ) (hf : ∀ i t, i < n → g (f i t) = g t) :
    g (forUpTo n f s) = g s :=
  forUpTo_inv (fun t => g t = g s) n f s rfl (fun i t hi h => (hf i t hi).trans h)

/-- A value that round `k` sets and later rounds keep. -/
theorem forUpTo_at {σ α : Type} (g : σ → α) (v : α) (n k : Nat) (f : Nat → σ → σ) (s : σ) (hk : k < n) (h1 : ∀ t, g (f k t) = v)
    (h2 : ∀ i t, k < i → i < n → g (f i t) = g t) : g (forUpTo n f s) = v := by
  induction n with
  | zero => omega
  | succ n ih =>
    rw [forUpTo_succ]
    by_cases h : k = n
    · subst h; exact h1 _
    · rw [h2 n _ (by omega) (by omega)]
      exact ih (by omega) (fun i t hi hn => h2 i t hi (by omega))

theorem foldl_const {σ α β : Type} (g : σ → α) (f : σ → β → σ) (l : List β) (s : σ) (hf : ∀ t x, x ∈ l → g (f t x) = g t) :
    g (l.foldl f s) = g s := by
  induction l generalizing s with
  | nil => rfl
  | cons x r ih =>
    rw [List.foldl_cons, ih (f s x) (fun t y hy => hf t y (List.mem_cons_of_mem _ hy)), hf s x (List.mem_cons_self ..)]

/-! ### Answering -/

@[simp] theorem when_true (s t : State) : when true s t = .next t := rfl

@[simp] theorem when_false (s t : State) : when false s t = .next s := rfl

@[simp] theorem ite'_true (s t : State) : ite' true s t = t := rfl

@[simp] theorem ite'_false (s t : State) : ite' false s t = s := rfl

end Sys2Proof.Laws
end

