-- ==== Sys2Proof/Laws/Count.lean ====
section
/-!
SUPPORT. The performance counters change nothing but the live counts and their overflow bits.
-/

namespace Sys2Proof.Laws

open Sys2Proof Sys2Proof.Machine

/-- Counting keeps every value that does not depend on the live counts. -/
theorem addCnt_const {α : Type} (g : ObsS → α) (hg : ∀ o c v, g { o with cnt := c, ovf := v } = g o) (o : ObsS) (n k : Nat) (b : Bool) :
    g (o.addCnt n k b) = g o := by
  unfold ObsS.addCnt
  dsimp only
  split
  · exact hg o _ _
  · split <;> exact hg o _ _

theorem countFor_const {α : Type} (g : ObsS → α) (hg : ∀ o c v, g { o with cnt := c, ovf := v } = g o) (s : State) (code arg ctx k : Nat) :
    g (s.countFor code arg ctx k).obs = g s.obs := by
  unfold State.countFor
  split
  · dsimp only
    apply forUpTo_const g
    intro i o _
    split
    · exact addCnt_const g hg _ _ _ _
    · rfl
  · rfl

@[simp] theorem count_q27 (s : State) (c : Nat) : (s.count c).obs.q27 = s.obs.q27 := countFor_const (fun o => o.q27) (fun _ _ _ => rfl) _ _ _ _ _
@[simp] theorem countN_q27 (s : State) (c k : Nat) : (s.countN c k).obs.q27 = s.obs.q27 := countFor_const (fun o => o.q27) (fun _ _ _ => rfl) _ _ _ _ _
@[simp] theorem count_recording (s : State) (c : Nat) : (s.count c).obs.recording = s.obs.recording := countFor_const (fun o => o.recording) (fun _ _ _ => rfl) _ _ _ _ _
@[simp] theorem countN_recording (s : State) (c k : Nat) : (s.countN c k).obs.recording = s.obs.recording := countFor_const (fun o => o.recording) (fun _ _ _ => rfl) _ _ _ _ _
@[simp] theorem count_stepping (s : State) (c : Nat) : (s.count c).obs.stepping = s.obs.stepping := countFor_const (fun o => o.stepping) (fun _ _ _ => rfl) _ _ _ _ _
@[simp] theorem count_stepPending (s : State) (c : Nat) : (s.count c).obs.stepPending = s.obs.stepPending := countFor_const (fun o => o.stepPending) (fun _ _ _ => rfl) _ _ _ _ _

/-- Counting leaves every part but the counts. -/
theorem countFor_regs (s : State) (code arg ctx k : Nat) : (s.countFor code arg ctx k).regs = s.regs := by
  unfold State.countFor; split <;> rfl
@[simp] theorem count_ram (s : State) (c : Nat) : (s.count c).ram = s.ram := by unfold State.count State.countFor; split <;> rfl
@[simp] theorem countN_ram (s : State) (c k : Nat) : (s.countN c k).ram = s.ram := by unfold State.countN State.countFor; split <;> rfl
@[simp] theorem count_boot (s : State) (c : Nat) : (s.count c).boot = s.boot := by unfold State.count State.countFor; split <;> rfl
@[simp] theorem countN_boot (s : State) (c k : Nat) : (s.countN c k).boot = s.boot := by unfold State.countN State.countFor; split <;> rfl
@[simp] theorem count_sess (s : State) (c : Nat) : (s.count c).sess = s.sess := by unfold State.count State.countFor; split <;> rfl
@[simp] theorem countN_sess (s : State) (c k : Nat) : (s.countN c k).sess = s.sess := by unfold State.countN State.countFor; split <;> rfl
@[simp] theorem count_clk (s : State) (c : Nat) : (s.count c).clk = s.clk := by unfold State.count State.countFor; split <;> rfl
@[simp] theorem countN_clk (s : State) (c k : Nat) : (s.countN c k).clk = s.clk := by unfold State.countN State.countFor; split <;> rfl
@[simp] theorem count_acq (s : State) (c : Nat) : (s.count c).acq = s.acq := by unfold State.count State.countFor; split <;> rfl
@[simp] theorem countN_acq (s : State) (c k : Nat) : (s.countN c k).acq = s.acq := by unfold State.countN State.countFor; split <;> rfl
@[simp] theorem count_win (s : State) (c : Nat) : (s.count c).win = s.win := by unfold State.count State.countFor; split <;> rfl
@[simp] theorem countN_win (s : State) (c k : Nat) : (s.countN c k).win = s.win := by unfold State.countN State.countFor; split <;> rfl
@[simp] theorem count_evr (s : State) (c : Nat) : (s.count c).evr = s.evr := by unfold State.count State.countFor; split <;> rfl
@[simp] theorem countN_evr (s : State) (c k : Nat) : (s.countN c k).evr = s.evr := by unfold State.countN State.countFor; split <;> rfl
@[simp] theorem count_frm (s : State) (c : Nat) : (s.count c).frm = s.frm := by unfold State.count State.countFor; split <;> rfl
@[simp] theorem countN_frm (s : State) (c k : Nat) : (s.countN c k).frm = s.frm := by unfold State.countN State.countFor; split <;> rfl
@[simp] theorem count_eng (s : State) (c : Nat) : (s.count c).eng = s.eng := by unfold State.count State.countFor; split <;> rfl
@[simp] theorem countN_eng (s : State) (c k : Nat) : (s.countN c k).eng = s.eng := by unfold State.countN State.countFor; split <;> rfl
@[simp] theorem count_grd (s : State) (c : Nat) : (s.count c).grd = s.grd := by unfold State.count State.countFor; split <;> rfl
@[simp] theorem countN_grd (s : State) (c k : Nat) : (s.countN c k).grd = s.grd := by unfold State.countN State.countFor; split <;> rfl
@[simp] theorem count_mod (s : State) (c : Nat) : (s.count c).mod = s.mod := by unfold State.count State.countFor; split <;> rfl
@[simp] theorem countN_mod (s : State) (c k : Nat) : (s.countN c k).mod = s.mod := by unfold State.countN State.countFor; split <;> rfl
@[simp] theorem count_gtp (s : State) (c : Nat) : (s.count c).gtp = s.gtp := by unfold State.count State.countFor; split <;> rfl
@[simp] theorem countN_gtp (s : State) (c k : Nat) : (s.countN c k).gtp = s.gtp := by unfold State.countN State.countFor; split <;> rfl
@[simp] theorem count_mtr (s : State) (c : Nat) : (s.count c).mtr = s.mtr := by unfold State.count State.countFor; split <;> rfl
@[simp] theorem countN_mtr (s : State) (c k : Nat) : (s.countN c k).mtr = s.mtr := by unfold State.countN State.countFor; split <;> rfl
@[simp] theorem count_seq (s : State) (c : Nat) : (s.count c).seq = s.seq := by unfold State.count State.countFor; split <;> rfl
@[simp] theorem countN_seq (s : State) (c k : Nat) : (s.countN c k).seq = s.seq := by unfold State.countN State.countFor; split <;> rfl
@[simp] theorem count_gov (s : State) (c : Nat) : (s.count c).gov = s.gov := by unfold State.count State.countFor; split <;> rfl
@[simp] theorem countN_gov (s : State) (c k : Nat) : (s.countN c k).gov = s.gov := by unfold State.countN State.countFor; split <;> rfl
@[simp] theorem count_fab (s : State) (c : Nat) : (s.count c).fab = s.fab := by unfold State.count State.countFor; split <;> rfl
@[simp] theorem countN_fab (s : State) (c k : Nat) : (s.countN c k).fab = s.fab := by unfold State.countN State.countFor; split <;> rfl
@[simp] theorem count_twn (s : State) (c : Nat) : (s.count c).twn = s.twn := by unfold State.count State.countFor; split <;> rfl
@[simp] theorem countN_twn (s : State) (c k : Nat) : (s.countN c k).twn = s.twn := by unfold State.countN State.countFor; split <;> rfl
@[simp] theorem count_can (s : State) (c : Nat) : (s.count c).can = s.can := by unfold State.count State.countFor; split <;> rfl
@[simp] theorem countN_can (s : State) (c k : Nat) : (s.countN c k).can = s.can := by unfold State.countN State.countFor; split <;> rfl
@[simp] theorem count_aon (s : State) (c : Nat) : (s.count c).aon = s.aon := by unfold State.count State.countFor; split <;> rfl
@[simp] theorem countN_aon (s : State) (c k : Nat) : (s.countN c k).aon = s.aon := by unfold State.countN State.countFor; split <;> rfl
@[simp] theorem count_tap (s : State) (c : Nat) : (s.count c).tap = s.tap := by unfold State.count State.countFor; split <;> rfl
@[simp] theorem countN_tap (s : State) (c k : Nat) : (s.countN c k).tap = s.tap := by unfold State.countN State.countFor; split <;> rfl
@[simp] theorem count_pins (s : State) (c : Nat) : (s.count c).pins = s.pins := by unfold State.count State.countFor; split <;> rfl
@[simp] theorem countN_pins (s : State) (c k : Nat) : (s.countN c k).pins = s.pins := by unfold State.countN State.countFor; split <;> rfl
@[simp] theorem count_answers (s : State) (c : Nat) : (s.count c).answers = s.answers := by unfold State.count State.countFor; split <;> rfl
@[simp] theorem countN_answers (s : State) (c k : Nat) : (s.countN c k).answers = s.answers := by unfold State.countN State.countFor; split <;> rfl
@[simp] theorem count_freeCtr (s : State) (c : Nat) : (s.count c).freeCtr = s.freeCtr := by unfold State.count State.countFor; split <;> rfl
@[simp] theorem countN_freeCtr (s : State) (c k : Nat) : (s.countN c k).freeCtr = s.freeCtr := by unfold State.countN State.countFor; split <;> rfl
@[simp] theorem count_pending (s : State) (c : Nat) : (s.count c).pending = s.pending := by unfold State.count State.countFor; split <;> rfl
@[simp] theorem countN_pending (s : State) (c k : Nat) : (s.countN c k).pending = s.pending := by unfold State.countN State.countFor; split <;> rfl
@[simp] theorem count_regs (s : State) (c : Nat) : (s.count c).regs = s.regs := countFor_regs _ _ _ _ _
@[simp] theorem countN_regs (s : State) (c k : Nat) : (s.countN c k).regs = s.regs := countFor_regs _ _ _ _ _
@[simp] theorem count_word (s : State) (c : Nat) (b : Nat) : State.word (s.count c) b = s.word b := by unfold State.word; rw [count_regs]
@[simp] theorem count_get (s : State) (c : Nat) (g : Fld) : State.get (s.count c) g = s.get g := by unfold State.get; rw [count_word]
@[simp] theorem count_on (s : State) (c : Nat) (g : Fld) : State.on (s.count c) g = s.on g := by unfold State.on; rw [count_get]
@[simp] theorem count_live (s : State) (c : Nat) : State.live (s.count c) = s.live := by unfold State.live; rw [count_boot]
@[simp] theorem countN_word (s : State) (c k : Nat) (b : Nat) : State.word (s.countN c k) b = s.word b := by unfold State.word; rw [countN_regs]
@[simp] theorem countN_get (s : State) (c k : Nat) (g : Fld) : State.get (s.countN c k) g = s.get g := by unfold State.get; rw [countN_word]
@[simp] theorem countN_on (s : State) (c k : Nat) (g : Fld) : State.on (s.countN c k) g = s.on g := by unfold State.on; rw [countN_get]
@[simp] theorem countN_live (s : State) (c k : Nat) : State.live (s.countN c k) = s.live := by unfold State.live; rw [countN_boot]

end Sys2Proof.Laws
end

