-- ==== Sys2Proof/Laws/Within.lean ====
section
/-!
SUPPORT. Within: what may change is a list of parts. Rules to build it along a composition of updates, one per way an
operation builds a state.
-/

namespace Sys2Proof.Laws

open Sys2Proof Sys2Proof.Machine

/-! ### Canonical maps -/

theorem minsert_keys_lt {α : Type} (k : Nat) : ∀ (m : List (Nat × α)) (a : Nat) (v : α), k < a →
    m.all (fun q => decide (k < q.1)) = true → (minsert m a v).all (fun q => decide (k < q.1)) = true := by
  intro m
  induction m with
  | nil => intro a v h _; simp [minsert, h]
  | cons p r ih =>
    intro a v h hm
    simp only [List.all_cons, Bool.and_eq_true, decide_eq_true_eq] at hm
    simp only [minsert]
    split
    · simp only [List.all_cons, Bool.and_eq_true, decide_eq_true_eq]; exact ⟨h, hm.2⟩
    · split
      · simp only [List.all_cons, Bool.and_eq_true, decide_eq_true_eq]; exact ⟨h, hm.1, hm.2⟩
      · simp only [List.all_cons, Bool.and_eq_true, decide_eq_true_eq]; exact ⟨hm.1, ih a v h hm.2⟩

theorem merase_keys_lt {α : Type} (k : Nat) : ∀ (m : List (Nat × α)) (a : Nat),
    m.all (fun q => decide (k < q.1)) = true → (merase m a).all (fun q => decide (k < q.1)) = true := by
  intro m
  induction m with
  | nil => intro a h; exact h
  | cons p r ih =>
    intro a hm
    simp only [List.all_cons, Bool.and_eq_true, decide_eq_true_eq] at hm
    simp only [merase]
    split
    · exact ih a hm.2
    · simp only [List.all_cons, Bool.and_eq_true, decide_eq_true_eq]; exact ⟨hm.1, ih a hm.2⟩

theorem merase_wf {α : Type} [DecidableEq α] (d : Nat → α) : ∀ (m : List (Nat × α)) (a : Nat), mwf d m = true → mwf d (merase m a) = true := by
  intro m
  induction m with
  | nil => intro a h; exact h
  | cons p r ih =>
    intro a h
    simp only [mwf, Bool.and_eq_true] at h
    simp only [merase]
    split
    · exact ih a h.2
    · simp only [mwf, Bool.and_eq_true]; exact ⟨⟨h.1.1, merase_keys_lt p.1 r a h.1.2⟩, ih a h.2⟩

theorem minsert_wf {α : Type} [DecidableEq α] (d : Nat → α) : ∀ (m : List (Nat × α)) (a : Nat) (v : α), v ≠ d a →
    mwf d m = true → mwf d (minsert m a v) = true := by
  intro m
  induction m with
  | nil => intro a v hv _; simp [minsert, mwf, hv]
  | cons p r ih =>
    intro a v hv h
    simp only [mwf, Bool.and_eq_true] at h
    simp only [minsert]
    split
    · next e => subst e; simp only [mwf, Bool.and_eq_true]; exact ⟨⟨by simp [hv], h.1.2⟩, h.2⟩
    · split
      · next hlt =>
        simp only [mwf, List.all_cons, Bool.and_eq_true, decide_eq_true_eq]
        refine ⟨⟨hv, hlt, ?_⟩, ⟨by simpa using h.1.1, h.1.2⟩, h.2⟩
        rw [List.all_eq_true] at *
        intro q hq; have := h.1.2 q hq; simp at this ⊢; omega
      · next hne hge =>
        simp only [mwf, Bool.and_eq_true]
        exact ⟨⟨h.1.1, minsert_keys_lt p.1 r a v (by omega) h.1.2⟩, ih a v hv h.2⟩

/-- Writing keeps a map canonical. -/
theorem mput_wf {α : Type} [DecidableEq α] (d : Nat → α) (m : List (Nat × α)) (a : Nat) (v : α) (h : mwf d m = true) :
    mwf d (mput d m a v) = true := by
  unfold mput; split
  · exact merase_wf d m a h
  · next hv => exact minsert_wf d m a v hv h

theorem filter_keys_lt {α : Type} (k : Nat) (f : Nat × α → Bool) (m : List (Nat × α))
    (h : m.all (fun q => decide (k < q.1)) = true) : (m.filter f).all (fun q => decide (k < q.1)) = true := by
  rw [List.all_eq_true] at *
  intro q hq
  exact h q (List.mem_filter.1 hq).1

/-- Leaving entries out keeps a map canonical. -/
theorem mwf_filter {α : Type} [DecidableEq α] (d : Nat → α) (f : Nat × α → Bool) : ∀ (m : List (Nat × α)), mwf d m = true →
    mwf d (m.filter f) = true := by
  intro m
  induction m with
  | nil => intro h; exact h
  | cons p r ih =>
    intro h
    simp only [mwf, Bool.and_eq_true] at h
    simp only [List.filter_cons]
    split
    · simp only [mwf, Bool.and_eq_true]; exact ⟨⟨h.1.1, filter_keys_lt p.1 f r h.1.2⟩, ih h.2⟩
    · exact ih h.2

/-! ### Building Within -/

theorem within_refl (A : List Part) (s : State) : Within A s s := by
  refine ⟨rfl, fun h => h, fun p _ => ?_⟩
  cases p <;> rfl

/-- Every part of `B` is one of `A`. -/
def subParts (B A : List Part) : Bool := B.all (fun p => A.contains p)

theorem subParts_mem {A B : List Part} (h : subParts B A = true) {p : Part} (hp : p ∈ B) : p ∈ A := by
  simp only [subParts, List.all_eq_true, List.contains_iff_mem] at h
  exact h p hp

theorem subParts_refl (A : List Part) : subParts A A = true := by simp [subParts]

theorem subParts_trans {A B C : List Part} (h : subParts A B = true) (g : subParts B C = true) : subParts A C = true := by
  simp only [subParts, List.all_eq_true, List.contains_iff_mem] at *
  exact fun p hp => g p (h p hp)

theorem within_trans {A B : List Part} {s t u : State} (h : Within A s t) (g : Within B t u) (hB : subParts B A = true) :
    Within A s u := by
  refine ⟨g.1.trans h.1, fun w => g.2.1 (h.2.1 w), fun p hp => ?_⟩
  have h1 := h.2.2 p hp
  have h2 := g.2.2 p (fun hm => hp (subParts_mem hB hm))
  cases p <;> exact Eq.trans h2 h1

theorem within_after {A B : List Part} {s t u : State} (g : Within B t u) (hB : subParts B A = true) (h : Within A s t) :
    Within A s u := within_trans h g hB

theorem within_mono {A B : List Part} {s t : State} (h : Within A s t) (hA : subParts A B = true) : Within B s t :=
  ⟨h.1, h.2.1, fun p hp => h.2.2 p (fun hm => hp (subParts_mem hA hm))⟩

theorem within_ite {A : List Part} {s : State} {c : Prop} [Decidable c] {x y : State} (hx : Within A s x) (hy : Within A s y) :
    Within A s (if c then x else y) := by split <;> assumption

theorem within_ite' {A : List Part} {s : State} {c : Bool} {x y : State} (hx : Within A s x) (hy : Within A s y) :
    Within A s (ite' c x y) := by
  unfold ite'; split <;> assumption

theorem within_ite_fst {A : List Part} {s : State} {c : Prop} [Decidable c] {β : Type} {x y : State × β} (hx : Within A s x.1)
    (hy : Within A s y.1) : Within A s (if c then x else y).1 := by split <;> assumption

theorem within_foldl {A : List Part} {s : State} {α : Type} {f : State → α → State} (hf : ∀ u x, Within A s u → Within A s (f u x)) :
    ∀ (l : List α) (t : State), Within A s t → Within A s (l.foldl f t) := by
  intro l
  induction l with
  | nil => intro t h; exact h
  | cons x r ih => intro t h; exact ih _ (hf t x h)

theorem within_forUpTo {A : List Part} {s : State} {n : Nat} {f : Nat → State → State} {t : State}
    (hf : ∀ i u, Within A s u → Within A s (f i u)) (h : Within A s t) : Within A s (forUpTo n f t) :=
  within_foldl (fun u x hu => hf x u hu) _ t h

theorem within_forUpTo_fst {A : List Part} {s : State} {β : Type} {n : Nat} {f : Nat → State × β → State × β} {t : State × β}
    (hf : ∀ i u, Within A s u.1 → Within A s (f i u).1) (h : Within A s t.1) : Within A s (forUpTo n f t).1 := by
  have key : ∀ (l : List Nat) (t : State × β), Within A s t.1 → Within A s (l.foldl (fun t i => f i t) t).1 := by
    intro l
    induction l with
    | nil => intro t h; exact h
    | cons x r ih => intro t h; exact ih _ (hf x t h)
  exact key _ t h

/-! ### One part replaced -/

theorem within_setWord (t : State) (a : Nat) (w : Word) : Within [.regs] t (t.setWord a w) := by
  refine ⟨rfl, fun h => ?_, fun p hp => ?_⟩
  · simp only [State.wf, State.setWord, Bool.and_eq_true] at h ⊢
    exact ⟨mput_wf regReset t.regs a w h.1, h.2⟩
  · cases p <;> first | rfl | exact absurd (by decide) hp

theorem within_setByte (t : State) (a : Nat) (b : Byte) : Within [.ram] t (t.setByte a b) := by
  refine ⟨rfl, fun h => ?_, fun p hp => ?_⟩
  · simp only [State.wf, State.setByte, Bool.and_eq_true] at h ⊢
    exact ⟨h.1, mput_wf byteReset t.ram a b h.2⟩
  · cases p <;> first | rfl | exact absurd (by decide) hp

theorem within_upd_boot {A : List Part} {s t : State} {x0} (h0 : A.contains Part.boot = true) (h : Within A s t) :
    Within A s { t with boot := x0 } := by
  refine ⟨h.1, h.2.1, fun p hp => ?_⟩
  cases p <;> first | exact h.2.2 _ hp | exact absurd (List.contains_iff_mem.1 (by assumption)) hp

theorem within_upd_sess {A : List Part} {s t : State} {x0} (h0 : A.contains Part.sess = true) (h : Within A s t) :
    Within A s { t with sess := x0 } := by
  refine ⟨h.1, h.2.1, fun p hp => ?_⟩
  cases p <;> first | exact h.2.2 _ hp | exact absurd (List.contains_iff_mem.1 (by assumption)) hp

theorem within_upd_clk {A : List Part} {s t : State} {x0} (h0 : A.contains Part.clk = true) (h : Within A s t) :
    Within A s { t with clk := x0 } := by
  refine ⟨h.1, h.2.1, fun p hp => ?_⟩
  cases p <;> first | exact h.2.2 _ hp | exact absurd (List.contains_iff_mem.1 (by assumption)) hp

theorem within_upd_acq {A : List Part} {s t : State} {x0} (h0 : A.contains Part.acq = true) (h : Within A s t) :
    Within A s { t with acq := x0 } := by
  refine ⟨h.1, h.2.1, fun p hp => ?_⟩
  cases p <;> first | exact h.2.2 _ hp | exact absurd (List.contains_iff_mem.1 (by assumption)) hp

theorem within_upd_win {A : List Part} {s t : State} {x0} (h0 : A.contains Part.win = true) (h : Within A s t) :
    Within A s { t with win := x0 } := by
  refine ⟨h.1, h.2.1, fun p hp => ?_⟩
  cases p <;> first | exact h.2.2 _ hp | exact absurd (List.contains_iff_mem.1 (by assumption)) hp

theorem within_upd_evr {A : List Part} {s t : State} {x0} (h0 : A.contains Part.evr = true) (h : Within A s t) :
    Within A s { t with evr := x0 } := by
  refine ⟨h.1, h.2.1, fun p hp => ?_⟩
  cases p <;> first | exact h.2.2 _ hp | exact absurd (List.contains_iff_mem.1 (by assumption)) hp

theorem within_upd_frm {A : List Part} {s t : State} {x0} (h0 : A.contains Part.frm = true) (h : Within A s t) :
    Within A s { t with frm := x0 } := by
  refine ⟨h.1, h.2.1, fun p hp => ?_⟩
  cases p <;> first | exact h.2.2 _ hp | exact absurd (List.contains_iff_mem.1 (by assumption)) hp

theorem within_upd_eng {A : List Part} {s t : State} {x0} (h0 : A.contains Part.eng = true) (h : Within A s t) :
    Within A s { t with eng := x0 } := by
  refine ⟨h.1, h.2.1, fun p hp => ?_⟩
  cases p <;> first | exact h.2.2 _ hp | exact absurd (List.contains_iff_mem.1 (by assumption)) hp

theorem within_upd_grd {A : List Part} {s t : State} {x0} (h0 : A.contains Part.grd = true) (h : Within A s t) :
    Within A s { t with grd := x0 } := by
  refine ⟨h.1, h.2.1, fun p hp => ?_⟩
  cases p <;> first | exact h.2.2 _ hp | exact absurd (List.contains_iff_mem.1 (by assumption)) hp

theorem within_upd_mod {A : List Part} {s t : State} {x0} (h0 : A.contains Part.mod = true) (h : Within A s t) :
    Within A s { t with mod := x0 } := by
  refine ⟨h.1, h.2.1, fun p hp => ?_⟩
  cases p <;> first | exact h.2.2 _ hp | exact absurd (List.contains_iff_mem.1 (by assumption)) hp

theorem within_upd_gtp {A : List Part} {s t : State} {x0} (h0 : A.contains Part.gtp = true) (h : Within A s t) :
    Within A s { t with gtp := x0 } := by
  refine ⟨h.1, h.2.1, fun p hp => ?_⟩
  cases p <;> first | exact h.2.2 _ hp | exact absurd (List.contains_iff_mem.1 (by assumption)) hp

theorem within_upd_mtr {A : List Part} {s t : State} {x0} (h0 : A.contains Part.mtr = true) (h : Within A s t) :
    Within A s { t with mtr := x0 } := by
  refine ⟨h.1, h.2.1, fun p hp => ?_⟩
  cases p <;> first | exact h.2.2 _ hp | exact absurd (List.contains_iff_mem.1 (by assumption)) hp

theorem within_upd_seq {A : List Part} {s t : State} {x0} (h0 : A.contains Part.seq = true) (h : Within A s t) :
    Within A s { t with seq := x0 } := by
  refine ⟨h.1, h.2.1, fun p hp => ?_⟩
  cases p <;> first | exact h.2.2 _ hp | exact absurd (List.contains_iff_mem.1 (by assumption)) hp

theorem within_upd_gov {A : List Part} {s t : State} {x0} (h0 : A.contains Part.gov = true) (h : Within A s t) :
    Within A s { t with gov := x0 } := by
  refine ⟨h.1, h.2.1, fun p hp => ?_⟩
  cases p <;> first | exact h.2.2 _ hp | exact absurd (List.contains_iff_mem.1 (by assumption)) hp

theorem within_upd_fab {A : List Part} {s t : State} {x0} (h0 : A.contains Part.fab = true) (h : Within A s t) :
    Within A s { t with fab := x0 } := by
  refine ⟨h.1, h.2.1, fun p hp => ?_⟩
  cases p <;> first | exact h.2.2 _ hp | exact absurd (List.contains_iff_mem.1 (by assumption)) hp

theorem within_upd_twn {A : List Part} {s t : State} {x0} (h0 : A.contains Part.twn = true) (h : Within A s t) :
    Within A s { t with twn := x0 } := by
  refine ⟨h.1, h.2.1, fun p hp => ?_⟩
  cases p <;> first | exact h.2.2 _ hp | exact absurd (List.contains_iff_mem.1 (by assumption)) hp

theorem within_upd_can {A : List Part} {s t : State} {x0} (h0 : A.contains Part.can = true) (h : Within A s t) :
    Within A s { t with can := x0 } := by
  refine ⟨h.1, h.2.1, fun p hp => ?_⟩
  cases p <;> first | exact h.2.2 _ hp | exact absurd (List.contains_iff_mem.1 (by assumption)) hp

theorem within_upd_aon {A : List Part} {s t : State} {x0} (h0 : A.contains Part.aon = true) (h : Within A s t) :
    Within A s { t with aon := x0 } := by
  refine ⟨h.1, h.2.1, fun p hp => ?_⟩
  cases p <;> first | exact h.2.2 _ hp | exact absurd (List.contains_iff_mem.1 (by assumption)) hp

theorem within_upd_obs {A : List Part} {s t : State} {x0} (h0 : A.contains Part.obs = true) (h : Within A s t) :
    Within A s { t with obs := x0 } := by
  refine ⟨h.1, h.2.1, fun p hp => ?_⟩
  cases p <;> first | exact h.2.2 _ hp | exact absurd (List.contains_iff_mem.1 (by assumption)) hp

theorem within_upd_tap {A : List Part} {s t : State} {x0} (h0 : A.contains Part.tap = true) (h : Within A s t) :
    Within A s { t with tap := x0 } := by
  refine ⟨h.1, h.2.1, fun p hp => ?_⟩
  cases p <;> first | exact h.2.2 _ hp | exact absurd (List.contains_iff_mem.1 (by assumption)) hp

theorem within_upd_pins {A : List Part} {s t : State} {x0} (h0 : A.contains Part.pins = true) (h : Within A s t) :
    Within A s { t with pins := x0 } := by
  refine ⟨h.1, h.2.1, fun p hp => ?_⟩
  cases p <;> first | exact h.2.2 _ hp | exact absurd (List.contains_iff_mem.1 (by assumption)) hp

theorem within_upd_answers {A : List Part} {s t : State} {x0} (h0 : A.contains Part.answers = true) (h : Within A s t) :
    Within A s { t with answers := x0 } := by
  refine ⟨h.1, h.2.1, fun p hp => ?_⟩
  cases p <;> first | exact h.2.2 _ hp | exact absurd (List.contains_iff_mem.1 (by assumption)) hp

theorem within_upd_freeCtr {A : List Part} {s t : State} {x0} (h0 : A.contains Part.free = true) (h : Within A s t) :
    Within A s { t with freeCtr := x0 } := by
  refine ⟨h.1, h.2.1, fun p hp => ?_⟩
  cases p <;> first | exact h.2.2 _ hp | exact absurd (List.contains_iff_mem.1 (by assumption)) hp

theorem within_upd_boot_gtp {A : List Part} {s t : State} {x0 x1} (h0 : A.contains Part.boot = true) (h1 : A.contains Part.gtp = true) (h : Within A s t) :
    Within A s { t with boot := x0, gtp := x1 } := by
  refine ⟨h.1, h.2.1, fun p hp => ?_⟩
  cases p <;> first | exact h.2.2 _ hp | exact absurd (List.contains_iff_mem.1 (by assumption)) hp

theorem within_upd_gov_twn {A : List Part} {s t : State} {x0 x1} (h0 : A.contains Part.gov = true) (h1 : A.contains Part.twn = true) (h : Within A s t) :
    Within A s { t with gov := x0, twn := x1 } := by
  refine ⟨h.1, h.2.1, fun p hp => ?_⟩
  cases p <;> first | exact h.2.2 _ hp | exact absurd (List.contains_iff_mem.1 (by assumption)) hp

theorem within_upd_freeCtr_mtr {A : List Part} {s t : State} {x0 x1} (h0 : A.contains Part.free = true) (h1 : A.contains Part.mtr = true) (h : Within A s t) :
    Within A s { t with freeCtr := x0, mtr := x1 } := by
  refine ⟨h.1, h.2.1, fun p hp => ?_⟩
  cases p <;> first | exact h.2.2 _ hp | exact absurd (List.contains_iff_mem.1 (by assumption)) hp

theorem within_upd_pins_aon {A : List Part} {s t : State} {x0 x1} (h0 : A.contains Part.pins = true) (h1 : A.contains Part.aon = true) (h : Within A s t) :
    Within A s { t with pins := x0, aon := x1 } := by
  refine ⟨h.1, h.2.1, fun p hp => ?_⟩
  cases p <;> first | exact h.2.2 _ hp | exact absurd (List.contains_iff_mem.1 (by assumption)) hp

theorem within_upd_seq_eng {A : List Part} {s t : State} {x0 x1} (h0 : A.contains Part.seq = true) (h1 : A.contains Part.eng = true) (h : Within A s t) :
    Within A s { t with seq := x0, eng := x1 } := by
  refine ⟨h.1, h.2.1, fun p hp => ?_⟩
  cases p <;> first | exact h.2.2 _ hp | exact absurd (List.contains_iff_mem.1 (by assumption)) hp

theorem within_upd_seq_mod {A : List Part} {s t : State} {x0 x1} (h0 : A.contains Part.seq = true) (h1 : A.contains Part.mod = true) (h : Within A s t) :
    Within A s { t with seq := x0, mod := x1 } := by
  refine ⟨h.1, h.2.1, fun p hp => ?_⟩
  cases p <;> first | exact h.2.2 _ hp | exact absurd (List.contains_iff_mem.1 (by assumption)) hp

theorem within_upd_clk_fab {A : List Part} {s t : State} {x0 x1} (h0 : A.contains Part.clk = true) (h1 : A.contains Part.fab = true) (h : Within A s t) :
    Within A s { t with clk := x0, fab := x1 } := by
  refine ⟨h.1, h.2.1, fun p hp => ?_⟩
  cases p <;> first | exact h.2.2 _ hp | exact absurd (List.contains_iff_mem.1 (by assumption)) hp

theorem within_upd_boot_clk {A : List Part} {s t : State} {x0 x1} (h0 : A.contains Part.boot = true) (h1 : A.contains Part.clk = true) (h : Within A s t) :
    Within A s { t with boot := x0, clk := x1 } := by
  refine ⟨h.1, h.2.1, fun p hp => ?_⟩
  cases p <;> first | exact h.2.2 _ hp | exact absurd (List.contains_iff_mem.1 (by assumption)) hp

theorem within_filter_ram {A : List Part} {s t : State} {q : Host.Cell → Bool} (hA : A.contains Part.ram = true) (h : Within A s t) :
    Within A s { t with ram := t.ram.filter q } := by
  refine ⟨h.1, fun w => ?_, fun p hp => ?_⟩
  · have := h.2.1 w
    simp only [State.wf, Memory.wf, Bool.and_eq_true] at this ⊢
    exact ⟨this.1, mwf_filter _ _ _ this.2⟩
  · cases p <;> first | exact h.2.2 _ hp | exact absurd (List.contains_iff_mem.1 (by assumption)) hp

theorem within_filter_regs {A : List Part} {s t : State} {q : Nat × Word → Bool} (hA : A.contains Part.regs = true) (h : Within A s t) :
    Within A s { t with regs := t.regs.filter q } := by
  refine ⟨h.1, fun w => ?_, fun p hp => ?_⟩
  · have := h.2.1 w
    simp only [State.wf, Memory.wf, Bool.and_eq_true] at this ⊢
    exact ⟨mwf_filter _ _ _ this.1, this.2⟩
  · cases p <;> first | exact h.2.2 _ hp | exact absurd (List.contains_iff_mem.1 (by assumption)) hp

theorem within_filter_regs_boot {A : List Part} {s t : State} {q : Nat × Word → Bool} {x : BootS}
    (hA : A.contains Part.regs = true) (hB : A.contains Part.boot = true) (h : Within A s t) :
    Within A s { t with regs := t.regs.filter q, boot := x } := by
  refine ⟨h.1, fun w => ?_, fun p hp => ?_⟩
  · have := h.2.1 w
    simp only [State.wf, Memory.wf, Bool.and_eq_true] at this ⊢
    exact ⟨mwf_filter _ _ _ this.1, this.2⟩
  · cases p <;> first | exact h.2.2 _ hp | exact absurd (List.contains_iff_mem.1 (by assumption)) hp

/-! ### Outcomes -/

/-- The outcome is a next state that differs from `s` at most in the parts `A`. -/
def Runs (A : List Part) (s : State) (o : Out) : Prop := ∃ t, o = .next t ∧ Within A s t

theorem runs_next {A : List Part} {s t : State} (h : Within A s t) : Runs A s (.next t) := ⟨t, rfl, h⟩

theorem runs_when {A : List Part} {s t : State} {c : Bool} (h : Within A s t) : Runs A s (when c s t) := by
  refine ⟨_, rfl, ?_⟩
  cases c
  · exact within_refl _ _
  · exact h

theorem runs_when_of {A : List Part} {s x t : State} {c : Bool} (hx : Within A s x) (h : Within A s t) : Runs A s (when c x t) := by
  refine ⟨_, rfl, ?_⟩
  cases c
  · exact hx
  · exact h

theorem runs_ite {A : List Part} {s : State} {c : Prop} [Decidable c] {x y : Out} (hx : Runs A s x) (hy : Runs A s y) :
    Runs A s (if c then x else y) := by split <;> assumption

end Sys2Proof.Laws
end

