-- ==== Sys2Proof/Laws/Words.lean ====
section
/-!
SUPPORT. Rules to show which register words an operation leaves as they were.
-/

namespace Sys2Proof.Laws

open Sys2Proof Sys2Proof.Machine

theorem words_refl (l : List Nat) (s : State) : WordsBut l s s := fun _ _ => rfl

theorem words_trans {l : List Nat} {s t u : State} (h : WordsBut l s t) (g : WordsBut l t u) : WordsBut l s u :=
  fun a ha => (g a ha).trans (h a ha)

theorem words_mono {l m : List Nat} {s t : State} (h : WordsBut l s t) (hl : ∀ a ∈ l, a ∈ m) : WordsBut m s t :=
  fun a ha => h a (fun hm => ha (hl a hm))

theorem words_setWord {l : List Nat} {s t : State} {b : Nat} {w : Word} (hb : b ∈ l) (h : WordsBut l s t) :
    WordsBut l s (t.setWord b w) := by
  intro a ha
  have hne : a ≠ b := fun e => ha (e.symm ▸ hb)
  rw [word_setWord, if_neg hne]
  exact h a ha

theorem words_put {l : List Nat} {s t : State} {f : Fld} {n : Nat} (hf : f.addr ∈ l) (h : WordsBut l s t) :
    WordsBut l s (t.put f n) := words_setWord hf h

theorem words_putB {l : List Nat} {s t : State} {f : Fld} {b : Bool} (hf : f.addr ∈ l) (h : WordsBut l s t) :
    WordsBut l s (t.putB f b) := words_put hf h

theorem words_bumpBy {l : List Nat} {s t : State} {f : Fld} {n : Nat} (hf : f.addr ∈ l) (h : WordsBut l s t) :
    WordsBut l s (t.bumpBy f n) := words_put hf h

theorem words_bump {l : List Nat} {s t : State} {f : Fld} (hf : f.addr ∈ l) (h : WordsBut l s t) : WordsBut l s (t.bump f) :=
  words_put hf h

theorem words_bumpWrap {l : List Nat} {s t : State} {f : Fld} (hf : f.addr ∈ l) (h : WordsBut l s t) :
    WordsBut l s (t.bumpWrap f) := words_put hf h

/-- An operation that does not change the registers leaves every word. -/
theorem words_within {l : List Nat} {B : List Part} {s t u : State} (g : Within B t u) (hB : B.contains Part.regs = false)
    (h : WordsBut l s t) : WordsBut l s u := by
  intro a ha
  have e : u.regs = t.regs := g.2.2 .regs (fun hm => by rw [List.contains_iff_mem.2 hm] at hB; cases hB)
  unfold State.word
  rw [e]
  exact h a ha

theorem words_ite' {l : List Nat} {s x y : State} {c : Bool} (hx : WordsBut l s x) (hy : WordsBut l s y) :
    WordsBut l s (ite' c x y) := by
  unfold ite'; split <;> assumption

theorem words_ite {l : List Nat} {s x y : State} {c : Prop} [Decidable c] (hx : WordsBut l s x) (hy : WordsBut l s y) :
    WordsBut l s (if c then x else y) := by
  split <;> assumption

theorem words_forUpTo {l : List Nat} {s : State} {n : Nat} {f : Nat → State → State} {t : State}
    (hf : ∀ i u, i < n → WordsBut l s u → WordsBut l s (f i u)) (h : WordsBut l s t) : WordsBut l s (forUpTo n f t) :=
  forUpTo_inv (fun u => WordsBut l s u) n f t h hf

/-- The word of a state is that of another with the same registers. -/
theorem word_of_regs {s t : State} (h : t.regs = s.regs) (a : Nat) : t.word a = s.word a := by
  unfold State.word; rw [h]

theorem get_of_regs {s t : State} (h : t.regs = s.regs) (f : Fld) : t.get f = s.get f := by
  unfold State.get; rw [word_of_regs h]

theorem on_of_regs {s t : State} (h : t.regs = s.regs) (f : Fld) : t.on f = s.on f := by
  unfold State.on; rw [get_of_regs h]

/-- A field of a word outside the list keeps its value. -/
theorem get_of_words {l : List Nat} {s t : State} (h : WordsBut l s t) (f : Fld) (hf : f.addr ∉ l) : t.get f = s.get f := by
  unfold State.get; rw [h _ hf]

/-- A part outside the list keeps its value. -/
theorem same_of_within {A : List Part} {s t : State} (h : Within A s t) {p : Part} (hp : A.contains p = false) : Same s t p :=
  h.2.2 p (fun hm => by rw [List.contains_iff_mem.2 hm] at hp; cases hp)

end Sys2Proof.Laws
end

