-- ==== Sys2Proof/Laws/Fields.lean ====
section
/-!
SUPPORT. Reading a field of another register, or another field of the same one, after the plain field writes.
-/

namespace Sys2Proof.Laws

open Sys2Proof Sys2Proof.Machine

theorem get_putB_ne (s : State) (f g : Fld) (b : Bool) (h : g.addr ≠ f.addr) : (s.putB f b).get g = s.get g := get_put_ne s f g _ h
theorem get_bumpBy_ne (s : State) (f g : Fld) (n : Nat) (h : g.addr ≠ f.addr) : (s.bumpBy f n).get g = s.get g := get_put_ne s f g _ h
theorem get_bump_ne (s : State) (f g : Fld) (h : g.addr ≠ f.addr) : (s.bump f).get g = s.get g := get_put_ne s f g _ h
theorem get_bumpWrap_ne (s : State) (f g : Fld) (h : g.addr ≠ f.addr) : (s.bumpWrap f).get g = s.get g := get_put_ne s f g _ h
theorem on_put_ne (s : State) (f g : Fld) (n : Nat) (h : g.addr ≠ f.addr) : (s.put f n).on g = s.on g := by
  unfold State.on; rw [get_put_ne _ _ _ _ h]
theorem on_putB_ne (s : State) (f g : Fld) (b : Bool) (h : g.addr ≠ f.addr) : (s.putB f b).on g = s.on g := on_put_ne s f g _ h
theorem on_bump_ne (s : State) (f g : Fld) (h : g.addr ≠ f.addr) : (s.bump f).on g = s.on g := on_put_ne s f g _ h
theorem on_bumpBy_ne (s : State) (f g : Fld) (n : Nat) (h : g.addr ≠ f.addr) : (s.bumpBy f n).on g = s.on g := on_put_ne s f g _ h
theorem on_bumpWrap_ne (s : State) (f g : Fld) (h : g.addr ≠ f.addr) : (s.bumpWrap f).on g = s.on g := on_put_ne s f g _ h

/-- Two fields share no bit. -/
def apart (f g : Fld) : Bool := decide (g.lo + g.w ≤ 32) && (decide (f.lo + f.w ≤ g.lo) || decide (g.lo + g.w ≤ f.lo))

theorem get_put_of_apart (s : State) (f g : Fld) (n : Nat) (h : apart f g = true) : (s.put f n).get g = s.get g := by
  simp only [apart, Bool.and_eq_true, Bool.or_eq_true, decide_eq_true_eq] at h
  exact get_put_apart s f g n h.1 h.2
theorem on_put_of_apart (s : State) (f g : Fld) (n : Nat) (h : apart f g = true) : (s.put f n).on g = s.on g := by
  unfold State.on; rw [get_put_of_apart _ _ _ _ h]
theorem get_putB_of_apart (s : State) (f g : Fld) (b : Bool) (h : apart f g = true) : (s.putB f b).get g = s.get g :=
  get_put_of_apart s f g _ h
theorem on_putB_of_apart (s : State) (f g : Fld) (b : Bool) (h : apart f g = true) : (s.putB f b).on g = s.on g :=
  on_put_of_apart s f g _ h
theorem get_bump_of_apart (s : State) (f g : Fld) (h : apart f g = true) : (s.bump f).get g = s.get g :=
  get_put_of_apart s f g _ h
theorem on_bump_of_apart (s : State) (f g : Fld) (h : apart f g = true) : (s.bump f).on g = s.on g := on_put_of_apart s f g _ h
theorem get_bumpBy_of_apart (s : State) (f g : Fld) (n : Nat) (h : apart f g = true) : (s.bumpBy f n).get g = s.get g :=
  get_put_of_apart s f g _ h

/-- Setting a bit to a number that is below two. -/
theorem on_put_same (s : State) (f : Fld) (n : Nat) (h : f.lo + f.w ≤ 32) : (s.put f n).on f = decide (n % 2 ^ f.w ≠ 0) := by
  unfold State.on; rw [get_put_same s f n h]
  by_cases e : n % 2 ^ f.w = 0
  · simp [e]
  · simp [e]

/-- What an operation that leaves the registers gives back. -/
theorem get_of_within {A : List Part} {s t : State} (h : Within A s t) (hA : A.contains Part.regs = false) (f : Fld) :
    t.get f = s.get f := get_of_regs (same_of_within h hA) f
theorem on_of_within {A : List Part} {s t : State} (h : Within A s t) (hA : A.contains Part.regs = false) (f : Fld) :
    t.on f = s.on f := on_of_regs (same_of_within h hA) f

/-- Every value of the state that does not depend on the registers is kept by the field writes. -/
theorem put_syn (s : State) (f : Fld) (n i : Nat) : (s.put f n).syn i = s.syn i := rfl
theorem putB_syn (s : State) (f : Fld) (b : Bool) (i : Nat) : (s.putB f b).syn i = s.syn i := rfl
@[simp] theorem syn_setSyn (s : State) (i : Nat) (x : SynS) (j : Nat) : (s.setSyn i x).syn j = if j = i then x else s.syn j := by
  unfold State.syn State.setSyn; simp only [tget_tset]

/-- The part of the clocks that an operation keeps. -/
theorem syn_of_within {A : List Part} {s t : State} (h : Within A s t) (hA : A.contains Part.clk = false) (i : Nat) :
    t.syn i = s.syn i := by
  have e : t.clk = s.clk := same_of_within h hA
  unfold State.syn; rw [e]

/-- The loop over the frames of the contexts: what round `c` makes true of frame `c` and the rounds keep of the others. -/
theorem fr_setFr (s : State) (c : Nat) (f : FrameS) (d : Nat) : (s.setFr c f).fr d = if d = c then f else s.fr d := by
  unfold State.fr State.setFr State.setCtx State.ctx
  simp only [tget_tset]
  by_cases h : d = c <;> simp [h]

theorem fr_of_within {A : List Part} {s t : State} (h : Within A s t) (hA : A.contains Part.eng = false) (c : Nat) :
    t.fr c = s.fr c := by
  have e : t.eng = s.eng := same_of_within h hA
  unfold State.fr State.ctx; rw [e]

end Sys2Proof.Laws
end

