-- ==== Sys2Proof/Laws/FrameOps.lean ====
section
/-!
SUPPORT. What each operation of Machine/Ops.lean may change.
-/

namespace Sys2Proof.Laws

open Sys2Proof Sys2Proof.Machine

 
theorem within_put (s : State) (f : Fld) (n : Nat) : Within [.regs] s (State.put s f n) := by
  unfold State.put
  repeat' first
    | ((with_reducible apply within_after (within_setWord _ _ _)); rfl)
    | split
    | with_reducible exact within_refl _ _
    | with_reducible assumption
    | (dsimp only; split)

theorem within_putB (s : State) (f : Fld) (b : Bool) : Within [.regs] s (State.putB s f b) := by
  unfold State.putB
  repeat' first
    | ((with_reducible apply within_after (within_put _ _ _)); rfl)
    | split
    | with_reducible exact within_refl _ _
    | with_reducible assumption
    | (dsimp only; split)

theorem within_putI (s : State) (f : Fld) (i : Int) : Within [.regs] s (State.putI s f i) := by
  unfold State.putI
  repeat' first
    | ((with_reducible apply within_after (within_put _ _ _)); rfl)
    | split
    | with_reducible exact within_refl _ _
    | with_reducible assumption
    | (dsimp only; split)

theorem within_bumpBy (s : State) (f : Fld) (n : Nat) : Within [.regs] s (State.bumpBy s f n) := by
  unfold State.bumpBy
  repeat' first
    | ((with_reducible apply within_after (within_put _ _ _)); rfl)
    | split
    | with_reducible exact within_refl _ _
    | with_reducible assumption
    | (dsimp only; split)

theorem within_bump (s : State) (f : Fld) : Within [.regs] s (State.bump s f) := by
  unfold State.bump
  repeat' first
    | ((with_reducible apply within_after (within_bumpBy _ _ _)); rfl)
    | split
    | with_reducible exact within_refl _ _
    | with_reducible assumption
    | (dsimp only; split)

theorem within_bumpWrap (s : State) (f : Fld) : Within [.regs] s (State.bumpWrap s f) := by
  unfold State.bumpWrap
  repeat' first
    | ((with_reducible apply within_after (within_put _ _ _)); rfl)
    | split
    | with_reducible exact within_refl _ _
    | with_reducible assumption
    | (dsimp only; split)

theorem within_setWord64 (s : State) (a n : Nat) : Within [.regs] s (State.setWord64 s a n) := by
  unfold State.setWord64
  repeat' first
    | ((with_reducible apply within_after (within_setWord _ _ _)); rfl)
    | split
    | with_reducible exact within_refl _ _
    | with_reducible assumption
    | (dsimp only; split)

theorem within_setWords (s : State) (a : Nat) (l : List Word) : Within [.regs] s (State.setWords s a l) := by
  induction l generalizing s a with
  | nil => exact within_refl _ _
  | cons w r ih => exact within_trans (within_setWord s a w) (ih _ _) rfl

 
theorem within_setBytes (s : State) (a : Nat) (l : List Byte) : Within [.ram] s (State.setBytes s a l) := by
  induction l generalizing s a with
  | nil => exact within_refl _ _
  | cons w r ih => exact within_trans (within_setByte s a w) (ih _ _) rfl

theorem within_burn (s : State) : Within [.free] s (State.burn s) := by
  unfold State.burn
  repeat' first
    | split
    | with_reducible exact within_refl _ _
    | with_reducible assumption
    | ((with_reducible apply within_upd_freeCtr); rfl)
    | (dsimp only; split)

theorem within_raise (s : State) (n : Nat) : Within [.evr] s (State.raise s n) := by
  unfold State.raise
  repeat' first
    | split
    | with_reducible exact within_refl _ _
    | with_reducible assumption
    | ((with_reducible apply within_upd_evr); rfl)
    | (dsimp only; split)

theorem within_raiseIf (s : State) (c : Bool) (n : Nat) : Within [.evr] s (State.raiseIf s c n) := by
  unfold State.raiseIf
  repeat' first
    | ((with_reducible apply within_after (within_raise _ _)); rfl)
    | with_reducible apply within_ite'
    | split
    | with_reducible exact within_refl _ _
    | with_reducible assumption
    | (dsimp only; split)

theorem within_drive (s : State) (n : Nat) (b : Bool) : Within [.evr] s (State.drive s n b) := by
  unfold State.drive
  repeat' first
    | with_reducible apply within_ite
    | split
    | with_reducible exact within_refl _ _
    | with_reducible assumption
    | ((with_reducible apply within_upd_evr); rfl)
    | (dsimp only; split)

theorem within_countFor (s : State) (code arg ctx k : Nat) : Within [.obs] s (State.countFor s code arg ctx k) := by
  unfold State.countFor
  repeat' first
    | with_reducible apply within_ite
    | ((with_reducible apply within_forUpTo); intro _ _ _)
    | split
    | with_reducible exact within_refl _ _
    | with_reducible assumption
    | ((with_reducible apply within_upd_obs); rfl)
    | (dsimp only; split)

theorem within_count (s : State) (code : Nat) : Within [.obs] s (State.count s code) := by
  unfold State.count
  repeat' first
    | ((with_reducible apply within_after (within_countFor _ _ _ _ _)); rfl)
    | split
    | with_reducible exact within_refl _ _
    | with_reducible assumption
    | (dsimp only; split)

theorem within_countN (s : State) (code k : Nat) : Within [.obs] s (State.countN s code k) := by
  unfold State.countN
  repeat' first
    | ((with_reducible apply within_after (within_countFor _ _ _ _ _)); rfl)
    | split
    | with_reducible exact within_refl _ _
    | with_reducible assumption
    | (dsimp only; split)

theorem within_answer (s : State) (link : Nat) (a : Answer) : Within [.answers] s (State.answer s link a) := by
  unfold State.answer
  repeat' first
    | split
    | with_reducible exact within_refl _ _
    | with_reducible assumption
    | ((with_reducible apply within_upd_answers); rfl)
    | (dsimp only; split)

end Sys2Proof.Laws
end

