-- ==== Sys2Proof/Laws/FrameAcq.lean ====
section
/-!
SUPPORT. What each operation of Machine/Acq.lean may change.
-/

namespace Sys2Proof.Laws

open Sys2Proof Sys2Proof.Machine

theorem within_setConv (s : State) (cv : Nat) (c : ConvS) : Within [.acq] s (State.setConv s cv c) := by
  unfold State.setConv
  repeat' first
    | split
    | with_reducible exact within_refl _ _
    | with_reducible assumption
    | ((with_reducible apply within_upd_acq); rfl)
    | (dsimp only; split)

theorem within_setRes (s : State) (cv e : Nat) (r : ResS) : Within [.acq] s (State.setRes s cv e r) := by
  unfold State.setRes
  repeat' first
    | split
    | with_reducible exact within_refl _ _
    | with_reducible assumption
    | ((with_reducible apply within_upd_acq); rfl)
    | (dsimp only; split)

theorem within_setWant (s : State) (p : Nat) (w : PairWant) : Within [.acq] s (State.setWant s p w) := by
  unfold State.setWant
  repeat' first
    | split
    | with_reducible exact within_refl _ _
    | with_reducible assumption
    | ((with_reducible apply within_upd_acq); rfl)
    | (dsimp only; split)

theorem within_acqRunning (s : State) (cv : Nat) : Within [.regs] s (State.acqRunning s cv) := by
  unfold State.acqRunning
  repeat' first
    | ((with_reducible apply within_after (within_put _ _ _)); rfl)
    | split
    | with_reducible exact within_refl _ _
    | with_reducible assumption
    | (dsimp only; split)

theorem within_beginSlot (s : State) (cv : Nat) (last : Option Nat) : Within [.regs, .acq] s (State.beginSlot s cv last) := by
  unfold State.beginSlot
  repeat' first
    | ((with_reducible apply within_after (within_setConv _ _ _)); rfl)
    | ((with_reducible apply within_after (within_acqRunning _ _)); rfl)
    | split
    | with_reducible exact within_refl _ _
    | with_reducible assumption
    | (dsimp only; split)

theorem within_wakeSlot (s : State) (cv : Nat) : Within [.regs, .acq] s (State.wakeSlot s cv) := by
  unfold State.wakeSlot
  repeat' first
    | ((with_reducible apply within_after (within_beginSlot _ _ _)); rfl)
    | with_reducible apply within_ite'
    | split
    | with_reducible exact within_refl _ _
    | with_reducible assumption
    | (dsimp only; split)

theorem within_badLen (s : State) (cv : Nat) : Within [.regs] s (State.badLen s cv) := by
  unfold State.badLen
  repeat' first
    | ((with_reducible apply within_after (within_put _ _ _)); rfl)
    | split
    | with_reducible exact within_refl _ _
    | with_reducible assumption
    | (dsimp only; split)

theorem within_unretire (s : State) (cv : Nat) : Within [.regs, .acq] s (State.unretire s cv) := by
  unfold State.unretire
  repeat' first
    | ((with_reducible apply within_after (within_putB _ _ _)); rfl)
    | ((with_reducible apply within_after (within_setConv _ _ _)); rfl)
    | ((with_reducible apply within_after (within_beginSlot _ _ _)); rfl)
    | with_reducible apply within_ite'
    | with_reducible apply within_ite
    | split
    | with_reducible exact within_refl _ _
    | with_reducible assumption
    | (dsimp only; split)

theorem within_passStart (s : State) (t : Nat) : Within [.regs, .acq] s (State.passStart s t) := by
  unfold State.passStart
  repeat' first
    | ((with_reducible apply within_after (within_put _ _ _)); rfl)
    | ((with_reducible apply within_after (within_badLen _ _)); rfl)
    | ((with_reducible apply within_after (within_setConv _ _ _)); rfl)
    | ((with_reducible apply within_after (within_unretire _ _)); rfl)
    | ((with_reducible apply within_after (within_wakeSlot _ _)); rfl)
    | with_reducible apply within_ite'
    | with_reducible apply within_ite
    | split
    | with_reducible exact within_refl _ _
    | with_reducible assumption
    | (dsimp only; split)

theorem within_advanceTable (s : State) (t : Nat) : Within [.regs, .acq] s (State.advanceTable s t) := by
  unfold State.advanceTable
  repeat' first
    | ((with_reducible apply within_after (within_passStart _ _)); rfl)
    | ((with_reducible apply within_after (within_put _ _ _)); rfl)
    | with_reducible apply within_ite
    | split
    | with_reducible exact within_refl _ _
    | with_reducible assumption
    | (dsimp only; split)

theorem within_endSlot (s : State) (cv t : Nat) : Within [.regs, .acq] s (State.endSlot s cv t) := by
  unfold State.endSlot
  repeat' first
    | ((with_reducible apply within_after (within_advanceTable _ _)); rfl)
    | ((with_reducible apply within_after (within_setConv _ _ _)); rfl)
    | ((with_reducible apply within_after (within_beginSlot _ _ _)); rfl)
    | split
    | with_reducible exact within_refl _ _
    | with_reducible assumption
    | (dsimp only; split)

theorem within_accumulate (s : State) (t e code : Nat) : Within [.regs, .acq] s (State.accumulate s t e code) := by
  unfold State.accumulate
  repeat' first
    | ((with_reducible apply within_after (within_setRes _ _ _ _)); rfl)
    | ((with_reducible apply within_after (within_putB _ _ _)); rfl)
    | with_reducible apply within_ite'
    | split
    | with_reducible exact within_refl _ _
    | with_reducible assumption
    | (dsimp only; split)

theorem within_slotOver (s : State) (cv t : Nat) : Within [.regs, .acq] s (State.slotOver s cv t) := by
  unfold State.slotOver
  repeat' first
    | ((with_reducible apply within_after (within_endSlot _ _ _)); rfl)
    | ((with_reducible apply within_after (within_setConv _ _ _)); rfl)
    | split
    | with_reducible exact within_refl _ _
    | with_reducible assumption
    | (dsimp only; split)

theorem runs_execConversionDone (cv : Nat) (v agnd : Int) (vref : Nat) (s : State) : Runs [.regs, .acq] s (execConversionDone cv v agnd vref s) := by
  unfold execConversionDone
  repeat' first
    | with_reducible apply runs_when
    | with_reducible apply runs_when_of
    | with_reducible apply runs_next
    | with_reducible apply runs_ite
    | ((with_reducible apply within_after (within_accumulate _ _ _ _)); rfl)
    | ((with_reducible apply within_after (within_slotOver _ _ _)); rfl)
    | with_reducible apply within_ite'
    | split
    | with_reducible exact within_refl _ _
    | with_reducible assumption
    | (dsimp only; split)

theorem within_skipBad (s : State) (cv : Nat) (k : Nat) : Within [.regs, .acq] s (State.skipBad s cv k) := by
  induction k generalizing s cv with
  | zero =>
    unfold State.skipBad
    repeat' first
      | ((with_reducible apply within_after (within_putB _ _ _)); rfl)
      | ((with_reducible apply within_after (within_bump _ _)); rfl)
      | ((with_reducible apply within_after (within_slotOver _ _ _)); rfl)
      | with_reducible apply within_ite
      | split
      | with_reducible exact within_refl _ _
      | with_reducible assumption
      | (dsimp only; split)
  | succ n ih =>
    unfold State.skipBad
    repeat' first
      | ((with_reducible apply within_after (ih _ _)); rfl)
      | ((with_reducible apply within_after (within_putB _ _ _)); rfl)
      | ((with_reducible apply within_after (within_bump _ _)); rfl)
      | ((with_reducible apply within_after (within_slotOver _ _ _)); rfl)
      | with_reducible apply within_ite
      | split
      | with_reducible exact within_refl _ _
      | with_reducible assumption
      | (dsimp only; split)

theorem within_passSkips (s : State) (n : Nat) : Within [.regs, .acq] s (State.passSkips s n) := by
  unfold State.passSkips
  repeat' first
    | ((with_reducible apply within_after (within_skipBad _ _ _)); rfl)
    | with_reducible apply within_ite'
    | ((with_reducible apply within_forUpTo); intro _ _ _)
    | split
    | with_reducible exact within_refl _ _
    | with_reducible assumption
    | (dsimp only; split)

theorem within_seqEntryWrite (s : State) (cv e : Nat) (w : Word) : Within [.regs, .acq] s (State.seqEntryWrite s cv e w) := by
  unfold State.seqEntryWrite
  repeat' first
    | ((with_reducible apply within_after (within_setWord _ _ _)); rfl)
    | ((with_reducible apply within_after (within_setRes _ _ _ _)); rfl)
    | ((with_reducible apply within_after (within_setConv _ _ _)); rfl)
    | with_reducible apply within_ite'
    | with_reducible apply within_ite
    | split
    | with_reducible exact within_refl _ _
    | with_reducible assumption
    | (dsimp only; split)

theorem runs_execSeqEntryWrite (cv e : Nat) (w : Word) (s : State) : Runs [.regs, .acq] s (execSeqEntryWrite cv e w s) := by
  unfold execSeqEntryWrite
  repeat' first
    | with_reducible apply runs_when
    | with_reducible apply runs_when_of
    | with_reducible apply runs_next
    | with_reducible apply runs_ite
    | ((with_reducible apply within_after (within_seqEntryWrite _ _ _ _)); rfl)
    | split
    | with_reducible exact within_refl _ _
    | with_reducible assumption
    | (dsimp only; split)

theorem within_seqLenWritten (s : State) (cv : Nat) : Within [.regs, .acq] s (State.seqLenWritten s cv) := by
  unfold State.seqLenWritten
  repeat' first
    | ((with_reducible apply within_after (within_badLen _ _)); rfl)
    | ((with_reducible apply within_after (within_passStart _ _)); rfl)
    | with_reducible apply within_ite'
    | split
    | with_reducible exact within_refl _ _
    | with_reducible assumption
    | (dsimp only; split)

theorem within_formRecords (s : State) (f : Nat) : Within [.regs, .acq] s (State.formRecords s f) := by
  unfold State.formRecords
  repeat' first
    | ((with_reducible apply within_after (within_setWord64 _ _ _)); rfl)
    | ((with_reducible apply within_after (within_setRes _ _ _ _)); rfl)
    | ((with_reducible apply within_foldl); intro _ _ _)
    | split
    | with_reducible exact within_refl _ _
    | with_reducible assumption
    | (dsimp only; split)

theorem within_pairResume (s : State) (p : Nat) : Within [.acq] s (State.pairResume s p) := by
  unfold State.pairResume
  repeat' first
    | ((with_reducible apply within_after (within_setWant _ _ _)); rfl)
    | ((with_reducible apply within_after (within_setConv _ _ _)); rfl)
    | split
    | with_reducible exact within_refl _ _
    | with_reducible assumption
    | (dsimp only; split)

theorem runs_execPairCheckDue (p : Nat) (s : State) : Runs [.regs, .acq] s (execPairCheckDue p s) := by
  unfold execPairCheckDue
  repeat' first
    | with_reducible apply runs_when
    | with_reducible apply runs_when_of
    | with_reducible apply runs_next
    | with_reducible apply runs_ite
    | ((with_reducible apply within_after (within_putB _ _ _)); rfl)
    | ((with_reducible apply within_after (within_setWant _ _ _)); rfl)
    | with_reducible apply within_ite
    | split
    | with_reducible exact within_refl _ _
    | with_reducible assumption
    | (dsimp only; split)

theorem runs_execPairCheck (p : Nat) (v agnd eLo eHi : Int) (vref : Nat) (s : State) : Runs [.regs, .acq] s (execPairCheck p v agnd eLo eHi vref s) := by
  unfold execPairCheck
  repeat' first
    | with_reducible apply runs_when
    | with_reducible apply runs_when_of
    | with_reducible apply runs_next
    | with_reducible apply runs_ite
    | ((with_reducible apply within_after (within_putB _ _ _)); rfl)
    | ((with_reducible apply within_after (within_pairResume _ _)); rfl)
    | ((with_reducible apply within_after (within_bump _ _)); rfl)
    | ((with_reducible apply within_after (within_setWant _ _ _)); rfl)
    | ((with_reducible apply within_after (within_put _ _ _)); rfl)
    | with_reducible apply within_ite
    | split
    | with_reducible exact within_refl _ _
    | with_reducible assumption
    | (dsimp only; split)

theorem within_retire (s : State) (cv : Nat) : Within [.regs, .acq] s (State.retire s cv) := by
  unfold State.retire
  repeat' first
    | ((with_reducible apply within_after (within_putB _ _ _)); rfl)
    | ((with_reducible apply within_after (within_setConv _ _ _)); rfl)
    | ((with_reducible apply within_after (within_beginSlot _ _ _)); rfl)
    | with_reducible apply within_ite
    | split
    | with_reducible exact within_refl _ _
    | with_reducible assumption
    | (dsimp only; split)

theorem runs_execReferenceTest (p : Nat) (dLo dHi : Int) (vref : Nat) (s : State) : Runs [.regs, .acq, .evr] s (execReferenceTest p dLo dHi vref s) := by
  unfold execReferenceTest
  repeat' first
    | with_reducible apply runs_when
    | with_reducible apply runs_when_of
    | with_reducible apply runs_next
    | with_reducible apply runs_ite
    | ((with_reducible apply within_after (within_pairResume _ _)); rfl)
    | ((with_reducible apply within_after (within_raise _ _)); rfl)
    | ((with_reducible apply within_after (within_putB _ _ _)); rfl)
    | ((with_reducible apply within_after (within_put _ _ _)); rfl)
    | ((with_reducible apply within_after (within_retire _ _)); rfl)
    | with_reducible apply within_ite
    | split
    | with_reducible exact within_refl _ _
    | with_reducible assumption
    | (dsimp only; split)

theorem within_restoreRequest (s : State) (p : Nat) : Within [.acq] s (State.restoreRequest s p) := by
  unfold State.restoreRequest
  repeat' first
    | ((with_reducible apply within_after (within_setWant _ _ _)); rfl)
    | with_reducible apply within_ite'
    | split
    | with_reducible exact within_refl _ _
    | with_reducible assumption
    | (dsimp only; split)

theorem runs_execRestoreRequest (p : Nat) (s : State) : Runs [.acq] s (execRestoreRequest p s) := by
  unfold execRestoreRequest
  repeat' first
    | with_reducible apply runs_when
    | with_reducible apply runs_when_of
    | with_reducible apply runs_next
    | with_reducible apply runs_ite
    | ((with_reducible apply within_after (within_restoreRequest _ _)); rfl)
    | split
    | with_reducible exact within_refl _ _
    | with_reducible assumption
    | (dsimp only; split)

theorem runs_execRestoreTest (p : Nat) (dv : Int) (vref : Nat) (s : State) : Runs [.regs, .acq] s (execRestoreTest p dv vref s) := by
  unfold execRestoreTest
  repeat' first
    | with_reducible apply runs_when
    | with_reducible apply runs_when_of
    | with_reducible apply runs_next
    | with_reducible apply runs_ite
    | ((with_reducible apply within_after (within_pairResume _ _)); rfl)
    | ((with_reducible apply within_after (within_unretire _ _)); rfl)
    | ((with_reducible apply within_after (within_setConv _ _ _)); rfl)
    | with_reducible apply within_ite
    | split
    | with_reducible exact within_refl _ _
    | with_reducible assumption
    | (dsimp only; split)

theorem within_urgentEdge (s : State) (cv : Nat) : Within [.acq] s (State.urgentEdge s cv) := by
  unfold State.urgentEdge
  repeat' first
    | ((with_reducible apply within_after (within_setConv _ _ _)); rfl)
    | split
    | with_reducible exact within_refl _ _
    | with_reducible assumption
    | (dsimp only; split)

theorem within_startUrgent (s : State) (v cv : Nat) : Within [.regs, .acq] s (State.startUrgent s v cv) := by
  unfold State.startUrgent
  repeat' first
    | ((with_reducible apply within_after (within_setConv _ _ _)); rfl)
    | ((with_reducible apply within_after (within_bump _ _)); rfl)
    | ((with_reducible apply within_after (within_setWant _ _ _)); rfl)
    | with_reducible apply within_ite'
    | with_reducible apply within_ite
    | split
    | with_reducible exact within_refl _ _
    | with_reducible assumption
    | (dsimp only; split)

theorem runs_execUrgentRequest (cv : Nat) (s : State) : Runs [.regs, .acq] s (execUrgentRequest cv s) := by
  unfold execUrgentRequest
  repeat' first
    | with_reducible apply runs_when
    | with_reducible apply runs_when_of
    | with_reducible apply runs_next
    | with_reducible apply runs_ite
    | ((with_reducible apply within_after (within_setConv _ _ _)); rfl)
    | ((with_reducible apply within_after (within_putB _ _ _)); rfl)
    | ((with_reducible apply within_after (within_bump _ _)); rfl)
    | ((with_reducible apply within_after (within_startUrgent _ _ _)); rfl)
    | with_reducible apply within_ite
    | split
    | with_reducible exact within_refl _ _
    | with_reducible assumption
    | (dsimp only; split)

theorem within_pushQ29 (s : State) (r : UrgentResult) : Within [.regs, .acq, .obs] s (State.pushQ29 s r) := by
  unfold State.pushQ29
  repeat' first
    | ((with_reducible apply within_after (within_count _ _)); rfl)
    | ((with_reducible apply within_after (within_bump _ _)); rfl)
    | with_reducible apply within_ite
    | split
    | with_reducible exact within_refl _ _
    | with_reducible assumption
    | ((with_reducible apply within_upd_acq); rfl)
    | (dsimp only; split)

theorem within_urgDrain (s : State) : Within [.acq] s (State.urgDrain s) := by
  unfold State.urgDrain
  repeat' first
    | split
    | with_reducible exact within_refl _ _
    | with_reducible assumption
    | ((with_reducible apply within_upd_acq); rfl)
    | (dsimp only; split)

theorem runs_execUrgentDone (v : Nat) (u agnd : Int) (vref : Nat) (s : State) : Runs [.regs, .acq, .evr, .obs] s (execUrgentDone v u agnd vref s) := by
  unfold execUrgentDone
  repeat' first
    | with_reducible apply runs_when
    | with_reducible apply runs_when_of
    | with_reducible apply runs_next
    | with_reducible apply runs_ite
    | ((with_reducible apply within_after (within_setConv _ _ _)); rfl)
    | ((with_reducible apply within_after (within_put _ _ _)); rfl)
    | ((with_reducible apply within_after (within_putB _ _ _)); rfl)
    | ((with_reducible apply within_after (within_bumpWrap _ _)); rfl)
    | ((with_reducible apply within_after (within_raise _ _)); rfl)
    | ((with_reducible apply within_after (within_pushQ29 _ _)); rfl)
    | ((with_reducible apply within_after (within_count _ _)); rfl)
    | with_reducible apply within_ite
    | split
    | with_reducible exact within_refl _ _
    | with_reducible assumption
    | (dsimp only; split)

theorem within_resultSnapshot (s : State) (cv e : Nat) : Within [.regs, .acq] s (State.resultSnapshot s cv e) := by
  unfold State.resultSnapshot
  repeat' first
    | ((with_reducible apply within_after (within_put _ _ _)); rfl)
    | ((with_reducible apply within_after (within_setRes _ _ _ _)); rfl)
    | with_reducible apply within_ite'
    | split
    | with_reducible exact within_refl _ _
    | with_reducible assumption
    | (dsimp only; split)

theorem within_startConverters (s : State) : Within [.regs, .acq] s (State.startConverters s) := by
  unfold State.startConverters
  repeat' first
    | ((with_reducible apply within_after (within_passStart _ _)); rfl)
    | ((with_reducible apply within_forUpTo); intro _ _ _)
    | split
    | with_reducible exact within_refl _ _
    | with_reducible assumption
    | (dsimp only; split)

end Sys2Proof.Laws
end

