-- ==== Sys2Proof/Laws/FrameRetention.lean ====
section
/-!
SUPPORT. What each operation of Machine/Retention.lean may change.
-/

namespace Sys2Proof.Laws

open Sys2Proof Sys2Proof.Machine

theorem within_setRet (s : State) (b n v : Nat) : Within [.ram] s (State.setRet s b n v) := by
  unfold State.setRet
  repeat' first
    | ((with_reducible apply within_after (within_setBytes _ _ _)); rfl)
    | split
    | with_reducible exact within_refl _ _
    | with_reducible assumption
    | (dsimp only; split)

theorem within_retCrc (s : State) : Within [.ram] s (State.retCrc s) := by
  unfold State.retCrc
  repeat' first
    | ((with_reducible apply within_after (within_setRet _ _ _ _)); rfl)
    | split
    | with_reducible exact within_refl _ _
    | with_reducible assumption
    | (dsimp only; split)

theorem within_setRetLog (s : State) (head count thead tcount : Nat) : Within [.ram] s (State.setRetLog s head count thead tcount) := by
  unfold State.setRetLog
  repeat' first
    | ((with_reducible apply within_after (within_setRet _ _ _ _)); rfl)
    | ((with_reducible apply within_after (within_retCrc _)); rfl)
    | split
    | with_reducible exact within_refl _ _
    | with_reducible assumption
    | (dsimp only; split)

theorem within_bootCountUp (s : State) : Within [.ram] s (State.bootCountUp s) := by
  unfold State.bootCountUp
  repeat' first
    | ((with_reducible apply within_after (within_setRet _ _ _ _)); rfl)
    | ((with_reducible apply within_after (within_retCrc _)); rfl)
    | split
    | with_reducible exact within_refl _ _
    | with_reducible assumption
    | (dsimp only; split)

theorem within_q06Push (s : State) (b : List Byte) : Within [.regs, .aon, .obs] s (State.q06Push s b) := by
  unfold State.q06Push
  repeat' first
    | ((with_reducible apply within_after (within_count _ _)); rfl)
    | ((with_reducible apply within_after (within_bump _ _)); rfl)
    | with_reducible apply within_ite
    | split
    | with_reducible exact within_refl _ _
    | with_reducible assumption
    | ((with_reducible apply within_upd_aon); rfl)
    | (dsimp only; split)

theorem within_logPush (s : State) (kind : Nat) (p : List Byte) : Within [.regs, .aon, .obs] s (State.logPush s kind p) := by
  unfold State.logPush
  repeat' first
    | ((with_reducible apply within_after (within_count _ _)); rfl)
    | ((with_reducible apply within_after (within_bump _ _)); rfl)
    | with_reducible apply within_ite
    | split
    | with_reducible exact within_refl _ _
    | with_reducible assumption
    | ((with_reducible apply within_upd_aon); rfl)
    | (dsimp only; split)

theorem within_aonLow (s : State) : Within [.regs, .evr] s (State.aonLow s) := by
  unfold State.aonLow
  repeat' first
    | ((with_reducible apply within_after (within_putB _ _ _)); rfl)
    | ((with_reducible apply within_after (within_drive _ _ _)); rfl)
    | split
    | with_reducible exact within_refl _ _
    | with_reducible assumption
    | (dsimp only; split)

theorem within_refusalRecord (s : State) : Within [.regs, .aon, .obs] s (State.refusalRecord s) := by
  unfold State.refusalRecord
  repeat' first
    | ((with_reducible apply within_after (within_logPush _ _ _)); rfl)
    | with_reducible apply within_ite
    | split
    | with_reducible exact within_refl _ _
    | with_reducible assumption
    | ((with_reducible apply within_upd_aon); rfl)
    | (dsimp only; split)

theorem within_measureStore (s : State) (v : Nat) : Within [.regs, .evr, .aon] s (State.measureStore s v) := by
  unfold State.measureStore
  repeat' first
    | ((with_reducible apply within_after (within_put _ _ _)); rfl)
    | ((with_reducible apply within_after (within_aonLow _)); rfl)
    | split
    | with_reducible exact within_refl _ _
    | with_reducible assumption
    | ((with_reducible apply within_upd_aon); rfl)
    | (dsimp only; split)

theorem within_burst (s : State) (nj v : Nat) : Within [.regs, .evr, .aon, .obs] s (State.burst s nj v).1 := by
  unfold State.burst
  repeat' first
    | ((with_reducible apply within_after (within_measureStore _ _)); rfl)
    | ((with_reducible apply within_after (within_refusalRecord _)); rfl)
    | ((with_reducible apply within_after (within_bump _ _)); rfl)
    | with_reducible apply within_ite
    | with_reducible apply within_ite_fst
    | split
    | with_reducible exact within_refl _ _
    | with_reducible assumption
    | ((with_reducible apply within_upd_aon); rfl)
    | (dsimp only; split)

theorem within_logWrite (s : State) (kind : Nat) (p : List Byte) : Within [.ram] s (State.logWrite s kind p) := by
  unfold State.logWrite
  repeat' first
    | ((with_reducible apply within_after (within_setBytes _ _ _)); rfl)
    | ((with_reducible apply within_after (within_setRet _ _ _ _)); rfl)
    | ((with_reducible apply within_after (within_setRetLog _ _ _ _ _)); rfl)
    | split
    | with_reducible exact within_refl _ _
    | with_reducible assumption
    | (dsimp only; split)

theorem within_tamperWrite (s : State) (mask : Nat) : Within [.regs, .ram, .aon, .obs] s (State.tamperWrite s mask) := by
  unfold State.tamperWrite
  repeat' first
    | ((with_reducible apply within_after (within_setBytes _ _ _)); rfl)
    | ((with_reducible apply within_after (within_setRetLog _ _ _ _ _)); rfl)
    | ((with_reducible apply within_after (within_logPush _ _ _)); rfl)
    | split
    | with_reducible exact within_refl _ _
    | with_reducible assumption
    | ((with_reducible apply within_upd_aon); rfl)
    | (dsimp only; split)

end Sys2Proof.Laws
end

