-- ==== Sys2Proof/Laws/FrameAon.lean ====
section
/-!
SUPPORT. What each operation of Machine/Aon.lean may change.
-/

namespace Sys2Proof.Laws

open Sys2Proof Sys2Proof.Machine

theorem within_changeover (s : State) (v c : Nat) : Within [.regs, .evr, .aon, .obs] s (State.changeover s v c) := by
  unfold State.changeover
  repeat' first
    | ((with_reducible apply within_after (within_measureStore _ _)); rfl)
    | ((with_reducible apply within_after (within_putB _ _ _)); rfl)
    | ((with_reducible apply within_after (within_put _ _ _)); rfl)
    | ((with_reducible apply within_after (within_logPush _ _ _)); rfl)
    | ((with_reducible apply within_after (within_aonLow _)); rfl)
    | with_reducible apply within_ite'
    | split
    | with_reducible exact within_refl _ _
    | with_reducible assumption
    | ((with_reducible apply within_upd_aon); rfl)
    | (dsimp only; split)

theorem runs_execSupplyChangeover (v c : Nat) (s : State) : Runs [.regs, .evr, .aon, .obs] s (execSupplyChangeover v c s) := by
  unfold execSupplyChangeover
  repeat' first
    | with_reducible apply runs_when
    | with_reducible apply runs_when_of
    | with_reducible apply runs_next
    | with_reducible apply runs_ite
    | ((with_reducible apply within_after (within_changeover _ _ _)); rfl)
    | split
    | with_reducible exact within_refl _ _
    | with_reducible assumption
    | (dsimp only; split)

theorem runs_execColdStartHandover (v vrect : Nat) (s : State) : Runs [.aon] s (execColdStartHandover v vrect s) := by
  unfold execColdStartHandover
  repeat' first
    | with_reducible apply runs_when
    | with_reducible apply runs_when_of
    | with_reducible apply runs_next
    | with_reducible apply runs_ite
    | split
    | with_reducible exact within_refl _ _
    | with_reducible assumption
    | ((with_reducible apply within_upd_aon); rfl)
    | (dsimp only; split)

theorem runs_execOpenCircuitMeasure (v : Nat) (s : State) : Runs [.aon] s (execOpenCircuitMeasure v s) := by
  unfold execOpenCircuitMeasure
  repeat' first
    | with_reducible apply runs_when
    | with_reducible apply runs_when_of
    | with_reducible apply runs_next
    | with_reducible apply runs_ite
    | split
    | with_reducible exact within_refl _ _
    | with_reducible assumption
    | ((with_reducible apply within_upd_aon); rfl)
    | (dsimp only; split)

theorem within_retBuild (s : State) : Within [.ram, .aon] s (State.retBuild s) := by
  unfold State.retBuild
  repeat' first
    | ((with_reducible apply within_after (within_setBytes _ _ _)); rfl)
    | ((with_reducible apply within_after (within_setRet _ _ _ _)); rfl)
    | ((with_reducible apply within_after (within_retCrc _)); rfl)
    | split
    | with_reducible exact within_refl _ _
    | with_reducible assumption
    | ((with_reducible apply within_upd_aon); rfl)
    | ((with_reducible apply within_filter_regs); rfl)
    | ((with_reducible apply within_filter_ram); rfl)
    | ((with_reducible apply within_filter_regs_boot); rfl; rfl)
    | (dsimp only; split)

theorem within_retRebuild (s : State) : Within [.regs, .ram, .aon, .obs] s (State.retRebuild s) := by
  unfold State.retRebuild
  repeat' first
    | ((with_reducible apply within_after (within_retBuild _)); rfl)
    | ((with_reducible apply within_after (within_putB _ _ _)); rfl)
    | ((with_reducible apply within_after (within_logPush _ _ _)); rfl)
    | split
    | with_reducible exact within_refl _ _
    | with_reducible assumption
    | (dsimp only; split)

theorem within_aonStart (s : State) (v c : Nat) (xtal : Bool) : Within [.regs, .ram, .evr, .aon, .obs] s (State.aonStart s v c xtal) := by
  unfold State.aonStart
  repeat' first
    | ((with_reducible apply within_after (within_setWord _ _ _)); rfl)
    | ((with_reducible apply within_after (within_putB _ _ _)); rfl)
    | ((with_reducible apply within_after (within_changeover _ _ _)); rfl)
    | ((with_reducible apply within_after (within_retRebuild _)); rfl)
    | with_reducible apply within_ite'
    | ((with_reducible apply within_forUpTo); intro _ _ _)
    | split
    | with_reducible exact within_refl _ _
    | with_reducible assumption
    | ((with_reducible apply within_upd_aon); rfl)
    | (dsimp only; split)

theorem runs_execAonDomainStart (v c : Nat) (xtal : Bool) (s : State) : Runs [.regs, .ram, .evr, .aon, .obs] s (execAonDomainStart v c xtal s) := by
  unfold execAonDomainStart
  repeat' first
    | with_reducible apply runs_when
    | with_reducible apply runs_when_of
    | with_reducible apply runs_next
    | with_reducible apply runs_ite
    | ((with_reducible apply within_after (within_aonStart _ _ _ _)); rfl)
    | split
    | with_reducible exact within_refl _ _
    | with_reducible assumption
    | (dsimp only; split)

theorem within_aonLost (s : State) : Within [.regs, .ram, .aon] s (State.aonLost s) := by
  unfold State.aonLost
  repeat' first
    | ((with_reducible apply within_after (within_setWord _ _ _)); rfl)
    | ((with_reducible apply within_forUpTo); intro _ _ _)
    | split
    | with_reducible exact within_refl _ _
    | with_reducible assumption
    | ((with_reducible apply within_upd_aon); rfl)
    | ((with_reducible apply within_filter_regs); rfl)
    | ((with_reducible apply within_filter_ram); rfl)
    | ((with_reducible apply within_filter_regs_boot); rfl; rfl)
    | (dsimp only; split)

theorem runs_execDomainLosesPower (v c : Nat) (s : State) : Runs [.regs, .ram, .aon] s (execDomainLosesPower v c s) := by
  unfold execDomainLosesPower
  repeat' first
    | with_reducible apply runs_when
    | with_reducible apply runs_when_of
    | with_reducible apply runs_next
    | with_reducible apply runs_ite
    | ((with_reducible apply within_after (within_aonLost _)); rfl)
    | split
    | with_reducible exact within_refl _ _
    | with_reducible assumption
    | (dsimp only; split)

theorem runs_execBurstRequest (kind n v : Nat) (s : State) : Runs [.regs, .evr, .aon, .obs] s (execBurstRequest kind n v s) := by
  unfold execBurstRequest
  repeat' first
    | with_reducible apply runs_when
    | with_reducible apply runs_when_of
    | with_reducible apply runs_next
    | with_reducible apply runs_ite
    | ((with_reducible apply within_after (within_burst _ _ _)); rfl)
    | split
    | with_reducible exact within_refl _ _
    | with_reducible assumption
    | (dsimp only; split)

theorem within_ckptCommit (s : State) : Within [.regs, .ram, .aon] s (State.ckptCommit s) := by
  unfold State.ckptCommit
  repeat' first
    | ((with_reducible apply within_after (within_setBytes _ _ _)); rfl)
    | ((with_reducible apply within_after (within_bumpBy _ _ _)); rfl)
    | split
    | with_reducible exact within_refl _ _
    | with_reducible assumption
    | ((with_reducible apply within_upd_aon); rfl)
    | (dsimp only; split)

theorem runs_execCheckpointCommit (s : State) : Runs [.regs, .ram, .aon] s (execCheckpointCommit s) := by
  unfold execCheckpointCommit
  repeat' first
    | with_reducible apply runs_when
    | with_reducible apply runs_when_of
    | with_reducible apply runs_next
    | with_reducible apply runs_ite
    | ((with_reducible apply within_after (within_ckptCommit _)); rfl)
    | split
    | with_reducible exact within_refl _ _
    | with_reducible assumption
    | (dsimp only; split)

theorem within_logCommit (s : State) (v : Nat) : Within [.regs, .ram, .evr, .aon, .obs] s (State.logCommit s v) := by
  unfold State.logCommit
  repeat' first
    | ((with_reducible apply within_after (within_burst _ _ _)); rfl)
    | ((with_reducible apply within_after (within_put _ _ _)); rfl)
    | ((with_reducible apply within_after (within_tamperWrite _ _)); rfl)
    | ((with_reducible apply within_after (within_logWrite _ _ _)); rfl)
    | with_reducible apply within_ite'
    | with_reducible apply within_ite
    | split
    | with_reducible exact within_refl _ _
    | with_reducible assumption
    | ((with_reducible apply within_upd_aon); rfl)
    | (dsimp only; split)

theorem runs_execLogCommit (v : Nat) (s : State) : Runs [.regs, .ram, .evr, .aon, .obs] s (execLogCommit v s) := by
  unfold execLogCommit
  repeat' first
    | with_reducible apply runs_when
    | with_reducible apply runs_when_of
    | with_reducible apply runs_next
    | with_reducible apply runs_ite
    | ((with_reducible apply within_after (within_logCommit _ _)); rfl)
    | split
    | with_reducible exact within_refl _ _
    | with_reducible assumption
    | (dsimp only; split)

theorem within_tamperEntry (s : State) (mask v : Nat) : Within [.regs, .ram, .evr, .aon, .obs] s (State.tamperEntry s mask v) := by
  unfold State.tamperEntry
  repeat' first
    | ((with_reducible apply within_after (within_put _ _ _)); rfl)
    | ((with_reducible apply within_after (within_raiseIf _ _ _)); rfl)
    | ((with_reducible apply within_after (within_burst _ _ _)); rfl)
    | ((with_reducible apply within_after (within_tamperWrite _ _)); rfl)
    | with_reducible apply within_ite
    | split
    | with_reducible exact within_refl _ _
    | with_reducible assumption
    | (dsimp only; split)

theorem within_tamperSample (s : State) (levels v : Nat) : Within [.regs, .ram, .evr, .aon, .obs] s (State.tamperSample s levels v) := by
  unfold State.tamperSample
  repeat' first
    | ((with_reducible apply within_after (within_put _ _ _)); rfl)
    | ((with_reducible apply within_after (within_tamperEntry _ _ _)); rfl)
    | with_reducible apply within_ite'
    | with_reducible apply within_ite
    | ((with_reducible apply within_foldl); intro _ _ _)
    | split
    | with_reducible exact within_refl _ _
    | with_reducible assumption
    | ((with_reducible apply within_upd_aon); rfl)
    | (dsimp only; split)

theorem runs_execTamperSample (levels v : Nat) (xtal : Bool) (s : State) : Runs [.regs, .ram, .evr, .aon, .obs] s (execTamperSample levels v xtal s) := by
  unfold execTamperSample
  repeat' first
    | with_reducible apply runs_when
    | with_reducible apply runs_when_of
    | with_reducible apply runs_next
    | with_reducible apply runs_ite
    | ((with_reducible apply within_after (within_putB _ _ _)); rfl)
    | ((with_reducible apply within_after (within_tamperSample _ _ _)); rfl)
    | split
    | with_reducible exact within_refl _ _
    | with_reducible assumption
    | (dsimp only; split)

theorem within_rfCount (s : State) (err : Bool) : Within [.regs] s (State.rfCount s err) := by
  unfold State.rfCount
  repeat' first
    | ((with_reducible apply within_after (within_bump _ _)); rfl)
    | with_reducible apply within_ite'
    | split
    | with_reducible exact within_refl _ _
    | with_reducible assumption
    | (dsimp only; split)

theorem within_rfNotice (s : State) (cmd first n : Nat) (err : Bool) : Within [.regs, .aon, .obs] s (State.rfNotice s cmd first n err) := by
  unfold State.rfNotice
  repeat' first
    | ((with_reducible apply within_after (within_count _ _)); rfl)
    | ((with_reducible apply within_after (within_rfCount _ _)); rfl)
    | ((with_reducible apply within_after (within_bump _ _)); rfl)
    | with_reducible apply within_ite
    | split
    | with_reducible exact within_refl _ _
    | with_reducible assumption
    | ((with_reducible apply within_upd_aon); rfl)
    | (dsimp only; split)

theorem within_rfDrain (s : State) : Within [.regs, .aon] s (State.rfDrain s) := by
  unfold State.rfDrain
  repeat' first
    | ((with_reducible apply within_after (within_rfCount _ _)); rfl)
    | ((with_reducible apply within_foldl); intro _ _ _)
    | split
    | with_reducible exact within_refl _ _
    | with_reducible assumption
    | ((with_reducible apply within_upd_aon); rfl)
    | (dsimp only; split)

theorem within_rfAnswer (s : State) (cmd first n : Nat) (bytes : List Byte) : Within [.regs, .aon, .obs, .answers] s (State.rfAnswer s cmd first n bytes) := by
  unfold State.rfAnswer
  repeat' first
    | ((with_reducible apply within_after (within_answer _ _ _)); rfl)
    | ((with_reducible apply within_after (within_rfNotice _ _ _ _ _)); rfl)
    | split
    | with_reducible exact within_refl _ _
    | with_reducible assumption
    | (dsimp only; split)

theorem within_rfBurst (s : State) (cmd first n nj v : Nat) (bytes : List Byte) : Within [.regs, .evr, .aon, .obs, .answers] s (State.rfBurst s cmd first n nj v bytes) := by
  unfold State.rfBurst
  repeat' first
    | ((with_reducible apply within_after (within_burst _ _ _)); rfl)
    | ((with_reducible apply within_after (within_rfAnswer _ _ _ _ _)); rfl)
    | with_reducible apply within_ite
    | split
    | with_reducible exact within_refl _ _
    | with_reducible assumption
    | (dsimp only; split)

theorem runs_execInventory (flags afi len mask v : Nat) (s : State) : Runs [.regs, .evr, .aon, .obs, .answers] s (execInventory flags afi len mask v s) := by
  unfold execInventory
  repeat' first
    | with_reducible apply runs_when
    | with_reducible apply runs_when_of
    | with_reducible apply runs_next
    | with_reducible apply runs_ite
    | ((with_reducible apply within_after (within_rfBurst _ _ _ _ _ _ _)); rfl)
    | with_reducible apply within_ite
    | split
    | with_reducible exact within_refl _ _
    | with_reducible assumption
    | ((with_reducible apply within_upd_aon); rfl)
    | (dsimp only; split)

theorem runs_execStayQuiet (flags uid v : Nat) (s : State) : Runs [.regs, .evr, .aon, .obs, .answers] s (execStayQuiet flags uid v s) := by
  unfold execStayQuiet
  repeat' first
    | with_reducible apply runs_when
    | with_reducible apply runs_when_of
    | with_reducible apply runs_next
    | with_reducible apply runs_ite
    | ((with_reducible apply within_after (within_burst _ _ _)); rfl)
    | ((with_reducible apply within_after (within_rfBurst _ _ _ _ _ _ _)); rfl)
    | ((with_reducible apply within_after (within_rfAnswer _ _ _ _ _)); rfl)
    | with_reducible apply within_ite
    | split
    | with_reducible exact within_refl _ _
    | with_reducible assumption
    | ((with_reducible apply within_upd_aon); rfl)
    | (dsimp only; split)

theorem runs_execReadSingleBlock (flags uid b v : Nat) (s : State) : Runs [.regs, .evr, .aon, .obs, .answers] s (execReadSingleBlock flags uid b v s) := by
  unfold execReadSingleBlock
  repeat' first
    | with_reducible apply runs_when
    | with_reducible apply runs_when_of
    | with_reducible apply runs_next
    | with_reducible apply runs_ite
    | ((with_reducible apply within_after (within_rfBurst _ _ _ _ _ _ _)); rfl)
    | with_reducible apply within_ite
    | split
    | with_reducible exact within_refl _ _
    | with_reducible assumption
    | (dsimp only; split)

theorem runs_execReadMultipleBlocks (flags uid b n v : Nat) (s : State) : Runs [.regs, .evr, .aon, .obs, .answers] s (execReadMultipleBlocks flags uid b n v s) := by
  unfold execReadMultipleBlocks
  repeat' first
    | with_reducible apply runs_when
    | with_reducible apply runs_when_of
    | with_reducible apply runs_next
    | with_reducible apply runs_ite
    | ((with_reducible apply within_after (within_rfBurst _ _ _ _ _ _ _)); rfl)
    | with_reducible apply within_ite
    | split
    | with_reducible exact within_refl _ _
    | with_reducible assumption
    | (dsimp only; split)

theorem runs_execGetSystemInformation (flags uid v : Nat) (s : State) : Runs [.regs, .evr, .aon, .obs, .answers] s (execGetSystemInformation flags uid v s) := by
  unfold execGetSystemInformation
  repeat' first
    | with_reducible apply runs_when
    | with_reducible apply runs_when_of
    | with_reducible apply runs_next
    | with_reducible apply runs_ite
    | ((with_reducible apply within_after (within_rfBurst _ _ _ _ _ _ _)); rfl)
    | with_reducible apply within_ite
    | split
    | with_reducible exact within_refl _ _
    | with_reducible assumption
    | (dsimp only; split)

theorem runs_execRfUnsupportedCommand (flags uid cmd v : Nat) (s : State) : Runs [.regs, .evr, .aon, .obs, .answers] s (execRfUnsupportedCommand flags uid cmd v s) := by
  unfold execRfUnsupportedCommand
  repeat' first
    | with_reducible apply runs_when
    | with_reducible apply runs_when_of
    | with_reducible apply runs_next
    | with_reducible apply runs_ite
    | ((with_reducible apply within_after (within_rfBurst _ _ _ _ _ _ _)); rfl)
    | with_reducible apply within_ite
    | split
    | with_reducible exact within_refl _ _
    | with_reducible assumption
    | (dsimp only; split)

theorem runs_execRfFieldLost (s : State) : Runs [.aon] s (execRfFieldLost s) := by
  unfold execRfFieldLost
  repeat' first
    | with_reducible apply runs_when
    | with_reducible apply runs_when_of
    | with_reducible apply runs_next
    | with_reducible apply runs_ite
    | split
    | with_reducible exact within_refl _ _
    | with_reducible assumption
    | ((with_reducible apply within_upd_aon); rfl)
    | (dsimp only; split)

end Sys2Proof.Laws
end

