-- ==== Sys2Proof/Laws/FrameGate.lean ====
section
/-!
SUPPORT. What each operation of Machine/Gate.lean may change.
-/

namespace Sys2Proof.Laws

open Sys2Proof Sys2Proof.Machine

theorem within_setGleg (s : State) (l : Nat) (g : GateLeg) : Within [.gtp] s (State.setGleg s l g) := by
  unfold State.setGleg
  repeat' first
    | split
    | with_reducible exact within_refl _ _
    | with_reducible assumption
    | ((with_reducible apply within_upd_gtp); rfl)
    | (dsimp only; split)

theorem within_setMleg (s : State) (l : Nat) (m : ModLeg) : Within [.mod] s (State.setMleg s l m) := by
  unfold State.setMleg
  repeat' first
    | split
    | with_reducible exact within_refl _ _
    | with_reducible assumption
    | ((with_reducible apply within_upd_mod); rfl)
    | (dsimp only; split)

theorem within_setGroup (s : State) (g : Nat) (v : GroupS) : Within [.mod] s (State.setGroup s g v) := by
  unfold State.setGroup
  repeat' first
    | split
    | with_reducible exact within_refl _ _
    | with_reducible assumption
    | ((with_reducible apply within_upd_mod); rfl)
    | (dsimp only; split)

theorem within_driveComposite (s : State) (l : Nat) : Within [.evr] s (State.driveComposite s l) := by
  unfold State.driveComposite
  repeat' first
    | ((with_reducible apply within_after (within_drive _ _ _)); rfl)
    | with_reducible apply within_ite'
    | split
    | with_reducible exact within_refl _ _
    | with_reducible assumption
    | (dsimp only; split)

theorem within_desatFalls (s : State) (l : Nat) : Within [.evr] s (State.desatFalls s l) := by
  unfold State.desatFalls
  repeat' first
    | ((with_reducible apply within_after (within_drive _ _ _)); rfl)
    | with_reducible apply within_ite'
    | split
    | with_reducible exact within_refl _ _
    | with_reducible assumption
    | (dsimp only; split)

theorem within_refreshLeg (s : State) (l : Nat) : Within [.regs, .evr, .gtp] s (State.refreshLeg s l) := by
  unfold State.refreshLeg
  repeat' first
    | ((with_reducible apply within_after (within_putB _ _ _)); rfl)
    | ((with_reducible apply within_after (within_setGleg _ _ _)); rfl)
    | ((with_reducible apply within_after (within_driveComposite _ _)); rfl)
    | ((with_reducible apply within_after (within_desatFalls _ _)); rfl)
    | with_reducible apply within_ite
    | split
    | with_reducible exact within_refl _ _
    | with_reducible assumption
    | (dsimp only; split)

theorem within_refreshChop (s : State) (c : Nat) : Within [.regs, .gtp] s (State.refreshChop s c) := by
  unfold State.refreshChop
  repeat' first
    | ((with_reducible apply within_after (within_putB _ _ _)); rfl)
    | ((with_reducible apply within_after (within_bump _ _)); rfl)
    | ((with_reducible apply within_after (within_put _ _ _)); rfl)
    | with_reducible apply within_ite'
    | split
    | with_reducible exact within_refl _ _
    | with_reducible assumption
    | ((with_reducible apply within_upd_gtp); rfl)
    | (dsimp only; split)

theorem within_refreshChops (s : State) : Within [.regs, .gtp] s (State.refreshChops s) := by
  unfold State.refreshChops
  repeat' first
    | ((with_reducible apply within_after (within_refreshChop _ _)); rfl)
    | split
    | with_reducible exact within_refl _ _
    | with_reducible assumption
    | (dsimp only; split)

theorem within_startAssist (s : State) (d : Nat) : Within [.regs, .gtp] s (State.startAssist s d) := by
  unfold State.startAssist
  repeat' first
    | ((with_reducible apply within_after (within_refreshChop _ _)); rfl)
    | with_reducible apply within_ite'
    | split
    | with_reducible exact within_refl _ _
    | with_reducible assumption
    | ((with_reducible apply within_upd_gtp); rfl)
    | (dsimp only; split)

theorem within_staggerOrder (s : State) (d last : Nat) : Within [.gtp] s (State.staggerOrder s d last) := by
  unfold State.staggerOrder
  repeat' first
    | ((with_reducible apply within_after (within_setGleg _ _ _)); rfl)
    | ((with_reducible apply within_foldl); intro _ _ _)
    | split
    | with_reducible exact within_refl _ _
    | with_reducible assumption
    | (dsimp only; split)

theorem within_softStart (s : State) (l : Nat) : Within [.regs, .evr, .gtp] s (State.softStart s l) := by
  unfold State.softStart
  repeat' first
    | ((with_reducible apply within_after (within_putB _ _ _)); rfl)
    | ((with_reducible apply within_after (within_setGleg _ _ _)); rfl)
    | ((with_reducible apply within_after (within_staggerOrder _ _ _)); rfl)
    | ((with_reducible apply within_after (within_put _ _ _)); rfl)
    | ((with_reducible apply within_after (within_refreshLeg _ _)); rfl)
    | with_reducible apply within_ite'
    | with_reducible apply within_ite
    | split
    | with_reducible exact within_refl _ _
    | with_reducible assumption
    | ((with_reducible apply within_upd_gtp); rfl)
    | (dsimp only; split)

theorem within_legFault (s : State) (l c : Nat) : Within [.regs, .evr, .gtp] s (State.legFault s l c) := by
  unfold State.legFault
  repeat' first
    | ((with_reducible apply within_after (within_put _ _ _)); rfl)
    | ((with_reducible apply within_after (within_setGleg _ _ _)); rfl)
    | ((with_reducible apply within_after (within_softStart _ _)); rfl)
    | ((with_reducible apply within_after (within_putB _ _ _)); rfl)
    | ((with_reducible apply within_after (within_bump _ _)); rfl)
    | ((with_reducible apply within_after (within_refreshLeg _ _)); rfl)
    | with_reducible apply within_ite
    | split
    | with_reducible exact within_refl _ _
    | with_reducible assumption
    | (dsimp only; split)

theorem within_crossTripSend (s : State) : Within [.twn] s (State.crossTripSend s) := by
  unfold State.crossTripSend
  repeat' first
    | with_reducible apply within_ite'
    | with_reducible apply within_ite
    | ((with_reducible apply within_foldl); intro _ _ _)
    | split
    | with_reducible exact within_refl _ _
    | with_reducible assumption
    | ((with_reducible apply within_upd_twn); rfl)
    | (dsimp only; split)

theorem within_domainTrip (s : State) (d src : Nat) (viaRoute viaTwin forced : Bool) : Within [.regs, .evr, .gtp, .twn] s (State.domainTrip s d src viaRoute viaTwin forced) := by
  unfold State.domainTrip
  repeat' first
    | ((with_reducible apply within_after (within_putB _ _ _)); rfl)
    | ((with_reducible apply within_after (within_put _ _ _)); rfl)
    | ((with_reducible apply within_after (within_bump _ _)); rfl)
    | ((with_reducible apply within_after (within_softStart _ _)); rfl)
    | ((with_reducible apply within_after (within_refreshLeg _ _)); rfl)
    | ((with_reducible apply within_after (within_startAssist _ _)); rfl)
    | ((with_reducible apply within_after (within_crossTripSend _)); rfl)
    | with_reducible apply within_ite'
    | with_reducible apply within_ite
    | ((with_reducible apply within_forUpTo); intro _ _ _)
    | split
    | with_reducible exact within_refl _ _
    | with_reducible assumption
    | (dsimp only; split)

theorem within_matrixAssert (s : State) (m src : Nat) : Within [.regs, .evr, .gtp, .twn] s (State.matrixAssert s m src) := by
  unfold State.matrixAssert
  repeat' first
    | ((with_reducible apply within_after (within_domainTrip _ _ _ _ _ _)); rfl)
    | with_reducible apply within_ite'
    | ((with_reducible apply within_forUpTo); intro _ _ _)
    | split
    | with_reducible exact within_refl _ _
    | with_reducible assumption
    | (dsimp only; split)

theorem within_desatPass (s : State) (l : Nat) : Within [.regs, .evr, .gtp, .twn] s (State.desatPass s l) := by
  unfold State.desatPass
  repeat' first
    | ((with_reducible apply within_after (within_drive _ _ _)); rfl)
    | ((with_reducible apply within_after (within_matrixAssert _ _ _)); rfl)
    | ((with_reducible apply within_after (within_legFault _ _ _)); rfl)
    | ((with_reducible apply within_after (within_refreshLeg _ _)); rfl)
    | split
    | with_reducible exact within_refl _ _
    | with_reducible assumption
    | (dsimp only; split)

theorem within_softStartOpen (s : State) (l : Nat) : Within [.regs, .evr, .gtp, .twn] s (State.softStartOpen s l) := by
  unfold State.softStartOpen
  repeat' first
    | ((with_reducible apply within_after (within_softStart _ _)); rfl)
    | ((with_reducible apply within_after (within_desatPass _ _)); rfl)
    | with_reducible apply within_ite'
    | split
    | with_reducible exact within_refl _ _
    | with_reducible assumption
    | (dsimp only; split)

theorem within_passOpened (s0 s : State) : Within [.regs, .evr, .gtp, .twn] s (State.passOpened s0 s) := by
  unfold State.passOpened
  repeat' first
    | ((with_reducible apply within_after (within_desatPass _ _)); rfl)
    | with_reducible apply within_ite'
    | ((with_reducible apply within_forUpTo); intro _ _ _)
    | split
    | with_reducible exact within_refl _ _
    | with_reducible assumption
    | (dsimp only; split)

theorem within_openGates (s : State) : Within [.regs, .evr, .gtp, .twn] s (State.openGates s) := by
  unfold State.openGates
  repeat' first
    | ((with_reducible apply within_after (within_passOpened _ _)); rfl)
    | ((with_reducible apply within_after (within_setGleg _ _ _)); rfl)
    | ((with_reducible apply within_forUpTo); intro _ _ _)
    | split
    | with_reducible exact within_refl _ _
    | with_reducible assumption
    | (dsimp only; split)

theorem within_uvloResponse (s : State) (l : Nat) : Within [.regs, .evr, .gtp, .twn] s (State.uvloResponse s l) := by
  unfold State.uvloResponse
  repeat' first
    | ((with_reducible apply within_after (within_legFault _ _ _)); rfl)
    | ((with_reducible apply within_after (within_setGleg _ _ _)); rfl)
    | ((with_reducible apply within_after (within_putB _ _ _)); rfl)
    | ((with_reducible apply within_after (within_refreshLeg _ _)); rfl)
    | ((with_reducible apply within_after (within_bump _ _)); rfl)
    | ((with_reducible apply within_after (within_softStartOpen _ _)); rfl)
    | with_reducible apply within_ite'
    | with_reducible apply within_ite
    | split
    | with_reducible exact within_refl _ _
    | with_reducible assumption
    | (dsimp only; split)

theorem within_faultClear (s : State) (l : Nat) : Within [.regs, .evr, .gtp] s (State.faultClear s l) := by
  unfold State.faultClear
  repeat' first
    | ((with_reducible apply within_after (within_putB _ _ _)); rfl)
    | ((with_reducible apply within_after (within_refreshLeg _ _)); rfl)
    | with_reducible apply within_ite
    | split
    | with_reducible exact within_refl _ _
    | with_reducible assumption
    | (dsimp only; split)

theorem within_recoverLegs (s : State) : Within [.regs, .gtp] s (State.recoverLegs s) := by
  unfold State.recoverLegs
  repeat' first
    | ((with_reducible apply within_after (within_putB _ _ _)); rfl)
    | ((with_reducible apply within_after (within_setGleg _ _ _)); rfl)
    | ((with_reducible apply within_forUpTo); intro _ _ _)
    | split
    | with_reducible exact within_refl _ _
    | with_reducible assumption
    | (dsimp only; split)

theorem within_portOn (s : State) (l : Nat) (h : Bool) : Within [.evr, .gtp] s (State.portOn s l h) := by
  unfold State.portOn
  repeat' first
    | ((with_reducible apply within_after (within_setGleg _ _ _)); rfl)
    | ((with_reducible apply within_after (within_desatFalls _ _)); rfl)
    | with_reducible apply within_ite
    | split
    | with_reducible exact within_refl _ _
    | with_reducible assumption
    | (dsimp only; split)

theorem within_portOff (s : State) (l : Nat) (h : Bool) : Within [.gtp] s (State.portOff s l h) := by
  unfold State.portOff
  repeat' first
    | ((with_reducible apply within_after (within_setGleg _ _ _)); rfl)
    | with_reducible apply within_ite
    | split
    | with_reducible exact within_refl _ _
    | with_reducible assumption
    | (dsimp only; split)

theorem within_safeState (s : State) : Within [.regs, .evr, .gtp, .twn] s (State.safeState s) := by
  unfold State.safeState
  repeat' first
    | ((with_reducible apply within_after (within_setGleg _ _ _)); rfl)
    | ((with_reducible apply within_after (within_softStartOpen _ _)); rfl)
    | ((with_reducible apply within_after (within_refreshLeg _ _)); rfl)
    | ((with_reducible apply within_after (within_putB _ _ _)); rfl)
    | with_reducible apply within_ite'
    | ((with_reducible apply within_forUpTo); intro _ _ _)
    | split
    | with_reducible exact within_refl _ _
    | with_reducible assumption
    | (dsimp only; split)

theorem within_leaveLeg (s : State) (l : Nat) : Within [.regs, .evr, .gtp] s (State.leaveLeg s l) := by
  unfold State.leaveLeg
  repeat' first
    | ((with_reducible apply within_after (within_setGleg _ _ _)); rfl)
    | ((with_reducible apply within_after (within_refreshLeg _ _)); rfl)
    | with_reducible apply within_ite
    | split
    | with_reducible exact within_refl _ _
    | with_reducible assumption
    | (dsimp only; split)

theorem within_safeShown (s : State) : Within [.regs] s (State.safeShown s) := by
  unfold State.safeShown
  repeat' first
    | ((with_reducible apply within_after (within_putB _ _ _)); rfl)
    | split
    | with_reducible exact within_refl _ _
    | with_reducible assumption
    | (dsimp only; split)

theorem within_leaveSafe (s : State) : Within [.regs, .evr, .gtp] s (State.leaveSafe s) := by
  unfold State.leaveSafe
  repeat' first
    | ((with_reducible apply within_after (within_setGleg _ _ _)); rfl)
    | ((with_reducible apply within_after (within_leaveLeg _ _)); rfl)
    | ((with_reducible apply within_after (within_safeShown _)); rfl)
    | with_reducible apply within_ite'
    | with_reducible apply within_ite
    | ((with_reducible apply within_forUpTo); intro _ _ _)
    | split
    | with_reducible exact within_refl _ _
    | with_reducible assumption
    | (dsimp only; split)

theorem within_statBad (s : State) (l : Nat) : Within [.regs, .evr, .gtp, .twn] s (State.statBad s l) := by
  unfold State.statBad
  repeat' first
    | ((with_reducible apply within_after (within_setGleg _ _ _)); rfl)
    | ((with_reducible apply within_after (within_putB _ _ _)); rfl)
    | ((with_reducible apply within_after (within_bump _ _)); rfl)
    | ((with_reducible apply within_after (within_uvloResponse _ _)); rfl)
    | with_reducible apply within_ite
    | split
    | with_reducible exact within_refl _ _
    | with_reducible assumption
    | (dsimp only; split)

theorem within_statGood (s : State) (l bits : Nat) : Within [.regs, .evr, .gtp, .twn] s (State.statGood s l bits) := by
  unfold State.statGood
  repeat' first
    | ((with_reducible apply within_after (within_bump _ _)); rfl)
    | ((with_reducible apply within_after (within_setWord _ _ _)); rfl)
    | ((with_reducible apply within_after (within_setGleg _ _ _)); rfl)
    | ((with_reducible apply within_after (within_putB _ _ _)); rfl)
    | ((with_reducible apply within_after (within_uvloResponse _ _)); rfl)
    | ((with_reducible apply within_after (within_legFault _ _ _)); rfl)
    | ((with_reducible apply within_after (within_driveComposite _ _)); rfl)
    | with_reducible apply within_ite'
    | split
    | with_reducible exact within_refl _ _
    | with_reducible assumption
    | (dsimp only; split)

theorem runs_execStatFrame (l : Nat) (levels : List Nat) (s : State) : Runs [.regs, .evr, .gtp, .twn] s (execStatFrame l levels s) := by
  unfold execStatFrame
  repeat' first
    | with_reducible apply runs_when
    | with_reducible apply runs_when_of
    | with_reducible apply runs_next
    | with_reducible apply runs_ite
    | ((with_reducible apply within_after (within_bump _ _)); rfl)
    | ((with_reducible apply within_after (within_statBad _ _)); rfl)
    | ((with_reducible apply within_after (within_passOpened _ _)); rfl)
    | ((with_reducible apply within_after (within_statGood _ _ _)); rfl)
    | with_reducible apply within_ite
    | split
    | with_reducible exact within_refl _ _
    | with_reducible assumption
    | (dsimp only; split)

theorem runs_execStatFrameMissing (l : Nat) (s : State) : Runs [.regs, .evr, .gtp, .twn] s (execStatFrameMissing l s) := by
  unfold execStatFrameMissing
  repeat' first
    | with_reducible apply runs_when
    | with_reducible apply runs_when_of
    | with_reducible apply runs_next
    | with_reducible apply runs_ite
    | ((with_reducible apply within_after (within_passOpened _ _)); rfl)
    | ((with_reducible apply within_after (within_bump _ _)); rfl)
    | ((with_reducible apply within_after (within_statBad _ _)); rfl)
    | split
    | with_reducible exact within_refl _ _
    | with_reducible assumption
    | (dsimp only; split)

theorem runs_execDesatAssert (l : Nat) (high : Bool) (s : State) : Runs [.regs, .evr, .gtp, .twn, .pins] s (execDesatAssert l high s) := by
  unfold execDesatAssert
  repeat' first
    | with_reducible apply runs_when
    | with_reducible apply runs_when_of
    | with_reducible apply runs_next
    | with_reducible apply runs_ite
    | ((with_reducible apply within_after (within_passOpened _ _)); rfl)
    | ((with_reducible apply within_after (within_desatPass _ _)); rfl)
    | ((with_reducible apply within_after (within_desatFalls _ _)); rfl)
    | with_reducible apply within_ite'
    | with_reducible apply within_ite
    | split
    | with_reducible exact within_refl _ _
    | with_reducible assumption
    | ((with_reducible apply within_upd_pins); rfl)
    | (dsimp only; split)

theorem within_desatAtReady (s : State) : Within [.regs, .evr, .gtp, .twn] s (State.desatAtReady s) := by
  unfold State.desatAtReady
  repeat' first
    | ((with_reducible apply within_after (within_desatPass _ _)); rfl)
    | with_reducible apply within_ite'
    | ((with_reducible apply within_forUpTo); intro _ _ _)
    | split
    | with_reducible exact within_refl _ _
    | with_reducible assumption
    | (dsimp only; split)

theorem runs_execBlankingEnd (l : Nat) (s : State) : Runs [.regs, .evr, .gtp, .twn] s (execBlankingEnd l s) := by
  unfold execBlankingEnd
  repeat' first
    | with_reducible apply runs_when
    | with_reducible apply runs_when_of
    | with_reducible apply runs_next
    | with_reducible apply runs_ite
    | ((with_reducible apply within_after (within_setGleg _ _ _)); rfl)
    | ((with_reducible apply within_after (within_passOpened _ _)); rfl)
    | ((with_reducible apply within_after (within_desatPass _ _)); rfl)
    | with_reducible apply within_ite'
    | split
    | with_reducible exact within_refl _ _
    | with_reducible assumption
    | (dsimp only; split)

theorem runs_execNodeWatchdogTimeout (l : Nat) (h : Bool) (s : State) : Runs [.regs, .evr, .gtp, .twn] s (execNodeWatchdogTimeout l h s) := by
  unfold execNodeWatchdogTimeout
  repeat' first
    | with_reducible apply runs_when
    | with_reducible apply runs_when_of
    | with_reducible apply runs_next
    | with_reducible apply runs_ite
    | ((with_reducible apply within_after (within_setGleg _ _ _)); rfl)
    | ((with_reducible apply within_after (within_passOpened _ _)); rfl)
    | ((with_reducible apply within_after (within_legFault _ _ _)); rfl)
    | with_reducible apply within_ite
    | split
    | with_reducible exact within_refl _ _
    | with_reducible assumption
    | (dsimp only; split)

theorem within_finalStep (s : State) (l : Nat) : Within [.regs, .evr, .gtp] s (State.finalStep s l) := by
  unfold State.finalStep
  repeat' first
    | ((with_reducible apply within_after (within_setGleg _ _ _)); rfl)
    | ((with_reducible apply within_after (within_putB _ _ _)); rfl)
    | ((with_reducible apply within_after (within_put _ _ _)); rfl)
    | ((with_reducible apply within_after (within_refreshLeg _ _)); rfl)
    | with_reducible apply within_ite'
    | with_reducible apply within_ite
    | ((with_reducible apply within_forUpTo); intro _ _ _)
    | split
    | with_reducible exact within_refl _ _
    | with_reducible assumption
    | ((with_reducible apply within_upd_gtp); rfl)
    | (dsimp only; split)

theorem within_inReset (s : State) (gates : Bool) :
    Within [.regs, .ram, .boot, .sess, .clk, .acq, .win, .evr, .frm, .eng, .grd, .mod, .gtp, .mtr, .seq, .gov, .fab, .twn, .can, .obs, .tap, .pins] s
      (State.inReset s gates) := by
  refine ⟨rfl, fun h => ?_, fun p hp => ?_⟩
  · simp only [State.wf, State.inReset, Memory.wf, Bool.and_eq_true] at h ⊢
    exact ⟨mwf_filter _ _ _ h.1, mwf_filter _ _ _ h.2⟩
  · cases p <;> first | rfl | exact absurd (by decide) hp

theorem within_extensionEnd (s : State) : Within [.regs, .ram, .boot, .sess, .clk, .acq, .win, .evr, .frm, .eng, .grd, .mod, .gtp, .mtr, .seq, .gov, .fab, .twn, .can, .obs, .tap, .pins] s (State.extensionEnd s) := by
  unfold State.extensionEnd
  repeat' first
    | ((with_reducible apply within_after (within_inReset _ _)); rfl)
    | with_reducible apply within_ite
    | split
    | with_reducible exact within_refl _ _
    | with_reducible assumption
    | (dsimp only; split)

theorem runs_execFinalStep (l : Nat) (s : State) : Runs [.regs, .ram, .boot, .sess, .clk, .acq, .win, .evr, .frm, .eng, .grd, .mod, .gtp, .mtr, .seq, .gov, .fab, .twn, .can, .obs, .tap, .pins] s (execFinalStep l s) := by
  unfold execFinalStep
  repeat' first
    | with_reducible apply runs_when
    | with_reducible apply runs_when_of
    | with_reducible apply runs_next
    | with_reducible apply runs_ite
    | ((with_reducible apply within_after (within_finalStep _ _)); rfl)
    | ((with_reducible apply within_after (within_extensionEnd _)); rfl)
    | split
    | with_reducible exact within_refl _ _
    | with_reducible assumption
    | (dsimp only; split)

theorem runs_execRingStopped (s : State) : Runs [.regs, .ram, .boot, .sess, .clk, .acq, .win, .evr, .frm, .eng, .grd, .mod, .gtp, .mtr, .seq, .gov, .fab, .twn, .can, .obs, .tap, .pins] s (execRingStopped s) := by
  unfold execRingStopped
  repeat' first
    | with_reducible apply runs_when
    | with_reducible apply runs_when_of
    | with_reducible apply runs_next
    | with_reducible apply runs_ite
    | ((with_reducible apply within_after (within_finalStep _ _)); rfl)
    | ((with_reducible apply within_after (within_bump _ _)); rfl)
    | ((with_reducible apply within_after (within_putB _ _ _)); rfl)
    | ((with_reducible apply within_after (within_extensionEnd _)); rfl)
    | with_reducible apply within_ite'
    | ((with_reducible apply within_forUpTo); intro _ _ _)
    | split
    | with_reducible exact within_refl _ _
    | with_reducible assumption
    | (dsimp only; split)

theorem within_outputsDriven (s : State) : Within [.regs, .evr, .gtp] s (State.outputsDriven s) := by
  unfold State.outputsDriven
  repeat' first
    | ((with_reducible apply within_after (within_refreshLeg _ _)); rfl)
    | ((with_reducible apply within_after (within_putB _ _ _)); rfl)
    | with_reducible apply within_ite
    | ((with_reducible apply within_forUpTo); intro _ _ _)
    | split
    | with_reducible exact within_refl _ _
    | with_reducible assumption
    | (dsimp only; split)

theorem runs_execRingCalibration (cycles : Nat) (s : State) : Runs [.regs, .evr, .gtp] s (execRingCalibration cycles s) := by
  unfold execRingCalibration
  repeat' first
    | with_reducible apply runs_when
    | with_reducible apply runs_when_of
    | with_reducible apply runs_next
    | with_reducible apply runs_ite
    | ((with_reducible apply within_after (within_put _ _ _)); rfl)
    | ((with_reducible apply within_after (within_bump _ _)); rfl)
    | ((with_reducible apply within_after (within_putB _ _ _)); rfl)
    | ((with_reducible apply within_after (within_outputsDriven _)); rfl)
    | split
    | with_reducible exact within_refl _ _
    | with_reducible assumption
    | (dsimp only; split)

theorem runs_execTripAssistEnd (c d : Nat) (s : State) : Runs [.regs, .gtp] s (execTripAssistEnd c d s) := by
  unfold execTripAssistEnd
  repeat' first
    | with_reducible apply runs_when
    | with_reducible apply runs_when_of
    | with_reducible apply runs_next
    | with_reducible apply runs_ite
    | ((with_reducible apply within_after (within_refreshChop _ _)); rfl)
    | split
    | with_reducible exact within_refl _ _
    | with_reducible assumption
    | ((with_reducible apply within_upd_gtp); rfl)
    | (dsimp only; split)

end Sys2Proof.Laws
end

