-- ==== Sys2Proof/Laws/FrameWin.lean ====
section
/-!
SUPPORT. What each operation of Machine/Win.lean may change.
-/

namespace Sys2Proof.Laws

open Sys2Proof Sys2Proof.Machine

theorem within_setCmp (s : State) (n : Nat) (c : CmpS) : Within [.win] s (State.setCmp s n c) := by
  unfold State.setCmp
  repeat' first
    | split
    | with_reducible exact within_refl _ _
    | with_reducible assumption
    | ((with_reducible apply within_upd_win); rfl)
    | (dsimp only; split)

theorem within_unresolvedBit (s : State) (n : Nat) : Within [.regs] s (State.unresolvedBit s n) := by
  unfold State.unresolvedBit
  repeat' first
    | ((with_reducible apply within_after (within_putB _ _ _)); rfl)
    | split
    | with_reducible exact within_refl _ _
    | with_reducible assumption
    | (dsimp only; split)

theorem within_latchSide (s : State) (n : Nat) (hi : Bool) : Within [.regs, .evr] s (State.latchSide s n hi) := by
  unfold State.latchSide
  repeat' first
    | ((with_reducible apply within_after (within_putB _ _ _)); rfl)
    | ((with_reducible apply within_after (within_bump _ _)); rfl)
    | ((with_reducible apply within_after (within_drive _ _ _)); rfl)
    | with_reducible apply within_ite'
    | with_reducible apply within_ite
    | split
    | with_reducible exact within_refl _ _
    | with_reducible assumption
    | (dsimp only; split)

theorem within_unlatchSide (s : State) (n : Nat) (hi : Bool) : Within [.regs, .evr] s (State.unlatchSide s n hi) := by
  unfold State.unlatchSide
  repeat' first
    | ((with_reducible apply within_after (within_putB _ _ _)); rfl)
    | ((with_reducible apply within_after (within_drive _ _ _)); rfl)
    | with_reducible apply within_ite
    | split
    | with_reducible exact within_refl _ _
    | with_reducible assumption
    | (dsimp only; split)

theorem within_statusClear (s : State) (n : Nat) (w : Word) : Within [.regs, .evr] s (State.statusClear s n w) := by
  unfold State.statusClear
  repeat' first
    | ((with_reducible apply within_after (within_setWord _ _ _)); rfl)
    | ((with_reducible apply within_after (within_unlatchSide _ _ _)); rfl)
    | with_reducible apply within_ite'
    | split
    | with_reducible exact within_refl _ _
    | with_reducible assumption
    | (dsimp only; split)

theorem within_chopsOf (s : State) (n : Nat) : Within [.regs, .gtp] s (State.chopsOf s n) := by
  unfold State.chopsOf
  repeat' first
    | ((with_reducible apply within_after (within_refreshChop _ _)); rfl)
    | with_reducible apply within_ite'
    | ((with_reducible apply within_forUpTo); intro _ _ _)
    | split
    | with_reducible exact within_refl _ _
    | with_reducible assumption
    | (dsimp only; split)

theorem within_sideAsserts (s : State) (n : Nat) (hi : Bool) : Within [.regs, .win, .evr, .gtp, .twn] s (State.sideAsserts s n hi) := by
  unfold State.sideAsserts
  repeat' first
    | ((with_reducible apply within_after (within_putB _ _ _)); rfl)
    | ((with_reducible apply within_after (within_setCmp _ _ _)); rfl)
    | ((with_reducible apply within_after (within_latchSide _ _ _)); rfl)
    | ((with_reducible apply within_after (within_matrixAssert _ _ _)); rfl)
    | ((with_reducible apply within_after (within_passOpened _ _)); rfl)
    | ((with_reducible apply within_after (within_chopsOf _ _)); rfl)
    | with_reducible apply within_ite
    | split
    | with_reducible exact within_refl _ _
    | with_reducible assumption
    | (dsimp only; split)

theorem within_sideDeasserts (s : State) (n : Nat) (hi : Bool) : Within [.regs, .win, .gtp] s (State.sideDeasserts s n hi) := by
  unfold State.sideDeasserts
  repeat' first
    | ((with_reducible apply within_after (within_setCmp _ _ _)); rfl)
    | ((with_reducible apply within_after (within_putB _ _ _)); rfl)
    | ((with_reducible apply within_after (within_chopsOf _ _)); rfl)
    | with_reducible apply within_ite
    | split
    | with_reducible exact within_refl _ _
    | with_reducible assumption
    | (dsimp only; split)

theorem within_sideInput (s : State) (n : Nat) (hi : Bool) (rel : Nat) : Within [.regs, .win, .evr, .gtp, .twn] s (State.sideInput s n hi rel) := by
  unfold State.sideInput
  repeat' first
    | ((with_reducible apply within_after (within_setCmp _ _ _)); rfl)
    | ((with_reducible apply within_after (within_unresolvedBit _ _)); rfl)
    | ((with_reducible apply within_after (within_sideAsserts _ _ _)); rfl)
    | ((with_reducible apply within_after (within_sideDeasserts _ _ _)); rfl)
    | ((with_reducible apply within_after (within_chopsOf _ _)); rfl)
    | with_reducible apply within_ite
    | split
    | with_reducible exact within_refl _ _
    | with_reducible assumption
    | (dsimp only; split)

theorem within_compareSide (s : State) (n : Nat) (hi : Bool) : Within [.regs, .win, .evr, .gtp, .twn] s (State.compareSide s n hi) := by
  unfold State.compareSide
  repeat' first
    | ((with_reducible apply within_after (within_sideInput _ _ _ _)); rfl)
    | ((with_reducible apply within_after (within_sideDeasserts _ _ _)); rfl)
    | with_reducible apply within_ite'
    | with_reducible apply within_ite
    | split
    | with_reducible exact within_refl _ _
    | with_reducible assumption
    | (dsimp only; split)

theorem within_compare (s : State) (n : Nat) : Within [.regs, .win, .evr, .gtp, .twn] s (State.compare s n) := by
  unfold State.compare
  repeat' first
    | ((with_reducible apply within_after (within_compareSide _ _ _)); rfl)
    | ((with_reducible apply within_after (within_unresolvedBit _ _)); rfl)
    | split
    | with_reducible exact within_refl _ _
    | with_reducible assumption
    | (dsimp only; split)

theorem within_compareAin (s : State) (a : Nat) (hi : Bool) : Within [.regs, .win, .evr, .gtp, .twn] s (State.compareAin s a hi) := by
  unfold State.compareAin
  repeat' first
    | ((with_reducible apply within_after (within_compareSide _ _ _)); rfl)
    | with_reducible apply within_ite'
    | ((with_reducible apply within_forUpTo); intro _ _ _)
    | split
    | with_reducible exact within_refl _ _
    | with_reducible assumption
    | (dsimp only; split)

theorem runs_execThresholdCrossing (a level : Nat) (s : State) : Runs [.regs, .win, .evr, .gtp, .twn, .pins] s (execThresholdCrossing a level s) := by
  unfold execThresholdCrossing
  repeat' first
    | with_reducible apply runs_when
    | with_reducible apply runs_when_of
    | with_reducible apply runs_next
    | with_reducible apply runs_ite
    | ((with_reducible apply within_after (within_compareAin _ _ _)); rfl)
    | with_reducible apply within_ite'
    | split
    | with_reducible exact within_refl _ _
    | with_reducible assumption
    | ((with_reducible apply within_upd_pins); rfl)
    | (dsimp only; split)

theorem within_blankSettle (s : State) (n : Nat) : Within [.regs, .win, .evr] s (State.blankSettle s n) := by
  unfold State.blankSettle
  repeat' first
    | ((with_reducible apply within_after (within_setCmp _ _ _)); rfl)
    | ((with_reducible apply within_after (within_latchSide _ _ _)); rfl)
    | with_reducible apply within_ite'
    | split
    | with_reducible exact within_refl _ _
    | with_reducible assumption
    | (dsimp only; split)

theorem runs_execBlankingWindowEnd (n : Nat) (s : State) : Runs [.regs, .win, .evr] s (execBlankingWindowEnd n s) := by
  unfold execBlankingWindowEnd
  repeat' first
    | with_reducible apply runs_when
    | with_reducible apply runs_when_of
    | with_reducible apply runs_next
    | with_reducible apply runs_ite
    | ((with_reducible apply within_after (within_setCmp _ _ _)); rfl)
    | ((with_reducible apply within_after (within_blankSettle _ _)); rfl)
    | with_reducible apply within_ite'
    | split
    | with_reducible exact within_refl _ _
    | with_reducible assumption
    | (dsimp only; split)

theorem within_startWindows (s : State) (sel target : Nat) : Within [.win] s (State.startWindows s sel target) := by
  unfold State.startWindows
  repeat' first
    | ((with_reducible apply within_after (within_setCmp _ _ _)); rfl)
    | with_reducible apply within_ite'
    | ((with_reducible apply within_forUpTo); intro _ _ _)
    | split
    | with_reducible exact within_refl _ _
    | with_reducible assumption
    | (dsimp only; split)

theorem within_carrierClears (s : State) (g : Nat) : Within [.regs, .evr] s (State.carrierClears s g) := by
  unfold State.carrierClears
  repeat' first
    | ((with_reducible apply within_after (within_unlatchSide _ _ _)); rfl)
    | with_reducible apply within_ite'
    | with_reducible apply within_ite
    | ((with_reducible apply within_forUpTo); intro _ _ _)
    | split
    | with_reducible exact within_refl _ _
    | with_reducible assumption
    | (dsimp only; split)

theorem runs_execDomainArm (d : Nat) (s : State) : Runs [.regs, .evr, .gtp, .twn] s (execDomainArm d s) := by
  unfold execDomainArm
  repeat' first
    | with_reducible apply runs_when
    | with_reducible apply runs_when_of
    | with_reducible apply runs_next
    | with_reducible apply runs_ite
    | ((with_reducible apply within_after (within_refreshLeg _ _)); rfl)
    | ((with_reducible apply within_after (within_putB _ _ _)); rfl)
    | ((with_reducible apply within_after (within_passOpened _ _)); rfl)
    | ((with_reducible apply within_after (within_domainTrip _ _ _ _ _ _)); rfl)
    | with_reducible apply within_ite'
    | ((with_reducible apply within_forUpTo); intro _ _ _)
    | split
    | with_reducible exact within_refl _ _
    | with_reducible assumption
    | (dsimp only; split)

theorem within_recoverDomains (s : State) : Within [.regs, .evr, .gtp, .twn] s (State.recoverDomains s) := by
  unfold State.recoverDomains
  repeat' first
    | ((with_reducible apply within_after (within_putB _ _ _)); rfl)
    | ((with_reducible apply within_after (within_refreshLeg _ _)); rfl)
    | ((with_reducible apply within_after (within_domainTrip _ _ _ _ _ _)); rfl)
    | with_reducible apply within_ite'
    | ((with_reducible apply within_forUpTo); intro _ _ _)
    | split
    | with_reducible exact within_refl _ _
    | with_reducible assumption
    | (dsimp only; split)

theorem runs_execExtTripNFall (low : Bool) (ps : Nat) (s : State) : Runs [.regs, .evr, .gtp, .twn, .pins] s (execExtTripNFall low ps s) := by
  unfold execExtTripNFall
  repeat' first
    | with_reducible apply runs_when
    | with_reducible apply runs_when_of
    | with_reducible apply runs_next
    | with_reducible apply runs_ite
    | ((with_reducible apply within_after (within_putB _ _ _)); rfl)
    | ((with_reducible apply within_after (within_drive _ _ _)); rfl)
    | ((with_reducible apply within_after (within_passOpened _ _)); rfl)
    | ((with_reducible apply within_after (within_matrixAssert _ _ _)); rfl)
    | with_reducible apply within_ite
    | split
    | with_reducible exact within_refl _ _
    | with_reducible assumption
    | ((with_reducible apply within_upd_pins); rfl)
    | (dsimp only; split)

theorem within_beginTest (s : State) (t : WinTestRun) (auto : Bool) : Within [.regs, .win] s (State.beginTest s t auto) := by
  unfold State.beginTest
  repeat' first
    | ((with_reducible apply within_after (within_putB _ _ _)); rfl)
    | ((with_reducible apply within_after (within_put _ _ _)); rfl)
    | with_reducible apply within_ite
    | split
    | with_reducible exact within_refl _ _
    | with_reducible assumption
    | ((with_reducible apply within_upd_win); rfl)
    | (dsimp only; split)

theorem within_startTest (s : State) : Within [.regs, .win] s (State.startTest s) := by
  unfold State.startTest
  repeat' first
    | ((with_reducible apply within_after (within_beginTest _ _ _)); rfl)
    | with_reducible apply within_ite
    | split
    | with_reducible exact within_refl _ _
    | with_reducible assumption
    | ((with_reducible apply within_upd_win); rfl)
    | (dsimp only; split)

theorem within_ensureTest (s : State) (t : WinTestRun) : Within [.regs, .win] s (State.ensureTest s t) := by
  unfold State.ensureTest
  repeat' first
    | ((with_reducible apply within_after (within_beginTest _ _ _)); rfl)
    | with_reducible apply within_ite
    | split
    | with_reducible exact within_refl _ _
    | with_reducible assumption
    | (dsimp only; split)

theorem within_outcomeOf (s : State) (t : WinTestRun) (r : Nat) : Within [.win] s (State.outcomeOf s t r) := by
  unfold State.outcomeOf
  repeat' first
    | with_reducible apply within_ite'
    | split
    | with_reducible exact within_refl _ _
    | with_reducible assumption
    | ((with_reducible apply within_upd_win); rfl)
    | (dsimp only; split)

theorem runs_execReadbackTest (n : Nat) (dHi dLo : Int) (vref : Nat) (s : State) : Runs [.regs, .acq, .win] s (execReadbackTest n dHi dLo vref s) := by
  unfold execReadbackTest
  repeat' first
    | with_reducible apply runs_when
    | with_reducible apply runs_when_of
    | with_reducible apply runs_next
    | with_reducible apply runs_ite
    | ((with_reducible apply within_after (within_ensureTest _ _)); rfl)
    | ((with_reducible apply within_after (within_outcomeOf _ _ _)); rfl)
    | ((with_reducible apply within_after (within_setConv _ _ _)); rfl)
    | with_reducible apply within_ite'
    | with_reducible apply within_ite
    | split
    | with_reducible exact within_refl _ _
    | with_reducible assumption
    | (dsimp only; split)

theorem runs_execTieTest (n : Nat) (hiSeen loSeen : Bool) (s : State) : Runs [.regs, .win] s (execTieTest n hiSeen loSeen s) := by
  unfold execTieTest
  repeat' first
    | with_reducible apply runs_when
    | with_reducible apply runs_when_of
    | with_reducible apply runs_next
    | with_reducible apply runs_ite
    | ((with_reducible apply within_after (within_ensureTest _ _)); rfl)
    | ((with_reducible apply within_after (within_outcomeOf _ _ _)); rfl)
    | with_reducible apply within_ite
    | split
    | with_reducible exact within_refl _ _
    | with_reducible assumption
    | (dsimp only; split)

theorem runs_execMatrixTest (src seen : Nat) (s : State) : Runs [.regs, .win, .evr, .gtp, .twn] s (execMatrixTest src seen s) := by
  unfold execMatrixTest
  repeat' first
    | with_reducible apply runs_when
    | with_reducible apply runs_when_of
    | with_reducible apply runs_next
    | with_reducible apply runs_ite
    | ((with_reducible apply within_after (within_ensureTest _ _)); rfl)
    | ((with_reducible apply within_after (within_passOpened _ _)); rfl)
    | ((with_reducible apply within_after (within_domainTrip _ _ _ _ _ _)); rfl)
    | ((with_reducible apply within_after (within_outcomeOf _ _ _)); rfl)
    | with_reducible apply within_ite'
    | with_reducible apply within_ite
    | ((with_reducible apply within_forUpTo); intro _ _ _)
    | split
    | with_reducible exact within_refl _ _
    | with_reducible assumption
    | (dsimp only; split)

theorem within_testFailed (s : State) (t : WinTestRun) : Within [.regs, .evr] s (State.testFailed s t) := by
  unfold State.testFailed
  repeat' first
    | ((with_reducible apply within_after (within_putB _ _ _)); rfl)
    | ((with_reducible apply within_after (within_put _ _ _)); rfl)
    | ((with_reducible apply within_after (within_bump _ _)); rfl)
    | ((with_reducible apply within_after (within_raise _ _)); rfl)
    | split
    | with_reducible exact within_refl _ _
    | with_reducible assumption
    | (dsimp only; split)

theorem within_endTest (s : State) (t : WinTestRun) : Within [.regs, .win, .evr, .gtp, .twn] s (State.endTest s t) := by
  unfold State.endTest
  repeat' first
    | ((with_reducible apply within_after (within_putB _ _ _)); rfl)
    | ((with_reducible apply within_after (within_blankSettle _ _)); rfl)
    | ((with_reducible apply within_after (within_compare _ _)); rfl)
    | with_reducible apply within_ite'
    | split
    | with_reducible exact within_refl _ _
    | with_reducible assumption
    | ((with_reducible apply within_upd_win); rfl)
    | (dsimp only; split)

theorem within_nextTest (s : State) (t : WinTestRun) (auto : Bool) : Within [.regs, .win] s (State.nextTest s t auto) := by
  unfold State.nextTest
  repeat' first
    | ((with_reducible apply within_after (within_beginTest _ _ _)); rfl)
    | ((with_reducible apply within_after (within_startTest _)); rfl)
    | with_reducible apply within_ite'
    | split
    | with_reducible exact within_refl _ _
    | with_reducible assumption
    | ((with_reducible apply within_upd_win); rfl)
    | (dsimp only; split)

theorem runs_execWinTestDone (s : State) : Runs [.regs, .win, .evr, .gtp, .twn] s (execWinTestDone s) := by
  unfold execWinTestDone
  repeat' first
    | with_reducible apply runs_when
    | with_reducible apply runs_when_of
    | with_reducible apply runs_next
    | with_reducible apply runs_ite
    | ((with_reducible apply within_after (within_endTest _ _)); rfl)
    | ((with_reducible apply within_after (within_put _ _ _)); rfl)
    | ((with_reducible apply within_after (within_testFailed _ _)); rfl)
    | ((with_reducible apply within_after (within_nextTest _ _ _)); rfl)
    | with_reducible apply within_ite'
    | split
    | with_reducible exact within_refl _ _
    | with_reducible assumption
    | (dsimp only; split)

theorem runs_execAutoSweepStep (s : State) : Runs [.regs, .win] s (execAutoSweepStep s) := by
  unfold execAutoSweepStep
  repeat' first
    | with_reducible apply runs_when
    | with_reducible apply runs_when_of
    | with_reducible apply runs_next
    | with_reducible apply runs_ite
    | ((with_reducible apply within_after (within_beginTest _ _ _)); rfl)
    | split
    | with_reducible exact within_refl _ _
    | with_reducible assumption
    | ((with_reducible apply within_upd_win); rfl)
    | (dsimp only; split)

theorem within_powerUpSide (s : State) (n : Nat) (hi : Bool) : Within [.regs, .win, .evr] s (State.powerUpSide s n hi) := by
  unfold State.powerUpSide
  repeat' first
    | ((with_reducible apply within_after (within_setCmp _ _ _)); rfl)
    | ((with_reducible apply within_after (within_unresolvedBit _ _)); rfl)
    | ((with_reducible apply within_after (within_putB _ _ _)); rfl)
    | ((with_reducible apply within_after (within_latchSide _ _ _)); rfl)
    | with_reducible apply within_ite'
    | with_reducible apply within_ite
    | split
    | with_reducible exact within_refl _ _
    | with_reducible assumption
    | (dsimp only; split)

theorem within_powerUpComparators (s : State) : Within [.regs, .win, .evr, .gtp] s (State.powerUpComparators s) := by
  unfold State.powerUpComparators
  repeat' first
    | ((with_reducible apply within_after (within_powerUpSide _ _ _)); rfl)
    | ((with_reducible apply within_after (within_chopsOf _ _)); rfl)
    | ((with_reducible apply within_after (within_putB _ _ _)); rfl)
    | ((with_reducible apply within_after (within_drive _ _ _)); rfl)
    | with_reducible apply within_ite'
    | ((with_reducible apply within_forUpTo); intro _ _ _)
    | split
    | with_reducible exact within_refl _ _
    | with_reducible assumption
    | (dsimp only; split)

end Sys2Proof.Laws
end

