-- ==== Sys2Proof/Laws/FrameEvr.lean ====
section
/-!
SUPPORT. What each operation of Machine/Evr.lean may change.
-/

namespace Sys2Proof.Laws

open Sys2Proof Sys2Proof.Machine

theorem within_pushEdge (s : State) (k : Nat) : Within [.regs, .seq, .obs] s (State.pushEdge s k) := by
  unfold State.pushEdge
  repeat' first
    | ((with_reducible apply within_after (within_count _ _)); rfl)
    | ((with_reducible apply within_after (within_bump _ _)); rfl)
    | with_reducible apply within_ite
    | split
    | with_reducible exact within_refl _ _
    | with_reducible assumption
    | ((with_reducible apply within_upd_seq); rfl)
    | (dsimp only; split)

theorem within_fabSend (s : State) (p : Nat) (x : FabSet) : Within [.fab] s (State.fabSend s p x) := by
  unfold State.fabSend
  repeat' first
    | split
    | with_reducible exact within_refl _ _
    | with_reducible assumption
    | ((with_reducible apply within_upd_fab); rfl)
    | (dsimp only; split)

theorem within_fabSlot (s : State) (p : Nat) : Within [.fab] s (State.fabSlot s p) := by
  unfold State.fabSlot
  repeat' first
    | split
    | with_reducible exact within_refl _ _
    | with_reducible assumption
    | ((with_reducible apply within_upd_fab); rfl)
    | (dsimp only; split)

theorem within_floodStart (s : State) : Within [.regs, .fab] s (State.floodStart s) := by
  unfold State.floodStart
  repeat' first
    | ((with_reducible apply within_after (within_bump _ _)); rfl)
    | ((with_reducible apply within_after (within_fabSend _ _ _)); rfl)
    | with_reducible apply within_ite'
    | with_reducible apply within_ite
    | ((with_reducible apply within_forUpTo); intro _ _ _)
    | split
    | with_reducible exact within_refl _ _
    | with_reducible assumption
    | ((with_reducible apply within_upd_fab); rfl)
    | (dsimp only; split)

theorem within_dstRise (s : State) (d src : Nat) : Within [.regs, .acq, .evr, .gtp, .seq, .fab, .twn, .obs] s (State.dstRise s d src) := by
  unfold State.dstRise
  repeat' first
    | ((with_reducible apply within_after (within_legFault _ _ _)); rfl)
    | ((with_reducible apply within_after (within_domainTrip _ _ _ _ _ _)); rfl)
    | ((with_reducible apply within_after (within_refreshChop _ _)); rfl)
    | ((with_reducible apply within_after (within_urgentEdge _ _)); rfl)
    | ((with_reducible apply within_after (within_putB _ _ _)); rfl)
    | ((with_reducible apply within_after (within_pushEdge _ _)); rfl)
    | ((with_reducible apply within_after (within_floodStart _)); rfl)
    | ((with_reducible apply within_after (within_crossTripSend _)); rfl)
    | with_reducible apply within_ite'
    | with_reducible apply within_ite
    | split
    | with_reducible exact within_refl _ _
    | with_reducible assumption
    | (dsimp only; split)

theorem within_dstFall (s : State) (d : Nat) : Within [.regs, .gtp] s (State.dstFall s d) := by
  unfold State.dstFall
  repeat' first
    | ((with_reducible apply within_after (within_refreshChop _ _)); rfl)
    | ((with_reducible apply within_after (within_putB _ _ _)); rfl)
    | with_reducible apply within_ite
    | split
    | with_reducible exact within_refl _ _
    | with_reducible assumption
    | (dsimp only; split)

theorem within_setDst (s : State) (d : Nat) (b : Bool) (src : Nat) : Within [.regs, .acq, .evr, .gtp, .seq, .fab, .twn, .obs] s (State.setDst s d b src) := by
  unfold State.setDst
  repeat' first
    | ((with_reducible apply within_after (within_dstRise _ _ _)); rfl)
    | ((with_reducible apply within_after (within_dstFall _ _)); rfl)
    | with_reducible apply within_ite
    | split
    | with_reducible exact within_refl _ _
    | with_reducible assumption
    | ((with_reducible apply within_upd_evr); rfl)
    | (dsimp only; split)

theorem within_deliver (s : State) (i : Nat) (old new : Bool) : Within [.regs, .acq, .evr, .gtp, .seq, .fab, .twn, .obs] s (State.deliver s i old new) := by
  unfold State.deliver
  repeat' first
    | ((with_reducible apply within_after (within_count _ _)); rfl)
    | ((with_reducible apply within_after (within_setDst _ _ _ _)); rfl)
    | with_reducible apply within_ite'
    | with_reducible apply within_ite
    | split
    | with_reducible exact within_refl _ _
    | with_reducible assumption
    | ((with_reducible apply within_upd_evr); rfl)
    | (dsimp only; split)

theorem within_routeWrite (s : State) (i : Nat) (w : Word) : Within [.regs, .evr] s (State.routeWrite s i w) := by
  unfold State.routeWrite
  repeat' first
    | ((with_reducible apply within_after (within_setWord _ _ _)); rfl)
    | split
    | with_reducible exact within_refl _ _
    | with_reducible assumption
    | ((with_reducible apply within_upd_evr); rfl)
    | (dsimp only; split)

theorem within_freshRoute (s : State) (i : Nat) : Within [.evr] s (State.freshRoute s i) := by
  unfold State.freshRoute
  repeat' first
    | with_reducible apply within_ite
    | split
    | with_reducible exact within_refl _ _
    | with_reducible assumption
    | ((with_reducible apply within_upd_evr); rfl)
    | (dsimp only; split)

theorem within_routesNow (s : State) : Within [.regs, .acq, .evr, .gtp, .seq, .fab, .twn, .obs] s (State.routesNow s) := by
  unfold State.routesNow
  repeat' first
    | ((with_reducible apply within_after (within_freshRoute _ _)); rfl)
    | ((with_reducible apply within_after (within_setDst _ _ _ _)); rfl)
    | with_reducible apply within_ite
    | ((with_reducible apply within_foldl); intro _ _ _)
    | split
    | with_reducible exact within_refl _ _
    | with_reducible assumption
    | ((with_reducible apply within_upd_evr); rfl)
    | (dsimp only; split)

theorem within_startRoutes (s : State) : Within [.evr] s (State.startRoutes s) := by
  unfold State.startRoutes
  repeat' first
    | ((with_reducible apply within_foldl); intro _ _ _)
    | split
    | with_reducible exact within_refl _ _
    | with_reducible assumption
    | ((with_reducible apply within_upd_evr); rfl)
    | (dsimp only; split)

theorem within_routeSample (s : State) (i : Nat) (old new : Bool) : Within [.regs, .acq, .evr, .gtp, .seq, .fab, .twn, .obs] s (State.routeSample s i old new) := by
  unfold State.routeSample
  repeat' first
    | ((with_reducible apply within_after (within_deliver _ _ _ _)); rfl)
    | with_reducible apply within_ite
    | split
    | with_reducible exact within_refl _ _
    | with_reducible assumption
    | ((with_reducible apply within_upd_evr); rfl)
    | (dsimp only; split)

theorem within_sampleSource (s : State) (src : Nat) : Within [.regs, .acq, .evr, .gtp, .seq, .fab, .twn, .obs] s (State.sampleSource s src) := by
  unfold State.sampleSource
  repeat' first
    | ((with_reducible apply within_after (within_routesNow _)); rfl)
    | ((with_reducible apply within_after (within_countFor _ _ _ _ _)); rfl)
    | ((with_reducible apply within_after (within_passOpened _ _)); rfl)
    | ((with_reducible apply within_after (within_routeSample _ _ _ _)); rfl)
    | with_reducible apply within_ite'
    | ((with_reducible apply within_foldl); intro _ _ _)
    | split
    | with_reducible exact within_refl _ _
    | with_reducible assumption
    | ((with_reducible apply within_upd_evr); rfl)
    | (dsimp only; split)

theorem runs_execRouteDelivery (src : Nat) (s : State) : Runs [.regs, .acq, .evr, .gtp, .seq, .fab, .twn, .obs] s (execRouteDelivery src s) := by
  unfold execRouteDelivery
  repeat' first
    | with_reducible apply runs_when
    | with_reducible apply runs_when_of
    | with_reducible apply runs_next
    | with_reducible apply runs_ite
    | ((with_reducible apply within_after (within_sampleSource _ _)); rfl)
    | split
    | with_reducible exact within_refl _ _
    | with_reducible assumption
    | (dsimp only; split)

theorem runs_execFilterExpiry (i : Nat) (s : State) : Runs [.regs, .acq, .evr, .gtp, .seq, .fab, .twn, .obs] s (execFilterExpiry i s) := by
  unfold execFilterExpiry
  repeat' first
    | with_reducible apply runs_when
    | with_reducible apply runs_when_of
    | with_reducible apply runs_next
    | with_reducible apply runs_ite
    | ((with_reducible apply within_after (within_routesNow _)); rfl)
    | ((with_reducible apply within_after (within_passOpened _ _)); rfl)
    | ((with_reducible apply within_after (within_deliver _ _ _ _)); rfl)
    | with_reducible apply within_ite'
    | split
    | with_reducible exact within_refl _ _
    | with_reducible assumption
    | ((with_reducible apply within_upd_evr); rfl)
    | (dsimp only; split)

end Sys2Proof.Laws
end

