-- ==== Sys2Proof/Laws/FrameOperands.lean ====
section
/-!
SUPPORT. What each operation of Machine/Operands.lean may change.
-/

namespace Sys2Proof.Laws

open Sys2Proof Sys2Proof.Machine

theorem within_setCtx (s : State) (c : Nat) (x : CtxS) : Within [.eng] s (State.setCtx s c x) := by
  unfold State.setCtx
  repeat' first
    | split
    | with_reducible exact within_refl _ _
    | with_reducible assumption
    | ((with_reducible apply within_upd_eng); rfl)
    | (dsimp only; split)

theorem within_setFr (s : State) (c : Nat) (f : FrameS) : Within [.eng] s (State.setFr s c f) := by
  unfold State.setFr
  repeat' first
    | ((with_reducible apply within_after (within_setCtx _ _ _)); rfl)
    | split
    | with_reducible exact within_refl _ _
    | with_reducible assumption
    | (dsimp only; split)

theorem within_setSlotW (s : State) (c j w : Nat) (v : Int) : Within [.eng] s (State.setSlotW s c j w v) := by
  unfold State.setSlotW
  repeat' first
    | ((with_reducible apply within_after (within_setFr _ _ _)); rfl)
    | split
    | with_reducible exact within_refl _ _
    | with_reducible assumption
    | (dsimp only; split)

end Sys2Proof.Laws
end

