-- ==== Sys2Proof/Laws/FrameMod.lean ====
section
/-!
SUPPORT. What each operation of Machine/Mod.lean may change.
-/

namespace Sys2Proof.Laws

open Sys2Proof Sys2Proof.Machine

theorem within_groupPending (s : State) (g : Nat) : Within [.regs] s (State.groupPending s g) := by
  unfold State.groupPending
  repeat' first
    | ((with_reducible apply within_after (within_putB _ _ _)); rfl)
    | ((with_reducible apply within_after (within_put _ _ _)); rfl)
    | split
    | with_reducible exact within_refl _ _
    | with_reducible assumption
    | (dsimp only; split)

theorem within_placeCommit (s : State) (c : Commit) : Within [.regs, .mod] s (State.placeCommit s c) := by
  unfold State.placeCommit
  repeat' first
    | ((with_reducible apply within_after (within_bump _ _)); rfl)
    | ((with_reducible apply within_after (within_setGroup _ _ _)); rfl)
    | ((with_reducible apply within_after (within_groupPending _ _)); rfl)
    | ((with_reducible apply within_after (within_setMleg _ _ _)); rfl)
    | with_reducible apply within_ite'
    | with_reducible apply within_ite
    | split
    | with_reducible exact within_refl _ _
    | with_reducible assumption
    | (dsimp only; split)

theorem runs_execCommitQueueDrain (q : Nat) (s : State) : Runs [.regs, .mod] s (execCommitQueueDrain q s) := by
  unfold execCommitQueueDrain
  repeat' first
    | with_reducible apply runs_when
    | with_reducible apply runs_when_of
    | with_reducible apply runs_next
    | with_reducible apply runs_ite
    | ((with_reducible apply within_after (within_placeCommit _ _)); rfl)
    | split
    | with_reducible exact within_refl _ _
    | with_reducible assumption
    | ((with_reducible apply within_upd_mod); rfl)
    | (dsimp only; split)

theorem within_refreshDt (s : State) (l : Nat) : Within [.regs] s (State.refreshDt s l) := by
  unfold State.refreshDt
  repeat' first
    | ((with_reducible apply within_after (within_put _ _ _)); rfl)
    | ((with_reducible apply within_after (within_putB _ _ _)); rfl)
    | ((with_reducible apply within_forUpTo); intro _ _ _)
    | split
    | with_reducible exact within_refl _ _
    | with_reducible assumption
    | (dsimp only; split)

theorem within_measured (s : State) (l sub : Nat) : Within [.regs, .mod] s (State.measured s l sub) := by
  unfold State.measured
  repeat' first
    | ((with_reducible apply within_after (within_setMleg _ _ _)); rfl)
    | ((with_reducible apply within_after (within_refreshDt _ _)); rfl)
    | with_reducible apply within_ite
    | split
    | with_reducible exact within_refl _ _
    | with_reducible assumption
    | (dsimp only; split)

theorem within_discardCrumb (s : State) (l : Nat) : Within [.regs, .mod] s (State.discardCrumb s l) := by
  unfold State.discardCrumb
  repeat' first
    | ((with_reducible apply within_after (within_setMleg _ _ _)); rfl)
    | ((with_reducible apply within_after (within_put _ _ _)); rfl)
    | ((with_reducible apply within_after (within_bump _ _)); rfl)
    | with_reducible apply within_ite'
    | split
    | with_reducible exact within_refl _ _
    | with_reducible assumption
    | (dsimp only; split)

theorem within_windowLeg (s : State) (l p on off : Nat) (swapped : Bool) : Within [.regs, .mod] s (State.windowLeg s l p on off swapped) := by
  unfold State.windowLeg
  repeat' first
    | ((with_reducible apply within_after (within_setMleg _ _ _)); rfl)
    | ((with_reducible apply within_after (within_putI _ _ _)); rfl)
    | ((with_reducible apply within_after (within_bump _ _)); rfl)
    | ((with_reducible apply within_after (within_putB _ _ _)); rfl)
    | with_reducible apply within_ite'
    | with_reducible apply within_ite
    | split
    | with_reducible exact within_refl _ _
    | with_reducible assumption
    | (dsimp only; split)

theorem within_setCmps (s : State) (l on off : Nat) : Within [.regs] s (State.setCmps s l on off) := by
  unfold State.setCmps
  repeat' first
    | ((with_reducible apply within_after (within_put _ _ _)); rfl)
    | split
    | with_reducible exact within_refl _ _
    | with_reducible assumption
    | (dsimp only; split)

theorem within_noWindow (s : State) (l : Nat) : Within [.mod] s (State.noWindow s l) := by
  unfold State.noWindow
  repeat' first
    | ((with_reducible apply within_after (within_setMleg _ _ _)); rfl)
    | split
    | with_reducible exact within_refl _ _
    | with_reducible assumption
    | (dsimp only; split)

theorem within_legWindow (s : State) (l p on off : Nat) (swapped : Bool) : Within [.regs, .mod] s (State.legWindow s l p on off swapped) := by
  unfold State.legWindow
  repeat' first
    | ((with_reducible apply within_after (within_setCmps _ _ _ _)); rfl)
    | ((with_reducible apply within_after (within_windowLeg _ _ _ _ _ _)); rfl)
    | ((with_reducible apply within_after (within_noWindow _ _)); rfl)
    | with_reducible apply within_ite
    | split
    | with_reducible exact within_refl _ _
    | with_reducible assumption
    | (dsimp only; split)

theorem within_anpcWindows (s : State) (l p : Nat) : Within [.regs, .mod] s (State.anpcWindows s l p) := by
  unfold State.anpcWindows
  repeat' first
    | ((with_reducible apply within_after (within_legWindow _ _ _ _ _ _)); rfl)
    | with_reducible apply within_ite
    | split
    | with_reducible exact within_refl _ _
    | with_reducible assumption
    | (dsimp only; split)

theorem within_wrapCompare (s : State) (l : Nat) (off : Bool) (p gen : Nat) : Within [.regs, .mod] s (State.wrapCompare s l off p gen) := by
  unfold State.wrapCompare
  repeat' first
    | ((with_reducible apply within_after (within_bumpBy _ _ _)); rfl)
    | ((with_reducible apply within_after (within_setMleg _ _ _)); rfl)
    | ((with_reducible apply within_after (within_put _ _ _)); rfl)
    | ((with_reducible apply within_after (within_bump _ _)); rfl)
    | with_reducible apply within_ite
    | split
    | with_reducible exact within_refl _ _
    | with_reducible assumption
    | (dsimp only; split)

theorem within_newPeriod (s : State) (g : Nat) (c : Commit) : Within [.regs] s (State.newPeriod s g c) := by
  unfold State.newPeriod
  repeat' first
    | ((with_reducible apply within_after (within_setWord _ _ _)); rfl)
    | ((with_reducible apply within_after (within_put _ _ _)); rfl)
    | split
    | with_reducible exact within_refl _ _
    | with_reducible assumption
    | (dsimp only; split)

theorem within_wrapPeriod (s : State) (g : Nat) : Within [.regs, .mod] s (State.wrapPeriod s g) := by
  unfold State.wrapPeriod
  repeat' first
    | ((with_reducible apply within_after (within_bumpBy _ _ _)); rfl)
    | ((with_reducible apply within_after (within_setGroup _ _ _)); rfl)
    | ((with_reducible apply within_after (within_put _ _ _)); rfl)
    | ((with_reducible apply within_after (within_newPeriod _ _ _)); rfl)
    | ((with_reducible apply within_after (within_bump _ _)); rfl)
    | ((with_reducible apply within_after (within_groupPending _ _)); rfl)
    | with_reducible apply within_ite
    | split
    | with_reducible exact within_refl _ _
    | with_reducible assumption
    | (dsimp only; split)

theorem within_sampleBin (s : State) (l : Nat) : Within [.regs, .mod] s (State.sampleBin s l) := by
  unfold State.sampleBin
  repeat' first
    | ((with_reducible apply within_after (within_setMleg _ _ _)); rfl)
    | ((with_reducible apply within_after (within_refreshDt _ _)); rfl)
    | split
    | with_reducible exact within_refl _ _
    | with_reducible assumption
    | (dsimp only; split)

theorem within_wrapLeg (s : State) (g l : Nat) : Within [.regs, .evr, .mod] s (State.wrapLeg s g l) := by
  unfold State.wrapLeg
  repeat' first
    | ((with_reducible apply within_after (within_sampleBin _ _)); rfl)
    | ((with_reducible apply within_after (within_driveComposite _ _)); rfl)
    | ((with_reducible apply within_after (within_wrapCompare _ _ _ _ _)); rfl)
    | ((with_reducible apply within_after (within_anpcWindows _ _ _)); rfl)
    | ((with_reducible apply within_after (within_legWindow _ _ _ _ _ _)); rfl)
    | with_reducible apply within_ite
    | split
    | with_reducible exact within_refl _ _
    | with_reducible assumption
    | (dsimp only; split)

theorem within_edgeDone (s : State) (l : Nat) (toH : Bool) : Within [.evr, .mod, .gtp] s (State.edgeDone s l toH) := by
  unfold State.edgeDone
  repeat' first
    | ((with_reducible apply within_after (within_setMleg _ _ _)); rfl)
    | ((with_reducible apply within_after (within_portOn _ _ _)); rfl)
    | split
    | with_reducible exact within_refl _ _
    | with_reducible assumption
    | (dsimp only; split)

theorem within_showFb (s : State) (port : Nat) (b : Bool) : Within [.regs, .gtp] s (State.showFb s port b) := by
  unfold State.showFb
  repeat' first
    | ((with_reducible apply within_after (within_putB _ _ _)); rfl)
    | with_reducible apply within_ite'
    | split
    | with_reducible exact within_refl _ _
    | with_reducible assumption
    | ((with_reducible apply within_upd_gtp); rfl)
    | (dsimp only; split)

theorem within_fbRises (s : State) (port : Nat) : Within [.gtp] s (State.fbRises s port) := by
  unfold State.fbRises
  repeat' first
    | ((with_reducible apply within_after (within_setGleg _ _ _)); rfl)
    | with_reducible apply within_ite
    | split
    | with_reducible exact within_refl _ _
    | with_reducible assumption
    | (dsimp only; split)

theorem within_fbFalls (s : State) (port sub : Nat) : Within [.regs, .evr, .mod, .gtp] s (State.fbFalls s port sub) := by
  unfold State.fbFalls
  repeat' first
    | ((with_reducible apply within_after (within_measured _ _ _)); rfl)
    | ((with_reducible apply within_after (within_edgeDone _ _ _)); rfl)
    | with_reducible apply within_ite'
    | split
    | with_reducible exact within_refl _ _
    | with_reducible assumption
    | (dsimp only; split)

theorem within_senseFb (s : State) (port sub : Nat) : Within [.regs, .evr, .mod, .gtp] s (State.senseFb s port sub) := by
  unfold State.senseFb
  repeat' first
    | ((with_reducible apply within_after (within_showFb _ _ _)); rfl)
    | ((with_reducible apply within_after (within_fbRises _ _)); rfl)
    | ((with_reducible apply within_after (within_fbFalls _ _ _)); rfl)
    | with_reducible apply within_ite
    | split
    | with_reducible exact within_refl _ _
    | with_reducible assumption
    | (dsimp only; split)

theorem within_senseNode (s : State) (l sub : Nat) : Within [.regs, .mod, .gtp] s (State.senseNode s l sub) := by
  unfold State.senseNode
  repeat' first
    | ((with_reducible apply within_after (within_putB _ _ _)); rfl)
    | ((with_reducible apply within_after (within_measured _ _ _)); rfl)
    | ((with_reducible apply within_after (within_setGleg _ _ _)); rfl)
    | with_reducible apply within_ite
    | split
    | with_reducible exact within_refl _ _
    | with_reducible assumption
    | (dsimp only; split)

theorem within_senseStart (s : State) : Within [.regs, .gtp] s (State.senseStart s) := by
  unfold State.senseStart
  repeat' first
    | ((with_reducible apply within_after (within_putB _ _ _)); rfl)
    | ((with_reducible apply within_after (within_showFb _ _ _)); rfl)
    | ((with_reducible apply within_forUpTo); intro _ _ _)
    | split
    | with_reducible exact within_refl _ _
    | with_reducible assumption
    | (dsimp only; split)

theorem runs_execFbComparatorChange (port level sub : Nat) (s : State) : Runs [.regs, .evr, .mod, .gtp, .pins] s (execFbComparatorChange port level sub s) := by
  unfold execFbComparatorChange
  repeat' first
    | with_reducible apply runs_when
    | with_reducible apply runs_when_of
    | with_reducible apply runs_next
    | with_reducible apply runs_ite
    | ((with_reducible apply within_after (within_senseFb _ _ _)); rfl)
    | with_reducible apply within_ite'
    | split
    | with_reducible exact within_refl _ _
    | with_reducible assumption
    | ((with_reducible apply within_upd_pins); rfl)
    | (dsimp only; split)

theorem runs_execNodeComparatorChange (l level sub : Nat) (s : State) : Runs [.regs, .mod, .gtp, .pins] s (execNodeComparatorChange l level sub s) := by
  unfold execNodeComparatorChange
  repeat' first
    | with_reducible apply runs_when
    | with_reducible apply runs_when_of
    | with_reducible apply runs_next
    | with_reducible apply runs_ite
    | ((with_reducible apply within_after (within_senseNode _ _ _)); rfl)
    | with_reducible apply within_ite'
    | split
    | with_reducible exact within_refl _ _
    | with_reducible assumption
    | ((with_reducible apply within_upd_pins); rfl)
    | (dsimp only; split)

theorem within_legPatched (s old : State) (a : Nat) : Within [.regs, .evr, .mod, .gtp, .twn] s (State.legPatched s old a) := by
  unfold State.legPatched
  repeat' first
    | ((with_reducible apply within_after (within_setMleg _ _ _)); rfl)
    | ((with_reducible apply within_after (within_noWindow _ _)); rfl)
    | ((with_reducible apply within_after (within_portOff _ _ _)); rfl)
    | ((with_reducible apply within_after (within_refreshDt _ _)); rfl)
    | ((with_reducible apply within_after (within_driveComposite _ _)); rfl)
    | ((with_reducible apply within_after (within_putB _ _ _)); rfl)
    | ((with_reducible apply within_after (within_bump _ _)); rfl)
    | ((with_reducible apply within_after (within_setGleg _ _ _)); rfl)
    | ((with_reducible apply within_after (within_passOpened _ _)); rfl)
    | ((with_reducible apply within_after (within_uvloResponse _ _)); rfl)
    | ((with_reducible apply within_after (within_refreshLeg _ _)); rfl)
    | ((with_reducible apply within_after (within_senseNode _ _ _)); rfl)
    | ((with_reducible apply within_after (within_senseFb _ _ _)); rfl)
    | with_reducible apply within_ite'
    | with_reducible apply within_ite
    | split
    | with_reducible exact within_refl _ _
    | with_reducible assumption
    | (dsimp only; split)

theorem within_applyPatch (s : State) (p : Patch) : Within [.regs, .evr, .mod, .gtp, .twn] s (State.applyPatch s p) := by
  unfold State.applyPatch
  repeat' first
    | ((with_reducible apply within_after (within_setWord _ _ _)); rfl)
    | ((with_reducible apply within_after (within_legPatched _ _ _)); rfl)
    | split
    | with_reducible exact within_refl _ _
    | with_reducible assumption
    | (dsimp only; split)

theorem within_wrapSources (s : State) (g : Nat) : Within [.frm] s (State.wrapSources s g) := by
  unfold State.wrapSources
  repeat' first
    | with_reducible apply within_ite
    | ((with_reducible apply within_forUpTo); intro _ _ _)
    | split
    | with_reducible exact within_refl _ _
    | with_reducible assumption
    | ((with_reducible apply within_upd_frm); rfl)
    | (dsimp only; split)

theorem within_takeTaps (s : State) (g : Nat) : Within [.regs, .mod] s (State.takeTaps s g) := by
  unfold State.takeTaps
  repeat' first
    | ((with_reducible apply within_after (within_put _ _ _)); rfl)
    | ((with_reducible apply within_after (within_putB _ _ _)); rfl)
    | ((with_reducible apply within_after (within_bump _ _)); rfl)
    | ((with_reducible apply within_after (within_setGroup _ _ _)); rfl)
    | split
    | with_reducible exact within_refl _ _
    | with_reducible assumption
    | ((with_reducible apply within_upd_mod); rfl)
    | (dsimp only; split)

theorem within_tapsAll (s : State) : Within [.mod] s (State.tapsAll s) := by
  unfold State.tapsAll
  repeat' first
    | ((with_reducible apply within_after (within_setGroup _ _ _)); rfl)
    | ((with_reducible apply within_forUpTo); intro _ _ _)
    | split
    | with_reducible exact within_refl _ _
    | with_reducible assumption
    | (dsimp only; split)

theorem within_refreshCal (s : State) : Within [.regs] s (State.refreshCal s) := by
  unfold State.refreshCal
  repeat' first
    | ((with_reducible apply within_after (within_putB _ _ _)); rfl)
    | split
    | with_reducible exact within_refl _ _
    | with_reducible assumption
    | (dsimp only; split)

theorem within_carrierTick (s : State) (g : Nat) : Within [.regs, .frm, .mod] s (State.carrierTick s g) := by
  unfold State.carrierTick
  repeat' first
    | ((with_reducible apply within_after (within_put _ _ _)); rfl)
    | ((with_reducible apply within_after (within_setGroup _ _ _)); rfl)
    | ((with_reducible apply within_after (within_wrapSources _ _)); rfl)
    | with_reducible apply within_ite
    | split
    | with_reducible exact within_refl _ _
    | with_reducible assumption
    | (dsimp only; split)

theorem within_leaveAtWrap (s : State) (g : Nat) : Within [.regs, .evr, .gtp] s (State.leaveAtWrap s g) := by
  unfold State.leaveAtWrap
  repeat' first
    | ((with_reducible apply within_after (within_leaveLeg _ _)); rfl)
    | ((with_reducible apply within_after (within_safeShown _)); rfl)
    | with_reducible apply within_ite'
    | ((with_reducible apply within_forUpTo); intro _ _ _)
    | split
    | with_reducible exact within_refl _ _
    | with_reducible assumption
    | (dsimp only; split)

theorem within_lengthenBy (s : State) (g old : Nat) : Within [.regs, .mod] s (State.lengthenBy s g old) := by
  unfold State.lengthenBy
  repeat' first
    | ((with_reducible apply within_after (within_setGroup _ _ _)); rfl)
    | ((with_reducible apply within_after (within_bump _ _)); rfl)
    | with_reducible apply within_ite'
    | split
    | with_reducible exact within_refl _ _
    | with_reducible assumption
    | (dsimp only; split)

theorem within_carrierWrap (s : State) (g : Nat) : Within [.regs, .win, .evr, .mod, .gtp, .twn] s (State.carrierWrap s g) := by
  unfold State.carrierWrap
  repeat' first
    | ((with_reducible apply within_after (within_setGroup _ _ _)); rfl)
    | ((with_reducible apply within_after (within_takeTaps _ _)); rfl)
    | ((with_reducible apply within_after (within_applyPatch _ _)); rfl)
    | ((with_reducible apply within_after (within_leaveAtWrap _ _)); rfl)
    | ((with_reducible apply within_after (within_discardCrumb _ _)); rfl)
    | ((with_reducible apply within_after (within_wrapLeg _ _ _)); rfl)
    | ((with_reducible apply within_after (within_wrapPeriod _ _)); rfl)
    | ((with_reducible apply within_after (within_lengthenBy _ _ _)); rfl)
    | ((with_reducible apply within_after (within_refreshCal _)); rfl)
    | ((with_reducible apply within_after (within_passOpened _ _)); rfl)
    | ((with_reducible apply within_after (within_carrierClears _ _)); rfl)
    | ((with_reducible apply within_after (within_startWindows _ _ _)); rfl)
    | with_reducible apply within_ite'
    | ((with_reducible apply within_forUpTo); intro _ _ _)
    | ((with_reducible apply within_foldl); intro _ _ _)
    | split
    | with_reducible exact within_refl _ _
    | with_reducible assumption
    | (dsimp only; split)

theorem within_startCarriers (s : State) : Within [.regs, .mod] s (State.startCarriers s) := by
  unfold State.startCarriers
  repeat' first
    | ((with_reducible apply within_after (within_put _ _ _)); rfl)
    | ((with_reducible apply within_after (within_setGroup _ _ _)); rfl)
    | ((with_reducible apply within_after (within_setMleg _ _ _)); rfl)
    | with_reducible apply within_ite'
    | with_reducible apply within_ite
    | ((with_reducible apply within_forUpTo); intro _ _ _)
    | split
    | with_reducible exact within_refl _ _
    | with_reducible assumption
    | (dsimp only; split)

theorem within_commandEdge (s : State) (l : Nat) (toH : Bool) : Within [.regs, .win, .evr, .mod, .gtp] s (State.commandEdge s l toH) := by
  unfold State.commandEdge
  repeat' first
    | ((with_reducible apply within_after (within_faultClear _ _)); rfl)
    | ((with_reducible apply within_after (within_setGleg _ _ _)); rfl)
    | ((with_reducible apply within_after (within_putB _ _ _)); rfl)
    | ((with_reducible apply within_after (within_portOff _ _ _)); rfl)
    | ((with_reducible apply within_after (within_setMleg _ _ _)); rfl)
    | ((with_reducible apply within_after (within_startWindows _ _ _)); rfl)
    | with_reducible apply within_ite'
    | with_reducible apply within_ite
    | split
    | with_reducible exact within_refl _ _
    | with_reducible assumption
    | (dsimp only; split)

theorem runs_execCommandEdge (l : Nat) (toH : Bool) (s : State) : Runs [.regs, .win, .evr, .mod, .gtp] s (execCommandEdge l toH s) := by
  unfold execCommandEdge
  repeat' first
    | with_reducible apply runs_when
    | with_reducible apply runs_when_of
    | with_reducible apply runs_next
    | with_reducible apply runs_ite
    | ((with_reducible apply within_after (within_commandEdge _ _ _)); rfl)
    | split
    | with_reducible exact within_refl _ _
    | with_reducible assumption
    | (dsimp only; split)

theorem runs_execDeadTimeExpiry (l : Nat) (s : State) : Runs [.evr, .mod, .gtp] s (execDeadTimeExpiry l s) := by
  unfold execDeadTimeExpiry
  repeat' first
    | with_reducible apply runs_when
    | with_reducible apply runs_when_of
    | with_reducible apply runs_next
    | with_reducible apply runs_ite
    | ((with_reducible apply within_after (within_setMleg _ _ _)); rfl)
    | ((with_reducible apply within_after (within_edgeDone _ _ _)); rfl)
    | with_reducible apply within_ite
    | split
    | with_reducible exact within_refl _ _
    | with_reducible assumption
    | (dsimp only; split)

theorem runs_execInterlockTimeout (l : Nat) (s : State) : Runs [.regs, .evr, .mod] s (execInterlockTimeout l s) := by
  unfold execInterlockTimeout
  repeat' first
    | with_reducible apply runs_when
    | with_reducible apply runs_when_of
    | with_reducible apply runs_next
    | with_reducible apply runs_ite
    | ((with_reducible apply within_after (within_setMleg _ _ _)); rfl)
    | ((with_reducible apply within_after (within_raise _ _)); rfl)
    | ((with_reducible apply within_after (within_putB _ _ _)); rfl)
    | split
    | with_reducible exact within_refl _ _
    | with_reducible assumption
    | (dsimp only; split)

theorem runs_execCalibrationMeasurement (taps : Nat) (s : State) : Runs [.regs, .mod] s (execCalibrationMeasurement taps s) := by
  unfold execCalibrationMeasurement
  repeat' first
    | with_reducible apply runs_when
    | with_reducible apply runs_when_of
    | with_reducible apply runs_next
    | with_reducible apply runs_ite
    | ((with_reducible apply within_after (within_refreshCal _)); rfl)
    | with_reducible apply within_ite
    | ((with_reducible apply within_foldl); intro _ _ _)
    | split
    | with_reducible exact within_refl _ _
    | with_reducible assumption
    | ((with_reducible apply within_upd_mod); rfl)
    | (dsimp only; split)

theorem within_modClockStop (s : State) : Within [.regs, .evr, .gtp, .twn] s (State.modClockStop s) := by
  unfold State.modClockStop
  repeat' first
    | ((with_reducible apply within_after (within_putB _ _ _)); rfl)
    | ((with_reducible apply within_after (within_openGates _)); rfl)
    | ((with_reducible apply within_after (within_safeState _)); rfl)
    | split
    | with_reducible exact within_refl _ _
    | with_reducible assumption
    | (dsimp only; split)

theorem runs_execModClockStop (s : State) : Runs [.regs, .evr, .gtp, .twn] s (execModClockStop s) := by
  unfold execModClockStop
  repeat' first
    | with_reducible apply runs_when
    | with_reducible apply runs_when_of
    | with_reducible apply runs_next
    | with_reducible apply runs_ite
    | ((with_reducible apply within_after (within_modClockStop _)); rfl)
    | split
    | with_reducible exact within_refl _ _
    | with_reducible assumption
    | (dsimp only; split)

theorem within_dropCrumbs (s : State) : Within [.mod] s (State.dropCrumbs s) := by
  unfold State.dropCrumbs
  repeat' first
    | ((with_reducible apply within_after (within_setMleg _ _ _)); rfl)
    | with_reducible apply within_ite
    | ((with_reducible apply within_forUpTo); intro _ _ _)
    | split
    | with_reducible exact within_refl _ _
    | with_reducible assumption
    | (dsimp only; split)

theorem within_edgeResumes (s : State) (l : Nat) : Within [.evr, .mod, .gtp] s (State.edgeResumes s l) := by
  unfold State.edgeResumes
  repeat' first
    | ((with_reducible apply within_after (within_edgeDone _ _ _)); rfl)
    | with_reducible apply within_ite'
    | split
    | with_reducible exact within_refl _ _
    | with_reducible assumption
    | (dsimp only; split)

theorem within_modAfterHop (s : State) : Within [.regs, .evr, .mod, .gtp] s (State.modAfterHop s) := by
  unfold State.modAfterHop
  repeat' first
    | ((with_reducible apply within_after (within_put _ _ _)); rfl)
    | ((with_reducible apply within_after (within_putB _ _ _)); rfl)
    | ((with_reducible apply within_after (within_tapsAll _)); rfl)
    | ((with_reducible apply within_after (within_setMleg _ _ _)); rfl)
    | ((with_reducible apply within_after (within_refreshDt _ _)); rfl)
    | ((with_reducible apply within_after (within_edgeResumes _ _)); rfl)
    | ((with_reducible apply within_after (within_refreshCal _)); rfl)
    | ((with_reducible apply within_after (within_dropCrumbs _)); rfl)
    | ((with_reducible apply within_forUpTo); intro _ _ _)
    | split
    | with_reducible exact within_refl _ _
    | with_reducible assumption
    | ((with_reducible apply within_upd_mod); rfl)
    | (dsimp only; split)

theorem within_modStart (s : State) : Within [.regs, .mod, .free] s (State.modStart s) := by
  unfold State.modStart
  repeat' first
    | ((with_reducible apply within_after (within_burn _)); rfl)
    | ((with_reducible apply within_after (within_put _ _ _)); rfl)
    | ((with_reducible apply within_after (within_putB _ _ _)); rfl)
    | ((with_reducible apply within_after (within_tapsAll _)); rfl)
    | ((with_reducible apply within_after (within_refreshDt _ _)); rfl)
    | ((with_reducible apply within_after (within_refreshCal _)); rfl)
    | with_reducible apply within_ite
    | ((with_reducible apply within_forUpTo); intro _ _ _)
    | split
    | with_reducible exact within_refl _ _
    | with_reducible assumption
    | ((with_reducible apply within_upd_mod); rfl)
    | (dsimp only; split)

end Sys2Proof.Laws
end

