-- ==== Sys2Proof/Laws/FrameClock.lean ====
section
/-!
SUPPORT. What each operation of Machine/Clock.lean may change.
-/

namespace Sys2Proof.Laws

open Sys2Proof Sys2Proof.Machine

theorem within_setSyn (s : State) (i : Nat) (x : SynS) : Within [.clk] s (State.setSyn s i x) := by
  unfold State.setSyn
  repeat' first
    | split
    | with_reducible exact within_refl _ _
    | with_reducible assumption
    | ((with_reducible apply within_upd_clk); rfl)
    | (dsimp only; split)

theorem within_loseLock (s : State) (i : Nat) : Within [.regs, .clk, .evr] s (State.loseLock s i) := by
  unfold State.loseLock
  repeat' first
    | ((with_reducible apply within_after (within_putB _ _ _)); rfl)
    | ((with_reducible apply within_after (within_raise _ _)); rfl)
    | ((with_reducible apply within_after (within_setSyn _ _ _)); rfl)
    | split
    | with_reducible exact within_refl _ _
    | with_reducible assumption
    | (dsimp only; split)

theorem runs_execLockWindowEnd (i c : Nat) (s : State) : Runs [.regs, .clk, .evr] s (execLockWindowEnd i c s) := by
  unfold execLockWindowEnd
  repeat' first
    | with_reducible apply runs_when
    | with_reducible apply runs_when_of
    | with_reducible apply runs_next
    | with_reducible apply runs_ite
    | ((with_reducible apply within_after (within_loseLock _ _)); rfl)
    | ((with_reducible apply within_after (within_setSyn _ _ _)); rfl)
    | ((with_reducible apply within_after (within_putB _ _ _)); rfl)
    | with_reducible apply within_ite'
    | with_reducible apply within_ite
    | split
    | with_reducible exact within_refl _ _
    | with_reducible assumption
    | (dsimp only; split)

theorem within_refLost (s : State) (r : Nat) : Within [.regs, .clk, .evr] s (State.refLost s r) := by
  unfold State.refLost
  repeat' first
    | ((with_reducible apply within_after (within_put _ _ _)); rfl)
    | ((with_reducible apply within_after (within_putB _ _ _)); rfl)
    | ((with_reducible apply within_after (within_raise _ _)); rfl)
    | ((with_reducible apply within_after (within_setSyn _ _ _)); rfl)
    | with_reducible apply within_ite'
    | ((with_reducible apply within_forUpTo); intro _ _ _)
    | split
    | with_reducible exact within_refl _ _
    | with_reducible assumption
    | (dsimp only; split)

theorem runs_execReferenceLoss (r : Nat) (s : State) : Runs [.regs, .clk, .evr] s (execReferenceLoss r s) := by
  unfold execReferenceLoss
  repeat' first
    | with_reducible apply runs_when
    | with_reducible apply runs_when_of
    | with_reducible apply runs_next
    | with_reducible apply runs_ite
    | ((with_reducible apply within_after (within_refLost _ _)); rfl)
    | split
    | with_reducible exact within_refl _ _
    | with_reducible assumption
    | (dsimp only; split)

theorem runs_execReferenceReturn (r : Nat) (s : State) : Runs [.regs, .clk] s (execReferenceReturn r s) := by
  unfold execReferenceReturn
  repeat' first
    | with_reducible apply runs_when
    | with_reducible apply runs_when_of
    | with_reducible apply runs_next
    | with_reducible apply runs_ite
    | ((with_reducible apply within_after (within_put _ _ _)); rfl)
    | ((with_reducible apply within_after (within_setSyn _ _ _)); rfl)
    | ((with_reducible apply within_after (within_putB _ _ _)); rfl)
    | with_reducible apply within_ite'
    | ((with_reducible apply within_forUpTo); intro _ _ _)
    | split
    | with_reducible exact within_refl _ _
    | with_reducible assumption
    | (dsimp only; split)

theorem within_hopBusy (s : State) : Within [.regs] s (State.hopBusy s) := by
  unfold State.hopBusy
  repeat' first
    | ((with_reducible apply within_after (within_putB _ _ _)); rfl)
    | split
    | with_reducible exact within_refl _ _
    | with_reducible assumption
    | (dsimp only; split)

theorem within_hopNull (s : State) : Within [.regs] s (State.hopNull s) := by
  unfold State.hopNull
  repeat' first
    | ((with_reducible apply within_after (within_bump _ _)); rfl)
    | split
    | with_reducible exact within_refl _ _
    | with_reducible assumption
    | (dsimp only; split)

theorem within_hopRequest (s : State) (i p : Nat) (atTime : Bool) : Within [.regs, .clk] s (State.hopRequest s i p atTime) := by
  unfold State.hopRequest
  repeat' first
    | ((with_reducible apply within_after (within_hopNull _)); rfl)
    | ((with_reducible apply within_after (within_setSyn _ _ _)); rfl)
    | ((with_reducible apply within_after (within_hopBusy _)); rfl)
    | ((with_reducible apply within_after (within_bump _ _)); rfl)
    | with_reducible apply within_ite'
    | with_reducible apply within_ite
    | split
    | with_reducible exact within_refl _ _
    | with_reducible assumption
    | (dsimp only; split)

theorem runs_execHopRequestM (p : Nat) (atTime : Bool) (s : State) : Runs [.regs, .clk] s (execHopRequestM p atTime s) := by
  unfold execHopRequestM
  repeat' first
    | with_reducible apply runs_when
    | with_reducible apply runs_when_of
    | with_reducible apply runs_next
    | with_reducible apply runs_ite
    | ((with_reducible apply within_after (within_hopRequest _ _ _ _)); rfl)
    | split
    | with_reducible exact within_refl _ _
    | with_reducible assumption
    | (dsimp only; split)

theorem runs_execHopRequestE (p : Nat) (atTime : Bool) (s : State) : Runs [.regs, .clk] s (execHopRequestE p atTime s) := by
  unfold execHopRequestE
  repeat' first
    | with_reducible apply runs_when
    | with_reducible apply runs_when_of
    | with_reducible apply runs_next
    | with_reducible apply runs_ite
    | ((with_reducible apply within_after (within_hopRequest _ _ _ _)); rfl)
    | split
    | with_reducible exact within_refl _ _
    | with_reducible assumption
    | (dsimp only; split)

theorem runs_execHopInstant (i : Nat) (s : State) : Runs [.regs, .clk, .evr, .gtp, .gov, .twn] s (execHopInstant i s) := by
  unfold execHopInstant
  repeat' first
    | with_reducible apply runs_when
    | with_reducible apply runs_when_of
    | with_reducible apply runs_next
    | with_reducible apply runs_ite
    | ((with_reducible apply within_after (within_setSyn _ _ _)); rfl)
    | ((with_reducible apply within_after (within_putB _ _ _)); rfl)
    | ((with_reducible apply within_after (within_hopBusy _)); rfl)
    | ((with_reducible apply within_after (within_openGates _)); rfl)
    | with_reducible apply within_ite'
    | with_reducible apply within_ite
    | split
    | with_reducible exact within_refl _ _
    | with_reducible assumption
    | ((with_reducible apply within_upd_gov); rfl)
    | (dsimp only; split)

theorem within_syncExec (s : State) (i : Nat) : Within [.regs, .clk, .evr] s (State.syncExec s i) := by
  unfold State.syncExec
  repeat' first
    | ((with_reducible apply within_after (within_put _ _ _)); rfl)
    | ((with_reducible apply within_after (within_setSyn _ _ _)); rfl)
    | ((with_reducible apply within_after (within_raise _ _)); rfl)
    | split
    | with_reducible exact within_refl _ _
    | with_reducible assumption
    | (dsimp only; split)

theorem within_hopRelease (s : State) (i : Nat) : Within [.regs, .clk, .evr, .mod, .gtp, .obs] s (State.hopRelease s i) := by
  unfold State.hopRelease
  repeat' first
    | ((with_reducible apply within_after (within_setSyn _ _ _)); rfl)
    | ((with_reducible apply within_after (within_hopNull _)); rfl)
    | ((with_reducible apply within_after (within_put _ _ _)); rfl)
    | ((with_reducible apply within_after (within_modAfterHop _)); rfl)
    | ((with_reducible apply within_after (within_syncExec _ _)); rfl)
    | ((with_reducible apply within_after (within_count _ _)); rfl)
    | ((with_reducible apply within_after (within_hopBusy _)); rfl)
    | with_reducible apply within_ite'
    | with_reducible apply within_ite
    | split
    | with_reducible exact within_refl _ _
    | with_reducible assumption
    | (dsimp only; split)

theorem runs_execHopDone (i : Nat) (s : State) : Runs [.regs, .clk, .evr, .mod, .gtp, .obs] s (execHopDone i s) := by
  unfold execHopDone
  repeat' first
    | with_reducible apply runs_when
    | with_reducible apply runs_when_of
    | with_reducible apply runs_next
    | with_reducible apply runs_ite
    | ((with_reducible apply within_after (within_hopRelease _ _)); rfl)
    | ((with_reducible apply within_after (within_bump _ _)); rfl)
    | ((with_reducible apply within_after (within_raise _ _)); rfl)
    | split
    | with_reducible exact within_refl _ _
    | with_reducible assumption
    | (dsimp only; split)

theorem runs_execHopFail (i : Nat) (s : State) : Runs [.regs, .clk, .evr, .mod, .gtp, .obs] s (execHopFail i s) := by
  unfold execHopFail
  repeat' first
    | with_reducible apply runs_when
    | with_reducible apply runs_when_of
    | with_reducible apply runs_next
    | with_reducible apply runs_ite
    | ((with_reducible apply within_after (within_hopRelease _ _)); rfl)
    | ((with_reducible apply within_after (within_putB _ _ _)); rfl)
    | ((with_reducible apply within_after (within_raise _ _)); rfl)
    | ((with_reducible apply within_after (within_loseLock _ _)); rfl)
    | split
    | with_reducible exact within_refl _ _
    | with_reducible assumption
    | (dsimp only; split)

theorem within_syncArm (s : State) (w : Word) : Within [.regs, .clk] s (State.syncArm s w) := by
  unfold State.syncArm
  repeat' first
    | ((with_reducible apply within_after (within_setWord _ _ _)); rfl)
    | split
    | with_reducible exact within_refl _ _
    | with_reducible assumption
    | ((with_reducible apply within_upd_clk); rfl)
    | (dsimp only; split)

theorem runs_execSyncArm (w : Word) (s : State) : Runs [.regs, .clk] s (execSyncArm w s) := by
  unfold execSyncArm
  repeat' first
    | with_reducible apply runs_when
    | with_reducible apply runs_when_of
    | with_reducible apply runs_next
    | with_reducible apply runs_ite
    | ((with_reducible apply within_after (within_syncArm _ _)); rfl)
    | split
    | with_reducible exact within_refl _ _
    | with_reducible assumption
    | (dsimp only; split)

theorem within_syncEvent (s : State) (mark : Bool) (time : Nat) : Within [.regs, .clk, .evr] s (State.syncEvent s mark time) := by
  unfold State.syncEvent
  repeat' first
    | ((with_reducible apply within_after (within_setSyn _ _ _)); rfl)
    | ((with_reducible apply within_after (within_syncExec _ _)); rfl)
    | with_reducible apply within_ite
    | ((with_reducible apply within_forUpTo); intro _ _ _)
    | split
    | with_reducible exact within_refl _ _
    | with_reducible assumption
    | (dsimp only; split)

theorem runs_execSyncEvent (mark : Bool) (time : Nat) (s : State) : Runs [.regs, .clk, .evr] s (execSyncEvent mark time s) := by
  unfold execSyncEvent
  repeat' first
    | with_reducible apply runs_when
    | with_reducible apply runs_when_of
    | with_reducible apply runs_next
    | with_reducible apply runs_ite
    | ((with_reducible apply within_after (within_syncEvent _ _ _)); rfl)
    | split
    | with_reducible exact within_refl _ _
    | with_reducible assumption
    | (dsimp only; split)

end Sys2Proof.Laws
end

