-- ==== Sys2Proof/Laws/FrameFlags.lean ====
section
/-!
SUPPORT. What each operation of Machine/Flags.lean may change.
-/

namespace Sys2Proof.Laws

open Sys2Proof Sys2Proof.Machine

theorem within_satFlag (s : State) (c : Nat) : Within [.regs] s (State.satFlag s c) := by
  unfold State.satFlag
  repeat' first
    | ((with_reducible apply within_after (within_putB _ _ _)); rfl)
    | split
    | with_reducible exact within_refl _ _
    | with_reducible assumption
    | (dsimp only; split)

theorem within_opFault (s : State) (c : Nat) : Within [.regs] s (State.opFault s c) := by
  unfold State.opFault
  repeat' first
    | ((with_reducible apply within_after (within_putB _ _ _)); rfl)
    | ((with_reducible apply within_after (within_bump _ _)); rfl)
    | split
    | with_reducible exact within_refl _ _
    | with_reducible assumption
    | (dsimp only; split)

theorem within_ownFault (s : State) (c : Nat) : Within [.regs] s (State.ownFault s c) := by
  unfold State.ownFault
  repeat' first
    | ((with_reducible apply within_after (within_putB _ _ _)); rfl)
    | ((with_reducible apply within_after (within_bump _ _)); rfl)
    | split
    | with_reducible exact within_refl _ _
    | with_reducible assumption
    | (dsimp only; split)

theorem within_satIf (s : State) (c : Nat) (v : Int) : Within [.regs] s (State.satIf s c v) := by
  unfold State.satIf
  repeat' first
    | ((with_reducible apply within_after (within_satFlag _ _)); rfl)
    | with_reducible apply within_ite'
    | split
    | with_reducible exact within_refl _ _
    | with_reducible assumption
    | (dsimp only; split)

theorem within_readAll (s : State) (c : Nat) (sigs : List Nat) : Within [.regs] s (State.readAll s c sigs) := by
  unfold State.readAll
  repeat' first
    | ((with_reducible apply within_after (within_opFault _ _)); rfl)
    | with_reducible apply within_ite'
    | ((with_reducible apply within_foldl); intro _ _ _)
    | split
    | with_reducible exact within_refl _ _
    | with_reducible assumption
    | (dsimp only; split)

theorem within_wr (s : State) (c dst : Nat) (v : Int) : Within [.regs, .evr, .eng] s (State.wr s c dst v) := by
  unfold State.wr
  repeat' first
    | ((with_reducible apply within_after (within_satIf _ _ _)); rfl)
    | ((with_reducible apply within_after (within_setFr _ _ _)); rfl)
    | ((with_reducible apply within_after (within_ownFault _ _)); rfl)
    | ((with_reducible apply within_after (within_raise _ _)); rfl)
    | with_reducible apply within_ite
    | split
    | with_reducible exact within_refl _ _
    | with_reducible assumption
    | (dsimp only; split)

end Sys2Proof.Laws
end

