-- ==== Sys2Proof/Laws/FrameRecord.lean ====
section
/-!
SUPPORT. What each operation of Machine/Record.lean may change.
-/

namespace Sys2Proof.Laws

open Sys2Proof Sys2Proof.Machine

theorem within_obsPutUnits (s : State) (b : List Byte) (k : Nat) : Within [.regs, .ram] s (State.obsPutUnits s b k) := by
  induction k generalizing s b with
  | zero =>
    unfold State.obsPutUnits
    repeat' first
      | ((with_reducible apply within_after (within_setBytes _ _ _)); rfl)
      | ((with_reducible apply within_after (within_put _ _ _)); rfl)
      | split
      | with_reducible exact within_refl _ _
      | with_reducible assumption
      | (dsimp only; split)
  | succ n ih =>
    unfold State.obsPutUnits
    repeat' first
      | ((with_reducible apply within_after (ih _ _)); rfl)
      | ((with_reducible apply within_after (within_setBytes _ _ _)); rfl)
      | ((with_reducible apply within_after (within_put _ _ _)); rfl)
      | split
      | with_reducible exact within_refl _ _
      | with_reducible assumption
      | (dsimp only; split)

theorem within_obsStore (s : State) (b : List Byte) : Within [.regs, .ram, .obs] s (State.obsStore s b) := by
  unfold State.obsStore
  repeat' first
    | ((with_reducible apply within_after (within_obsPutUnits _ _ _)); rfl)
    | ((with_reducible apply within_after (within_count _ _)); rfl)
    | split
    | with_reducible exact within_refl _ _
    | with_reducible assumption
    | (dsimp only; split)

theorem within_q26Flag (s : State) : Within [.regs] s (State.q26Flag s) := by
  unfold State.q26Flag
  repeat' first
    | ((with_reducible apply within_after (within_putB _ _ _)); rfl)
    | split
    | with_reducible exact within_refl _ _
    | with_reducible assumption
    | (dsimp only; split)

theorem within_obsTake (s : State) (b : List Byte) : Within [.regs, .ram, .obs] s (State.obsTake s b).1 := by
  unfold State.obsTake
  repeat' first
    | ((with_reducible apply within_after (within_countN _ _ _)); rfl)
    | ((with_reducible apply within_after (within_obsStore _ _)); rfl)
    | ((with_reducible apply within_after (within_q26Flag _)); rfl)
    | with_reducible apply within_ite
    | with_reducible apply within_ite_fst
    | split
    | with_reducible exact within_refl _ _
    | with_reducible assumption
    | ((with_reducible apply within_upd_obs); rfl)
    | (dsimp only; split)

theorem within_q26Drain (s : State) (k : Nat) : Within [.regs, .ram, .obs] s (State.q26Drain s k) := by
  induction k generalizing s with
  | zero =>
    unfold State.q26Drain
    repeat' first
      | ((with_reducible apply within_after (within_obsStore _ _)); rfl)
      | ((with_reducible apply within_after (within_q26Flag _)); rfl)
      | with_reducible apply within_ite
      | split
      | with_reducible exact within_refl _ _
      | with_reducible assumption
      | ((with_reducible apply within_upd_obs); rfl)
      | (dsimp only; split)
  | succ n ih =>
    unfold State.q26Drain
    repeat' first
      | ((with_reducible apply within_after (ih _)); rfl)
      | ((with_reducible apply within_after (within_obsStore _ _)); rfl)
      | ((with_reducible apply within_after (within_q26Flag _)); rfl)
      | with_reducible apply within_ite
      | split
      | with_reducible exact within_refl _ _
      | with_reducible assumption
      | ((with_reducible apply within_upd_obs); rfl)
      | (dsimp only; split)

theorem within_record (s : State) (ty subj flags idx : Nat) (payload : List Byte) : Within [.regs, .ram, .obs, .free] s (State.record s ty subj flags idx payload) := by
  unfold State.record
  repeat' first
    | ((with_reducible apply within_after (within_burn _)); rfl)
    | ((with_reducible apply within_after (within_bump _ _)); rfl)
    | ((with_reducible apply within_after (within_count _ _)); rfl)
    | ((with_reducible apply within_after (within_obsTake _ _)); rfl)
    | ((with_reducible apply within_after (within_countN _ _ _)); rfl)
    | with_reducible apply within_ite
    | ((with_reducible apply within_foldl); intro _ _ _)
    | split
    | with_reducible exact within_refl _ _
    | with_reducible assumption
    | ((with_reducible apply within_upd_obs); rfl)
    | (dsimp only; split)

theorem within_coverBreak (s : State) (c k idx plan : Nat) : Within [.regs, .ram, .obs, .free] s (State.coverBreak s c k idx plan) := by
  unfold State.coverBreak
  repeat' first
    | ((with_reducible apply within_after (within_record _ _ _ _ _ _)); rfl)
    | with_reducible apply within_ite
    | split
    | with_reducible exact within_refl _ _
    | with_reducible assumption
    | ((with_reducible apply within_upd_obs); rfl)
    | (dsimp only; split)

theorem within_psStore (s : State) (e p : Nat) : Within [.regs, .obs] s (State.psStore s e p).1 := by
  unfold State.psStore
  repeat' first
    | ((with_reducible apply within_after (within_setWord64 _ _ _)); rfl)
    | ((with_reducible apply within_after (within_put _ _ _)); rfl)
    | ((with_reducible apply within_after (within_bump _ _)); rfl)
    | ((with_reducible apply within_after (within_count _ _)); rfl)
    | with_reducible apply within_ite
    | with_reducible apply within_ite_fst
    | split
    | with_reducible exact within_refl _ _
    | with_reducible assumption
    | ((with_reducible apply within_upd_obs); rfl)
    | (dsimp only; split)

theorem within_psRetire (s : State) (c e p : Nat) : Within [.regs, .obs] s (State.psRetire s c e p).1 := by
  unfold State.psRetire
  repeat' first
    | ((with_reducible apply within_after (within_count _ _)); rfl)
    | ((with_reducible apply within_after (within_psStore _ _ _)); rfl)
    | with_reducible apply within_ite
    | with_reducible apply within_ite_fst
    | split
    | with_reducible exact within_refl _ _
    | with_reducible assumption
    | ((with_reducible apply within_upd_obs); rfl)
    | (dsimp only; split)

theorem within_psOverrun (s : State) (c idx : Nat) (places : List Nat) : Within [.regs] s (State.psOverrun s c idx places) := by
  unfold State.psOverrun
  repeat' first
    | ((with_reducible apply within_after (within_setWord64 _ _ _)); rfl)
    | with_reducible apply within_ite
    | ((with_reducible apply within_foldl); intro _ _ _)
    | split
    | with_reducible exact within_refl _ _
    | with_reducible assumption
    | (dsimp only; split)

theorem within_obsTakeSnap (s : State) : Within [.regs] s (State.obsTakeSnap s) := by
  unfold State.obsTakeSnap
  repeat' first
    | ((with_reducible apply within_after (within_put _ _ _)); rfl)
    | ((with_reducible apply within_after (within_bumpWrap _ _)); rfl)
    | ((with_reducible apply within_after (within_putB _ _ _)); rfl)
    | ((with_reducible apply within_forUpTo); intro _ _ _)
    | split
    | with_reducible exact within_refl _ _
    | with_reducible assumption
    | (dsimp only; split)

theorem within_laneCycles (s : State) (c lane ctx n : Nat) : Within [.obs] s (State.laneCycles s c lane ctx n) := by
  unfold State.laneCycles
  repeat' first
    | ((with_reducible apply within_after (within_countFor _ _ _ _ _)); rfl)
    | with_reducible apply within_ite'
    | with_reducible apply within_ite
    | split
    | with_reducible exact within_refl _ _
    | with_reducible assumption
    | ((with_reducible apply within_upd_obs); rfl)
    | (dsimp only; split)

end Sys2Proof.Laws
end

