-- ==== Sys2Proof/Laws/FrameEngine.lean ====
section
/-!
SUPPORT. What each operation of Machine/Engine.lean may change.
-/

namespace Sys2Proof.Laws

open Sys2Proof Sys2Proof.Machine

theorem within_heal (s : State) (k : Nat) : Within [.eng] s (State.heal s k) := by
  unfold State.heal
  repeat' first
    | split
    | with_reducible exact within_refl _ _
    | with_reducible assumption
    | ((with_reducible apply within_upd_eng); rfl)
    | (dsimp only; split)

theorem within_eccSingle (s : State) (k : Nat) (lane : Bool) : Within [.regs, .eng, .obs] s (State.eccSingle s k lane) := by
  unfold State.eccSingle
  repeat' first
    | ((with_reducible apply within_after (within_bump _ _)); rfl)
    | ((with_reducible apply within_after (within_count _ _)); rfl)
    | ((with_reducible apply within_after (within_putB _ _ _)); rfl)
    | with_reducible apply within_ite'
    | with_reducible apply within_ite
    | split
    | with_reducible exact within_refl _ _
    | with_reducible assumption
    | ((with_reducible apply within_upd_eng); rfl)
    | (dsimp only; split)

theorem within_corrupt (s : State) (k : Nat) : Within [.regs, .eng, .free] s (State.corrupt s k) := by
  unfold State.corrupt
  repeat' first
    | ((with_reducible apply within_after (within_setWord64 _ _ _)); rfl)
    | ((with_reducible apply within_after (within_burn _)); rfl)
    | ((with_reducible apply within_after (within_setWord _ _ _)); rfl)
    | ((with_reducible apply within_after (within_setFr _ _ _)); rfl)
    | with_reducible apply within_ite
    | split
    | with_reducible exact within_refl _ _
    | with_reducible assumption
    | (dsimp only; split)

theorem within_eccDouble (s : State) (k : Nat) : Within [.regs, .evr, .eng, .obs, .free] s (State.eccDouble s k) := by
  unfold State.eccDouble
  repeat' first
    | ((with_reducible apply within_after (within_corrupt _ _)); rfl)
    | ((with_reducible apply within_after (within_put _ _ _)); rfl)
    | ((with_reducible apply within_after (within_bump _ _)); rfl)
    | ((with_reducible apply within_after (within_raise _ _)); rfl)
    | ((with_reducible apply within_after (within_count _ _)); rfl)
    | split
    | with_reducible exact within_refl _ _
    | with_reducible assumption
    | ((with_reducible apply within_upd_eng); rfl)
    | (dsimp only; split)

theorem within_eccCover (s : State) (own : Nat → Bool) : Within [.regs, .ram, .obs, .free] s (State.eccCover s own) := by
  unfold State.eccCover
  repeat' first
    | ((with_reducible apply within_after (within_coverBreak _ _ _ _ _)); rfl)
    | with_reducible apply within_ite'
    | ((with_reducible apply within_forUpTo); intro _ _ _)
    | split
    | with_reducible exact within_refl _ _
    | with_reducible assumption
    | (dsimp only; split)

theorem within_obsRamEcc (s : State) (i err : Nat) : Within [.regs, .ram, .obs, .free] s (State.obsRamEcc s i err) := by
  unfold State.obsRamEcc
  repeat' first
    | ((with_reducible apply within_after (within_count _ _)); rfl)
    | ((with_reducible apply within_after (within_setBytes _ _ _)); rfl)
    | ((with_reducible apply within_after (within_burn _)); rfl)
    | ((with_reducible apply within_after (within_putB _ _ _)); rfl)
    | with_reducible apply within_ite
    | split
    | with_reducible exact within_refl _ _
    | with_reducible assumption
    | (dsimp only; split)

theorem runs_execScrubRead (store err : Nat) (s : State) : Runs [.regs, .ram, .evr, .eng, .obs, .free] s (execScrubRead store err s) := by
  unfold execScrubRead
  repeat' first
    | with_reducible apply runs_when
    | with_reducible apply runs_when_of
    | with_reducible apply runs_next
    | with_reducible apply runs_ite
    | ((with_reducible apply within_after (within_obsRamEcc _ _ _)); rfl)
    | ((with_reducible apply within_after (within_eccSingle _ _ _)); rfl)
    | ((with_reducible apply within_after (within_eccDouble _ _)); rfl)
    | ((with_reducible apply within_after (within_eccCover _ _)); rfl)
    | with_reducible apply within_ite
    | split
    | with_reducible exact within_refl _ _
    | with_reducible assumption
    | ((with_reducible apply within_upd_eng); rfl)
    | (dsimp only; split)

theorem runs_execEccWriteBack (s : State) : Runs [.eng] s (execEccWriteBack s) := by
  unfold execEccWriteBack
  repeat' first
    | with_reducible apply runs_when
    | with_reducible apply runs_when_of
    | with_reducible apply runs_next
    | with_reducible apply runs_ite
    | split
    | with_reducible exact within_refl _ _
    | with_reducible assumption
    | ((with_reducible apply within_upd_eng); rfl)
    | (dsimp only; split)

theorem within_setLane (s : State) (l : Nat) (b : Bool) : Within [.regs] s (State.setLane s l b) := by
  unfold State.setLane
  repeat' first
    | ((with_reducible apply within_after (within_put _ _ _)); rfl)
    | split
    | with_reducible exact within_refl _ _
    | with_reducible assumption
    | (dsimp only; split)

theorem within_readyCount (s : State) : Within [.regs] s (State.readyCount s) := by
  unfold State.readyCount
  repeat' first
    | ((with_reducible apply within_after (within_put _ _ _)); rfl)
    | split
    | with_reducible exact within_refl _ _
    | with_reducible assumption
    | (dsimp only; split)

theorem runs_execContextReady (c : Nat) (s : State) : Runs [.regs, .eng] s (execContextReady c s) := by
  unfold execContextReady
  repeat' first
    | with_reducible apply runs_when
    | with_reducible apply runs_when_of
    | with_reducible apply runs_next
    | with_reducible apply runs_ite
    | ((with_reducible apply within_after (within_setFr _ _ _)); rfl)
    | ((with_reducible apply within_after (within_readyCount _)); rfl)
    | split
    | with_reducible exact within_refl _ _
    | with_reducible assumption
    | (dsimp only; split)

theorem within_schShow (s : State) (i : Nat) (x : SchF) : Within [.regs] s (State.schShow s i x) := by
  unfold State.schShow
  repeat' first
    | ((with_reducible apply within_after (within_put _ _ _)); rfl)
    | ((with_reducible apply within_after (within_bump _ _)); rfl)
    | with_reducible apply within_ite'
    | split
    | with_reducible exact within_refl _ _
    | with_reducible assumption
    | (dsimp only; split)

theorem within_schCommit (s : State) (c k : Nat) : Within [.regs, .eng] s (State.schCommit s c k) := by
  unfold State.schCommit
  repeat' first
    | ((with_reducible apply within_after (within_put _ _ _)); rfl)
    | ((with_reducible apply within_after (within_putB _ _ _)); rfl)
    | ((with_reducible apply within_after (within_bump _ _)); rfl)
    | with_reducible apply within_ite'
    | with_reducible apply within_ite
    | split
    | with_reducible exact within_refl _ _
    | with_reducible assumption
    | ((with_reducible apply within_upd_eng); rfl)
    | (dsimp only; split)

theorem within_schDrain (s : State) (i : Nat) : Within [.regs, .eng] s (State.schDrain s i) := by
  unfold State.schDrain
  repeat' first
    | ((with_reducible apply within_after (within_put _ _ _)); rfl)
    | ((with_reducible apply within_after (within_putB _ _ _)); rfl)
    | split
    | with_reducible exact within_refl _ _
    | with_reducible assumption
    | ((with_reducible apply within_upd_eng); rfl)
    | (dsimp only; split)

theorem within_leaveLane (s : State) (c : Nat) : Within [.regs] s (State.leaveLane s c) := by
  unfold State.leaveLane
  repeat' first
    | ((with_reducible apply within_after (within_setLane _ _ _)); rfl)
    | ((with_reducible apply within_after (within_putB _ _ _)); rfl)
    | with_reducible apply within_ite'
    | split
    | with_reducible exact within_refl _ _
    | with_reducible assumption
    | (dsimp only; split)

theorem within_trackNow (s : State) (c : Nat) : Within [.regs, .eng] s (State.trackNow s c) := by
  unfold State.trackNow
  repeat' first
    | ((with_reducible apply within_after (within_setWord _ _ _)); rfl)
    | ((with_reducible apply within_after (within_setFr _ _ _)); rfl)
    | ((with_reducible apply within_foldl); intro _ _ _)
    | split
    | with_reducible exact within_refl _ _
    | with_reducible assumption
    | (dsimp only; split)

theorem within_dropFrame (s : State) (c : Nat) (ph : Phase) : Within [.regs, .eng] s (State.dropFrame s c ph) := by
  unfold State.dropFrame
  repeat' first
    | ((with_reducible apply within_after (within_psOverrun _ _ _ _)); rfl)
    | ((with_reducible apply within_after (within_leaveLane _ _)); rfl)
    | ((with_reducible apply within_after (within_trackNow _ _)); rfl)
    | ((with_reducible apply within_after (within_setFr _ _ _)); rfl)
    | ((with_reducible apply within_after (within_readyCount _)); rfl)
    | split
    | with_reducible exact within_refl _ _
    | with_reducible assumption
    | (dsimp only; split)

theorem within_discardFrame (s : State) (c : Nat) (ph : Phase) : Within [.regs, .eng, .obs] s (State.discardFrame s c ph) := by
  unfold State.discardFrame
  repeat' first
    | ((with_reducible apply within_after (within_dropFrame _ _ _)); rfl)
    | ((with_reducible apply within_after (within_laneCycles _ _ _ _ _)); rfl)
    | split
    | with_reducible exact within_refl _ _
    | with_reducible assumption
    | (dsimp only; split)

theorem within_contextFault (s : State) (c : Nat) : Within [.regs, .ram, .evr, .eng, .obs, .free] s (State.contextFault s c) := by
  unfold State.contextFault
  repeat' first
    | ((with_reducible apply within_after (within_discardFrame _ _ _)); rfl)
    | ((with_reducible apply within_after (within_bump _ _)); rfl)
    | ((with_reducible apply within_after (within_raise _ _)); rfl)
    | ((with_reducible apply within_after (within_coverBreak _ _ _ _ _)); rfl)
    | split
    | with_reducible exact within_refl _ _
    | with_reducible assumption
    | (dsimp only; split)

theorem within_startOn (s : State) (c l : Nat) : Within [.regs, .eng, .obs] s (State.startOn s c l) := by
  unfold State.startOn
  repeat' first
    | ((with_reducible apply within_after (within_setLane _ _ _)); rfl)
    | ((with_reducible apply within_after (within_putB _ _ _)); rfl)
    | ((with_reducible apply within_after (within_laneCycles _ _ _ _ _)); rfl)
    | ((with_reducible apply within_after (within_schShow _ _ _)); rfl)
    | ((with_reducible apply within_after (within_setFr _ _ _)); rfl)
    | ((with_reducible apply within_after (within_readyCount _)); rfl)
    | ((with_reducible apply within_foldl); intro _ _ _)
    | split
    | with_reducible exact within_refl _ _
    | with_reducible assumption
    | (dsimp only; split)

theorem runs_execContextDispatch (c : Nat) (s : State) : Runs [.regs, .eng, .obs] s (execContextDispatch c s) := by
  unfold execContextDispatch
  repeat' first
    | with_reducible apply runs_when
    | with_reducible apply runs_when_of
    | with_reducible apply runs_next
    | with_reducible apply runs_ite
    | ((with_reducible apply within_after (within_startOn _ _ _)); rfl)
    | split
    | with_reducible exact within_refl _ _
    | with_reducible assumption
    | (dsimp only; split)

theorem within_setGrp (s : State) (g : Nat) (x : GrpS) : Within [.eng] s (State.setGrp s g x) := by
  unfold State.setGrp
  repeat' first
    | split
    | with_reducible exact within_refl _ _
    | with_reducible assumption
    | ((with_reducible apply within_upd_eng); rfl)
    | (dsimp only; split)

theorem within_trackInto (s : State) (c k : Nat) (w : Word) : Within [.regs, .eng] s (State.trackInto s c k w) := by
  unfold State.trackInto
  repeat' first
    | ((with_reducible apply within_after (within_setFr _ _ _)); rfl)
    | ((with_reducible apply within_after (within_setWord _ _ _)); rfl)
    | with_reducible apply within_ite
    | split
    | with_reducible exact within_refl _ _
    | with_reducible assumption
    | (dsimp only; split)

theorem within_groupTrack (s : State) (g : Nat) (x : GrpFrame) (out : Int) : Within [.regs, .eng] s (State.groupTrack s g x out) := by
  unfold State.groupTrack
  repeat' first
    | ((with_reducible apply within_after (within_trackInto _ _ _ _)); rfl)
    | with_reducible apply within_ite'
    | ((with_reducible apply within_foldl); intro _ _ _)
    | split
    | with_reducible exact within_refl _ _
    | with_reducible assumption
    | (dsimp only; split)

theorem within_closeFrame (s : State) (g : Nat) (x : GrpFrame) : Within [.eng] s (State.closeFrame s g x) := by
  unfold State.closeFrame
  repeat' first
    | ((with_reducible apply within_after (within_setGrp _ _ _)); rfl)
    | split
    | with_reducible exact within_refl _ _
    | with_reducible assumption
    | (dsimp only; split)

theorem within_sendMirror (s : State) (m : TwinMsg) : Within [.regs, .twn, .obs] s (State.sendMirror s m) := by
  unfold State.sendMirror
  repeat' first
    | ((with_reducible apply within_after (within_count _ _)); rfl)
    | ((with_reducible apply within_after (within_bump _ _)); rfl)
    | with_reducible apply within_ite
    | split
    | with_reducible exact within_refl _ _
    | with_reducible assumption
    | ((with_reducible apply within_upd_twn); rfl)
    | (dsimp only; split)

theorem within_groupMirror (s : State) (g idx : Nat) (w : Word) : Within [.regs, .twn, .obs] s (State.groupMirror s g idx w) := by
  unfold State.groupMirror
  repeat' first
    | ((with_reducible apply within_after (within_sendMirror _ _)); rfl)
    | with_reducible apply within_ite'
    | split
    | with_reducible exact within_refl _ _
    | with_reducible assumption
    | (dsimp only; split)

theorem within_groupResolve (s : State) (g : Nat) (x : GrpFrame) : Within [.regs, .eng, .twn, .obs] s (State.groupResolve s g x) := by
  unfold State.groupResolve
  repeat' first
    | ((with_reducible apply within_after (within_closeFrame _ _ _)); rfl)
    | ((with_reducible apply within_after (within_putB _ _ _)); rfl)
    | ((with_reducible apply within_after (within_bump _ _)); rfl)
    | ((with_reducible apply within_after (within_put _ _ _)); rfl)
    | ((with_reducible apply within_after (within_putI _ _ _)); rfl)
    | ((with_reducible apply within_after (within_setGrp _ _ _)); rfl)
    | ((with_reducible apply within_after (within_groupTrack _ _ _ _)); rfl)
    | ((with_reducible apply within_after (within_groupMirror _ _ _ _)); rfl)
    | with_reducible apply within_ite'
    | ((with_reducible apply within_foldl); intro _ _ _)
    | split
    | with_reducible exact within_refl _ _
    | with_reducible assumption
    | (dsimp only; split)

theorem within_groupFail (s : State) (g : Nat) (x : GrpFrame) : Within [.regs, .evr, .eng] s (State.groupFail s g x) := by
  unfold State.groupFail
  repeat' first
    | ((with_reducible apply within_after (within_closeFrame _ _ _)); rfl)
    | ((with_reducible apply within_after (within_putB _ _ _)); rfl)
    | ((with_reducible apply within_after (within_bump _ _)); rfl)
    | ((with_reducible apply within_after (within_raise _ _)); rfl)
    | split
    | with_reducible exact within_refl _ _
    | with_reducible assumption
    | (dsimp only; split)

theorem within_putFrame (s : State) (g : Nat) (x : GrpFrame) : Within [.eng] s (State.putFrame s g x) := by
  unfold State.putFrame
  repeat' first
    | ((with_reducible apply within_after (within_setGrp _ _ _)); rfl)
    | with_reducible apply within_ite
    | split
    | with_reducible exact within_refl _ _
    | with_reducible assumption
    | (dsimp only; split)

theorem within_groupMember (s : State) (c : Nat) (ms : List (Nat × Int)) : Within [.regs, .eng, .twn, .obs] s (State.groupMember s c ms) := by
  unfold State.groupMember
  repeat' first
    | ((with_reducible apply within_after (within_groupResolve _ _ _)); rfl)
    | ((with_reducible apply within_after (within_putFrame _ _ _)); rfl)
    | with_reducible apply within_ite
    | split
    | with_reducible exact within_refl _ _
    | with_reducible assumption
    | (dsimp only; split)

theorem within_groupPoint (s : State) (c : Nat) (done : Bool) : Within [.regs, .evr, .eng] s (State.groupPoint s c done) := by
  unfold State.groupPoint
  repeat' first
    | ((with_reducible apply within_after (within_groupFail _ _ _)); rfl)
    | with_reducible apply within_ite'
    | split
    | with_reducible exact within_refl _ _
    | with_reducible assumption
    | (dsimp only; split)

theorem within_resolveEmpty (s : State) (g t : Nat) : Within [.regs, .eng, .twn, .obs] s (State.resolveEmpty s g t) := by
  unfold State.resolveEmpty
  repeat' first
    | ((with_reducible apply within_after (within_groupResolve _ _ _)); rfl)
    | ((with_reducible apply within_foldl); intro _ _ _)
    | split
    | with_reducible exact within_refl _ _
    | with_reducible assumption
    | (dsimp only; split)

theorem within_pushOuts (s : State) (c : Nat) : Within [.mod, .obs] s (State.pushOuts s c) := by
  unfold State.pushOuts
  repeat' first
    | ((with_reducible apply within_after (within_count _ _)); rfl)
    | ((with_reducible apply within_foldl); intro _ _ _)
    | split
    | with_reducible exact within_refl _ _
    | with_reducible assumption
    | ((with_reducible apply within_upd_mod); rfl)
    | (dsimp only; split)

theorem within_commitValues (s : State) (c : Nat) : Within [.regs, .eng] s (State.commitValues s c) := by
  unfold State.commitValues
  repeat' first
    | ((with_reducible apply within_after (within_setCtx _ _ _)); rfl)
    | ((with_reducible apply within_after (within_setWord _ _ _)); rfl)
    | ((with_reducible apply within_after (within_trackNow _ _)); rfl)
    | ((with_reducible apply within_after (within_schCommit _ _ _)); rfl)
    | ((with_reducible apply within_after (within_put _ _ _)); rfl)
    | ((with_reducible apply within_forUpTo); intro _ _ _)
    | ((with_reducible apply within_foldl); intro _ _ _)
    | split
    | with_reducible exact within_refl _ _
    | with_reducible assumption
    | (dsimp only; split)

theorem within_doCommit (s : State) (c : Nat) : Within [.regs, .ram, .eng, .mod, .twn, .obs, .free] s (State.doCommit s c) := by
  unfold State.doCommit
  repeat' first
    | ((with_reducible apply within_after (within_record _ _ _ _ _ _)); rfl)
    | ((with_reducible apply within_after (within_laneCycles _ _ _ _ _)); rfl)
    | ((with_reducible apply within_after (within_pushOuts _ _)); rfl)
    | ((with_reducible apply within_after (within_commitValues _ _)); rfl)
    | ((with_reducible apply within_after (within_countN _ _ _)); rfl)
    | ((with_reducible apply within_after (within_leaveLane _ _)); rfl)
    | ((with_reducible apply within_after (within_put _ _ _)); rfl)
    | ((with_reducible apply within_after (within_count _ _)); rfl)
    | ((with_reducible apply within_after (within_setFr _ _ _)); rfl)
    | ((with_reducible apply within_after (within_groupMember _ _ _)); rfl)
    | ((with_reducible apply within_after (within_putB _ _ _)); rfl)
    | with_reducible apply within_ite'
    | with_reducible apply within_ite
    | split
    | with_reducible exact within_refl _ _
    | with_reducible assumption
    | ((with_reducible apply within_upd_twn); rfl)
    | ((with_reducible apply within_upd_obs); rfl)
    | (dsimp only; split)

theorem within_tryCommit (s : State) (c : Nat) : Within [.regs, .ram, .eng, .mod, .twn, .obs, .free] s (State.tryCommit s c) := by
  unfold State.tryCommit
  repeat' first
    | ((with_reducible apply within_after (within_doCommit _ _)); rfl)
    | ((with_reducible apply within_after (within_setFr _ _ _)); rfl)
    | ((with_reducible apply within_after (within_count _ _)); rfl)
    | ((with_reducible apply within_after (within_bump _ _)); rfl)
    | with_reducible apply within_ite'
    | with_reducible apply within_ite
    | ((with_reducible apply within_foldl); intro _ _ _)
    | split
    | with_reducible exact within_refl _ _
    | with_reducible assumption
    | (dsimp only; split)

theorem runs_execContextCommit (c : Nat) (s : State) : Runs [.regs, .ram, .eng, .mod, .twn, .obs, .free] s (execContextCommit c s) := by
  unfold execContextCommit
  repeat' first
    | with_reducible apply runs_when
    | with_reducible apply runs_when_of
    | with_reducible apply runs_next
    | with_reducible apply runs_ite
    | ((with_reducible apply within_after (within_tryCommit _ _)); rfl)
    | split
    | with_reducible exact within_refl _ _
    | with_reducible assumption
    | (dsimp only; split)

theorem runs_execCommitQueueRoom (c : Nat) (s : State) : Runs [.regs, .ram, .eng, .mod, .twn, .obs, .free] s (execCommitQueueRoom c s) := by
  unfold execCommitQueueRoom
  repeat' first
    | with_reducible apply runs_when
    | with_reducible apply runs_when_of
    | with_reducible apply runs_next
    | with_reducible apply runs_ite
    | ((with_reducible apply within_after (within_tryCommit _ _)); rfl)
    | split
    | with_reducible exact within_refl _ _
    | with_reducible assumption
    | (dsimp only; split)

theorem within_passWaits (s : State) (n : Nat) : Within [.eng, .obs] s (State.passWaits s n) := by
  unfold State.passWaits
  repeat' first
    | ((with_reducible apply within_after (within_laneCycles _ _ _ _ _)); rfl)
    | ((with_reducible apply within_after (within_setFr _ _ _)); rfl)
    | with_reducible apply within_ite
    | ((with_reducible apply within_forUpTo); intro _ _ _)
    | split
    | with_reducible exact within_refl _ _
    | with_reducible assumption
    | (dsimp only; split)

theorem within_evtLines (s : State) (c : Nat) : Within [.evr, .eng] s (State.evtLines s c) := by
  unfold State.evtLines
  repeat' first
    | ((with_reducible apply within_after (within_drive _ _ _)); rfl)
    | with_reducible apply within_ite'
    | with_reducible apply within_ite
    | ((with_reducible apply within_forUpTo); intro _ _ _)
    | split
    | with_reducible exact within_refl _ _
    | with_reducible assumption
    | ((with_reducible apply within_upd_eng); rfl)
    | (dsimp only; split)

theorem within_degradeRequest (s : State) (c : Nat) : Within [.eng] s (State.degradeRequest s c) := by
  unfold State.degradeRequest
  repeat' first
    | with_reducible apply within_ite
    | split
    | with_reducible exact within_refl _ _
    | with_reducible assumption
    | ((with_reducible apply within_upd_eng); rfl)
    | (dsimp only; split)

theorem within_degradeEnds (s : State) (f : Nat → Bool) : Within [.eng] s (State.degradeEnds s f) := by
  unfold State.degradeEnds
  repeat' first
    | split
    | with_reducible exact within_refl _ _
    | with_reducible assumption
    | ((with_reducible apply within_upd_eng); rfl)
    | (dsimp only; split)

theorem within_overrun (s : State) (c : Nat) : Within [.regs, .ram, .evr, .eng, .obs, .free] s (State.overrun s c) := by
  unfold State.overrun
  repeat' first
    | ((with_reducible apply within_after (within_discardFrame _ _ _)); rfl)
    | ((with_reducible apply within_after (within_bump _ _)); rfl)
    | ((with_reducible apply within_after (within_count _ _)); rfl)
    | ((with_reducible apply within_after (within_raise _ _)); rfl)
    | ((with_reducible apply within_after (within_coverBreak _ _ _ _ _)); rfl)
    | ((with_reducible apply within_after (within_degradeRequest _ _)); rfl)
    | with_reducible apply within_ite'
    | split
    | with_reducible exact within_refl _ _
    | with_reducible assumption
    | (dsimp only; split)

theorem within_commitPoint (s : State) (c : Nat) : Within [.regs, .ram, .evr, .eng, .obs, .free] s (State.commitPoint s c) := by
  unfold State.commitPoint
  repeat' first
    | ((with_reducible apply within_after (within_raise _ _)); rfl)
    | ((with_reducible apply within_after (within_evtLines _ _)); rfl)
    | ((with_reducible apply within_after (within_discardFrame _ _ _)); rfl)
    | ((with_reducible apply within_after (within_overrun _ _)); rfl)
    | ((with_reducible apply within_after (within_degradeRequest _ _)); rfl)
    | ((with_reducible apply within_after (within_setFr _ _ _)); rfl)
    | ((with_reducible apply within_after (within_groupPoint _ _ _)); rfl)
    | with_reducible apply within_ite
    | ((with_reducible apply within_foldl); intro _ _ _)
    | split
    | with_reducible exact within_refl _ _
    | with_reducible assumption
    | ((with_reducible apply within_upd_obs); rfl)
    | (dsimp only; split)

theorem runs_execCommitPoint (c : Nat) (s : State) : Runs [.regs, .ram, .evr, .eng, .twn, .obs, .free] s (execCommitPoint c s) := by
  unfold execCommitPoint
  repeat' first
    | with_reducible apply runs_when
    | with_reducible apply runs_when_of
    | with_reducible apply runs_next
    | with_reducible apply runs_ite
    | ((with_reducible apply within_after (within_commitPoint _ _)); rfl)
    | ((with_reducible apply within_after (within_resolveEmpty _ _ _)); rfl)
    | with_reducible apply within_ite'
    | split
    | with_reducible exact within_refl _ _
    | with_reducible assumption
    | (dsimp only; split)

theorem within_enableWrite (s : State) (c : Nat) (b : Bool) : Within [.regs] s (State.enableWrite s c b) := by
  unfold State.enableWrite
  repeat' first
    | ((with_reducible apply within_after (within_putB _ _ _)); rfl)
    | with_reducible apply within_ite'
    | with_reducible apply within_ite
    | split
    | with_reducible exact within_refl _ _
    | with_reducible assumption
    | (dsimp only; split)

theorem within_drain (s : State) (c : Nat) : Within [.regs, .eng] s (State.drain s c) := by
  unfold State.drain
  repeat' first
    | ((with_reducible apply within_after (within_setWord _ _ _)); rfl)
    | ((with_reducible apply within_after (within_heal _ _)); rfl)
    | ((with_reducible apply within_after (within_schDrain _ _)); rfl)
    | ((with_reducible apply within_after (within_putB _ _ _)); rfl)
    | with_reducible apply within_ite
    | ((with_reducible apply within_forUpTo); intro _ _ _)
    | split
    | with_reducible exact within_refl _ _
    | with_reducible assumption
    | (dsimp only; split)

end Sys2Proof.Laws
end

