-- ==== Sys2Proof/Laws/FrameGrid.lean ====
section
/-!
SUPPORT. What each operation of Machine/Grid.lean may change.
-/

namespace Sys2Proof.Laws

open Sys2Proof Sys2Proof.Machine

theorem within_synchronise (s : State) (v : List Int) (th : Nat) : Within [.regs, .evr, .grd] s (State.synchronise s v th) := by
  unfold State.synchronise
  repeat' first
    | ((with_reducible apply within_after (within_bump _ _)); rfl)
    | ((with_reducible apply within_after (within_putB _ _ _)); rfl)
    | ((with_reducible apply within_after (within_raiseIf _ _ _)); rfl)
    | with_reducible apply within_ite'
    | with_reducible apply within_ite
    | split
    | with_reducible exact within_refl _ _
    | with_reducible assumption
    | ((with_reducible apply within_upd_grd); rfl)
    | (dsimp only; split)

theorem within_tripTimers (s : State) (c ps : Nat) : Within [.grd] s (State.tripTimers s c ps) := by
  unfold State.tripTimers
  repeat' first
    | with_reducible apply within_ite
    | ((with_reducible apply within_forUpTo); intro _ _ _)
    | split
    | with_reducible exact within_refl _ _
    | with_reducible assumption
    | ((with_reducible apply within_upd_grd); rfl)
    | (dsimp only; split)

theorem runs_execTripCurveExpiry (c k : Nat) (s : State) : Runs [.regs, .evr, .grd] s (execTripCurveExpiry c k s) := by
  unfold execTripCurveExpiry
  repeat' first
    | with_reducible apply runs_when
    | with_reducible apply runs_when_of
    | with_reducible apply runs_next
    | with_reducible apply runs_ite
    | ((with_reducible apply within_after (within_put _ _ _)); rfl)
    | ((with_reducible apply within_after (within_raise _ _)); rfl)
    | split
    | with_reducible exact within_refl _ _
    | with_reducible assumption
    | ((with_reducible apply within_upd_grd); rfl)
    | (dsimp only; split)

theorem within_fastDetect (s : State) (v vh : List Int) : Within [.grd] s (State.fastDetect s v vh).1 := by
  unfold State.fastDetect
  repeat' first
    | with_reducible apply within_ite
    | with_reducible apply within_ite_fst
    | ((with_reducible apply within_forUpTo); intro _ _ _)
    | split
    | with_reducible exact within_refl _ _
    | with_reducible assumption
    | ((with_reducible apply within_upd_grd); rfl)
    | (dsimp only; split)

theorem within_rideStatus (s : State) : Within [.regs] s (State.rideStatus s) := by
  unfold State.rideStatus
  repeat' first
    | ((with_reducible apply within_after (within_put _ _ _)); rfl)
    | ((with_reducible apply within_after (within_putB _ _ _)); rfl)
    | with_reducible apply within_ite
    | split
    | with_reducible exact within_refl _ _
    | with_reducible assumption
    | (dsimp only; split)

theorem within_rideStep (s : State) (fov fuv : Bool) (ps : Nat) : Within [.regs, .evr, .grd] s (State.rideStep s fov fuv ps) := by
  unfold State.rideStep
  repeat' first
    | ((with_reducible apply within_after (within_rideStatus _)); rfl)
    | ((with_reducible apply within_after (within_putB _ _ _)); rfl)
    | ((with_reducible apply within_after (within_bump _ _)); rfl)
    | ((with_reducible apply within_after (within_put _ _ _)); rfl)
    | ((with_reducible apply within_after (within_raise _ _)); rfl)
    | with_reducible apply within_ite'
    | with_reducible apply within_ite
    | split
    | with_reducible exact within_refl _ _
    | with_reducible assumption
    | ((with_reducible apply within_upd_grd); rfl)
    | (dsimp only; split)

theorem runs_execRideExit (s : State) : Runs [.regs, .evr] s (execRideExit s) := by
  unfold execRideExit
  repeat' first
    | with_reducible apply runs_when
    | with_reducible apply runs_when_of
    | with_reducible apply runs_next
    | with_reducible apply runs_ite
    | ((with_reducible apply within_after (within_putB _ _ _)); rfl)
    | ((with_reducible apply within_after (within_put _ _ _)); rfl)
    | ((with_reducible apply within_after (within_raise _ _)); rfl)
    | split
    | with_reducible exact within_refl _ _
    | with_reducible assumption
    | (dsimp only; split)

theorem within_pasStep (s : State) (ps : Nat) : Within [.grd] s (State.pasStep s ps) := by
  unfold State.pasStep
  repeat' first
    | with_reducible apply within_ite
    | ((with_reducible apply within_forUpTo); intro _ _ _)
    | split
    | with_reducible exact within_refl _ _
    | with_reducible assumption
    | ((with_reducible apply within_upd_grd); rfl)
    | (dsimp only; split)

theorem within_pasFire (s : State) (m : Nat) : Within [.regs, .evr, .grd] s (State.pasFire s m) := by
  unfold State.pasFire
  repeat' first
    | ((with_reducible apply within_after (within_put _ _ _)); rfl)
    | ((with_reducible apply within_after (within_raise _ _)); rfl)
    | split
    | with_reducible exact within_refl _ _
    | with_reducible assumption
    | ((with_reducible apply within_upd_grd); rfl)
    | (dsimp only; split)

theorem runs_execPassiveTimerExpiry (m : Nat) (s : State) : Runs [.regs, .evr, .grd] s (execPassiveTimerExpiry m s) := by
  unfold execPassiveTimerExpiry
  repeat' first
    | with_reducible apply runs_when
    | with_reducible apply runs_when_of
    | with_reducible apply runs_next
    | with_reducible apply runs_ite
    | ((with_reducible apply within_after (within_pasFire _ _)); rfl)
    | split
    | with_reducible exact within_refl _ _
    | with_reducible assumption
    | (dsimp only; split)

theorem within_sprStatus (s : State) : Within [.regs] s (State.sprStatus s) := by
  unfold State.sprStatus
  repeat' first
    | ((with_reducible apply within_after (within_putB _ _ _)); rfl)
    | split
    | with_reducible exact within_refl _ _
    | with_reducible assumption
    | (dsimp only; split)

theorem within_islandJudge (s : State) (z : Nat) : Within [.regs, .evr, .grd] s (State.islandJudge s z) := by
  unfold State.islandJudge
  repeat' first
    | ((with_reducible apply within_after (within_put _ _ _)); rfl)
    | ((with_reducible apply within_after (within_putB _ _ _)); rfl)
    | ((with_reducible apply within_after (within_raise _ _)); rfl)
    | with_reducible apply within_ite'
    | with_reducible apply within_ite
    | ((with_reducible apply within_foldl); intro _ _ _)
    | split
    | with_reducible exact within_refl _ _
    | with_reducible assumption
    | ((with_reducible apply within_upd_grd); rfl)
    | (dsimp only; split)

theorem within_sprEstimate (s : State) : Within [.regs, .evr, .grd] s (State.sprEstimate s) := by
  unfold State.sprEstimate
  repeat' first
    | ((with_reducible apply within_after (within_put _ _ _)); rfl)
    | ((with_reducible apply within_after (within_bump _ _)); rfl)
    | ((with_reducible apply within_after (within_islandJudge _ _)); rfl)
    | with_reducible apply within_ite
    | split
    | with_reducible exact within_refl _ _
    | with_reducible assumption
    | (dsimp only; split)

theorem within_closeChip (s : State) (cur now : Nat) : Within [.regs, .evr, .grd] s (State.closeChip s cur now) := by
  unfold State.closeChip
  repeat' first
    | ((with_reducible apply within_after (within_sprEstimate _)); rfl)
    | with_reducible apply within_ite'
    | with_reducible apply within_ite
    | split
    | with_reducible exact within_refl _ _
    | with_reducible assumption
    | ((with_reducible apply within_upd_grd); rfl)
    | (dsimp only; split)

theorem within_sprStep (s : State) (latch : Nat) : Within [.regs, .evr, .grd] s (State.sprStep s latch) := by
  unfold State.sprStep
  repeat' first
    | ((with_reducible apply within_after (within_sprStatus _)); rfl)
    | ((with_reducible apply within_after (within_closeChip _ _ _)); rfl)
    | with_reducible apply within_ite'
    | with_reducible apply within_ite
    | split
    | with_reducible exact within_refl _ _
    | with_reducible assumption
    | ((with_reducible apply within_upd_grd); rfl)
    | (dsimp only; split)

theorem runs_execSprinklePeriodStart (s : State) : Runs [.regs, .grd] s (execSprinklePeriodStart s) := by
  unfold execSprinklePeriodStart
  repeat' first
    | with_reducible apply runs_when
    | with_reducible apply runs_when_of
    | with_reducible apply runs_next
    | with_reducible apply runs_ite
    | ((with_reducible apply within_after (within_sprStatus _)); rfl)
    | with_reducible apply within_ite
    | split
    | with_reducible exact within_refl _ _
    | with_reducible assumption
    | ((with_reducible apply within_upd_grd); rfl)
    | (dsimp only; split)

theorem within_support (s : State) (p : Int) : Within [.grd] s (State.support s p) := by
  unfold State.support
  repeat' first
    | with_reducible apply within_ite
    | split
    | with_reducible exact within_refl _ _
    | with_reducible assumption
    | ((with_reducible apply within_upd_grd); rfl)
    | (dsimp only; split)

theorem within_formLaw (s : State) (p q : Int) : Within [.grd] s (State.formLaw s p q) := by
  unfold State.formLaw
  repeat' first
    | with_reducible apply within_ite
    | split
    | with_reducible exact within_refl _ _
    | with_reducible assumption
    | ((with_reducible apply within_upd_grd); rfl)
    | (dsimp only; split)

theorem within_gridSample (s : State) (l : GridLatch) : Within [.regs, .evr, .grd] s (State.gridSample s l) := by
  unfold State.gridSample
  repeat' first
    | ((with_reducible apply within_after (within_putB _ _ _)); rfl)
    | ((with_reducible apply within_after (within_synchronise _ _ _)); rfl)
    | ((with_reducible apply within_after (within_formLaw _ _ _)); rfl)
    | ((with_reducible apply within_after (within_fastDetect _ _ _)); rfl)
    | ((with_reducible apply within_after (within_tripTimers _ _ _)); rfl)
    | ((with_reducible apply within_after (within_rideStep _ _ _ _)); rfl)
    | ((with_reducible apply within_after (within_pasStep _ _)); rfl)
    | ((with_reducible apply within_after (within_sprStep _ _)); rfl)
    | ((with_reducible apply within_after (within_support _ _)); rfl)
    | with_reducible apply within_ite
    | split
    | with_reducible exact within_refl _ _
    | with_reducible assumption
    | ((with_reducible apply within_upd_grd); rfl)
    | (dsimp only; split)

theorem runs_execGridUpdate (s : State) : Runs [.regs, .evr, .grd] s (execGridUpdate s) := by
  unfold execGridUpdate
  repeat' first
    | with_reducible apply runs_when
    | with_reducible apply runs_when_of
    | with_reducible apply runs_next
    | with_reducible apply runs_ite
    | ((with_reducible apply within_after (within_gridSample _ _)); rfl)
    | split
    | with_reducible exact within_refl _ _
    | with_reducible assumption
    | (dsimp only; split)

theorem within_gridLatch (s : State) (idx : Nat) : Within [.grd] s (State.gridLatch s idx) := by
  unfold State.gridLatch
  repeat' first
    | split
    | with_reducible exact within_refl _ _
    | with_reducible assumption
    | ((with_reducible apply within_upd_grd); rfl)
    | (dsimp only; split)

theorem within_publishWord (s : State) (sig : Nat) (w : Word) : Within [.regs, .eng] s (State.publishWord s sig w) := by
  unfold State.publishWord
  repeat' first
    | ((with_reducible apply within_after (within_setWord _ _ _)); rfl)
    | ((with_reducible apply within_after (within_heal _ _)); rfl)
    | split
    | with_reducible exact within_refl _ _
    | with_reducible assumption
    | (dsimp only; split)

theorem within_publishFrom (s : State) (sig : Nat) (k : List Word) : Within [.regs, .eng] s (State.publishFrom s sig k) := by
  induction k generalizing s sig with
  | nil =>
    unfold State.publishFrom
    repeat' first
      | ((with_reducible apply within_after (within_publishWord _ _ _)); rfl)
      | split
      | with_reducible exact within_refl _ _
      | with_reducible assumption
      | (dsimp only; split)
  | cons w r ih =>
    unfold State.publishFrom
    repeat' first
      | ((with_reducible apply within_after (ih _ _)); rfl)
      | ((with_reducible apply within_after (within_publishWord _ _ _)); rfl)
      | split
      | with_reducible exact within_refl _ _
      | with_reducible assumption
      | (dsimp only; split)

theorem within_crossCheck (s : State) : Within [.regs, .evr, .grd] s (State.crossCheck s) := by
  unfold State.crossCheck
  repeat' first
    | ((with_reducible apply within_after (within_bump _ _)); rfl)
    | ((with_reducible apply within_after (within_putB _ _ _)); rfl)
    | ((with_reducible apply within_after (within_putI _ _ _)); rfl)
    | ((with_reducible apply within_after (within_raise _ _)); rfl)
    | with_reducible apply within_ite'
    | with_reducible apply within_ite
    | split
    | with_reducible exact within_refl _ _
    | with_reducible assumption
    | ((with_reducible apply within_upd_grd); rfl)
    | (dsimp only; split)

theorem within_vectorShift (s : State) : Within [.regs, .evr, .grd] s (State.vectorShift s) := by
  unfold State.vectorShift
  repeat' first
    | ((with_reducible apply within_after (within_putI _ _ _)); rfl)
    | ((with_reducible apply within_after (within_pasFire _ _)); rfl)
    | with_reducible apply within_ite'
    | with_reducible apply within_ite
    | split
    | with_reducible exact within_refl _ _
    | with_reducible assumption
    | ((with_reducible apply within_upd_grd); rfl)
    | (dsimp only; split)

theorem within_formChange (s : State) : Within [.regs, .evr, .grd] s (State.formChange s) := by
  unfold State.formChange
  repeat' first
    | ((with_reducible apply within_after (within_putB _ _ _)); rfl)
    | ((with_reducible apply within_after (within_raise _ _)); rfl)
    | with_reducible apply within_ite'
    | with_reducible apply within_ite
    | split
    | with_reducible exact within_refl _ _
    | with_reducible assumption
    | ((with_reducible apply within_upd_grd); rfl)
    | (dsimp only; split)

theorem within_gridWrites (s : State) : Within [.regs, .ram, .grd, .obs, .free] s (State.gridWrites s) := by
  unfold State.gridWrites
  repeat' first
    | ((with_reducible apply within_after (within_setWord _ _ _)); rfl)
    | ((with_reducible apply within_after (within_record _ _ _ _ _ _)); rfl)
    | with_reducible apply within_ite'
    | ((with_reducible apply within_foldl); intro _ _ _)
    | split
    | with_reducible exact within_refl _ _
    | with_reducible assumption
    | ((with_reducible apply within_upd_grd); rfl)
    | (dsimp only; split)

theorem within_gsSources (s : State) : Within [.frm] s (State.gsSources s) := by
  unfold State.gsSources
  repeat' first
    | with_reducible apply within_ite'
    | ((with_reducible apply within_forUpTo); intro _ _ _)
    | split
    | with_reducible exact within_refl _ _
    | with_reducible assumption
    | ((with_reducible apply within_upd_frm); rfl)
    | (dsimp only; split)

theorem within_gsRecord (s : State) : Within [.regs, .ram, .obs, .free] s (State.gsRecord s) := by
  unfold State.gsRecord
  repeat' first
    | ((with_reducible apply within_after (within_record _ _ _ _ _ _)); rfl)
    | with_reducible apply within_ite'
    | split
    | with_reducible exact within_refl _ _
    | with_reducible assumption
    | (dsimp only; split)

theorem within_gridOff (s : State) : Within [.regs, .eng] s (State.gridOff s) := by
  unfold State.gridOff
  repeat' first
    | ((with_reducible apply within_after (within_publishFrom _ _ _)); rfl)
    | with_reducible apply within_ite'
    | split
    | with_reducible exact within_refl _ _
    | with_reducible assumption
    | (dsimp only; split)

theorem within_gsInstant (s : State) : Within [.regs, .ram, .evr, .frm, .eng, .grd, .obs, .free] s (State.gsInstant s) := by
  unfold State.gsInstant
  repeat' first
    | ((with_reducible apply within_after (within_gsRecord _)); rfl)
    | ((with_reducible apply within_after (within_crossCheck _)); rfl)
    | ((with_reducible apply within_after (within_vectorShift _)); rfl)
    | ((with_reducible apply within_after (within_sprStatus _)); rfl)
    | ((with_reducible apply within_after (within_publishFrom _ _ _)); rfl)
    | ((with_reducible apply within_after (within_gridWrites _)); rfl)
    | ((with_reducible apply within_after (within_formChange _)); rfl)
    | ((with_reducible apply within_after (within_gridOff _)); rfl)
    | ((with_reducible apply within_after (within_gsSources _)); rfl)
    | split
    | with_reducible exact within_refl _ _
    | with_reducible assumption
    | ((with_reducible apply within_upd_grd); rfl)
    | (dsimp only; split)

theorem runs_execGsInstant (s : State) : Runs [.regs, .ram, .evr, .frm, .eng, .grd, .obs, .free] s (execGsInstant s) := by
  unfold execGsInstant
  repeat' first
    | with_reducible apply runs_when
    | with_reducible apply runs_when_of
    | with_reducible apply runs_next
    | with_reducible apply runs_ite
    | ((with_reducible apply within_after (within_gsInstant _)); rfl)
    | split
    | with_reducible exact within_refl _ _
    | with_reducible assumption
    | (dsimp only; split)

theorem within_gridHold (s : State) (h : HeldWrite) : Within [.grd] s (State.gridHold s h) := by
  unfold State.gridHold
  repeat' first
    | split
    | with_reducible exact within_refl _ _
    | with_reducible assumption
    | ((with_reducible apply within_upd_grd); rfl)
    | (dsimp only; split)

theorem runs_execGridWrite (a : Nat) (w : Word) (s : State) : Runs [.grd] s (execGridWrite a w s) := by
  unfold execGridWrite
  repeat' first
    | with_reducible apply runs_when
    | with_reducible apply runs_when_of
    | with_reducible apply runs_next
    | with_reducible apply runs_ite
    | ((with_reducible apply within_after (within_gridHold _ _)); rfl)
    | split
    | with_reducible exact within_refl _ _
    | with_reducible assumption
    | (dsimp only; split)

theorem within_gridLoad (s : State) : Within [.grd] s (State.gridLoad s) := by
  unfold State.gridLoad
  repeat' first
    | split
    | with_reducible exact within_refl _ _
    | with_reducible assumption
    | ((with_reducible apply within_upd_grd); rfl)
    | (dsimp only; split)

end Sys2Proof.Laws
end

