-- ==== Sys2Proof/Laws/FrameMeter.lean ====
section
/-!
SUPPORT. What each operation of Machine/Meter.lean may change.
-/

namespace Sys2Proof.Laws

open Sys2Proof Sys2Proof.Machine

theorem within_calibrate (s : State) (ch : Nat) (code : Int) : Within [.mtr] s (State.calibrate s ch code).1 := by
  unfold State.calibrate
  repeat' first
    | with_reducible apply within_ite
    | with_reducible apply within_ite_fst
    | split
    | with_reducible exact within_refl _ _
    | with_reducible assumption
    | ((with_reducible apply within_upd_mtr); rfl)
    | (dsimp only; split)

theorem within_overload (s : State) (ch : Nat) (code : Int) : Within [.regs, .evr, .mtr] s (State.overload s ch code) := by
  unfold State.overload
  repeat' first
    | ((with_reducible apply within_after (within_put _ _ _)); rfl)
    | ((with_reducible apply within_after (within_bump _ _)); rfl)
    | ((with_reducible apply within_after (within_raise _ _)); rfl)
    | with_reducible apply within_ite'
    | with_reducible apply within_ite
    | split
    | with_reducible exact within_refl _ _
    | with_reducible assumption
    | ((with_reducible apply within_upd_mtr); rfl)
    | (dsimp only; split)

theorem within_takeSample (s : State) (codes : List Int) : Within [.regs, .evr, .mtr] s (State.takeSample s codes) := by
  unfold State.takeSample
  dsimp only
  apply within_upd_mtr rfl
  apply within_forUpTo_fst
  · intro i u hu
    apply within_after (within_calibrate _ _ _) rfl
    exact within_after (within_overload _ _ _) rfl hu
  · exact within_refl _ _

theorem within_noLoadStep (s : State) (k : Nat) (p : Int) (f : Fld) : Within [.mtr] s (State.noLoadStep s k p f).1 := by
  unfold State.noLoadStep
  repeat' first
    | with_reducible apply within_ite
    | with_reducible apply within_ite_fst
    | split
    | with_reducible exact within_refl _ _
    | with_reducible assumption
    | ((with_reducible apply within_upd_mtr); rfl)
    | (dsimp only; split)

theorem within_energyWrap (s : State) (e : Nat) : Within [.regs, .evr, .mtr, .aon, .obs] s (State.energyWrap s e) := by
  unfold State.energyWrap
  repeat' first
    | ((with_reducible apply within_after (within_putB _ _ _)); rfl)
    | ((with_reducible apply within_after (within_raise _ _)); rfl)
    | ((with_reducible apply within_after (within_bump _ _)); rfl)
    | ((with_reducible apply within_after (within_logPush _ _ _)); rfl)
    | split
    | with_reducible exact within_refl _ _
    | with_reducible assumption
    | ((with_reducible apply within_upd_mtr); rfl)
    | (dsimp only; split)

theorem within_feedOutputs (s : State) (e c : Nat) : Within [.regs, .mtr] s (State.feedOutputs s e c) := by
  unfold State.feedOutputs
  repeat' first
    | ((with_reducible apply within_after (within_putB _ _ _)); rfl)
    | ((with_reducible apply within_after (within_bumpBy _ _ _)); rfl)
    | with_reducible apply within_ite'
    | with_reducible apply within_ite
    | ((with_reducible apply within_forUpTo); intro _ _ _)
    | split
    | with_reducible exact within_refl _ _
    | with_reducible assumption
    | ((with_reducible apply within_upd_mtr); rfl)
    | (dsimp only; split)

theorem within_addEnergy (s : State) (e c : Nat) : Within [.regs, .evr, .mtr, .aon, .obs] s (State.addEnergy s e c) := by
  unfold State.addEnergy
  repeat' first
    | ((with_reducible apply within_after (within_energyWrap _ _)); rfl)
    | ((with_reducible apply within_after (within_feedOutputs _ _ _)); rfl)
    | with_reducible apply within_ite'
    | with_reducible apply within_ite
    | split
    | with_reducible exact within_refl _ _
    | with_reducible assumption
    | ((with_reducible apply within_upd_mtr); rfl)
    | (dsimp only; split)

theorem within_contribute (s : State) (ph : Nat) (c cq p : Int) : Within [.regs, .evr, .mtr, .aon, .obs] s (State.contribute s ph c cq p) := by
  unfold State.contribute
  repeat' first
    | ((with_reducible apply within_after (within_addEnergy _ _ _)); rfl)
    | with_reducible apply within_ite
    | split
    | with_reducible exact within_refl _ _
    | with_reducible assumption
    | (dsimp only; split)

theorem within_energyStep (s : State) : Within [.regs, .evr, .mtr, .aon, .obs] s (State.energyStep s) := by
  unfold State.energyStep
  dsimp only
  apply within_after (within_contribute _ _ _ _ _) rfl
  apply within_forUpTo_fst
  · intro i u hu
    apply within_after (within_contribute _ _ _ _ _) rfl
    apply within_after (within_noLoadStep _ _ _ _) rfl
    exact within_after (within_noLoadStep _ _ _ _) rfl hu
  · exact within_upd_mtr rfl (within_refl _ _)

theorem within_setPq (s : State) (ty : Nat) (e : PqEvt) : Within [.mtr] s (State.setPq s ty e) := by
  unfold State.setPq
  repeat' first
    | split
    | with_reducible exact within_refl _ _
    | with_reducible assumption
    | ((with_reducible apply within_upd_mtr); rfl)
    | (dsimp only; split)

theorem within_pqRecord (s : State) (ty : Nat) (start : Bool) (e : PqEvt) : Within [.regs, .aon, .obs] s (State.pqRecord s ty start e) := by
  unfold State.pqRecord
  repeat' first
    | ((with_reducible apply within_after (within_logPush _ _ _)); rfl)
    | with_reducible apply within_ite
    | split
    | with_reducible exact within_refl _ _
    | with_reducible assumption
    | (dsimp only; split)

theorem within_pqStart (s : State) (ty mask extreme : Nat) : Within [.regs, .evr, .mtr, .aon, .obs] s (State.pqStart s ty mask extreme) := by
  unfold State.pqStart
  repeat' first
    | ((with_reducible apply within_after (within_setPq _ _ _)); rfl)
    | ((with_reducible apply within_after (within_bump _ _)); rfl)
    | ((with_reducible apply within_after (within_raise _ _)); rfl)
    | ((with_reducible apply within_after (within_pqRecord _ _ _ _)); rfl)
    | split
    | with_reducible exact within_refl _ _
    | with_reducible assumption
    | (dsimp only; split)

theorem within_pqEnd (s : State) (ty : Nat) : Within [.regs, .evr, .mtr, .aon, .obs] s (State.pqEnd s ty) := by
  unfold State.pqEnd
  repeat' first
    | ((with_reducible apply within_after (within_pqRecord _ _ _ _)); rfl)
    | ((with_reducible apply within_after (within_setPq _ _ _)); rfl)
    | ((with_reducible apply within_after (within_raise _ _)); rfl)
    | with_reducible apply within_ite'
    | split
    | with_reducible exact within_refl _ _
    | with_reducible assumption
    | (dsimp only; split)

theorem within_pqStep (s : State) (ty mask : Nat) (starts ends : Bool) (x : Nat) (low : Bool) : Within [.regs, .evr, .mtr, .aon, .obs] s (State.pqStep s ty mask starts ends x low) := by
  unfold State.pqStep
  repeat' first
    | ((with_reducible apply within_after (within_setPq _ _ _)); rfl)
    | ((with_reducible apply within_after (within_pqEnd _ _)); rfl)
    | ((with_reducible apply within_after (within_pqStart _ _ _ _)); rfl)
    | with_reducible apply within_ite'
    | with_reducible apply within_ite
    | split
    | with_reducible exact within_refl _ _
    | with_reducible assumption
    | (dsimp only; split)

theorem within_halfCycle (s : State) : Within [.regs, .evr, .mtr, .aon, .obs] s (State.halfCycle s) := by
  unfold State.halfCycle
  repeat' first
    | ((with_reducible apply within_after (within_setPq _ _ _)); rfl)
    | ((with_reducible apply within_after (within_pqStep _ _ _ _ _ _ _)); rfl)
    | ((with_reducible apply within_after (within_put _ _ _)); rfl)
    | ((with_reducible apply within_after (within_putB _ _ _)); rfl)
    | with_reducible apply within_ite
    | ((with_reducible apply within_foldl); intro _ _ _)
    | split
    | with_reducible exact within_refl _ _
    | with_reducible assumption
    | ((with_reducible apply within_upd_mtr); rfl)
    | (dsimp only; split)

theorem within_cycleCond (s : State) (ty n extreme : Nat) (cond : Bool) (f : Fld) : Within [.regs, .evr, .mtr, .aon, .obs] s (State.cycleCond s ty n extreme cond f) := by
  unfold State.cycleCond
  repeat' first
    | ((with_reducible apply within_after (within_setPq _ _ _)); rfl)
    | ((with_reducible apply within_after (within_pqEnd _ _)); rfl)
    | ((with_reducible apply within_after (within_putB _ _ _)); rfl)
    | ((with_reducible apply within_after (within_pqStart _ _ _ _)); rfl)
    | with_reducible apply within_ite'
    | with_reducible apply within_ite
    | split
    | with_reducible exact within_refl _ _
    | with_reducible assumption
    | (dsimp only; split)

theorem within_cycleUpdate (s : State) : Within [.regs, .evr, .mtr, .aon, .obs] s (State.cycleUpdate s) := by
  unfold State.cycleUpdate
  repeat' first
    | ((with_reducible apply within_after (within_cycleCond _ _ _ _ _ _)); rfl)
    | with_reducible apply within_ite'
    | split
    | with_reducible exact within_refl _ _
    | with_reducible assumption
    | ((with_reducible apply within_upd_mtr); rfl)
    | (dsimp only; split)

theorem within_windowAdd (s : State) (w : Nat) : Within [.mtr] s (State.windowAdd s w) := by
  unfold State.windowAdd
  repeat' first
    | with_reducible apply within_ite
    | ((with_reducible apply within_forUpTo); intro _ _ _)
    | split
    | with_reducible exact within_refl _ _
    | with_reducible assumption
    | ((with_reducible apply within_upd_mtr); rfl)
    | (dsimp only; split)

theorem within_windowEnd (s : State) (cyc : Nat) : Within [.regs, .mtr] s (State.windowEnd s cyc) := by
  unfold State.windowEnd
  repeat' first
    | ((with_reducible apply within_after (within_setWords _ _ _)); rfl)
    | with_reducible apply within_ite
    | ((with_reducible apply within_forUpTo); intro _ _ _)
    | ((with_reducible apply within_foldl); intro _ _ _)
    | split
    | with_reducible exact within_refl _ _
    | with_reducible assumption
    | ((with_reducible apply within_upd_mtr); rfl)
    | (dsimp only; split)

theorem within_windowStart (s : State) (a : Nat) : Within [.mtr] s (State.windowStart s a) := by
  unfold State.windowStart
  repeat' first
    | ((with_reducible apply within_after (within_windowAdd _ _)); rfl)
    | split
    | with_reducible exact within_refl _ _
    | with_reducible assumption
    | ((with_reducible apply within_upd_mtr); rfl)
    | (dsimp only; split)

theorem within_windowSample (s : State) (w : Nat) : Within [.mtr] s (State.windowSample s w) := by
  unfold State.windowSample
  repeat' first
    | ((with_reducible apply within_after (within_windowAdd _ _)); rfl)
    | with_reducible apply within_ite'
    | split
    | with_reducible exact within_refl _ _
    | with_reducible assumption
    | ((with_reducible apply within_upd_mtr); rfl)
    | (dsimp only; split)

theorem within_cycleEnd (s : State) (a : Nat) : Within [.regs, .evr, .mtr, .aon, .obs] s (State.cycleEnd s a) := by
  unfold State.cycleEnd
  repeat' first
    | ((with_reducible apply within_after (within_cycleUpdate _)); rfl)
    | ((with_reducible apply within_after (within_windowStart _ _)); rfl)
    | ((with_reducible apply within_after (within_windowSample _ _)); rfl)
    | ((with_reducible apply within_after (within_windowEnd _ _)); rfl)
    | with_reducible apply within_ite
    | split
    | with_reducible exact within_refl _ _
    | with_reducible assumption
    | ((with_reducible apply within_upd_mtr); rfl)
    | (dsimp only; split)

theorem within_mtrCrossing (s : State) (x t : Nat) : Within [.mtr] s (State.mtrCrossing s x t) := by
  unfold State.mtrCrossing
  repeat' first
    | with_reducible apply within_ite
    | split
    | with_reducible exact within_refl _ _
    | with_reducible assumption
    | ((with_reducible apply within_upd_mtr); rfl)
    | (dsimp only; split)

theorem within_mtrHalf (s : State) : Within [.regs, .mtr] s (State.mtrHalf s).1 := by
  unfold State.mtrHalf
  have h0 : ∀ x, Within [.regs, .mtr] s { s with mtr := x } := fun x => within_upd_mtr rfl (within_refl _ _)
  have h1 : ∀ x f b, Within [.regs, .mtr] s (State.putB { s with mtr := x } f b) := fun x f b => within_after (within_putB _ f b) rfl (h0 x)
  have h2 : ∀ u x, Within [.regs, .mtr] s u → Within [.regs, .mtr] s { u with mtr := x } := fun u x h => within_upd_mtr rfl h
  dsimp only
  split
  · split
    · exact h2 _ _ (within_after (within_mtrCrossing _ _ _) rfl (h1 _ _ _))
    · split
      · exact h2 _ _ (h1 _ _ _)
      · exact h2 _ _ (h1 _ _ _)
  · split
    · exact h2 _ _ (h1 _ _ _)
    · exact h2 _ _ (h1 _ _ _)

theorem within_captureSnaps (s : State) : Within [.regs] s (State.captureSnaps s) := by
  unfold State.captureSnaps
  repeat' first
    | ((with_reducible apply within_after (within_setWord _ _ _)); rfl)
    | ((with_reducible apply within_after (within_putB _ _ _)); rfl)
    | ((with_reducible apply within_after (within_bumpWrap _ _)); rfl)
    | ((with_reducible apply within_after (within_put _ _ _)); rfl)
    | with_reducible apply within_ite
    | ((with_reducible apply within_forUpTo); intro _ _ _)
    | split
    | with_reducible exact within_refl _ _
    | with_reducible assumption
    | (dsimp only; split)

theorem within_snapTake (s : State) (l : Nat) : Within [.regs] s (State.snapTake s l) := by
  unfold State.snapTake
  repeat' first
    | ((with_reducible apply within_after (within_bump _ _)); rfl)
    | ((with_reducible apply within_after (within_putB _ _ _)); rfl)
    | with_reducible apply within_ite
    | split
    | with_reducible exact within_refl _ _
    | with_reducible assumption
    | (dsimp only; split)

theorem runs_execSnapshotTake (l : Nat) (s : State) : Runs [.regs] s (execSnapshotTake l s) := by
  unfold execSnapshotTake
  repeat' first
    | with_reducible apply runs_when
    | with_reducible apply runs_when_of
    | with_reducible apply runs_next
    | with_reducible apply runs_ite
    | ((with_reducible apply within_after (within_snapTake _ _)); rfl)
    | split
    | with_reducible exact within_refl _ _
    | with_reducible assumption
    | (dsimp only; split)

theorem within_exportStep (s : State) : Within [.mtr] s (State.exportStep s) := by
  unfold State.exportStep
  repeat' first
    | with_reducible apply within_ite
    | split
    | with_reducible exact within_refl _ _
    | with_reducible assumption
    | ((with_reducible apply within_upd_mtr); rfl)
    | (dsimp only; split)

theorem runs_execExportLimit (s : State) : Runs [.evr, .mtr] s (execExportLimit s) := by
  unfold execExportLimit
  repeat' first
    | with_reducible apply runs_when
    | with_reducible apply runs_when_of
    | with_reducible apply runs_next
    | with_reducible apply runs_ite
    | ((with_reducible apply within_after (within_raise _ _)); rfl)
    | split
    | with_reducible exact within_refl _ _
    | with_reducible assumption
    | ((with_reducible apply within_upd_mtr); rfl)
    | (dsimp only; split)

theorem within_demandClose (s : State) (part : Bool) : Within [.regs, .evr, .mtr] s (State.demandClose s part) := by
  unfold State.demandClose
  repeat' first
    | ((with_reducible apply within_after (within_setWords _ _ _)); rfl)
    | ((with_reducible apply within_after (within_raise _ _)); rfl)
    | ((with_reducible apply within_forUpTo); intro _ _ _)
    | split
    | with_reducible exact within_refl _ _
    | with_reducible assumption
    | ((with_reducible apply within_upd_mtr); rfl)
    | (dsimp only; split)

theorem runs_execDemandClose (s : State) : Runs [.regs, .evr, .mtr] s (execDemandClose s) := by
  unfold execDemandClose
  repeat' first
    | with_reducible apply runs_when
    | with_reducible apply runs_when_of
    | with_reducible apply runs_next
    | with_reducible apply runs_ite
    | ((with_reducible apply within_after (within_demandClose _ _)); rfl)
    | split
    | with_reducible exact within_refl _ _
    | with_reducible assumption
    | (dsimp only; split)

theorem within_mtrWrites (s : State) : Within [.regs, .ram, .evr, .mtr, .obs, .free] s (State.mtrWrites s) := by
  unfold State.mtrWrites
  repeat' first
    | ((with_reducible apply within_after (within_setWord _ _ _)); rfl)
    | ((with_reducible apply within_after (within_demandClose _ _)); rfl)
    | ((with_reducible apply within_after (within_record _ _ _ _ _ _)); rfl)
    | with_reducible apply within_ite'
    | ((with_reducible apply within_foldl); intro _ _ _)
    | split
    | with_reducible exact within_refl _ _
    | with_reducible assumption
    | ((with_reducible apply within_upd_mtr); rfl)
    | (dsimp only; split)

theorem within_mtrHold (s : State) (h : HeldWrite) : Within [.regs, .mtr] s (State.mtrHold s h) := by
  unfold State.mtrHold
  repeat' first
    | ((with_reducible apply within_after (within_setWord _ _ _)); rfl)
    | with_reducible apply within_ite
    | split
    | with_reducible exact within_refl _ _
    | with_reducible assumption
    | ((with_reducible apply within_upd_mtr); rfl)
    | (dsimp only; split)

theorem within_rtcWrite (s : State) (sec : Nat) : Within [.regs, .ram, .evr, .mtr, .aon, .free] s (State.rtcWrite s sec) := by
  unfold State.rtcWrite
  repeat' first
    | ((with_reducible apply within_after (within_demandClose _ _)); rfl)
    | ((with_reducible apply within_after (within_put _ _ _)); rfl)
    | ((with_reducible apply within_after (within_burn _)); rfl)
    | ((with_reducible apply within_after (within_putB _ _ _)); rfl)
    | ((with_reducible apply within_after (within_setRet _ _ _ _)); rfl)
    | ((with_reducible apply within_after (within_retCrc _)); rfl)
    | with_reducible apply within_ite'
    | split
    | with_reducible exact within_refl _ _
    | with_reducible assumption
    | ((with_reducible apply within_upd_aon); rfl)
    | (dsimp only; split)

theorem within_q30Push (s : State) : Within [.regs, .grd, .obs] s (State.q30Push s) := by
  unfold State.q30Push
  repeat' first
    | ((with_reducible apply within_after (within_count _ _)); rfl)
    | ((with_reducible apply within_after (within_bump _ _)); rfl)
    | with_reducible apply within_ite
    | split
    | with_reducible exact within_refl _ _
    | with_reducible assumption
    | ((with_reducible apply within_upd_grd); rfl)
    | (dsimp only; split)

theorem within_evtSamples (s : State) : Within [.mtr] s (State.evtSamples s) := by
  unfold State.evtSamples
  repeat' first
    | split
    | with_reducible exact within_refl _ _
    | with_reducible assumption
    | ((with_reducible apply within_upd_mtr); rfl)
    | (dsimp only; split)

theorem within_mtrSample (s : State) (codes : List Int) : Within [.regs, .ram, .evr, .grd, .mtr, .aon, .obs, .free] s (State.mtrSample s codes) := by
  unfold State.mtrSample
  repeat' first
    | ((with_reducible apply within_after (within_mtrWrites _)); rfl)
    | ((with_reducible apply within_after (within_takeSample _ _)); rfl)
    | ((with_reducible apply within_after (within_mtrHalf _)); rfl)
    | ((with_reducible apply within_after (within_energyStep _)); rfl)
    | ((with_reducible apply within_after (within_evtSamples _)); rfl)
    | ((with_reducible apply within_after (within_exportStep _)); rfl)
    | ((with_reducible apply within_after (within_windowSample _ _)); rfl)
    | ((with_reducible apply within_after (within_halfCycle _)); rfl)
    | ((with_reducible apply within_after (within_cycleEnd _ _)); rfl)
    | ((with_reducible apply within_after (within_captureSnaps _)); rfl)
    | ((with_reducible apply within_after (within_q30Push _)); rfl)
    | split
    | with_reducible exact within_refl _ _
    | with_reducible assumption
    | (dsimp only; split)

theorem runs_execMeteringSample (codes : List Int) (s : State) : Runs [.regs, .ram, .evr, .grd, .mtr, .aon, .obs, .free] s (execMeteringSample codes s) := by
  unfold execMeteringSample
  repeat' first
    | with_reducible apply runs_when
    | with_reducible apply runs_when_of
    | with_reducible apply runs_next
    | with_reducible apply runs_ite
    | ((with_reducible apply within_after (within_mtrSample _ _)); rfl)
    | split
    | with_reducible exact within_refl _ _
    | with_reducible assumption
    | (dsimp only; split)

theorem runs_execCheckpoint (s : State) : Runs [.regs, .aon, .obs] s (execCheckpoint s) := by
  unfold execCheckpoint
  repeat' first
    | with_reducible apply runs_when
    | with_reducible apply runs_when_of
    | with_reducible apply runs_next
    | with_reducible apply runs_ite
    | ((with_reducible apply within_after (within_q06Push _ _)); rfl)
    | split
    | with_reducible exact within_refl _ _
    | with_reducible assumption
    | (dsimp only; split)

theorem within_mtrRestore (s : State) : Within [.regs, .mtr, .aon, .obs] s (State.mtrRestore s) := by
  unfold State.mtrRestore
  repeat' first
    | ((with_reducible apply within_after (within_putB _ _ _)); rfl)
    | ((with_reducible apply within_after (within_logPush _ _ _)); rfl)
    | with_reducible apply within_ite
    | ((with_reducible apply within_forUpTo); intro _ _ _)
    | split
    | with_reducible exact within_refl _ _
    | with_reducible assumption
    | ((with_reducible apply within_upd_mtr); rfl)
    | (dsimp only; split)

theorem within_piFault (s : State) (k : Nat) : Within [.regs, .evr, .aon, .obs] s (State.piFault s k) := by
  unfold State.piFault
  repeat' first
    | ((with_reducible apply within_after (within_putB _ _ _)); rfl)
    | ((with_reducible apply within_after (within_bump _ _)); rfl)
    | ((with_reducible apply within_after (within_raise _ _)); rfl)
    | ((with_reducible apply within_after (within_logPush _ _ _)); rfl)
    | split
    | with_reducible exact within_refl _ _
    | with_reducible assumption
    | (dsimp only; split)

theorem within_piStep (s : State) (k : Nat) (hi : Bool) : Within [.regs, .evr, .mtr, .aon, .obs] s (State.piStep s k hi) := by
  unfold State.piStep
  repeat' first
    | ((with_reducible apply within_after (within_putB _ _ _)); rfl)
    | ((with_reducible apply within_after (within_put _ _ _)); rfl)
    | ((with_reducible apply within_after (within_piFault _ _)); rfl)
    | with_reducible apply within_ite'
    | with_reducible apply within_ite
    | split
    | with_reducible exact within_refl _ _
    | with_reducible assumption
    | ((with_reducible apply within_upd_mtr); rfl)
    | (dsimp only; split)

theorem runs_execPulseInputSample (levels : Nat) (s : State) : Runs [.regs, .evr, .mtr, .aon, .obs] s (execPulseInputSample levels s) := by
  unfold execPulseInputSample
  repeat' first
    | with_reducible apply runs_when
    | with_reducible apply runs_when_of
    | with_reducible apply runs_next
    | with_reducible apply runs_ite
    | ((with_reducible apply within_after (within_piStep _ _ _)); rfl)
    | with_reducible apply within_ite'
    | ((with_reducible apply within_forUpTo); intro _ _ _)
    | split
    | with_reducible exact within_refl _ _
    | with_reducible assumption
    | (dsimp only; split)

theorem runs_execPulseOutputTimer (k : Nat) (s : State) : Runs [.mtr] s (execPulseOutputTimer k s) := by
  unfold execPulseOutputTimer
  repeat' first
    | with_reducible apply runs_when
    | with_reducible apply runs_when_of
    | with_reducible apply runs_next
    | with_reducible apply runs_ite
    | with_reducible apply within_ite
    | split
    | with_reducible exact within_refl _ _
    | with_reducible assumption
    | ((with_reducible apply within_upd_mtr); rfl)
    | (dsimp only; split)

end Sys2Proof.Laws
end

