-- ==== Sys2Proof/Laws/FrameTwinQueue.lean ====
section
/-!
SUPPORT. What each operation of Machine/TwinQueue.lean may change.
-/

namespace Sys2Proof.Laws

open Sys2Proof Sys2Proof.Machine

theorem within_sendCtl (s : State) (m : TwinMsg) : Within [.regs, .twn, .obs] s (State.sendCtl s m) := by
  unfold State.sendCtl
  repeat' first
    | ((with_reducible apply within_after (within_count _ _)); rfl)
    | ((with_reducible apply within_after (within_bump _ _)); rfl)
    | with_reducible apply within_ite
    | split
    | with_reducible exact within_refl _ _
    | with_reducible assumption
    | ((with_reducible apply within_upd_twn); rfl)
    | (dsimp only; split)

end Sys2Proof.Laws
end

