-- ==== Sys2Proof/Laws/FrameSeq.lean ====
section
/-!
SUPPORT. What each operation of Machine/Seq.lean may change.
-/

namespace Sys2Proof.Laws

open Sys2Proof Sys2Proof.Machine

theorem within_startComp (s : State) (mode : Nat) (aux : List Nat) (asked : Bool) : Within [.regs, .seq, .twn, .obs] s (State.startComp s mode aux asked) := by
  unfold State.startComp
  repeat' first
    | ((with_reducible apply within_after (within_put _ _ _)); rfl)
    | ((with_reducible apply within_after (within_putB _ _ _)); rfl)
    | ((with_reducible apply within_after (within_sendCtl _ _)); rfl)
    | with_reducible apply within_ite'
    | ((with_reducible apply within_foldl); intro _ _ _)
    | split
    | with_reducible exact within_refl _ _
    | with_reducible assumption
    | ((with_reducible apply within_upd_seq); rfl)
    | (dsimp only; split)

theorem within_auxReqFlags (s : State) : Within [.regs] s (State.auxReqFlags s) := by
  unfold State.auxReqFlags
  repeat' first
    | ((with_reducible apply within_after (within_put _ _ _)); rfl)
    | with_reducible apply within_ite
    | ((with_reducible apply within_foldl); intro _ _ _)
    | split
    | with_reducible exact within_refl _ _
    | with_reducible assumption
    | (dsimp only; split)

theorem within_flushAux (s : State) : Within [.regs, .seq, .twn, .obs] s (State.flushAux s) := by
  unfold State.flushAux
  repeat' first
    | ((with_reducible apply within_after (within_auxReqFlags _)); rfl)
    | ((with_reducible apply within_after (within_startComp _ _ _ _)); rfl)
    | with_reducible apply within_ite
    | split
    | with_reducible exact within_refl _ _
    | with_reducible assumption
    | ((with_reducible apply within_upd_seq); rfl)
    | (dsimp only; split)

theorem within_holdAux (s : State) (k : Nat) (on : Bool) : Within [.regs, .eng, .seq] s (State.holdAux s k on) := by
  unfold State.holdAux
  repeat' first
    | ((with_reducible apply within_after (within_auxReqFlags _)); rfl)
    | ((with_reducible apply within_after (within_degradeEnds _ _)); rfl)
    | with_reducible apply within_ite'
    | split
    | with_reducible exact within_refl _ _
    | with_reducible assumption
    | ((with_reducible apply within_upd_seq); rfl)
    | (dsimp only; split)

theorem within_auxRequest (s : State) (k : Nat) (on : Bool) : Within [.regs, .eng, .seq, .twn, .obs] s (State.auxRequest s k on) := by
  unfold State.auxRequest
  repeat' first
    | ((with_reducible apply within_after (within_sendCtl _ _)); rfl)
    | ((with_reducible apply within_after (within_holdAux _ _ _)); rfl)
    | ((with_reducible apply within_after (within_flushAux _)); rfl)
    | with_reducible apply within_ite
    | split
    | with_reducible exact within_refl _ _
    | with_reducible assumption
    | (dsimp only; split)

theorem within_modeRequest (s : State) (m : Nat) : Within [.regs, .seq, .twn, .obs] s (State.modeRequest s m) := by
  unfold State.modeRequest
  repeat' first
    | ((with_reducible apply within_after (within_sendCtl _ _)); rfl)
    | ((with_reducible apply within_after (within_startComp _ _ _ _)); rfl)
    | ((with_reducible apply within_after (within_bump _ _)); rfl)
    | ((with_reducible apply within_after (within_put _ _ _)); rfl)
    | with_reducible apply within_ite
    | split
    | with_reducible exact within_refl _ _
    | with_reducible assumption
    | ((with_reducible apply within_upd_seq); rfl)
    | (dsimp only; split)

theorem within_hostMode (s : State) (m : Nat) : Within [.seq] s (State.hostMode s m) := by
  unfold State.hostMode
  repeat' first
    | split
    | with_reducible exact within_refl _ _
    | with_reducible assumption
    | ((with_reducible apply within_upd_seq); rfl)
    | (dsimp only; split)

theorem within_hostAux (s : State) (k : Nat) (on : Bool) : Within [.seq] s (State.hostAux s k on) := by
  unfold State.hostAux
  repeat' first
    | split
    | with_reducible exact within_refl _ _
    | with_reducible assumption
    | ((with_reducible apply within_upd_seq); rfl)
    | (dsimp only; split)

theorem within_written (s : State) (a : Nat) : Within [.regs, .clk, .acq, .win, .evr, .gtp, .twn] s (State.written s a) := by
  unfold State.written
  repeat' first
    | ((with_reducible apply within_after (within_seqLenWritten _ _)); rfl)
    | ((with_reducible apply within_after (within_compare _ _)); rfl)
    | ((with_reducible apply within_after (within_syncArm _ _)); rfl)
    | ((with_reducible apply within_after (within_aonLow _)); rfl)
    | with_reducible apply within_ite
    | split
    | with_reducible exact within_refl _ _
    | with_reducible assumption
    | (dsimp only; split)

theorem within_agentActs (s : State) (a : Nat) (w : Word) : Within [.regs, .clk, .acq, .win, .seq] s (State.agentActs s a w) := by
  unfold State.agentActs
  repeat' first
    | ((with_reducible apply within_after (within_hopRequest _ _ _ _)); rfl)
    | ((with_reducible apply within_after (within_restoreRequest _ _)); rfl)
    | ((with_reducible apply within_after (within_startTest _)); rfl)
    | ((with_reducible apply within_after (within_snapTake _ _)); rfl)
    | ((with_reducible apply within_after (within_hostMode _ _)); rfl)
    | ((with_reducible apply within_after (within_hostAux _ _ _)); rfl)
    | with_reducible apply within_ite'
    | with_reducible apply within_ite
    | split
    | with_reducible exact within_refl _ _
    | with_reducible assumption
    | (dsimp only; split)

theorem within_glazeWord (s : State) (c : CompS) (a : Nat) (w : Word) : Within [.regs, .clk, .acq, .win, .evr, .eng, .grd, .gtp, .mtr, .seq, .twn] s (State.glazeWord s c a w) := by
  unfold State.glazeWord
  repeat' first
    | ((with_reducible apply within_after (within_gridHold _ _)); rfl)
    | ((with_reducible apply within_after (within_mtrHold _ _)); rfl)
    | ((with_reducible apply within_after (within_agentActs _ _ _)); rfl)
    | ((with_reducible apply within_after (within_routeWrite _ _ _)); rfl)
    | ((with_reducible apply within_after (within_seqEntryWrite _ _ _ _)); rfl)
    | ((with_reducible apply within_after (within_enableWrite _ _ _)); rfl)
    | ((with_reducible apply within_after (within_statusClear _ _ _)); rfl)
    | ((with_reducible apply within_after (within_setWord _ _ _)); rfl)
    | ((with_reducible apply within_after (within_written _ _)); rfl)
    | ((with_reducible apply within_after (within_heal _ _)); rfl)
    | with_reducible apply within_ite'
    | with_reducible apply within_ite
    | split
    | with_reducible exact within_refl _ _
    | with_reducible assumption
    | ((with_reducible apply within_upd_seq); rfl)
    | (dsimp only; split)

theorem within_swapRecord (s : State) (f : Nat) (c : CompS) : Within [.regs, .ram, .obs, .free] s (State.swapRecord s f c) := by
  unfold State.swapRecord
  repeat' first
    | ((with_reducible apply within_after (within_record _ _ _ _ _ _)); rfl)
    | with_reducible apply within_ite'
    | split
    | with_reducible exact within_refl _ _
    | with_reducible assumption
    | (dsimp only; split)

theorem within_swapWord (s : State) (c : CompS) (a : Nat) (w : Word) : Within [.regs, .clk, .acq, .win, .evr, .eng, .grd, .mod, .gtp, .mtr, .seq, .twn] s (State.swapWord s c a w) := by
  unfold State.swapWord
  repeat' first
    | ((with_reducible apply within_after (within_applyPatch _ _)); rfl)
    | ((with_reducible apply within_after (within_glazeWord _ _ _ _)); rfl)
    | with_reducible apply within_ite
    | split
    | with_reducible exact within_refl _ _
    | with_reducible assumption
    | (dsimp only; split)

theorem within_keepOld (s : State) (f : Nat) (c : CompS) : Within [.eng] s (State.keepOld s f c) := by
  unfold State.keepOld
  repeat' first
    | ((with_reducible apply within_after (within_setFr _ _ _)); rfl)
    | with_reducible apply within_ite
    | ((with_reducible apply within_forUpTo); intro _ _ _)
    | ((with_reducible apply within_foldl); intro _ _ _)
    | split
    | with_reducible exact within_refl _ _
    | with_reducible assumption
    | (dsimp only; split)

theorem within_swapSource (s : State) (f : Nat) : Within [.regs, .ram, .clk, .acq, .win, .evr, .eng, .grd, .mod, .gtp, .mtr, .seq, .fab, .twn, .obs, .free] s (State.swapSource s f) := by
  unfold State.swapSource
  repeat' first
    | ((with_reducible apply within_after (within_keepOld _ _ _)); rfl)
    | ((with_reducible apply within_after (within_passOpened _ _)); rfl)
    | ((with_reducible apply within_after (within_swapWord _ _ _ _)); rfl)
    | ((with_reducible apply within_after (within_routesNow _)); rfl)
    | ((with_reducible apply within_after (within_putB _ _ _)); rfl)
    | ((with_reducible apply within_after (within_count _ _)); rfl)
    | ((with_reducible apply within_after (within_swapRecord _ _ _)); rfl)
    | ((with_reducible apply within_foldl); intro _ _ _)
    | split
    | with_reducible exact within_refl _ _
    | with_reducible assumption
    | ((with_reducible apply within_upd_mod); rfl)
    | ((with_reducible apply within_upd_seq); rfl)
    | ((with_reducible apply within_upd_seq_mod); rfl; rfl)
    | (dsimp only; split)

theorem within_restWords (s : State) (c : CompS) : Within [.regs, .clk, .acq, .win, .evr, .eng, .grd, .mod, .gtp, .mtr, .seq, .twn] s (State.restWords s c) := by
  unfold State.restWords
  repeat' first
    | ((with_reducible apply within_after (within_setGroup _ _ _)); rfl)
    | ((with_reducible apply within_after (within_swapWord _ _ _ _)); rfl)
    | with_reducible apply within_ite
    | ((with_reducible apply within_foldl); intro _ _ _)
    | split
    | with_reducible exact within_refl _ _
    | with_reducible assumption
    | (dsimp only; split)

theorem within_enterMode (s : State) (m : Nat) : Within [.regs, .win, .evr, .mod, .gtp, .seq, .twn] s (State.enterMode s m) := by
  unfold State.enterMode
  repeat' first
    | ((with_reducible apply within_after (within_put _ _ _)); rfl)
    | ((with_reducible apply within_after (within_outputsDriven _)); rfl)
    | ((with_reducible apply within_after (within_recoverDomains _)); rfl)
    | ((with_reducible apply within_after (within_recoverLegs _)); rfl)
    | ((with_reducible apply within_after (within_leaveSafe _)); rfl)
    | ((with_reducible apply within_after (within_dropCrumbs _)); rfl)
    | ((with_reducible apply within_after (within_uvloResponse _ _)); rfl)
    | with_reducible apply within_ite'
    | ((with_reducible apply within_forUpTo); intro _ _ _)
    | split
    | with_reducible exact within_refl _ _
    | with_reducible assumption
    | ((with_reducible apply within_upd_win); rfl)
    | ((with_reducible apply within_upd_seq); rfl)
    | (dsimp only; split)

theorem within_inForce (s : State) (c : CompS) : Within [.regs, .clk, .acq, .win, .evr, .eng, .grd, .mod, .gtp, .mtr, .seq, .twn, .obs] s (State.inForce s c) := by
  unfold State.inForce
  repeat' first
    | ((with_reducible apply within_after (within_restWords _ _)); rfl)
    | ((with_reducible apply within_after (within_put _ _ _)); rfl)
    | ((with_reducible apply within_after (within_putB _ _ _)); rfl)
    | ((with_reducible apply within_after (within_enterMode _ _)); rfl)
    | ((with_reducible apply within_after (within_dropCrumbs _)); rfl)
    | ((with_reducible apply within_after (within_degradeEnds _ _)); rfl)
    | ((with_reducible apply within_after (within_startComp _ _ _ _)); rfl)
    | ((with_reducible apply within_after (within_flushAux _)); rfl)
    | with_reducible apply within_ite
    | split
    | with_reducible exact within_refl _ _
    | with_reducible assumption
    | ((with_reducible apply within_upd_seq); rfl)
    | (dsimp only; split)

theorem within_checkForce (s : State) : Within [.regs, .clk, .acq, .win, .evr, .eng, .grd, .mod, .gtp, .mtr, .seq, .twn, .obs] s (State.checkForce s) := by
  unfold State.checkForce
  repeat' first
    | ((with_reducible apply within_after (within_passOpened _ _)); rfl)
    | ((with_reducible apply within_after (within_inForce _ _)); rfl)
    | with_reducible apply within_ite
    | split
    | with_reducible exact within_refl _ _
    | with_reducible assumption
    | (dsimp only; split)

theorem within_sendGo (s : State) : Within [.regs, .seq, .twn, .obs] s (State.sendGo s) := by
  unfold State.sendGo
  repeat' first
    | ((with_reducible apply within_after (within_sendCtl _ _)); rfl)
    | with_reducible apply within_ite
    | split
    | with_reducible exact within_refl _ _
    | with_reducible assumption
    | ((with_reducible apply within_upd_seq); rfl)
    | (dsimp only; split)

theorem runs_execGlazeApplicationDone (s : State) : Runs [.regs, .clk, .acq, .win, .evr, .eng, .grd, .mod, .gtp, .mtr, .seq, .twn, .obs] s (execGlazeApplicationDone s) := by
  unfold execGlazeApplicationDone
  repeat' first
    | with_reducible apply runs_when
    | with_reducible apply runs_when_of
    | with_reducible apply runs_next
    | with_reducible apply runs_ite
    | ((with_reducible apply within_after (within_sendCtl _ _)); rfl)
    | ((with_reducible apply within_after (within_sendGo _)); rfl)
    | ((with_reducible apply within_after (within_checkForce _)); rfl)
    | with_reducible apply within_ite'
    | split
    | with_reducible exact within_refl _ _
    | with_reducible assumption
    | ((with_reducible apply within_upd_seq); rfl)
    | (dsimp only; split)

theorem within_timerExpires (s : State) (t : Nat) : Within [.regs, .seq] s (State.timerExpires s t) := by
  unfold State.timerExpires
  repeat' first
    | ((with_reducible apply within_after (within_put _ _ _)); rfl)
    | ((with_reducible apply within_after (within_putB _ _ _)); rfl)
    | split
    | with_reducible exact within_refl _ _
    | with_reducible assumption
    | ((with_reducible apply within_upd_seq); rfl)
    | (dsimp only; split)

theorem within_timerCount (s : State) (t n : Nat) : Within [.regs, .seq] s (State.timerCount s t n) := by
  unfold State.timerCount
  repeat' first
    | ((with_reducible apply within_after (within_put _ _ _)); rfl)
    | ((with_reducible apply within_after (within_timerExpires _ _)); rfl)
    | with_reducible apply within_ite
    | split
    | with_reducible exact within_refl _ _
    | with_reducible assumption
    | (dsimp only; split)

theorem within_timerStart (s : State) (t : Nat) : Within [.regs, .seq] s (State.timerStart s t) := by
  unfold State.timerStart
  repeat' first
    | ((with_reducible apply within_after (within_put _ _ _)); rfl)
    | ((with_reducible apply within_after (within_putB _ _ _)); rfl)
    | ((with_reducible apply within_after (within_timerCount _ _ _)); rfl)
    | split
    | with_reducible exact within_refl _ _
    | with_reducible assumption
    | ((with_reducible apply within_upd_seq); rfl)
    | (dsimp only; split)

theorem within_StepRun_mode (r : StepRun) (m : Nat) : Within [.regs, .seq, .twn, .obs] r.s (StepRun.mode r m).s := by
  unfold StepRun.mode
  repeat' first
    | ((with_reducible apply within_after (within_bump _ _)); rfl)
    | ((with_reducible apply within_after (within_modeRequest _ _)); rfl)
    | with_reducible apply within_ite
    | split
    | with_reducible exact within_refl _ _
    | with_reducible assumption
    | (dsimp only; split)

theorem within_StepRun_act (r : StepRun) (i : Nat) : Within [.regs, .eng, .seq, .twn, .obs] r.s (StepRun.act r i).s := by
  unfold StepRun.act
  dsimp only
  repeat' split
  · exact within_mono (within_StepRun_mode _ _) rfl
  · exact within_mono (within_auxRequest _ _ _) rfl
  · exact within_mono (within_auxRequest _ _ _) rfl
  · exact within_mono (within_timerStart _ _) rfl
  · exact within_mono (within_putB _ _ _) rfl
  · exact within_refl _ _

theorem within_StepRun_rule (edge : Option Nat) (entry : Bool) (i : Nat) (r : StepRun) :
    Within [.regs, .evr, .eng, .seq, .twn, .aon, .obs] r.s (StepRun.rule edge entry i r).s := by
  unfold StepRun.rule
  split
  · exact within_refl _ _
  · dsimp only
    have h := within_mono (within_StepRun_act r i) (B := [.regs, .evr, .eng, .seq, .twn, .aon, .obs]) rfl
    generalize StepRun.act r i = r1 at h ⊢
    repeat' first
      | ((with_reducible apply within_after (within_raiseIf _ _ _)); rfl)
      | with_reducible apply within_ite'
      | ((with_reducible apply within_after (within_logPush _ _ _)); rfl)
      | exact h

theorem within_hostRequests (r : StepRun) : Within [.regs, .eng, .seq, .twn, .obs] r.s (State.hostRequests r) := by
  unfold State.hostRequests
  dsimp only
  apply within_foldl
  · intro u x hu; exact within_after (within_auxRequest _ _ _) rfl hu
  apply within_foldl
  · intro u x hu; exact within_after (within_auxRequest _ _ _) rfl hu
  have key : ∀ (l : List Nat) (t : StepRun), Within [.regs, .eng, .seq, .twn, .obs] r.s t.s →
      Within [.regs, .eng, .seq, .twn, .obs] r.s (l.foldl (fun q m =>
        if q.s.follows || mayEnter m q.s.fromMode then q.mode m else { q with s := q.s.bump R.SEQ_ERR_CNT_req_refused }) t).s := by
    intro l
    induction l with
    | nil => intro t h; exact h
    | cons x l ih =>
      intro t h
      rw [List.foldl_cons]
      apply ih
      split
      · exact within_after (within_StepRun_mode _ _) rfl h
      · exact within_after (within_bump _ _) rfl h
  exact key _ _ (within_upd_seq_eng rfl rfl (within_refl _ _))

theorem within_seqStep (s : State) (edge : Option Nat) (entry : Bool) : Within [.regs, .clk, .acq, .win, .evr, .eng, .grd, .mod, .gtp, .mtr, .seq, .twn, .aon, .obs] s (State.seqStep s edge entry) := by
  unfold State.seqStep
  apply within_after (within_checkForce _) rfl
  apply within_after (within_hostRequests _) rfl
  have key : ∀ (l : List Nat) (t : StepRun), Within [.regs, .clk, .acq, .win, .evr, .eng, .grd, .mod, .gtp, .mtr, .seq, .twn, .aon, .obs] s t.s →
      Within [.regs, .clk, .acq, .win, .evr, .eng, .grd, .mod, .gtp, .mtr, .seq, .twn, .aon, .obs] s (l.foldl (fun r i => StepRun.rule edge entry i r) t).s := by
    intro l
    induction l with
    | nil => intro t h; exact h
    | cons x r ih => intro t h; exact ih _ (within_after (within_StepRun_rule _ _ _ _) rfl h)
  exact key _ _ (within_mono (within_count _ _) rfl)

theorem runs_execSequencerStep (kind : Nat) (s : State) : Runs [.regs, .clk, .acq, .win, .evr, .eng, .grd, .mod, .gtp, .mtr, .seq, .twn, .aon, .obs] s (execSequencerStep kind s) := by
  unfold execSequencerStep
  repeat' first
    | with_reducible apply runs_when
    | with_reducible apply runs_when_of
    | with_reducible apply runs_next
    | with_reducible apply runs_ite
    | ((with_reducible apply within_after (within_seqStep _ _ _)); rfl)
    | with_reducible apply within_ite
    | split
    | with_reducible exact within_refl _ _
    | with_reducible assumption
    | ((with_reducible apply within_upd_seq); rfl)
    | (dsimp only; split)

theorem runs_execSeqTimerExpiry (t : Nat) (s : State) : Runs [.regs, .clk, .acq, .win, .evr, .eng, .grd, .mod, .gtp, .mtr, .seq, .twn, .aon, .obs] s (execSeqTimerExpiry t s) := by
  unfold execSeqTimerExpiry
  repeat' first
    | with_reducible apply runs_when
    | with_reducible apply runs_when_of
    | with_reducible apply runs_next
    | with_reducible apply runs_ite
    | ((with_reducible apply within_after (within_seqStep _ _ _)); rfl)
    | split
    | with_reducible exact within_refl _ _
    | with_reducible assumption
    | ((with_reducible apply within_upd_seq); rfl)
    | (dsimp only; split)

theorem runs_execModeRequest (m : Nat) (s : State) : Runs [.seq] s (execModeRequest m s) := by
  unfold execModeRequest
  repeat' first
    | with_reducible apply runs_when
    | with_reducible apply runs_when_of
    | with_reducible apply runs_next
    | with_reducible apply runs_ite
    | ((with_reducible apply within_after (within_hostMode _ _)); rfl)
    | split
    | with_reducible exact within_refl _ _
    | with_reducible assumption
    | (dsimp only; split)

theorem runs_execAuxOnRequest (k : Nat) (s : State) : Runs [.seq] s (execAuxOnRequest k s) := by
  unfold execAuxOnRequest
  repeat' first
    | with_reducible apply runs_when
    | with_reducible apply runs_when_of
    | with_reducible apply runs_next
    | with_reducible apply runs_ite
    | ((with_reducible apply within_after (within_hostAux _ _ _)); rfl)
    | split
    | with_reducible exact within_refl _ _
    | with_reducible assumption
    | (dsimp only; split)

theorem runs_execAuxOffRequest (k : Nat) (s : State) : Runs [.seq] s (execAuxOffRequest k s) := by
  unfold execAuxOffRequest
  repeat' first
    | with_reducible apply runs_when
    | with_reducible apply runs_when_of
    | with_reducible apply runs_next
    | with_reducible apply runs_ite
    | ((with_reducible apply within_after (within_hostAux _ _ _)); rfl)
    | split
    | with_reducible exact within_refl _ _
    | with_reducible assumption
    | (dsimp only; split)

end Sys2Proof.Laws
end

