-- ==== Sys2Proof/Laws/FrameGov.lean ====
section
/-!
SUPPORT. What each operation of Machine/Gov.lean may change.
-/

namespace Sys2Proof.Laws

open Sys2Proof Sys2Proof.Machine

theorem within_ladderMove (s : State) (want : Nat) (inhibit : Bool) : Within [.regs, .gov] s (State.ladderMove s want inhibit) := by
  unfold State.ladderMove
  repeat' first
    | ((with_reducible apply within_after (within_bump _ _)); rfl)
    | with_reducible apply within_ite'
    | with_reducible apply within_ite
    | split
    | with_reducible exact within_refl _ _
    | with_reducible assumption
    | ((with_reducible apply within_upd_gov); rfl)
    | (dsimp only; split)

theorem within_ladder (s : State) (h : Int) : Within [.regs, .gov] s (State.ladder s h) := by
  unfold State.ladder
  repeat' first
    | ((with_reducible apply within_after (within_put _ _ _)); rfl)
    | ((with_reducible apply within_after (within_putB _ _ _)); rfl)
    | ((with_reducible apply within_after (within_ladderMove _ _ _)); rfl)
    | with_reducible apply within_ite'
    | split
    | with_reducible exact within_refl _ _
    | with_reducible assumption
    | (dsimp only; split)

theorem within_eplanMove (s : State) : Within [.regs, .gov] s (State.eplanMove s) := by
  unfold State.eplanMove
  repeat' first
    | ((with_reducible apply within_after (within_bump _ _)); rfl)
    | with_reducible apply within_ite
    | split
    | with_reducible exact within_refl _ _
    | with_reducible assumption
    | ((with_reducible apply within_upd_gov); rfl)
    | (dsimp only; split)

theorem within_bridges (s : State) : Within [.regs, .eng, .seq, .gov, .twn, .obs] s (State.bridges s) := by
  unfold State.bridges
  repeat' first
    | ((with_reducible apply within_after (within_put _ _ _)); rfl)
    | ((with_reducible apply within_after (within_bump _ _)); rfl)
    | ((with_reducible apply within_after (within_holdAux _ _ _)); rfl)
    | ((with_reducible apply within_after (within_flushAux _)); rfl)
    | with_reducible apply within_ite
    | split
    | with_reducible exact within_refl _ _
    | with_reducible assumption
    | ((with_reducible apply within_upd_gov); rfl)
    | (dsimp only; split)

theorem within_deferral (s : State) : Within [.gov] s (State.deferral s) := by
  unfold State.deferral
  repeat' first
    | with_reducible apply within_ite
    | split
    | with_reducible exact within_refl _ _
    | with_reducible assumption
    | ((with_reducible apply within_upd_gov); rfl)
    | (dsimp only; split)

theorem within_govDecide (s : State) : Within [.regs, .eng, .seq, .gov, .twn, .obs] s (State.govDecide s) := by
  unfold State.govDecide
  repeat' first
    | ((with_reducible apply within_after (within_ladder _ _)); rfl)
    | ((with_reducible apply within_after (within_eplanMove _)); rfl)
    | ((with_reducible apply within_after (within_bridges _)); rfl)
    | ((with_reducible apply within_after (within_deferral _)); rfl)
    | with_reducible apply within_ite
    | split
    | with_reducible exact within_refl _ _
    | with_reducible assumption
    | ((with_reducible apply within_upd_gov); rfl)
    | (dsimp only; split)

theorem within_govHop (s : State) (i : Nat) (p : Option Nat) : Within [.regs, .clk, .twn, .obs] s (State.govHop s i p) := by
  unfold State.govHop
  repeat' first
    | ((with_reducible apply within_after (within_bump _ _)); rfl)
    | ((with_reducible apply within_after (within_setWord64 _ _ _)); rfl)
    | ((with_reducible apply within_after (within_hopRequest _ _ _ _)); rfl)
    | ((with_reducible apply within_after (within_sendCtl _ _)); rfl)
    | with_reducible apply within_ite
    | split
    | with_reducible exact within_refl _ _
    | with_reducible assumption
    | (dsimp only; split)

theorem within_govPublish (s : State) : Within [.regs, .clk, .evr, .eng, .gov, .twn, .obs] s (State.govPublish s) := by
  unfold State.govPublish
  repeat' first
    | ((with_reducible apply within_after (within_publishFrom _ _ _)); rfl)
    | ((with_reducible apply within_after (within_putB _ _ _)); rfl)
    | ((with_reducible apply within_after (within_drive _ _ _)); rfl)
    | ((with_reducible apply within_after (within_sendCtl _ _)); rfl)
    | ((with_reducible apply within_after (within_govHop _ _ _)); rfl)
    | with_reducible apply within_ite'
    | with_reducible apply within_ite
    | split
    | with_reducible exact within_refl _ _
    | with_reducible assumption
    | ((with_reducible apply within_upd_gov); rfl)
    | (dsimp only; split)

end Sys2Proof.Laws
end

