-- ==== Sys2Proof/Laws/FrameFab.lean ====
section
/-!
SUPPORT. What each operation of Machine/Fab.lean may change.
-/

namespace Sys2Proof.Laws

open Sys2Proof Sys2Proof.Machine

theorem within_setFport (s : State) (p : Nat) (x : FabPort) : Within [.fab] s (State.setFport s p x) := by
  unfold State.setFport
  repeat' first
    | split
    | with_reducible exact within_refl _ _
    | with_reducible assumption
    | ((with_reducible apply within_upd_fab); rfl)
    | (dsimp only; split)

theorem within_putUp (s : State) (p : Nat) (b : Bool) : Within [.regs] s (State.putUp s p b) := by
  unfold State.putUp
  repeat' first
    | ((with_reducible apply within_after (within_putB _ _ _)); rfl)
    | split
    | with_reducible exact within_refl _ _
    | with_reducible assumption
    | (dsimp only; split)

theorem within_probeSend (s : State) : Within [.fab] s (State.probeSend s) := by
  unfold State.probeSend
  repeat' first
    | ((with_reducible apply within_after (within_fabSend _ _ _)); rfl)
    | ((with_reducible apply within_after (within_setFport _ _ _)); rfl)
    | split
    | with_reducible exact within_refl _ _
    | with_reducible assumption
    | (dsimp only; split)

theorem within_barrierRelease (s : State) (n : Nat) : Within [.regs, .evr, .fab] s (State.barrierRelease s n) := by
  unfold State.barrierRelease
  repeat' first
    | ((with_reducible apply within_after (within_putB _ _ _)); rfl)
    | ((with_reducible apply within_after (within_raise _ _)); rfl)
    | ((with_reducible apply within_after (within_fabSend _ _ _)); rfl)
    | ((with_reducible apply within_after (within_setFport _ _ _)); rfl)
    | with_reducible apply within_ite'
    | ((with_reducible apply within_forUpTo); intro _ _ _)
    | split
    | with_reducible exact within_refl _ _
    | with_reducible assumption
    | ((with_reducible apply within_upd_fab); rfl)
    | (dsimp only; split)

theorem within_barrierCheck (s : State) : Within [.regs, .evr, .fab] s (State.barrierCheck s) := by
  unfold State.barrierCheck
  repeat' first
    | ((with_reducible apply within_after (within_barrierRelease _ _)); rfl)
    | ((with_reducible apply within_after (within_fabSend _ _ _)); rfl)
    | with_reducible apply within_ite
    | split
    | with_reducible exact within_refl _ _
    | with_reducible assumption
    | ((with_reducible apply within_upd_fab); rfl)
    | (dsimp only; split)

theorem within_portComesUp (s : State) (p : Nat) : Within [.regs, .evr, .fab, .free] s (State.portComesUp s p) := by
  unfold State.portComesUp
  repeat' first
    | ((with_reducible apply within_after (within_put _ _ _)); rfl)
    | ((with_reducible apply within_after (within_putUp _ _ _)); rfl)
    | ((with_reducible apply within_after (within_drive _ _ _)); rfl)
    | ((with_reducible apply within_after (within_putB _ _ _)); rfl)
    | ((with_reducible apply within_after (within_barrierCheck _)); rfl)
    | ((with_reducible apply within_after (within_burn _)); rfl)
    | ((with_reducible apply within_after (within_setFport _ _ _)); rfl)
    | with_reducible apply within_ite
    | split
    | with_reducible exact within_refl _ _
    | with_reducible assumption
    | ((with_reducible apply within_upd_fab); rfl)
    | (dsimp only; split)

theorem within_helloCheck (s : State) (p : Nat) : Within [.regs, .fab] s (State.helloCheck s p) := by
  unfold State.helloCheck
  repeat' first
    | ((with_reducible apply within_after (within_put _ _ _)); rfl)
    | ((with_reducible apply within_after (within_setFport _ _ _)); rfl)
    | ((with_reducible apply within_after (within_probeSend _)); rfl)
    | with_reducible apply within_ite'
    | with_reducible apply within_ite
    | split
    | with_reducible exact within_refl _ _
    | with_reducible assumption
    | (dsimp only; split)

theorem within_toAligning (s : State) (p : Nat) : Within [.regs, .fab] s (State.toAligning s p) := by
  unfold State.toAligning
  repeat' first
    | ((with_reducible apply within_after (within_put _ _ _)); rfl)
    | ((with_reducible apply within_after (within_bump _ _)); rfl)
    | ((with_reducible apply within_after (within_putUp _ _ _)); rfl)
    | ((with_reducible apply within_after (within_setFport _ _ _)); rfl)
    | split
    | with_reducible exact within_refl _ _
    | with_reducible assumption
    | ((with_reducible apply within_upd_fab); rfl)
    | (dsimp only; split)

theorem within_timeLost (s : State) (twin : Bool) : Within [.regs, .evr, .fab] s (State.timeLost s twin) := by
  unfold State.timeLost
  repeat' first
    | ((with_reducible apply within_after (within_putB _ _ _)); rfl)
    | ((with_reducible apply within_after (within_bump _ _)); rfl)
    | ((with_reducible apply within_after (within_raise _ _)); rfl)
    | with_reducible apply within_ite'
    | split
    | with_reducible exact within_refl _ _
    | with_reducible assumption
    | ((with_reducible apply within_upd_fab); rfl)
    | (dsimp only; split)

theorem within_childDown (s : State) (p : Nat) : Within [.regs, .evr, .fab] s (State.childDown s p) := by
  unfold State.childDown
  repeat' first
    | ((with_reducible apply within_after (within_toAligning _ _)); rfl)
    | ((with_reducible apply within_after (within_drive _ _ _)); rfl)
    | ((with_reducible apply within_after (within_bump _ _)); rfl)
    | ((with_reducible apply within_after (within_barrierCheck _)); rfl)
    | with_reducible apply within_ite'
    | split
    | with_reducible exact within_refl _ _
    | with_reducible assumption
    | (dsimp only; split)

theorem within_parentDown (s : State) : Within [.regs, .evr, .fab] s (State.parentDown s) := by
  unfold State.parentDown
  repeat' first
    | ((with_reducible apply within_after (within_toAligning _ _)); rfl)
    | ((with_reducible apply within_after (within_putB _ _ _)); rfl)
    | ((with_reducible apply within_after (within_drive _ _ _)); rfl)
    | ((with_reducible apply within_after (within_childDown _ _)); rfl)
    | ((with_reducible apply within_after (within_timeLost _ _)); rfl)
    | with_reducible apply within_ite'
    | with_reducible apply within_ite
    | ((with_reducible apply within_forUpTo); intro _ _ _)
    | split
    | with_reducible exact within_refl _ _
    | with_reducible assumption
    | (dsimp only; split)

theorem within_portDown (s : State) (p : Nat) : Within [.regs, .evr, .fab] s (State.portDown s p) := by
  unfold State.portDown
  repeat' first
    | ((with_reducible apply within_after (within_parentDown _)); rfl)
    | ((with_reducible apply within_after (within_childDown _ _)); rfl)
    | with_reducible apply within_ite
    | split
    | with_reducible exact within_refl _ _
    | with_reducible assumption
    | (dsimp only; split)

theorem within_fabStart (s : State) : Within [.regs] s (State.fabStart s) := by
  unfold State.fabStart
  repeat' first
    | ((with_reducible apply within_after (within_put _ _ _)); rfl)
    | ((with_reducible apply within_after (within_putB _ _ _)); rfl)
    | with_reducible apply within_ite'
    | with_reducible apply within_ite
    | ((with_reducible apply within_forUpTo); intro _ _ _)
    | split
    | with_reducible exact within_refl _ _
    | with_reducible assumption
    | (dsimp only; split)

theorem within_setSeen {A : List Part} {u s t : State} {codes : Nat} (hA : subParts [.regs] A = true) (hs : Within A u s) (h : Within A u t) :
    Within A u (State.setSeen s codes t) := by
  unfold State.setSeen
  split
  · exact h
  · exact within_trans hs (within_bumpBy _ _ _) hA

theorem within_helloBad (s : State) (p : Nat) : Within [.fab] s (State.helloBad s p) := by
  unfold State.helloBad
  repeat' first
    | ((with_reducible apply within_after (within_setFport _ _ _)); rfl)
    | split
    | with_reducible exact within_refl _ _
    | with_reducible assumption
    | (dsimp only; split)

theorem within_helloIn (s : State) (p role port id level : Nat) : Within [.regs, .fab] s (State.helloIn s p role port id level) := by
  unfold State.helloIn
  repeat' first
    | ((with_reducible apply within_after (within_setFport _ _ _)); rfl)
    | ((with_reducible apply within_after (within_helloCheck _ _)); rfl)
    | split
    | with_reducible exact within_refl _ _
    | with_reducible assumption
    | (dsimp only; split)

theorem runs_execHello (p codes role port id level : Nat) (s : State) : Runs [.regs, .fab] s (execHello p codes role port id level s) := by
  unfold execHello
  repeat' first
    | with_reducible apply runs_when
    | with_reducible apply runs_when_of
    | with_reducible apply runs_next
    | with_reducible apply runs_ite
    | ((with_reducible apply within_after (within_helloBad _ _)); rfl)
    | (apply within_setSeen rfl)
    | ((with_reducible apply within_after (within_helloIn _ _ _ _ _ _)); rfl)
    | with_reducible apply within_ite
    | split
    | with_reducible exact within_refl _ _
    | with_reducible assumption
    | (dsimp only; split)

theorem within_helloOut (s : State) (p : Nat) : Within [.regs, .fab] s (State.helloOut s p) := by
  unfold State.helloOut
  repeat' first
    | ((with_reducible apply within_after (within_fabSend _ _ _)); rfl)
    | ((with_reducible apply within_after (within_setFport _ _ _)); rfl)
    | ((with_reducible apply within_after (within_helloCheck _ _)); rfl)
    | split
    | with_reducible exact within_refl _ _
    | with_reducible assumption
    | (dsimp only; split)

theorem runs_execHelloSend (p : Nat) (s : State) : Runs [.regs, .fab] s (execHelloSend p s) := by
  unfold execHelloSend
  repeat' first
    | with_reducible apply runs_when
    | with_reducible apply runs_when_of
    | with_reducible apply runs_next
    | with_reducible apply runs_ite
    | ((with_reducible apply within_after (within_helloOut _ _)); rfl)
    | split
    | with_reducible exact within_refl _ _
    | with_reducible assumption
    | (dsimp only; split)

theorem runs_execAlignRestart (p : Nat) (s : State) : Runs [.regs] s (execAlignRestart p s) := by
  unfold execAlignRestart
  repeat' first
    | with_reducible apply runs_when
    | with_reducible apply runs_when_of
    | with_reducible apply runs_next
    | with_reducible apply runs_ite
    | ((with_reducible apply within_after (within_bump _ _)); rfl)
    | split
    | with_reducible exact within_refl _ _
    | with_reducible assumption
    | (dsimp only; split)

theorem runs_execLinkDown (p codes : Nat) (s : State) : Runs [.regs, .evr, .fab] s (execLinkDown p codes s) := by
  unfold execLinkDown
  repeat' first
    | with_reducible apply runs_when
    | with_reducible apply runs_when_of
    | with_reducible apply runs_next
    | with_reducible apply runs_ite
    | ((with_reducible apply within_after (within_bumpBy _ _ _)); rfl)
    | ((with_reducible apply within_after (within_portDown _ _)); rfl)
    | split
    | with_reducible exact within_refl _ _
    | with_reducible assumption
    | (dsimp only; split)

theorem runs_execLosAssert (p : Nat) (high : Bool) (s : State) : Runs [.regs, .evr, .fab, .pins] s (execLosAssert p high s) := by
  unfold execLosAssert
  repeat' first
    | with_reducible apply runs_when
    | with_reducible apply runs_when_of
    | with_reducible apply runs_next
    | with_reducible apply runs_ite
    | ((with_reducible apply within_after (within_portDown _ _)); rfl)
    | with_reducible apply within_ite'
    | split
    | with_reducible exact within_refl _ _
    | with_reducible assumption
    | ((with_reducible apply within_upd_pins); rfl)
    | (dsimp only; split)

theorem runs_execProbe (p codes : Nat) (s : State) : Runs [.regs, .fab] s (execProbe p codes s) := by
  unfold execProbe
  repeat' first
    | with_reducible apply runs_when
    | with_reducible apply runs_when_of
    | with_reducible apply runs_next
    | with_reducible apply runs_ite
    | (apply within_setSeen rfl)
    | ((with_reducible apply within_after (within_setFport _ _ _)); rfl)
    | split
    | with_reducible exact within_refl _ _
    | with_reducible assumption
    | (dsimp only; split)

theorem runs_execEchoSend (p : Nat) (s : State) : Runs [.regs, .evr, .fab, .free] s (execEchoSend p s) := by
  unfold execEchoSend
  repeat' first
    | with_reducible apply runs_when
    | with_reducible apply runs_when_of
    | with_reducible apply runs_next
    | with_reducible apply runs_ite
    | ((with_reducible apply within_after (within_fabSend _ _ _)); rfl)
    | ((with_reducible apply within_after (within_setFport _ _ _)); rfl)
    | ((with_reducible apply within_after (within_portComesUp _ _)); rfl)
    | with_reducible apply within_ite'
    | split
    | with_reducible exact within_refl _ _
    | with_reducible assumption
    | (dsimp only; split)

theorem runs_execEcho (rt codes : Nat) (s : State) : Runs [.regs, .evr, .fab, .free] s (execEcho rt codes s) := by
  unfold execEcho
  repeat' first
    | with_reducible apply runs_when
    | with_reducible apply runs_when_of
    | with_reducible apply runs_next
    | with_reducible apply runs_ite
    | ((with_reducible apply within_after (within_setFport _ _ _)); rfl)
    | ((with_reducible apply within_after (within_put _ _ _)); rfl)
    | (apply within_setSeen rfl)
    | ((with_reducible apply within_after (within_portComesUp _ _)); rfl)
    | ((with_reducible apply within_after (within_probeSend _)); rfl)
    | with_reducible apply within_ite
    | split
    | with_reducible exact within_refl _ _
    | with_reducible assumption
    | (dsimp only; split)

theorem runs_execEchoTimeout (s : State) : Runs [.regs, .evr, .fab] s (execEchoTimeout s) := by
  unfold execEchoTimeout
  repeat' first
    | with_reducible apply runs_when
    | with_reducible apply runs_when_of
    | with_reducible apply runs_next
    | with_reducible apply runs_ite
    | ((with_reducible apply within_after (within_portDown _ _)); rfl)
    | split
    | with_reducible exact within_refl _ _
    | with_reducible assumption
    | (dsimp only; split)

theorem runs_execPeriodicProbe (s : State) : Runs [.fab] s (execPeriodicProbe s) := by
  unfold execPeriodicProbe
  repeat' first
    | with_reducible apply runs_when
    | with_reducible apply runs_when_of
    | with_reducible apply runs_next
    | with_reducible apply runs_ite
    | ((with_reducible apply within_after (within_probeSend _)); rfl)
    | split
    | with_reducible exact within_refl _ _
    | with_reducible assumption
    | (dsimp only; split)

theorem within_paramWrite (s : State) (sig : Nat) (w : Word) : Within [.eng] s (State.paramWrite s sig w) := by
  unfold State.paramWrite
  repeat' first
    | split
    | with_reducible exact within_refl _ _
    | with_reducible assumption
    | ((with_reducible apply within_upd_eng); rfl)
    | (dsimp only; split)

theorem within_plantSnapshot (s : State) (id : Nat) : Within [.regs] s (State.plantSnapshot s id) := by
  unfold State.plantSnapshot
  repeat' first
    | ((with_reducible apply within_after (within_put _ _ _)); rfl)
    | ((with_reducible apply within_after (within_putB _ _ _)); rfl)
    | ((with_reducible apply within_after (within_setWord64 _ _ _)); rfl)
    | ((with_reducible apply within_after (within_setWord _ _ _)); rfl)
    | ((with_reducible apply within_after (within_snapTake _ _)); rfl)
    | ((with_reducible apply within_forUpTo); intro _ _ _)
    | split
    | with_reducible exact within_refl _ _
    | with_reducible assumption
    | (dsimp only; split)

theorem within_carriersAnew (s : State) : Within [.regs, .frm, .mod] s (State.carriersAnew s) := by
  unfold State.carriersAnew
  repeat' first
    | ((with_reducible apply within_after (within_setWord _ _ _)); rfl)
    | ((with_reducible apply within_after (within_startCarriers _)); rfl)
    | ((with_reducible apply within_forUpTo); intro _ _ _)
    | split
    | with_reducible exact within_refl _ _
    | with_reducible assumption
    | ((with_reducible apply within_upd_frm); rfl)
    | (dsimp only; split)

theorem within_schedEffect (s : State) (o : SchedOp) (late : Bool) : Within [.regs, .clk, .frm, .eng, .mod] s (State.schedEffect s o late) := by
  unfold State.schedEffect
  repeat' first
    | ((with_reducible apply within_after (within_plantSnapshot _ _)); rfl)
    | ((with_reducible apply within_after (within_paramWrite _ _ _)); rfl)
    | ((with_reducible apply within_after (within_put _ _ _)); rfl)
    | ((with_reducible apply within_after (within_putB _ _ _)); rfl)
    | ((with_reducible apply within_after (within_setWord64 _ _ _)); rfl)
    | ((with_reducible apply within_after (within_hopRequest _ _ _ _)); rfl)
    | ((with_reducible apply within_after (within_carriersAnew _)); rfl)
    | with_reducible apply within_ite
    | split
    | with_reducible exact within_refl _ _
    | with_reducible assumption
    | (dsimp only; split)

theorem within_schedExec (s : State) (o : SchedOp) (late : Bool) : Within [.regs, .clk, .evr, .frm, .eng, .mod] s (State.schedExec s o late) := by
  unfold State.schedExec
  repeat' first
    | ((with_reducible apply within_after (within_bump _ _)); rfl)
    | ((with_reducible apply within_after (within_schedEffect _ _ _)); rfl)
    | ((with_reducible apply within_after (within_put _ _ _)); rfl)
    | ((with_reducible apply within_after (within_raise _ _)); rfl)
    | with_reducible apply within_ite'
    | with_reducible apply within_ite
    | split
    | with_reducible exact within_refl _ _
    | with_reducible assumption
    | (dsimp only; split)

theorem within_setSched (s : State) (l : List SchedOp) : Within [.regs, .fab] s (State.setSched s l) := by
  unfold State.setSched
  repeat' first
    | ((with_reducible apply within_after (within_put _ _ _)); rfl)
    | split
    | with_reducible exact within_refl _ _
    | with_reducible assumption
    | ((with_reducible apply within_upd_fab); rfl)
    | (dsimp only; split)

theorem within_schedArrive (s : State) (src : Nat) (o : SchedOp) : Within [.regs, .clk, .evr, .frm, .eng, .mod, .fab] s (State.schedArrive s src o) := by
  unfold State.schedArrive
  repeat' first
    | ((with_reducible apply within_after (within_bump _ _)); rfl)
    | ((with_reducible apply within_after (within_schedExec _ _ _)); rfl)
    | ((with_reducible apply within_after (within_setSched _ _)); rfl)
    | with_reducible apply within_ite'
    | with_reducible apply within_ite
    | split
    | with_reducible exact within_refl _ _
    | with_reducible assumption
    | (dsimp only; split)

theorem runs_execScheduledOperation (src op id t arg0 arg1 : Nat) (s : State) : Runs [.regs, .clk, .evr, .frm, .eng, .mod, .fab] s (execScheduledOperation src op id t arg0 arg1 s) := by
  unfold execScheduledOperation
  repeat' first
    | with_reducible apply runs_when
    | with_reducible apply runs_when_of
    | with_reducible apply runs_next
    | with_reducible apply runs_ite
    | ((with_reducible apply within_after (within_schedArrive _ _ _)); rfl)
    | split
    | with_reducible exact within_refl _ _
    | with_reducible assumption
    | (dsimp only; split)

theorem within_schedRun (s : State) (op : Nat) : Within [.regs, .clk, .evr, .frm, .eng, .mod, .fab] s (State.schedRun s op) := by
  unfold State.schedRun
  repeat' first
    | ((with_reducible apply within_after (within_setSched _ _)); rfl)
    | ((with_reducible apply within_after (within_schedExec _ _ _)); rfl)
    | with_reducible apply within_ite
    | split
    | with_reducible exact within_refl _ _
    | with_reducible assumption
    | (dsimp only; split)

theorem runs_execScheduledSnapshot (s : State) : Runs [.regs, .clk, .evr, .frm, .eng, .mod, .fab] s (execScheduledSnapshot s) := by
  unfold execScheduledSnapshot
  repeat' first
    | with_reducible apply runs_when
    | with_reducible apply runs_when_of
    | with_reducible apply runs_next
    | with_reducible apply runs_ite
    | ((with_reducible apply within_after (within_schedRun _ _)); rfl)
    | split
    | with_reducible exact within_refl _ _
    | with_reducible assumption
    | (dsimp only; split)

theorem runs_execScheduledSetpoint (s : State) : Runs [.regs, .clk, .evr, .frm, .eng, .mod, .fab] s (execScheduledSetpoint s) := by
  unfold execScheduledSetpoint
  repeat' first
    | with_reducible apply runs_when
    | with_reducible apply runs_when_of
    | with_reducible apply runs_next
    | with_reducible apply runs_ite
    | ((with_reducible apply within_after (within_schedRun _ _)); rfl)
    | split
    | with_reducible exact within_refl _ _
    | with_reducible assumption
    | (dsimp only; split)

theorem runs_execScheduledPlanHop (s : State) : Runs [.regs, .clk, .evr, .frm, .eng, .mod, .fab] s (execScheduledPlanHop s) := by
  unfold execScheduledPlanHop
  repeat' first
    | with_reducible apply runs_when
    | with_reducible apply runs_when_of
    | with_reducible apply runs_next
    | with_reducible apply runs_ite
    | ((with_reducible apply within_after (within_schedRun _ _)); rfl)
    | split
    | with_reducible exact within_refl _ _
    | with_reducible assumption
    | (dsimp only; split)

theorem runs_execPlantReset (s : State) : Runs [.regs, .clk, .evr, .frm, .eng, .mod, .fab] s (execPlantReset s) := by
  unfold execPlantReset
  repeat' first
    | with_reducible apply runs_when
    | with_reducible apply runs_when_of
    | with_reducible apply runs_next
    | with_reducible apply runs_ite
    | ((with_reducible apply within_after (within_schedRun _ _)); rfl)
    | split
    | with_reducible exact within_refl _ _
    | with_reducible assumption
    | (dsimp only; split)

theorem within_schedPassed (n : Nat) (s : State) : Within [.regs, .clk, .evr, .frm, .eng, .mod, .fab] s (State.schedPassed n s) := by
  induction n generalizing s with
  | zero => exact within_refl _ _
  | succ n ih =>
    unfold State.schedPassed
    split
    · split
      · apply within_after (ih _) rfl
        apply within_after (within_schedExec _ _ _) rfl
        exact within_mono (within_setSched _ _) rfl
      · exact within_refl _ _
    · exact within_refl _ _

theorem within_timeStep (s : State) (t : Nat) : Within [.regs, .clk, .evr, .frm, .eng, .mod, .fab] s (State.timeStep s t) := by
  unfold State.timeStep
  repeat' first
    | ((with_reducible apply within_after (within_schedPassed _ _)); rfl)
    | ((with_reducible apply within_after (within_setSyn _ _ _)); rfl)
    | ((with_reducible apply within_after (within_bump _ _)); rfl)
    | with_reducible apply within_ite'
    | ((with_reducible apply within_forUpTo); intro _ _ _)
    | split
    | with_reducible exact within_refl _ _
    | with_reducible assumption
    | ((with_reducible apply within_upd_clk); rfl)
    | ((with_reducible apply within_upd_fab); rfl)
    | ((with_reducible apply within_upd_clk_fab); rfl; rfl)
    | (dsimp only; split)

theorem within_markSend (s : State) : Within [.regs, .clk, .evr, .frm, .eng, .mod, .fab, .twn] s (State.markSend s) := by
  unfold State.markSend
  repeat' first
    | ((with_reducible apply within_after (within_timeStep _ _)); rfl)
    | ((with_reducible apply within_after (within_fabSend _ _ _)); rfl)
    | with_reducible apply within_ite'
    | ((with_reducible apply within_forUpTo); intro _ _ _)
    | split
    | with_reducible exact within_refl _ _
    | with_reducible assumption
    | ((with_reducible apply within_upd_fab); rfl)
    | ((with_reducible apply within_upd_twn); rfl)
    | (dsimp only; split)

theorem runs_execTimeMarkSend (s : State) : Runs [.regs, .clk, .evr, .frm, .eng, .mod, .fab, .twn] s (execTimeMarkSend s) := by
  unfold execTimeMarkSend
  repeat' first
    | with_reducible apply runs_when
    | with_reducible apply runs_when_of
    | with_reducible apply runs_next
    | with_reducible apply runs_ite
    | ((with_reducible apply within_after (within_markSend _)); rfl)
    | split
    | with_reducible exact within_refl _ _
    | with_reducible assumption
    | (dsimp only; split)

theorem within_markCounts (s : State) (twin : Bool) (e : Int) : Within [.regs, .evr, .fab] s (State.markCounts s twin e) := by
  unfold State.markCounts
  repeat' first
    | ((with_reducible apply within_after (within_putB _ _ _)); rfl)
    | ((with_reducible apply within_after (within_timeLost _ _)); rfl)
    | with_reducible apply within_ite'
    | with_reducible apply within_ite
    | split
    | with_reducible exact within_refl _ _
    | with_reducible assumption
    | ((with_reducible apply within_upd_fab); rfl)
    | (dsimp only; split)

theorem within_markIn (s : State) (twin : Bool) (value : Nat) (valid : Bool) : Within [.regs, .clk, .evr, .frm, .eng, .mod, .fab] s (State.markIn s twin value valid) := by
  unfold State.markIn
  repeat' first
    | ((with_reducible apply within_after (within_putI _ _ _)); rfl)
    | ((with_reducible apply within_after (within_putB _ _ _)); rfl)
    | ((with_reducible apply within_after (within_timeStep _ _)); rfl)
    | ((with_reducible apply within_after (within_bump _ _)); rfl)
    | ((with_reducible apply within_after (within_markCounts _ _ _)); rfl)
    | with_reducible apply within_ite'
    | with_reducible apply within_ite
    | split
    | with_reducible exact within_refl _ _
    | with_reducible assumption
    | ((with_reducible apply within_upd_fab); rfl)
    | (dsimp only; split)

theorem runs_execTimeMark (twin : Bool) (codes value : Nat) (valid : Bool) (s : State) : Runs [.regs, .clk, .evr, .frm, .eng, .mod, .fab] s (execTimeMark twin codes value valid s) := by
  unfold execTimeMark
  repeat' first
    | with_reducible apply runs_when
    | with_reducible apply runs_when_of
    | with_reducible apply runs_next
    | with_reducible apply runs_ite
    | (apply within_setSeen rfl)
    | ((with_reducible apply within_after (within_markIn _ _ _ _)); rfl)
    | with_reducible apply within_ite
    | split
    | with_reducible exact within_refl _ _
    | with_reducible assumption
    | (dsimp only; split)

theorem runs_execMarkTimeout (twin : Bool) (s : State) : Runs [.regs, .evr, .fab] s (execMarkTimeout twin s) := by
  unfold execMarkTimeout
  repeat' first
    | with_reducible apply runs_when
    | with_reducible apply runs_when_of
    | with_reducible apply runs_next
    | with_reducible apply runs_ite
    | ((with_reducible apply within_after (within_timeLost _ _)); rfl)
    | split
    | with_reducible exact within_refl _ _
    | with_reducible assumption
    | (dsimp only; split)

theorem within_fabTimeWrite (s : State) (t : Nat) : Within [.fab] s (State.fabTimeWrite s t) := by
  unfold State.fabTimeWrite
  repeat' first
    | with_reducible apply within_ite'
    | split
    | with_reducible exact within_refl _ _
    | with_reducible assumption
    | ((with_reducible apply within_upd_fab); rfl)
    | (dsimp only; split)

theorem runs_execFabTimeWrite (t : Nat) (s : State) : Runs [.fab] s (execFabTimeWrite t s) := by
  unfold execFabTimeWrite
  repeat' first
    | with_reducible apply runs_when
    | with_reducible apply runs_when_of
    | with_reducible apply runs_next
    | with_reducible apply runs_ite
    | ((with_reducible apply within_after (within_fabTimeWrite _ _)); rfl)
    | split
    | with_reducible exact within_refl _ _
    | with_reducible assumption
    | (dsimp only; split)

theorem runs_execTripSetReceived (p codes origin seq : Nat) (s : State) : Runs [.regs, .evr, .fab] s (execTripSetReceived p codes origin seq s) := by
  unfold execTripSetReceived
  repeat' first
    | with_reducible apply runs_when
    | with_reducible apply runs_when_of
    | with_reducible apply runs_next
    | with_reducible apply runs_ite
    | ((with_reducible apply within_after (within_fabSend _ _ _)); rfl)
    | ((with_reducible apply within_after (within_raise _ _)); rfl)
    | ((with_reducible apply within_after (within_put _ _ _)); rfl)
    | ((with_reducible apply within_after (within_bump _ _)); rfl)
    | (apply within_setSeen rfl)
    | with_reducible apply within_ite'
    | ((with_reducible apply within_forUpTo); intro _ _ _)
    | split
    | with_reducible exact within_refl _ _
    | with_reducible assumption
    | (dsimp only; split)

theorem within_plantStatus (s : State) (b : Nat) : Within [.regs, .free] s (State.plantStatus s b) := by
  unfold State.plantStatus
  repeat' first
    | ((with_reducible apply within_after (within_put _ _ _)); rfl)
    | ((with_reducible apply within_after (within_putB _ _ _)); rfl)
    | ((with_reducible apply within_after (within_burn _)); rfl)
    | split
    | with_reducible exact within_refl _ _
    | with_reducible assumption
    | (dsimp only; split)

theorem runs_execStatusSend (s : State) : Runs [.regs, .fab, .free] s (execStatusSend s) := by
  unfold execStatusSend
  repeat' first
    | with_reducible apply runs_when
    | with_reducible apply runs_when_of
    | with_reducible apply runs_next
    | with_reducible apply runs_ite
    | ((with_reducible apply within_after (within_plantStatus _ _)); rfl)
    | ((with_reducible apply within_after (within_fabSend _ _ _)); rfl)
    | with_reducible apply within_ite
    | split
    | with_reducible exact within_refl _ _
    | with_reducible assumption
    | (dsimp only; split)

theorem runs_execStatusReceived (p codes bits : Nat) (s : State) : Runs [.regs, .fab] s (execStatusReceived p codes bits s) := by
  unfold execStatusReceived
  repeat' first
    | with_reducible apply runs_when
    | with_reducible apply runs_when_of
    | with_reducible apply runs_next
    | with_reducible apply runs_ite
    | (apply within_setSeen rfl)
    | ((with_reducible apply within_after (within_setFport _ _ _)); rfl)
    | split
    | with_reducible exact within_refl _ _
    | with_reducible assumption
    | (dsimp only; split)

theorem within_barrierEnter (s : State) (n : Nat) : Within [.regs, .evr, .fab] s (State.barrierEnter s n) := by
  unfold State.barrierEnter
  repeat' first
    | ((with_reducible apply within_after (within_put _ _ _)); rfl)
    | ((with_reducible apply within_after (within_putB _ _ _)); rfl)
    | ((with_reducible apply within_after (within_barrierCheck _)); rfl)
    | with_reducible apply within_ite
    | split
    | with_reducible exact within_refl _ _
    | with_reducible assumption
    | ((with_reducible apply within_upd_fab); rfl)
    | (dsimp only; split)

theorem runs_execBarrierEnter (n : Nat) (s : State) : Runs [.regs, .evr, .fab] s (execBarrierEnter n s) := by
  unfold execBarrierEnter
  repeat' first
    | with_reducible apply runs_when
    | with_reducible apply runs_when_of
    | with_reducible apply runs_next
    | with_reducible apply runs_ite
    | ((with_reducible apply within_after (within_barrierEnter _ _)); rfl)
    | split
    | with_reducible exact within_refl _ _
    | with_reducible assumption
    | (dsimp only; split)

theorem runs_execBarrierArrive (p codes n : Nat) (s : State) : Runs [.regs, .evr, .fab] s (execBarrierArrive p codes n s) := by
  unfold execBarrierArrive
  repeat' first
    | with_reducible apply runs_when
    | with_reducible apply runs_when_of
    | with_reducible apply runs_next
    | with_reducible apply runs_ite
    | (apply within_setSeen rfl)
    | ((with_reducible apply within_after (within_setFport _ _ _)); rfl)
    | ((with_reducible apply within_after (within_barrierCheck _)); rfl)
    | with_reducible apply within_ite'
    | split
    | with_reducible exact within_refl _ _
    | with_reducible assumption
    | (dsimp only; split)

theorem runs_execBarrierRelease (codes n : Nat) (s : State) : Runs [.regs, .evr, .fab] s (execBarrierRelease codes n s) := by
  unfold execBarrierRelease
  repeat' first
    | with_reducible apply runs_when
    | with_reducible apply runs_when_of
    | with_reducible apply runs_next
    | with_reducible apply runs_ite
    | (apply within_setSeen rfl)
    | ((with_reducible apply within_after (within_barrierRelease _ _)); rfl)
    | split
    | with_reducible exact within_refl _ _
    | with_reducible assumption
    | (dsimp only; split)

theorem within_txPacket (s : State) (p : Nat) (b : List Byte) : Within [.regs, .fab, .obs] s (State.txPacket s p b) := by
  unfold State.txPacket
  repeat' first
    | ((with_reducible apply within_after (within_count _ _)); rfl)
    | ((with_reducible apply within_after (within_bump _ _)); rfl)
    | with_reducible apply within_ite
    | split
    | with_reducible exact within_refl _ _
    | with_reducible assumption
    | ((with_reducible apply within_upd_fab); rfl)
    | (dsimp only; split)

theorem within_sprinkleAssign (s : State) (src code share : Nat) : Within [.regs, .evr] s (State.sprinkleAssign s src code share) := by
  unfold State.sprinkleAssign
  repeat' first
    | ((with_reducible apply within_after (within_bump _ _)); rfl)
    | ((with_reducible apply within_after (within_put _ _ _)); rfl)
    | ((with_reducible apply within_after (within_raise _ _)); rfl)
    | with_reducible apply within_ite
    | split
    | with_reducible exact within_refl _ _
    | with_reducible assumption
    | (dsimp only; split)

theorem runs_execSprinkleAssignment (src code share : Nat) (s : State) : Runs [.regs, .evr] s (execSprinkleAssignment src code share s) := by
  unfold execSprinkleAssignment
  repeat' first
    | with_reducible apply runs_when
    | with_reducible apply runs_when_of
    | with_reducible apply runs_next
    | with_reducible apply runs_ite
    | ((with_reducible apply within_after (within_sprinkleAssign _ _ _ _)); rfl)
    | split
    | with_reducible exact within_refl _ _
    | with_reducible assumption
    | (dsimp only; split)

theorem within_deliverPacket (s : State) (b : List Byte) : Within [.regs, .clk, .evr, .frm, .eng, .mod, .fab, .obs] s (State.deliverPacket s b) := by
  unfold State.deliverPacket
  repeat' first
    | ((with_reducible apply within_after (within_count _ _)); rfl)
    | ((with_reducible apply within_after (within_bump _ _)); rfl)
    | ((with_reducible apply within_after (within_schedArrive _ _ _)); rfl)
    | ((with_reducible apply within_after (within_sprinkleAssign _ _ _ _)); rfl)
    | with_reducible apply within_ite
    | split
    | with_reducible exact within_refl _ _
    | with_reducible assumption
    | ((with_reducible apply within_upd_fab); rfl)
    | (dsimp only; split)

theorem within_unicast (s : State) (b : List Byte) : Within [.regs, .fab, .obs] s (State.unicast s b) := by
  unfold State.unicast
  repeat' first
    | ((with_reducible apply within_after (within_txPacket _ _ _)); rfl)
    | ((with_reducible apply within_after (within_bump _ _)); rfl)
    | with_reducible apply within_ite
    | split
    | with_reducible exact within_refl _ _
    | with_reducible assumption
    | (dsimp only; split)

theorem within_localPacket (s : State) (rx : Option Nat) (b : List Byte) : Within [.regs, .clk, .evr, .frm, .eng, .mod, .fab, .obs] s (State.localPacket s rx b) := by
  unfold State.localPacket
  repeat' first
    | ((with_reducible apply within_after (within_deliverPacket _ _)); rfl)
    | with_reducible apply within_ite
    | split
    | with_reducible exact within_refl _ _
    | with_reducible assumption
    | ((with_reducible apply within_upd_fab); rfl)
    | (dsimp only; split)

theorem within_routePacket (s : State) (fromUp : Bool) (rx : Option Nat) (b : List Byte) : Within [.regs, .clk, .evr, .frm, .eng, .mod, .fab, .obs] s (State.routePacket s fromUp rx b) := by
  unfold State.routePacket
  repeat' first
    | ((with_reducible apply within_after (within_bump _ _)); rfl)
    | ((with_reducible apply within_after (within_txPacket _ _ _)); rfl)
    | ((with_reducible apply within_after (within_localPacket _ _ _)); rfl)
    | ((with_reducible apply within_after (within_unicast _ _)); rfl)
    | with_reducible apply within_ite'
    | with_reducible apply within_ite
    | ((with_reducible apply within_forUpTo); intro _ _ _)
    | split
    | with_reducible exact within_refl _ _
    | with_reducible assumption
    | (dsimp only; split)

theorem within_packetIn (s : State) (p codes : Nat) (b : List Byte) : Within [.regs, .clk, .evr, .frm, .eng, .mod, .fab, .obs] s (State.packetIn s p codes b) := by
  unfold State.packetIn
  repeat' first
    | ((with_reducible apply within_after (within_count _ _)); rfl)
    | ((with_reducible apply within_after (within_bumpBy _ _ _)); rfl)
    | ((with_reducible apply within_after (within_bump _ _)); rfl)
    | ((with_reducible apply within_after (within_raise _ _)); rfl)
    | ((with_reducible apply within_after (within_routePacket _ _ _ _)); rfl)
    | with_reducible apply within_ite
    | split
    | with_reducible exact within_refl _ _
    | with_reducible assumption
    | (dsimp only; split)

theorem runs_execPacketReceived (p codes : Nat) (b : List Byte) (s : State) : Runs [.regs, .clk, .evr, .frm, .eng, .mod, .fab, .obs] s (execPacketReceived p codes b s) := by
  unfold execPacketReceived
  repeat' first
    | with_reducible apply runs_when
    | with_reducible apply runs_when_of
    | with_reducible apply runs_next
    | with_reducible apply runs_ite
    | ((with_reducible apply within_after (within_bumpBy _ _ _)); rfl)
    | ((with_reducible apply within_after (within_packetIn _ _ _ _)); rfl)
    | with_reducible apply within_ite
    | split
    | with_reducible exact within_refl _ _
    | with_reducible assumption
    | (dsimp only; split)

theorem within_schedTxGo (s : State) : Within [.regs, .clk, .evr, .frm, .eng, .mod, .fab, .obs] s (State.schedTxGo s) := by
  unfold State.schedTxGo
  repeat' first
    | ((with_reducible apply within_after (within_routePacket _ _ _ _)); rfl)
    | ((with_reducible apply within_after (within_putB _ _ _)); rfl)
    | with_reducible apply within_ite
    | split
    | with_reducible exact within_refl _ _
    | with_reducible assumption
    | (dsimp only; split)

theorem within_fabSlots (s : State) : Within [.fab] s (State.fabSlots s) := by
  unfold State.fabSlots
  repeat' first
    | ((with_reducible apply within_after (within_fabSlot _ _)); rfl)
    | ((with_reducible apply within_forUpTo); intro _ _ _)
    | split
    | with_reducible exact within_refl _ _
    | with_reducible assumption
    | (dsimp only; split)

theorem within_fabDrain (s : State) : Within [.regs, .clk, .evr, .frm, .eng, .mod, .fab, .obs] s (State.fabDrain s) := by
  unfold State.fabDrain
  repeat' first
    | ((with_reducible apply within_after (within_fabSend _ _ _)); rfl)
    | ((with_reducible apply within_after (within_count _ _)); rfl)
    | ((with_reducible apply within_after (within_putB _ _ _)); rfl)
    | ((with_reducible apply within_after (within_routePacket _ _ _ _)); rfl)
    | ((with_reducible apply within_after (within_deliverPacket _ _)); rfl)
    | with_reducible apply within_ite'
    | split
    | with_reducible exact within_refl _ _
    | with_reducible assumption
    | ((with_reducible apply within_upd_fab); rfl)
    | (dsimp only; split)

end Sys2Proof.Laws
end

