-- ==== Sys2Proof/Laws/FrameCan.lean ====
section
/-!
SUPPORT. What each operation of Machine/Can.lean may change.
-/

namespace Sys2Proof.Laws

open Sys2Proof Sys2Proof.Machine

theorem within_setCan (s : State) (ch : Nat) (x : CanS) : Within [.can] s (State.setCan s ch x) := by
  unfold State.setCan
  repeat' first
    | split
    | with_reducible exact within_refl _ _
    | with_reducible assumption
    | ((with_reducible apply within_upd_can); rfl)
    | (dsimp only; split)

theorem within_canIntegrate (s : State) (ch : Nat) : Within [.can] s (State.canIntegrate s ch) := by
  unfold State.canIntegrate
  repeat' first
    | ((with_reducible apply within_after (within_setCan _ _ _)); rfl)
    | split
    | with_reducible exact within_refl _ _
    | with_reducible assumption
    | (dsimp only; split)

theorem within_canSend (s : State) (ch : Nat) (high : Bool) (prio fn seq peer : Nat) (body : List Byte) : Within [.regs, .can, .obs] s (State.canSend s ch high prio fn seq peer body) := by
  unfold State.canSend
  repeat' first
    | ((with_reducible apply within_after (within_setCan _ _ _)); rfl)
    | ((with_reducible apply within_after (within_countN _ _ _)); rfl)
    | ((with_reducible apply within_after (within_bump _ _)); rfl)
    | with_reducible apply within_ite
    | split
    | with_reducible exact within_refl _ _
    | with_reducible assumption
    | (dsimp only; split)

theorem within_canBusOff (s : State) (ch : Nat) : Within [.regs, .evr, .can] s (State.canBusOff s ch) := by
  unfold State.canBusOff
  repeat' first
    | ((with_reducible apply within_after (within_put _ _ _)); rfl)
    | ((with_reducible apply within_after (within_bump _ _)); rfl)
    | ((with_reducible apply within_after (within_drive _ _ _)); rfl)
    | ((with_reducible apply within_after (within_setCan _ _ _)); rfl)
    | split
    | with_reducible exact within_refl _ _
    | with_reducible assumption
    | (dsimp only; split)

theorem within_canState (s : State) (ch : Nat) : Within [.regs, .evr] s (State.canState s ch) := by
  unfold State.canState
  repeat' first
    | ((with_reducible apply within_after (within_put _ _ _)); rfl)
    | ((with_reducible apply within_after (within_drive _ _ _)); rfl)
    | with_reducible apply within_ite'
    | split
    | with_reducible exact within_refl _ _
    | with_reducible assumption
    | (dsimp only; split)

theorem within_tecUp (s : State) (ch : Nat) : Within [.regs, .evr, .can] s (State.tecUp s ch) := by
  unfold State.tecUp
  repeat' first
    | ((with_reducible apply within_after (within_canBusOff _ _)); rfl)
    | ((with_reducible apply within_after (within_put _ _ _)); rfl)
    | ((with_reducible apply within_after (within_canState _ _)); rfl)
    | with_reducible apply within_ite
    | split
    | with_reducible exact within_refl _ _
    | with_reducible assumption
    | (dsimp only; split)

theorem runs_execCanError (ch kind : Nat) (s : State) : Runs [.regs, .evr, .can] s (execCanError ch kind s) := by
  unfold execCanError
  repeat' first
    | with_reducible apply runs_when
    | with_reducible apply runs_when_of
    | with_reducible apply runs_next
    | with_reducible apply runs_ite
    | ((with_reducible apply within_after (within_setCan _ _ _)); rfl)
    | ((with_reducible apply within_after (within_bumpBy _ _ _)); rfl)
    | ((with_reducible apply within_after (within_canState _ _)); rfl)
    | ((with_reducible apply within_after (within_tecUp _ _)); rfl)
    | with_reducible apply within_ite
    | split
    | with_reducible exact within_refl _ _
    | with_reducible assumption
    | (dsimp only; split)

theorem runs_execBusOff (ch : Nat) (s : State) : Runs [.regs, .evr, .can] s (execBusOff ch s) := by
  unfold execBusOff
  repeat' first
    | with_reducible apply runs_when
    | with_reducible apply runs_when_of
    | with_reducible apply runs_next
    | with_reducible apply runs_ite
    | ((with_reducible apply within_after (within_canBusOff _ _)); rfl)
    | split
    | with_reducible exact within_refl _ _
    | with_reducible assumption
    | (dsimp only; split)

theorem within_canRecover (s : State) (ch : Nat) : Within [.regs] s (State.canRecover s ch) := by
  unfold State.canRecover
  repeat' first
    | ((with_reducible apply within_after (within_put _ _ _)); rfl)
    | ((with_reducible apply within_after (within_bump _ _)); rfl)
    | with_reducible apply within_ite
    | split
    | with_reducible exact within_refl _ _
    | with_reducible assumption
    | (dsimp only; split)

theorem runs_execRecover (ch : Nat) (s : State) : Runs [.regs] s (execRecover ch s) := by
  unfold execRecover
  repeat' first
    | with_reducible apply runs_when
    | with_reducible apply runs_when_of
    | with_reducible apply runs_next
    | with_reducible apply runs_ite
    | ((with_reducible apply within_after (within_canRecover _ _)); rfl)
    | split
    | with_reducible exact within_refl _ _
    | with_reducible assumption
    | (dsimp only; split)

theorem runs_execBusOffRecoveryDone (ch : Nat) (s : State) : Runs [.regs, .evr] s (execBusOffRecoveryDone ch s) := by
  unfold execBusOffRecoveryDone
  repeat' first
    | with_reducible apply runs_when
    | with_reducible apply runs_when_of
    | with_reducible apply runs_next
    | with_reducible apply runs_ite
    | ((with_reducible apply within_after (within_put _ _ _)); rfl)
    | ((with_reducible apply within_after (within_drive _ _ _)); rfl)
    | split
    | with_reducible exact within_refl _ _
    | with_reducible assumption
    | (dsimp only; split)

theorem within_setAlone (s : State) (ch : Nat) (b : Bool) : Within [.regs, .evr] s (State.setAlone s ch b) := by
  unfold State.setAlone
  repeat' first
    | ((with_reducible apply within_after (within_putB _ _ _)); rfl)
    | ((with_reducible apply within_after (within_drive _ _ _)); rfl)
    | split
    | with_reducible exact within_refl _ _
    | with_reducible assumption
    | (dsimp only; split)

theorem within_tdcMeasure (s : State) (ch loop : Nat) (fd : Bool) : Within [.regs] s (State.tdcMeasure s ch loop fd) := by
  unfold State.tdcMeasure
  repeat' first
    | ((with_reducible apply within_after (within_put _ _ _)); rfl)
    | ((with_reducible apply within_after (within_putB _ _ _)); rfl)
    | with_reducible apply within_ite'
    | split
    | with_reducible exact within_refl _ _
    | with_reducible assumption
    | (dsimp only; split)

theorem runs_execCanFrameSent (ch loop : Nat) (s : State) : Runs [.regs, .evr, .can, .obs] s (execCanFrameSent ch loop s) := by
  unfold execCanFrameSent
  repeat' first
    | with_reducible apply runs_when
    | with_reducible apply runs_when_of
    | with_reducible apply runs_next
    | with_reducible apply runs_ite
    | ((with_reducible apply within_after (within_setCan _ _ _)); rfl)
    | ((with_reducible apply within_after (within_put _ _ _)); rfl)
    | ((with_reducible apply within_after (within_canState _ _)); rfl)
    | ((with_reducible apply within_after (within_tdcMeasure _ _ _ _)); rfl)
    | ((with_reducible apply within_after (within_count _ _)); rfl)
    | ((with_reducible apply within_after (within_setAlone _ _ _)); rfl)
    | with_reducible apply within_ite'
    | split
    | with_reducible exact within_refl _ _
    | with_reducible assumption
    | (dsimp only; split)

theorem runs_execAckError (ch : Nat) (s : State) : Runs [.regs, .evr, .can] s (execAckError ch s) := by
  unfold execAckError
  repeat' first
    | with_reducible apply runs_when
    | with_reducible apply runs_when_of
    | with_reducible apply runs_next
    | with_reducible apply runs_ite
    | ((with_reducible apply within_after (within_setCan _ _ _)); rfl)
    | ((with_reducible apply within_after (within_tecUp _ _)); rfl)
    | ((with_reducible apply within_after (within_bump _ _)); rfl)
    | ((with_reducible apply within_after (within_setAlone _ _ _)); rfl)
    | with_reducible apply within_ite'
    | with_reducible apply within_ite
    | split
    | with_reducible exact within_refl _ _
    | with_reducible assumption
    | (dsimp only; split)

theorem runs_execAloneRetry (ch : Nat) (s : State) : Runs [.can] s (execAloneRetry ch s) := by
  unfold execAloneRetry
  repeat' first
    | with_reducible apply runs_when
    | with_reducible apply runs_when_of
    | with_reducible apply runs_next
    | with_reducible apply runs_ite
    | ((with_reducible apply within_after (within_setCan _ _ _)); rfl)
    | split
    | with_reducible exact within_refl _ _
    | with_reducible assumption
    | (dsimp only; split)

theorem within_innerFault (s : State) (ch prio seq peer : Nat) : Within [.regs, .can, .obs] s (State.innerFault s ch prio seq peer) := by
  unfold State.innerFault
  repeat' first
    | ((with_reducible apply within_after (within_bump _ _)); rfl)
    | ((with_reducible apply within_after (within_canSend _ _ _ _ _ _ _ _)); rfl)
    | split
    | with_reducible exact within_refl _ _
    | with_reducible assumption
    | (dsimp only; split)

theorem within_canSegment (s : State) (ch : Nat) (high : Bool) (f : CanFrame) : Within [.regs, .can, .obs] s (State.canSegment s ch high f) := by
  unfold State.canSegment
  repeat' first
    | ((with_reducible apply within_after (within_bump _ _)); rfl)
    | ((with_reducible apply within_after (within_setCan _ _ _)); rfl)
    | ((with_reducible apply within_after (within_innerFault _ _ _ _ _)); rfl)
    | with_reducible apply within_ite'
    | with_reducible apply within_ite
    | split
    | with_reducible exact within_refl _ _
    | with_reducible assumption
    | (dsimp only; split)

theorem within_canAssemble (s : State) (ch : Nat) (high : Bool) (k : Nat) : Within [.regs, .can, .obs] s (State.canAssemble s ch high k) := by
  induction k generalizing s ch high with
  | zero =>
    unfold State.canAssemble
    repeat' first
      | ((with_reducible apply within_after (within_setCan _ _ _)); rfl)
      | ((with_reducible apply within_after (within_canSegment _ _ _ _)); rfl)
      | split
      | with_reducible exact within_refl _ _
      | with_reducible assumption
      | (dsimp only; split)
  | succ n ih =>
    unfold State.canAssemble
    repeat' first
      | ((with_reducible apply within_after (ih _ _ _)); rfl)
      | ((with_reducible apply within_after (within_setCan _ _ _)); rfl)
      | ((with_reducible apply within_after (within_canSegment _ _ _ _)); rfl)
      | split
      | with_reducible exact within_refl _ _
      | with_reducible assumption
      | (dsimp only; split)

theorem within_canQueue (s : State) (ch : Nat) (f : CanFrame) : Within [.regs, .evr, .can, .obs] s (State.canQueue s ch f) := by
  unfold State.canQueue
  repeat' first
    | ((with_reducible apply within_after (within_bump _ _)); rfl)
    | ((with_reducible apply within_after (within_count _ _)); rfl)
    | ((with_reducible apply within_after (within_setCan _ _ _)); rfl)
    | ((with_reducible apply within_after (within_raise _ _)); rfl)
    | ((with_reducible apply within_after (within_canAssemble _ _ _ _)); rfl)
    | with_reducible apply within_ite'
    | with_reducible apply within_ite
    | split
    | with_reducible exact within_refl _ _
    | with_reducible assumption
    | (dsimp only; split)

theorem within_canValid (s : State) (ch : Nat) : Within [.regs, .evr, .can, .obs, .free] s (State.canValid s ch) := by
  unfold State.canValid
  repeat' first
    | ((with_reducible apply within_after (within_put _ _ _)); rfl)
    | ((with_reducible apply within_after (within_burn _)); rfl)
    | ((with_reducible apply within_after (within_canState _ _)); rfl)
    | ((with_reducible apply within_after (within_setCan _ _ _)); rfl)
    | ((with_reducible apply within_after (within_setAlone _ _ _)); rfl)
    | ((with_reducible apply within_after (within_count _ _)); rfl)
    | with_reducible apply within_ite'
    | with_reducible apply within_ite
    | split
    | with_reducible exact within_refl _ _
    | with_reducible assumption
    | (dsimp only; split)

theorem runs_execCanFrameReceived (ch : Nat) (fd ext remote : Bool) (id : Nat) (data : List Byte) (s : State) : Runs [.regs, .evr, .can, .obs, .free] s (execCanFrameReceived ch fd ext remote id data s) := by
  unfold execCanFrameReceived
  repeat' first
    | with_reducible apply runs_when
    | with_reducible apply runs_when_of
    | with_reducible apply runs_next
    | with_reducible apply runs_ite
    | ((with_reducible apply within_after (within_canValid _ _)); rfl)
    | ((with_reducible apply within_after (within_canIntegrate _ _)); rfl)
    | ((with_reducible apply within_after (within_bump _ _)); rfl)
    | ((with_reducible apply within_after (within_canQueue _ _ _)); rfl)
    | with_reducible apply within_ite
    | split
    | with_reducible exact within_refl _ _
    | with_reducible assumption
    | (dsimp only; split)

theorem within_canTake {s t : State} {ch : Nat} {m : CanMsg} (h : s.canTake ch = some (m, t)) : Within [.regs, .can, .obs] s t := by
  have take (high : Bool) {q : CanMsg × State} (hq : (((s.canCh ch).rx high).whole.map (fun m =>
      (m, (s.setCan ch ((s.canCh ch).setRx high { (s.canCh ch).rx high with whole := none })).canAssemble ch high 32))) = some q) :
      Within [.regs, .can, .obs] s q.2 := by
    obtain ⟨x, -, rfl⟩ := Option.map_eq_some_iff.1 hq
    exact within_after (within_canAssemble _ _ _ _) rfl (within_mono (within_setCan _ _ _) rfl)
  unfold State.canTake at h
  dsimp only at h
  split at h
  · next q hq => cases h; exact take true hq
  · exact take false h

theorem runs_execCanEvent (k : Nat) (s : State) : Runs [.regs, .can, .obs] s (execCanEvent k s) := by
  unfold execCanEvent
  repeat' first
    | with_reducible apply runs_when
    | with_reducible apply runs_when_of
    | with_reducible apply runs_next
    | with_reducible apply runs_ite
    | ((with_reducible apply within_after (within_canSend _ _ _ _ _ _ _ _)); rfl)
    | ((with_reducible apply within_after (within_setCan _ _ _)); rfl)
    | with_reducible apply within_ite
    | ((with_reducible apply within_forUpTo); intro _ _ _)
    | split
    | with_reducible exact within_refl _ _
    | with_reducible assumption
    | ((with_reducible apply within_upd_can); rfl)
    | (dsimp only; split)

end Sys2Proof.Laws
end

