-- ==== Sys2Proof/Laws/FrameEngOps.lean ====
section
/-!
SUPPORT. What each operation of Machine/EngOps.lean may change.
-/

namespace Sys2Proof.Laws

open Sys2Proof Sys2Proof.Machine

theorem within_insSpent (s : State) (c cyc stall : Nat) : Within [.eng, .obs] s (State.insSpent s c cyc stall) := by
  unfold State.insSpent
  repeat' first
    | ((with_reducible apply within_after (within_laneCycles _ _ _ _ _)); rfl)
    | ((with_reducible apply within_after (within_setFr _ _ _)); rfl)
    | split
    | with_reducible exact within_refl _ _
    | with_reducible assumption
    | (dsimp only; split)

theorem within_insDone (s : State) (c cyc stall tag : Nat) : Within [.regs, .eng, .obs] s (State.insDone s c cyc stall tag) := by
  unfold State.insDone
  repeat' first
    | ((with_reducible apply within_after (within_insSpent _ _ _ _)); rfl)
    | ((with_reducible apply within_after (within_psRetire _ _ _ _)); rfl)
    | ((with_reducible apply within_after (within_setFr _ _ _)); rfl)
    | split
    | with_reducible exact within_refl _ _
    | with_reducible assumption
    | (dsimp only; split)

theorem runs_instruct {A : List Part} (s : State) (c op stall : Nat) (one two : List Nat) (cyc tag : Nat) (body : State → State)
    (hA : subParts [.regs, .ram, .evr, .eng, .obs, .free] A = true) (hb : ∀ u, Within A u (body u)) : Runs A s (State.instruct s c op stall one two cyc tag body) := by
  unfold State.instruct
  apply runs_ite (runs_next (within_refl _ _))
  have h1 : ∀ l, Within A s (List.foldl (fun t k => State.eccSingle t k true) s l) := fun l =>
    within_foldl (fun u x hu => within_trans hu (within_mono (within_eccSingle u x true) (subParts_trans rfl hA)) (subParts_refl A)) l s (within_refl _ _)
  have h2 : ∀ l m, Within A s (List.foldl State.eccDouble (List.foldl (fun t k => State.eccSingle t k true) s l) m) := fun l m =>
    within_foldl (fun u x hu => within_trans hu (within_mono (within_eccDouble u x) (subParts_trans rfl hA)) (subParts_refl A)) m _ (h1 l)
  have h3 : ∀ l m b own, Within A s (ite' b (List.foldl State.eccDouble (List.foldl (fun t k => State.eccSingle t k true) s l) m)
      (State.eccCover (List.foldl State.eccDouble (List.foldl (fun t k => State.eccSingle t k true) s l) m) own)) := fun l m b own =>
    within_ite' (h2 l m) (within_trans (h2 l m) (within_eccCover _ _) (subParts_trans rfl hA))
  apply runs_ite
  · exact runs_next (within_trans (within_trans (h3 _ _ _ _) (within_insSpent _ _ _ _) (subParts_trans rfl hA)) (within_contextFault _ _) (subParts_trans rfl hA))
  · exact runs_next (within_trans (within_trans (h3 _ _ _ _) (hb _) (subParts_refl A)) (within_insDone _ _ _ _ _) (subParts_trans rfl hA))

theorem runs_execNop (c stall : Nat) (one two : List Nat) (s : State) : Runs [.regs, .ram, .evr, .eng, .obs, .free] s (execNop c stall one two s) :=
  runs_instruct _ _ _ _ _ _ _ _ _ rfl (fun _ => within_refl _ _)

theorem runs_execReservedOpcode (c stall : Nat) (one two : List Nat) (s : State) : Runs [.regs, .ram, .evr, .eng, .obs, .free] s (execReservedOpcode c stall one two s) := by
  unfold execReservedOpcode
  repeat' first
    | (apply runs_instruct _ _ _ _ _ _ _ _ _ rfl; intro _)
    | with_reducible apply runs_when
    | (apply runs_instruct _ _ _ _ _ _ _ _ _ rfl; intro _)
    | with_reducible apply runs_when_of
    | with_reducible apply runs_next
    | with_reducible apply runs_ite
    | exact runs_instruct _ _ _ _ _ _ _ _ _
    | ((with_reducible apply within_after (within_opFault _ _)); rfl)
    | with_reducible apply within_ite
    | split
    | with_reducible exact within_refl _ _
    | with_reducible assumption
    | (dsimp only; split)

theorem runs_execLdf (c stall : Nat) (one two : List Nat) (s : State) : Runs [.regs, .ram, .evr, .eng, .obs, .free] s (execLdf c stall one two s) := by
  unfold execLdf
  repeat' first
    | (apply runs_instruct _ _ _ _ _ _ _ _ _ rfl; intro _)
    | with_reducible apply runs_when
    | (apply runs_instruct _ _ _ _ _ _ _ _ _ rfl; intro _)
    | with_reducible apply runs_when_of
    | with_reducible apply runs_next
    | with_reducible apply runs_ite
    | exact runs_instruct _ _ _ _ _ _ _ _ _
    | ((with_reducible apply within_after (within_opFault _ _)); rfl)
    | ((with_reducible apply within_after (within_wr _ _ _ _)); rfl)
    | ((with_reducible apply within_after (within_readAll _ _ _)); rfl)
    | with_reducible apply within_ite
    | split
    | with_reducible exact within_refl _ _
    | with_reducible assumption
    | (dsimp only; split)

theorem within_binary (s : State) (c : Nat) (f : Int → Int → Int) : Within [.regs, .evr, .eng] s (State.binary s c f) := by
  unfold State.binary
  repeat' first
    | ((with_reducible apply within_after (within_readAll _ _ _)); rfl)
    | ((with_reducible apply within_after (within_wr _ _ _ _)); rfl)
    | split
    | with_reducible exact within_refl _ _
    | with_reducible assumption
    | (dsimp only; split)

theorem runs_execAdd (c stall : Nat) (one two : List Nat) (s : State) : Runs [.regs, .ram, .evr, .eng, .obs, .free] s (execAdd c stall one two s) := by
  unfold execAdd
  repeat' first
    | (apply runs_instruct _ _ _ _ _ _ _ _ _ rfl; intro _)
    | with_reducible apply runs_when
    | (apply runs_instruct _ _ _ _ _ _ _ _ _ rfl; intro _)
    | with_reducible apply runs_when_of
    | with_reducible apply runs_next
    | with_reducible apply runs_ite
    | exact runs_instruct _ _ _ _ _ _ _ _ _
    | ((with_reducible apply within_after (within_binary _ _ _)); rfl)
    | split
    | with_reducible exact within_refl _ _
    | with_reducible assumption
    | (dsimp only; split)

theorem runs_execSub (c stall : Nat) (one two : List Nat) (s : State) : Runs [.regs, .ram, .evr, .eng, .obs, .free] s (execSub c stall one two s) := by
  unfold execSub
  repeat' first
    | (apply runs_instruct _ _ _ _ _ _ _ _ _ rfl; intro _)
    | with_reducible apply runs_when
    | (apply runs_instruct _ _ _ _ _ _ _ _ _ rfl; intro _)
    | with_reducible apply runs_when_of
    | with_reducible apply runs_next
    | with_reducible apply runs_ite
    | exact runs_instruct _ _ _ _ _ _ _ _ _
    | ((with_reducible apply within_after (within_binary _ _ _)); rfl)
    | split
    | with_reducible exact within_refl _ _
    | with_reducible assumption
    | (dsimp only; split)

theorem runs_execMul (c stall : Nat) (one two : List Nat) (s : State) : Runs [.regs, .ram, .evr, .eng, .obs, .free] s (execMul c stall one two s) := by
  unfold execMul
  repeat' first
    | (apply runs_instruct _ _ _ _ _ _ _ _ _ rfl; intro _)
    | with_reducible apply runs_when
    | (apply runs_instruct _ _ _ _ _ _ _ _ _ rfl; intro _)
    | with_reducible apply runs_when_of
    | with_reducible apply runs_next
    | with_reducible apply runs_ite
    | exact runs_instruct _ _ _ _ _ _ _ _ _
    | ((with_reducible apply within_after (within_readAll _ _ _)); rfl)
    | ((with_reducible apply within_after (within_wr _ _ _ _)); rfl)
    | split
    | with_reducible exact within_refl _ _
    | with_reducible assumption
    | (dsimp only; split)

theorem runs_execMac (c stall : Nat) (one two : List Nat) (s : State) : Runs [.regs, .ram, .evr, .eng, .obs, .free] s (execMac c stall one two s) := by
  unfold execMac
  repeat' first
    | (apply runs_instruct _ _ _ _ _ _ _ _ _ rfl; intro _)
    | with_reducible apply runs_when
    | (apply runs_instruct _ _ _ _ _ _ _ _ _ rfl; intro _)
    | with_reducible apply runs_when_of
    | with_reducible apply runs_next
    | with_reducible apply runs_ite
    | exact runs_instruct _ _ _ _ _ _ _ _ _
    | ((with_reducible apply within_after (within_readAll _ _ _)); rfl)
    | ((with_reducible apply within_after (within_wr _ _ _ _)); rfl)
    | split
    | with_reducible exact within_refl _ _
    | with_reducible assumption
    | (dsimp only; split)

theorem within_unary (s : State) (c : Nat) (f : Int → Int) : Within [.regs, .evr, .eng] s (State.unary s c f) := by
  unfold State.unary
  repeat' first
    | ((with_reducible apply within_after (within_readAll _ _ _)); rfl)
    | ((with_reducible apply within_after (within_wr _ _ _ _)); rfl)
    | split
    | with_reducible exact within_refl _ _
    | with_reducible assumption
    | (dsimp only; split)

theorem runs_execNeg (c stall : Nat) (one two : List Nat) (s : State) : Runs [.regs, .ram, .evr, .eng, .obs, .free] s (execNeg c stall one two s) := by
  unfold execNeg
  repeat' first
    | (apply runs_instruct _ _ _ _ _ _ _ _ _ rfl; intro _)
    | with_reducible apply runs_when
    | (apply runs_instruct _ _ _ _ _ _ _ _ _ rfl; intro _)
    | with_reducible apply runs_when_of
    | with_reducible apply runs_next
    | with_reducible apply runs_ite
    | exact runs_instruct _ _ _ _ _ _ _ _ _
    | ((with_reducible apply within_after (within_unary _ _ _)); rfl)
    | split
    | with_reducible exact within_refl _ _
    | with_reducible assumption
    | (dsimp only; split)

theorem runs_execAbs (c stall : Nat) (one two : List Nat) (s : State) : Runs [.regs, .ram, .evr, .eng, .obs, .free] s (execAbs c stall one two s) := by
  unfold execAbs
  repeat' first
    | (apply runs_instruct _ _ _ _ _ _ _ _ _ rfl; intro _)
    | with_reducible apply runs_when
    | (apply runs_instruct _ _ _ _ _ _ _ _ _ rfl; intro _)
    | with_reducible apply runs_when_of
    | with_reducible apply runs_next
    | with_reducible apply runs_ite
    | exact runs_instruct _ _ _ _ _ _ _ _ _
    | ((with_reducible apply within_after (within_unary _ _ _)); rfl)
    | split
    | with_reducible exact within_refl _ _
    | with_reducible assumption
    | (dsimp only; split)

theorem runs_execMin (c stall : Nat) (one two : List Nat) (s : State) : Runs [.regs, .ram, .evr, .eng, .obs, .free] s (execMin c stall one two s) := by
  unfold execMin
  repeat' first
    | (apply runs_instruct _ _ _ _ _ _ _ _ _ rfl; intro _)
    | with_reducible apply runs_when
    | (apply runs_instruct _ _ _ _ _ _ _ _ _ rfl; intro _)
    | with_reducible apply runs_when_of
    | with_reducible apply runs_next
    | with_reducible apply runs_ite
    | exact runs_instruct _ _ _ _ _ _ _ _ _
    | ((with_reducible apply within_after (within_binary _ _ _)); rfl)
    | split
    | with_reducible exact within_refl _ _
    | with_reducible assumption
    | (dsimp only; split)

theorem runs_execMax (c stall : Nat) (one two : List Nat) (s : State) : Runs [.regs, .ram, .evr, .eng, .obs, .free] s (execMax c stall one two s) := by
  unfold execMax
  repeat' first
    | (apply runs_instruct _ _ _ _ _ _ _ _ _ rfl; intro _)
    | with_reducible apply runs_when
    | (apply runs_instruct _ _ _ _ _ _ _ _ _ rfl; intro _)
    | with_reducible apply runs_when_of
    | with_reducible apply runs_next
    | with_reducible apply runs_ite
    | exact runs_instruct _ _ _ _ _ _ _ _ _
    | ((with_reducible apply within_after (within_binary _ _ _)); rfl)
    | split
    | with_reducible exact within_refl _ _
    | with_reducible assumption
    | (dsimp only; split)

theorem within_satOp (s : State) (c : Nat) : Within [.regs, .evr, .eng] s (State.satOp s c) := by
  unfold State.satOp
  repeat' first
    | ((with_reducible apply within_after (within_readAll _ _ _)); rfl)
    | ((with_reducible apply within_after (within_opFault _ _)); rfl)
    | ((with_reducible apply within_after (within_wr _ _ _ _)); rfl)
    | ((with_reducible apply within_after (within_satFlag _ _)); rfl)
    | with_reducible apply within_ite'
    | with_reducible apply within_ite
    | split
    | with_reducible exact within_refl _ _
    | with_reducible assumption
    | (dsimp only; split)

theorem runs_execSat (c stall : Nat) (one two : List Nat) (s : State) : Runs [.regs, .ram, .evr, .eng, .obs, .free] s (execSat c stall one two s) := by
  unfold execSat
  repeat' first
    | (apply runs_instruct _ _ _ _ _ _ _ _ _ rfl; intro _)
    | with_reducible apply runs_when
    | (apply runs_instruct _ _ _ _ _ _ _ _ _ rfl; intro _)
    | with_reducible apply runs_when_of
    | with_reducible apply runs_next
    | with_reducible apply runs_ite
    | exact runs_instruct _ _ _ _ _ _ _ _ _
    | ((with_reducible apply within_after (within_satOp _ _)); rfl)
    | split
    | with_reducible exact within_refl _ _
    | with_reducible assumption
    | (dsimp only; split)

theorem runs_execCmp (c stall : Nat) (one two : List Nat) (s : State) : Runs [.regs, .ram, .evr, .eng, .obs, .free] s (execCmp c stall one two s) := by
  unfold execCmp
  repeat' first
    | (apply runs_instruct _ _ _ _ _ _ _ _ _ rfl; intro _)
    | with_reducible apply runs_when
    | (apply runs_instruct _ _ _ _ _ _ _ _ _ rfl; intro _)
    | with_reducible apply runs_when_of
    | with_reducible apply runs_next
    | with_reducible apply runs_ite
    | exact runs_instruct _ _ _ _ _ _ _ _ _
    | ((with_reducible apply within_after (within_binary _ _ _)); rfl)
    | split
    | with_reducible exact within_refl _ _
    | with_reducible assumption
    | (dsimp only; split)

theorem runs_execSel (c stall : Nat) (one two : List Nat) (s : State) : Runs [.regs, .ram, .evr, .eng, .obs, .free] s (execSel c stall one two s) := by
  unfold execSel
  repeat' first
    | (apply runs_instruct _ _ _ _ _ _ _ _ _ rfl; intro _)
    | with_reducible apply runs_when
    | (apply runs_instruct _ _ _ _ _ _ _ _ _ rfl; intro _)
    | with_reducible apply runs_when_of
    | with_reducible apply runs_next
    | with_reducible apply runs_ite
    | exact runs_instruct _ _ _ _ _ _ _ _ _
    | ((with_reducible apply within_after (within_readAll _ _ _)); rfl)
    | ((with_reducible apply within_after (within_wr _ _ _ _)); rfl)
    | with_reducible apply within_ite
    | split
    | with_reducible exact within_refl _ _
    | with_reducible assumption
    | (dsimp only; split)

theorem within_sectionSat (s : State) (c slot : Nat) (sets : List Nat) : Within [.regs, .eng] s (State.sectionSat s c slot sets) := by
  unfold State.sectionSat
  repeat' first
    | ((with_reducible apply within_after (within_satFlag _ _)); rfl)
    | ((with_reducible apply within_after (within_setFr _ _ _)); rfl)
    | split
    | with_reducible exact within_refl _ _
    | with_reducible assumption
    | (dsimp only; split)

theorem within_sectionStep (s : State) (c slot o : Nat) (fade : Option (Nat × Nat × Nat)) (x : Int) : Within [.regs, .eng] s (State.sectionStep s c slot o fade x).1 := by
  unfold State.sectionStep
  repeat' first
    | ((with_reducible apply within_after (within_setSlotW _ _ _ _ _)); rfl)
    | ((with_reducible apply within_after (within_sectionSat _ _ _ _)); rfl)
    | with_reducible apply within_ite
    | with_reducible apply within_ite_fst
    | split
    | with_reducible exact within_refl _ _
    | with_reducible assumption
    | (dsimp only; split)

theorem within_cascade (s : State) (c slot o : Nat) (fade : Option (Nat × Nat × Nat)) (x : Int) (k : Nat) : Within [.regs, .eng] s (State.cascade s c slot o fade x k).1 := by
  induction k generalizing s c slot o fade x with
  | zero =>
    unfold State.cascade
    repeat' first
      | ((with_reducible apply within_after (within_sectionStep _ _ _ _ _ _)); rfl)
      | split
      | with_reducible exact within_refl _ _
      | with_reducible assumption
      | (dsimp only; split)
  | succ n ih =>
    unfold State.cascade
    repeat' first
      | ((with_reducible apply within_after (ih _ _ _ _ _ _)); rfl)
      | ((with_reducible apply within_after (within_sectionStep _ _ _ _ _ _)); rfl)
      | split
      | with_reducible exact within_refl _ _
      | with_reducible assumption
      | (dsimp only; split)

theorem within_sosOp (s : State) (c : Nat) : Within [.regs, .evr, .eng] s (State.sosOp s c) := by
  unfold State.sosOp
  repeat' first
    | ((with_reducible apply within_after (within_opFault _ _)); rfl)
    | ((with_reducible apply within_after (within_readAll _ _ _)); rfl)
    | ((with_reducible apply within_after (within_cascade _ _ _ _ _ _ _)); rfl)
    | ((with_reducible apply within_after (within_wr _ _ _ _)); rfl)
    | with_reducible apply within_ite
    | split
    | with_reducible exact within_refl _ _
    | with_reducible assumption
    | (dsimp only; split)

theorem runs_execSos (c stall : Nat) (one two : List Nat) (s : State) : Runs [.regs, .ram, .evr, .eng, .obs, .free] s (execSos c stall one two s) := by
  unfold execSos
  repeat' first
    | (apply runs_instruct _ _ _ _ _ _ _ _ _ rfl; intro _)
    | with_reducible apply runs_when
    | (apply runs_instruct _ _ _ _ _ _ _ _ _ rfl; intro _)
    | with_reducible apply runs_when_of
    | with_reducible apply runs_next
    | with_reducible apply runs_ite
    | exact runs_instruct _ _ _ _ _ _ _ _ _
    | ((with_reducible apply within_after (within_sosOp _ _)); rfl)
    | split
    | with_reducible exact within_refl _ _
    | with_reducible assumption
    | (dsimp only; split)

theorem within_schedOp (s : State) (c : Nat) : Within [.regs, .evr, .eng] s (State.schedOp s c) := by
  unfold State.schedOp
  repeat' first
    | ((with_reducible apply within_after (within_opFault _ _)); rfl)
    | ((with_reducible apply within_after (within_readAll _ _ _)); rfl)
    | ((with_reducible apply within_after (within_setFr _ _ _)); rfl)
    | ((with_reducible apply within_after (within_wr _ _ _ _)); rfl)
    | with_reducible apply within_ite
    | split
    | with_reducible exact within_refl _ _
    | with_reducible assumption
    | (dsimp only; split)

theorem runs_execSched (c stall : Nat) (one two : List Nat) (s : State) : Runs [.regs, .ram, .evr, .eng, .obs, .free] s (execSched c stall one two s) := by
  unfold execSched
  repeat' first
    | (apply runs_instruct _ _ _ _ _ _ _ _ _ rfl; intro _)
    | with_reducible apply runs_when
    | (apply runs_instruct _ _ _ _ _ _ _ _ _ rfl; intro _)
    | with_reducible apply runs_when_of
    | with_reducible apply runs_next
    | with_reducible apply runs_ite
    | exact runs_instruct _ _ _ _ _ _ _ _ _
    | ((with_reducible apply within_after (within_schedOp _ _)); rfl)
    | split
    | with_reducible exact within_refl _ _
    | with_reducible assumption
    | (dsimp only; split)

theorem runs_execMinsel (c stall : Nat) (one two : List Nat) (s : State) : Runs [.regs, .ram, .evr, .eng, .obs, .free] s (execMinsel c stall one two s) := by
  unfold execMinsel
  repeat' first
    | (apply runs_instruct _ _ _ _ _ _ _ _ _ rfl; intro _)
    | with_reducible apply runs_when
    | (apply runs_instruct _ _ _ _ _ _ _ _ _ rfl; intro _)
    | with_reducible apply runs_when_of
    | with_reducible apply runs_next
    | with_reducible apply runs_ite
    | exact runs_instruct _ _ _ _ _ _ _ _ _
    | ((with_reducible apply within_after (within_opFault _ _)); rfl)
    | ((with_reducible apply within_after (within_readAll _ _ _)); rfl)
    | ((with_reducible apply within_after (within_setFr _ _ _)); rfl)
    | with_reducible apply within_ite
    | split
    | with_reducible exact within_refl _ _
    | with_reducible assumption
    | (dsimp only; split)

theorem within_wrVec (s : State) (c dst : Nat) (k : List Int) : Within [.regs, .evr, .eng] s (State.wrVec s c dst k) := by
  induction k generalizing s c dst with
  | nil =>
    unfold State.wrVec
    repeat' first
      | ((with_reducible apply within_after (within_wr _ _ _ _)); rfl)
      | split
      | with_reducible exact within_refl _ _
      | with_reducible assumption
      | (dsimp only; split)
  | cons w r ih =>
    unfold State.wrVec
    repeat' first
      | ((with_reducible apply within_after (ih _ _ _)); rfl)
      | ((with_reducible apply within_after (within_wr _ _ _ _)); rfl)
      | split
      | with_reducible exact within_refl _ _
      | with_reducible assumption
      | (dsimp only; split)

theorem runs_execClarke (c stall : Nat) (one two : List Nat) (s : State) : Runs [.regs, .ram, .evr, .eng, .obs, .free] s (execClarke c stall one two s) := by
  unfold execClarke
  repeat' first
    | (apply runs_instruct _ _ _ _ _ _ _ _ _ rfl; intro _)
    | with_reducible apply runs_when
    | (apply runs_instruct _ _ _ _ _ _ _ _ _ rfl; intro _)
    | with_reducible apply runs_when_of
    | with_reducible apply runs_next
    | with_reducible apply runs_ite
    | exact runs_instruct _ _ _ _ _ _ _ _ _
    | ((with_reducible apply within_after (within_readAll _ _ _)); rfl)
    | ((with_reducible apply within_after (within_wrVec _ _ _ _)); rfl)
    | with_reducible apply within_ite
    | split
    | with_reducible exact within_refl _ _
    | with_reducible assumption
    | (dsimp only; split)

theorem runs_execRot (c stall : Nat) (one two : List Nat) (s : State) : Runs [.regs, .ram, .evr, .eng, .obs, .free] s (execRot c stall one two s) := by
  unfold execRot
  repeat' first
    | (apply runs_instruct _ _ _ _ _ _ _ _ _ rfl; intro _)
    | with_reducible apply runs_when
    | (apply runs_instruct _ _ _ _ _ _ _ _ _ rfl; intro _)
    | with_reducible apply runs_when_of
    | with_reducible apply runs_next
    | with_reducible apply runs_ite
    | exact runs_instruct _ _ _ _ _ _ _ _ _
    | ((with_reducible apply within_after (within_readAll _ _ _)); rfl)
    | ((with_reducible apply within_after (within_wrVec _ _ _ _)); rfl)
    | split
    | with_reducible exact within_refl _ _
    | with_reducible assumption
    | (dsimp only; split)

theorem runs_execIrot (c stall : Nat) (one two : List Nat) (s : State) : Runs [.regs, .ram, .evr, .eng, .obs, .free] s (execIrot c stall one two s) := by
  unfold execIrot
  repeat' first
    | (apply runs_instruct _ _ _ _ _ _ _ _ _ rfl; intro _)
    | with_reducible apply runs_when
    | (apply runs_instruct _ _ _ _ _ _ _ _ _ rfl; intro _)
    | with_reducible apply runs_when_of
    | with_reducible apply runs_next
    | with_reducible apply runs_ite
    | exact runs_instruct _ _ _ _ _ _ _ _ _
    | ((with_reducible apply within_after (within_readAll _ _ _)); rfl)
    | ((with_reducible apply within_after (within_wrVec _ _ _ _)); rfl)
    | split
    | with_reducible exact within_refl _ _
    | with_reducible assumption
    | (dsimp only; split)

theorem runs_execDiv (c stall : Nat) (one two : List Nat) (s : State) : Runs [.regs, .ram, .evr, .eng, .obs, .free] s (execDiv c stall one two s) := by
  unfold execDiv
  repeat' first
    | (apply runs_instruct _ _ _ _ _ _ _ _ _ rfl; intro _)
    | with_reducible apply runs_when
    | (apply runs_instruct _ _ _ _ _ _ _ _ _ rfl; intro _)
    | with_reducible apply runs_when_of
    | with_reducible apply runs_next
    | with_reducible apply runs_ite
    | exact runs_instruct _ _ _ _ _ _ _ _ _
    | ((with_reducible apply within_after (within_readAll _ _ _)); rfl)
    | ((with_reducible apply within_after (within_satFlag _ _)); rfl)
    | ((with_reducible apply within_after (within_wr _ _ _ _)); rfl)
    | with_reducible apply within_ite
    | split
    | with_reducible exact within_refl _ _
    | with_reducible assumption
    | (dsimp only; split)

theorem runs_execSqrt (c stall : Nat) (one two : List Nat) (s : State) : Runs [.regs, .ram, .evr, .eng, .obs, .free] s (execSqrt c stall one two s) := by
  unfold execSqrt
  repeat' first
    | (apply runs_instruct _ _ _ _ _ _ _ _ _ rfl; intro _)
    | with_reducible apply runs_when
    | (apply runs_instruct _ _ _ _ _ _ _ _ _ rfl; intro _)
    | with_reducible apply runs_when_of
    | with_reducible apply runs_next
    | with_reducible apply runs_ite
    | exact runs_instruct _ _ _ _ _ _ _ _ _
    | ((with_reducible apply within_after (within_readAll _ _ _)); rfl)
    | ((with_reducible apply within_after (within_satFlag _ _)); rfl)
    | ((with_reducible apply within_after (within_wr _ _ _ _)); rfl)
    | with_reducible apply within_ite
    | split
    | with_reducible exact within_refl _ _
    | with_reducible assumption
    | (dsimp only; split)

theorem within_trackOp (s : State) (c : Nat) : Within [.regs, .evr, .eng] s (State.trackOp s c) := by
  unfold State.trackOp
  repeat' first
    | ((with_reducible apply within_after (within_opFault _ _)); rfl)
    | ((with_reducible apply within_after (within_readAll _ _ _)); rfl)
    | ((with_reducible apply within_after (within_satFlag _ _)); rfl)
    | ((with_reducible apply within_after (within_setSlotW _ _ _ _ _)); rfl)
    | ((with_reducible apply within_after (within_wr _ _ _ _)); rfl)
    | with_reducible apply within_ite'
    | with_reducible apply within_ite
    | split
    | with_reducible exact within_refl _ _
    | with_reducible assumption
    | (dsimp only; split)

theorem runs_execTrack (c stall : Nat) (one two : List Nat) (s : State) : Runs [.regs, .ram, .evr, .eng, .obs, .free] s (execTrack c stall one two s) := by
  unfold execTrack
  repeat' first
    | (apply runs_instruct _ _ _ _ _ _ _ _ _ rfl; intro _)
    | with_reducible apply runs_when
    | (apply runs_instruct _ _ _ _ _ _ _ _ _ rfl; intro _)
    | with_reducible apply runs_when_of
    | with_reducible apply runs_next
    | with_reducible apply runs_ite
    | exact runs_instruct _ _ _ _ _ _ _ _ _
    | ((with_reducible apply within_after (within_trackOp _ _)); rfl)
    | split
    | with_reducible exact within_refl _ _
    | with_reducible assumption
    | (dsimp only; split)

theorem within_outOp (s : State) (c : Nat) : Within [.regs, .eng] s (State.outOp s c) := by
  unfold State.outOp
  repeat' first
    | ((with_reducible apply within_after (within_readAll _ _ _)); rfl)
    | ((with_reducible apply within_after (within_ownFault _ _)); rfl)
    | ((with_reducible apply within_after (within_setFr _ _ _)); rfl)
    | with_reducible apply within_ite
    | split
    | with_reducible exact within_refl _ _
    | with_reducible assumption
    | (dsimp only; split)

theorem runs_execOut (c stall : Nat) (one two : List Nat) (s : State) : Runs [.regs, .ram, .evr, .eng, .obs, .free] s (execOut c stall one two s) := by
  unfold execOut
  repeat' first
    | (apply runs_instruct _ _ _ _ _ _ _ _ _ rfl; intro _)
    | with_reducible apply runs_when
    | (apply runs_instruct _ _ _ _ _ _ _ _ _ rfl; intro _)
    | with_reducible apply runs_when_of
    | with_reducible apply runs_next
    | with_reducible apply runs_ite
    | exact runs_instruct _ _ _ _ _ _ _ _ _
    | ((with_reducible apply within_after (within_outOp _ _)); rfl)
    | split
    | with_reducible exact within_refl _ _
    | with_reducible assumption
    | (dsimp only; split)

theorem runs_execEvt (c stall : Nat) (one two : List Nat) (s : State) : Runs [.regs, .ram, .evr, .eng, .obs, .free] s (execEvt c stall one two s) := by
  unfold execEvt
  repeat' first
    | (apply runs_instruct _ _ _ _ _ _ _ _ _ rfl; intro _)
    | with_reducible apply runs_when
    | (apply runs_instruct _ _ _ _ _ _ _ _ _ rfl; intro _)
    | with_reducible apply runs_when_of
    | with_reducible apply runs_next
    | with_reducible apply runs_ite
    | exact runs_instruct _ _ _ _ _ _ _ _ _
    | ((with_reducible apply within_after (within_readAll _ _ _)); rfl)
    | ((with_reducible apply within_after (within_ownFault _ _)); rfl)
    | ((with_reducible apply within_after (within_setFr _ _ _)); rfl)
    | with_reducible apply within_ite
    | split
    | with_reducible exact within_refl _ _
    | with_reducible assumption
    | (dsimp only; split)

end Sys2Proof.Laws
end

