-- ==== Sys2Proof/Laws/FrameImage.lean ====
section
/-!
SUPPORT. What each operation of Machine/Image.lean may change.
-/

namespace Sys2Proof.Laws

open Sys2Proof Sys2Proof.Machine

theorem within_loadWord (s : State) (a : Nat) (w : Word) : Within [.regs] s (State.loadWord s a w) := by
  unfold State.loadWord
  repeat' first
    | ((with_reducible apply within_after (within_setWord _ _ _)); rfl)
    | split
    | with_reducible exact within_refl _ _
    | with_reducible assumption
    | (dsimp only; split)

theorem within_loadWords (s : State) (a : Nat) (k : List Word) : Within [.regs] s (State.loadWords s a k) := by
  induction k generalizing s a with
  | nil =>
    unfold State.loadWords
    repeat' first
      | ((with_reducible apply within_after (within_loadWord _ _ _)); rfl)
      | split
      | with_reducible exact within_refl _ _
      | with_reducible assumption
      | (dsimp only; split)
  | cons w r ih =>
    unfold State.loadWords
    repeat' first
      | ((with_reducible apply within_after (ih _ _)); rfl)
      | ((with_reducible apply within_after (within_loadWord _ _ _)); rfl)
      | split
      | with_reducible exact within_refl _ _
      | with_reducible assumption
      | (dsimp only; split)

theorem within_loadSection (s : State) (x : Section) (b : List Byte) : Within [.regs] s (State.loadSection s x b) := by
  unfold State.loadSection
  repeat' first
    | ((with_reducible apply within_after (within_loadWords _ _ _)); rfl)
    | split
    | with_reducible exact within_refl _ _
    | with_reducible assumption
    | (dsimp only; split)

theorem within_clearSection (s : State) (x : Section) : Within [.regs] s (State.clearSection s x) := by
  unfold State.clearSection
  repeat' first
    | split
    | with_reducible exact within_refl _ _
    | with_reducible assumption
    | ((with_reducible apply within_filter_regs); rfl)
    | ((with_reducible apply within_filter_ram); rfl)
    | ((with_reducible apply within_filter_regs_boot); rfl; rfl)
    | (dsimp only; split)

theorem within_loadPlans (s : State) (b : List Byte) : Within [.regs] s (State.loadPlans s b) := by
  unfold State.loadPlans
  repeat' first
    | ((with_reducible apply within_after (within_setWord _ _ _)); rfl)
    | ((with_reducible apply within_after (within_put _ _ _)); rfl)
    | ((with_reducible apply within_after (within_putB _ _ _)); rfl)
    | with_reducible apply within_ite
    | ((with_reducible apply within_forUpTo); intro _ _ _)
    | split
    | with_reducible exact within_refl _ _
    | with_reducible assumption
    | (dsimp only; split)

theorem within_loadCtx (s : State) (r : CtxRec) (enWritten : Bool) : Within [.regs, .eng] s (State.loadCtx s r enWritten) := by
  unfold State.loadCtx
  repeat' first
    | ((with_reducible apply within_after (within_put _ _ _)); rfl)
    | ((with_reducible apply within_after (within_putB _ _ _)); rfl)
    | ((with_reducible apply within_after (within_setCtx _ _ _)); rfl)
    | with_reducible apply within_ite'
    | split
    | with_reducible exact within_refl _ _
    | with_reducible assumption
    | (dsimp only; split)

theorem within_loadSch (s : State) (r : SchRec) : Within [.regs, .eng] s (State.loadSch s r) := by
  unfold State.loadSch
  repeat' first
    | ((with_reducible apply within_after (within_put _ _ _)); rfl)
    | ((with_reducible apply within_after (within_schDrain _ _)); rfl)
    | ((with_reducible apply within_forUpTo); intro _ _ _)
    | split
    | with_reducible exact within_refl _ _
    | with_reducible assumption
    | ((with_reducible apply within_upd_eng); rfl)
    | (dsimp only; split)

theorem within_loadGrp (s : State) (r : GrpRec) (slots : Nat → Nat) : Within [.regs] s (State.loadGrp s r slots) := by
  unfold State.loadGrp
  repeat' first
    | ((with_reducible apply within_after (within_put _ _ _)); rfl)
    | with_reducible apply within_ite
    | ((with_reducible apply within_forUpTo); intro _ _ _)
    | split
    | with_reducible exact within_refl _ _
    | with_reducible assumption
    | (dsimp only; split)

theorem within_loadOwners (s : State) : Within [.eng] s (State.loadOwners s) := by
  unfold State.loadOwners
  repeat' first
    | with_reducible apply within_ite
    | ((with_reducible apply within_foldl); intro _ _ _)
    | split
    | with_reducible exact within_refl _ _
    | with_reducible assumption
    | ((with_reducible apply within_upd_eng); rfl)
    | (dsimp only; split)

theorem within_loadRoles (s : State) : Within [.boot] s (State.loadRoles s) := by
  unfold State.loadRoles
  repeat' first
    | ((with_reducible apply within_foldl); intro _ _ _)
    | split
    | with_reducible exact within_refl _ _
    | with_reducible assumption
    | ((with_reducible apply within_upd_boot); rfl)
    | (dsimp only; split)

theorem within_loadPublic (s : State) : Within [.boot] s (State.loadPublic s) := by
  unfold State.loadPublic
  repeat' first
    | ((with_reducible apply within_foldl); intro _ _ _)
    | split
    | with_reducible exact within_refl _ _
    | with_reducible assumption
    | ((with_reducible apply within_upd_boot); rfl)
    | (dsimp only; split)

theorem within_loadEvt (s : State) : Within [.eng] s (State.loadEvt s) := by
  unfold State.loadEvt
  repeat' first
    | with_reducible apply within_ite
    | ((with_reducible apply within_foldl); intro _ _ _)
    | split
    | with_reducible exact within_refl _ _
    | with_reducible assumption
    | ((with_reducible apply within_upd_eng); rfl)
    | (dsimp only; split)

end Sys2Proof.Laws
end

