-- ==== Sys2Proof/Laws/FrameReset.lean ====
section
/-!
SUPPORT. What each operation of Machine/Reset.lean may change.
-/

namespace Sys2Proof.Laws

open Sys2Proof Sys2Proof.Machine

theorem within_brokenFuses (s : State) : Within [.boot, .free] s (State.brokenFuses s) := by
  unfold State.brokenFuses
  repeat' first
    | ((with_reducible apply within_after (within_burn _)); rfl)
    | with_reducible apply within_ite
    | split
    | with_reducible exact within_refl _ _
    | with_reducible assumption
    | ((with_reducible apply within_upd_boot); rfl)
    | (dsimp only; split)

theorem within_assertReset (s : State) (dying : Bool) : Within [.regs, .ram, .boot, .sess, .clk, .acq, .win, .evr, .frm, .eng, .grd, .mod, .gtp, .mtr, .seq, .gov, .fab, .twn, .can, .obs, .tap, .pins, .free] s (State.assertReset s dying) := by
  unfold State.assertReset
  repeat' first
    | ((with_reducible apply within_after (within_brokenFuses _)); rfl)
    | ((with_reducible apply within_after (within_softStart _ _)); rfl)
    | ((with_reducible apply within_after (within_inReset _ _)); rfl)
    | with_reducible apply within_ite'
    | with_reducible apply within_ite
    | ((with_reducible apply within_forUpTo); intro _ _ _)
    | split
    | with_reducible exact within_refl _ _
    | with_reducible assumption
    | (dsimp only; split)

theorem runs_execResetAssert (dying : Bool) (s : State) : Runs [.regs, .ram, .boot, .sess, .clk, .acq, .win, .evr, .frm, .eng, .grd, .mod, .gtp, .mtr, .seq, .gov, .fab, .twn, .can, .obs, .tap, .pins, .free] s (execResetAssert dying s) := by
  unfold execResetAssert
  repeat' first
    | with_reducible apply runs_when
    | with_reducible apply runs_when_of
    | with_reducible apply runs_next
    | with_reducible apply runs_ite
    | ((with_reducible apply within_after (within_assertReset _ _)); rfl)
    | split
    | with_reducible exact within_refl _ _
    | with_reducible assumption
    | ((with_reducible apply within_upd_pins); rfl)
    | (dsimp only; split)

theorem runs_execResetNPulse (ns : Nat) (s : State) : Runs [.regs, .ram, .boot, .sess, .clk, .acq, .win, .evr, .frm, .eng, .grd, .mod, .gtp, .mtr, .seq, .gov, .fab, .twn, .can, .obs, .tap, .pins, .free] s (execResetNPulse ns s) := by
  unfold execResetNPulse
  repeat' first
    | with_reducible apply runs_when
    | with_reducible apply runs_when_of
    | with_reducible apply runs_next
    | with_reducible apply runs_ite
    | ((with_reducible apply within_after (within_assertReset _ _)); rfl)
    | ((with_reducible apply within_after (within_burn _)); rfl)
    | with_reducible apply within_ite'
    | with_reducible apply within_ite
    | split
    | with_reducible exact within_refl _ _
    | with_reducible assumption
    | (dsimp only; split)

theorem runs_execRebootReset (s : State) : Runs [.regs, .ram, .boot, .sess, .clk, .acq, .win, .evr, .frm, .eng, .grd, .mod, .gtp, .mtr, .seq, .gov, .fab, .twn, .can, .obs, .tap, .pins, .free] s (execRebootReset s) := by
  unfold execRebootReset
  repeat' first
    | with_reducible apply runs_when
    | with_reducible apply runs_when_of
    | with_reducible apply runs_next
    | with_reducible apply runs_ite
    | ((with_reducible apply within_after (within_assertReset _ _)); rfl)
    | split
    | with_reducible exact within_refl _ _
    | with_reducible assumption
    | (dsimp only; split)

theorem within_setRail (s : State) (r : Nat) (good : Bool) : Within [.regs, .evr, .aon, .pins] s (State.setRail s r good) := by
  unfold State.setRail
  repeat' first
    | ((with_reducible apply within_after (within_aonLow _)); rfl)
    | with_reducible apply within_ite'
    | with_reducible apply within_ite
    | split
    | with_reducible exact within_refl _ _
    | with_reducible assumption
    | ((with_reducible apply within_upd_aon); rfl)
    | ((with_reducible apply within_upd_pins); rfl)
    | ((with_reducible apply within_upd_pins_aon); rfl; rfl)
    | (dsimp only; split)

theorem runs_execRailGood (r : Nat) (s : State) : Runs [.regs, .evr, .aon, .pins] s (execRailGood r s) := by
  unfold execRailGood
  repeat' first
    | with_reducible apply runs_when
    | with_reducible apply runs_when_of
    | with_reducible apply runs_next
    | with_reducible apply runs_ite
    | ((with_reducible apply within_after (within_setRail _ _ _)); rfl)
    | split
    | with_reducible exact within_refl _ _
    | with_reducible assumption
    | (dsimp only; split)

theorem runs_execRailBelowReset (r : Nat) (s : State) : Runs [.regs, .ram, .boot, .sess, .clk, .acq, .win, .evr, .frm, .eng, .grd, .mod, .gtp, .mtr, .seq, .gov, .fab, .twn, .can, .aon, .obs, .tap, .pins, .free] s (execRailBelowReset r s) := by
  unfold execRailBelowReset
  repeat' first
    | with_reducible apply runs_when
    | with_reducible apply runs_when_of
    | with_reducible apply runs_next
    | with_reducible apply runs_ite
    | ((with_reducible apply within_after (within_assertReset _ _)); rfl)
    | ((with_reducible apply within_after (within_setRail _ _ _)); rfl)
    | split
    | with_reducible exact within_refl _ _
    | with_reducible assumption
    | (dsimp only; split)

theorem runs_execSupplyWarn (r : Nat) (s : State) : Runs [.evr] s (execSupplyWarn r s) := by
  unfold execSupplyWarn
  repeat' first
    | with_reducible apply runs_when
    | with_reducible apply runs_when_of
    | with_reducible apply runs_next
    | with_reducible apply runs_ite
    | ((with_reducible apply within_after (within_raise _ _)); rfl)
    | split
    | with_reducible exact within_refl _ _
    | with_reducible assumption
    | (dsimp only; split)

theorem within_showFuses (s : State) : Within [.regs] s (State.showFuses s) := by
  unfold State.showFuses
  repeat' first
    | ((with_reducible apply within_after (within_putB _ _ _)); rfl)
    | ((with_reducible apply within_after (within_put _ _ _)); rfl)
    | split
    | with_reducible exact within_refl _ _
    | with_reducible assumption
    | (dsimp only; split)

theorem within_aonDefaults (s : State) : Within [.regs, .evr] s (State.aonDefaults s) := by
  unfold State.aonDefaults
  repeat' first
    | ((with_reducible apply within_after (within_setWord _ _ _)); rfl)
    | ((with_reducible apply within_after (within_aonLow _)); rfl)
    | split
    | with_reducible exact within_refl _ _
    | with_reducible assumption
    | (dsimp only; split)

theorem within_release (s : State) : Within [.regs, .ram, .boot, .evr, .aon] s (State.release s) := by
  unfold State.release
  repeat' first
    | ((with_reducible apply within_after (within_bootCountUp _)); rfl)
    | ((with_reducible apply within_after (within_aonDefaults _)); rfl)
    | ((with_reducible apply within_after (within_showFuses _)); rfl)
    | ((with_reducible apply within_after (within_rfDrain _)); rfl)
    | split
    | with_reducible exact within_refl _ _
    | with_reducible assumption
    | ((with_reducible apply within_upd_boot); rfl)
    | (dsimp only; split)

theorem runs_execResetRelease (resetN : Bool) (test refs : Nat) (s : State) : Runs [.regs, .ram, .boot, .evr, .aon, .pins] s (execResetRelease resetN test refs s) := by
  unfold execResetRelease
  repeat' first
    | with_reducible apply runs_when
    | with_reducible apply runs_when_of
    | with_reducible apply runs_next
    | with_reducible apply runs_ite
    | ((with_reducible apply within_after (within_put _ _ _)); rfl)
    | ((with_reducible apply within_after (within_release _)); rfl)
    | with_reducible apply within_ite'
    | split
    | with_reducible exact within_refl _ _
    | with_reducible assumption
    | ((with_reducible apply within_upd_pins); rfl)
    | (dsimp only; split)

theorem runs_execXinStart (s : State) : Runs [.regs, .pins] s (execXinStart s) := by
  unfold execXinStart
  repeat' first
    | with_reducible apply runs_when
    | with_reducible apply runs_when_of
    | with_reducible apply runs_next
    | with_reducible apply runs_ite
    | ((with_reducible apply within_after (within_put _ _ _)); rfl)
    | split
    | with_reducible exact within_refl _ _
    | with_reducible assumption
    | ((with_reducible apply within_upd_pins); rfl)
    | (dsimp only; split)

end Sys2Proof.Laws
end

