-- ==== Sys2Proof/Laws/FrameTwin.lean ====
section
/-!
SUPPORT. What each operation of Machine/Twin.lean may change.
-/

namespace Sys2Proof.Laws

open Sys2Proof Sys2Proof.Machine

theorem within_setTwinLane (s : State) (l : Nat) (x : LaneS) : Within [.twn] s (State.setTwinLane s l x) := by
  unfold State.setTwinLane
  repeat' first
    | split
    | with_reducible exact within_refl _ _
    | with_reducible assumption
    | ((with_reducible apply within_upd_twn); rfl)
    | (dsimp only; split)

theorem within_pairingCheck (s : State) (pairId hash : Nat) : Within [.regs, .fab] s (State.pairingCheck s pairId hash) := by
  unfold State.pairingCheck
  repeat' first
    | ((with_reducible apply within_after (within_put _ _ _)); rfl)
    | ((with_reducible apply within_after (within_fabStart _)); rfl)
    | with_reducible apply within_ite'
    | with_reducible apply within_ite
    | split
    | with_reducible exact within_refl _ _
    | with_reducible assumption
    | ((with_reducible apply within_upd_fab); rfl)
    | (dsimp only; split)

theorem within_nameStart (s : State) : Within [.regs, .twn, .obs, .free] s (State.nameStart s) := by
  unfold State.nameStart
  repeat' first
    | ((with_reducible apply within_after (within_burn _)); rfl)
    | ((with_reducible apply within_after (within_sendCtl _ _)); rfl)
    | with_reducible apply within_ite
    | split
    | with_reducible exact within_refl _ _
    | with_reducible assumption
    | ((with_reducible apply within_upd_twn); rfl)
    | (dsimp only; split)

theorem within_leaveFabric (s : State) : Within [.regs, .evr, .fab] s (State.leaveFabric s) := by
  unfold State.leaveFabric
  repeat' first
    | ((with_reducible apply within_after (within_portDown _ _)); rfl)
    | ((with_reducible apply within_after (within_put _ _ _)); rfl)
    | with_reducible apply within_ite'
    | ((with_reducible apply within_forUpTo); intro _ _ _)
    | split
    | with_reducible exact within_refl _ _
    | with_reducible assumption
    | (dsimp only; split)

theorem within_pairAnew (s : State) : Within [.regs, .evr, .fab, .twn] s (State.pairAnew s) := by
  unfold State.pairAnew
  repeat' first
    | ((with_reducible apply within_after (within_leaveFabric _)); rfl)
    | ((with_reducible apply within_after (within_put _ _ _)); rfl)
    | ((with_reducible apply within_after (within_putB _ _ _)); rfl)
    | split
    | with_reducible exact within_refl _ _
    | with_reducible assumption
    | ((with_reducible apply within_upd_twn); rfl)
    | (dsimp only; split)

theorem within_partnerBack (s : State) : Within [.regs, .evr, .fab, .twn] s (State.partnerBack s) := by
  unfold State.partnerBack
  repeat' first
    | ((with_reducible apply within_after (within_pairAnew _)); rfl)
    | with_reducible apply within_ite'
    | split
    | with_reducible exact within_refl _ _
    | with_reducible assumption
    | (dsimp only; split)

theorem runs_execTwinHeartbeat (l : Nat) (valid : Bool) (role pst mode : Nat) (locked : Bool) (pairId hash : Nat) (s : State) : Runs [.regs, .evr, .fab, .twn, .obs, .free] s (execTwinHeartbeat l valid role pst mode locked pairId hash s) := by
  unfold execTwinHeartbeat
  repeat' first
    | with_reducible apply runs_when
    | with_reducible apply runs_when_of
    | with_reducible apply runs_next
    | with_reducible apply runs_ite
    | ((with_reducible apply within_after (within_setTwinLane _ _ _)); rfl)
    | ((with_reducible apply within_after (within_putB _ _ _)); rfl)
    | ((with_reducible apply within_after (within_partnerBack _)); rfl)
    | ((with_reducible apply within_after (within_pairingCheck _ _ _)); rfl)
    | ((with_reducible apply within_after (within_nameStart _)); rfl)
    | with_reducible apply within_ite'
    | with_reducible apply within_ite
    | split
    | with_reducible exact within_refl _ _
    | with_reducible assumption
    | ((with_reducible apply within_upd_twn); rfl)
    | (dsimp only; split)

theorem runs_execHeartbeatSend (s : State) : Runs [.twn] s (execHeartbeatSend s) := by
  unfold execHeartbeatSend
  repeat' first
    | with_reducible apply runs_when
    | with_reducible apply runs_when_of
    | with_reducible apply runs_next
    | with_reducible apply runs_ite
    | split
    | with_reducible exact within_refl _ _
    | with_reducible assumption
    | ((with_reducible apply within_upd_twn); rfl)
    | (dsimp only; split)

theorem runs_execAlignment (p : Nat) (s : State) : Runs [.regs, .fab, .twn] s (execAlignment p s) := by
  unfold execAlignment
  repeat' first
    | with_reducible apply runs_when
    | with_reducible apply runs_when_of
    | with_reducible apply runs_next
    | with_reducible apply runs_ite
    | ((with_reducible apply within_after (within_put _ _ _)); rfl)
    | ((with_reducible apply within_after (within_setFport _ _ _)); rfl)
    | ((with_reducible apply within_after (within_setTwinLane _ _ _)); rfl)
    | with_reducible apply within_ite
    | split
    | with_reducible exact within_refl _ _
    | with_reducible assumption
    | (dsimp only; split)

theorem within_twinStart (s : State) : Within [.regs, .frm, .mod, .twn] s (State.twinStart s) := by
  unfold State.twinStart
  repeat' first
    | ((with_reducible apply within_after (within_carriersAnew _)); rfl)
    | ((with_reducible apply within_after (within_put _ _ _)); rfl)
    | split
    | with_reducible exact within_refl _ _
    | with_reducible assumption
    | ((with_reducible apply within_upd_twn); rfl)
    | (dsimp only; split)

theorem runs_execTwinStart (s : State) : Runs [.regs, .frm, .mod, .twn] s (execTwinStart s) := by
  unfold execTwinStart
  repeat' first
    | with_reducible apply runs_when
    | with_reducible apply runs_when_of
    | with_reducible apply runs_next
    | with_reducible apply runs_ite
    | ((with_reducible apply within_after (within_twinStart _)); rfl)
    | with_reducible apply within_ite
    | split
    | with_reducible exact within_refl _ _
    | with_reducible assumption
    | ((with_reducible apply within_upd_twn); rfl)
    | (dsimp only; split)

theorem within_repair (s : State) : Within [.regs, .evr, .fab, .twn] s (State.repair s) := by
  unfold State.repair
  repeat' first
    | ((with_reducible apply within_after (within_pairAnew _)); rfl)
    | with_reducible apply within_ite'
    | split
    | with_reducible exact within_refl _ _
    | with_reducible assumption
    | (dsimp only; split)

theorem runs_execRepair (s : State) : Runs [.regs, .evr, .fab, .twn] s (execRepair s) := by
  unfold execRepair
  repeat' first
    | with_reducible apply runs_when
    | with_reducible apply runs_when_of
    | with_reducible apply runs_next
    | with_reducible apply runs_ite
    | ((with_reducible apply within_after (within_repair _)); rfl)
    | split
    | with_reducible exact within_refl _ _
    | with_reducible assumption
    | (dsimp only; split)

theorem within_partnerLoss (s : State) : Within [.regs, .clk, .acq, .win, .evr, .eng, .grd, .mod, .gtp, .mtr, .seq, .gov, .twn, .obs] s (State.partnerLoss s) := by
  unfold State.partnerLoss
  repeat' first
    | ((with_reducible apply within_after (within_raise _ _)); rfl)
    | ((with_reducible apply within_after (within_put _ _ _)); rfl)
    | ((with_reducible apply within_after (within_putB _ _ _)); rfl)
    | ((with_reducible apply within_after (within_degradeEnds _ _)); rfl)
    | ((with_reducible apply within_after (within_checkForce _)); rfl)
    | ((with_reducible apply within_after (within_auxRequest _ _ _)); rfl)
    | with_reducible apply within_ite'
    | with_reducible apply within_ite
    | split
    | with_reducible exact within_refl _ _
    | with_reducible assumption
    | ((with_reducible apply within_upd_gov); rfl)
    | ((with_reducible apply within_upd_twn); rfl)
    | ((with_reducible apply within_upd_gov_twn); rfl; rfl)
    | (dsimp only; split)

theorem runs_execTwinLaneDown (l : Nat) (s : State) : Runs [.regs, .clk, .acq, .win, .evr, .eng, .grd, .mod, .gtp, .mtr, .seq, .gov, .twn, .obs] s (execTwinLaneDown l s) := by
  unfold execTwinLaneDown
  repeat' first
    | with_reducible apply runs_when
    | with_reducible apply runs_when_of
    | with_reducible apply runs_next
    | with_reducible apply runs_ite
    | ((with_reducible apply within_after (within_setTwinLane _ _ _)); rfl)
    | ((with_reducible apply within_after (within_putB _ _ _)); rfl)
    | ((with_reducible apply within_after (within_bump _ _)); rfl)
    | ((with_reducible apply within_after (within_raise _ _)); rfl)
    | ((with_reducible apply within_after (within_partnerLoss _)); rfl)
    | with_reducible apply within_ite'
    | with_reducible apply within_ite
    | split
    | with_reducible exact within_refl _ _
    | with_reducible assumption
    | (dsimp only; split)

theorem runs_execCrossTripReceived (mask : Nat) (s : State) : Runs [.regs, .evr, .gtp, .twn] s (execCrossTripReceived mask s) := by
  unfold execCrossTripReceived
  repeat' first
    | with_reducible apply runs_when
    | with_reducible apply runs_when_of
    | with_reducible apply runs_next
    | with_reducible apply runs_ite
    | ((with_reducible apply within_after (within_raise _ _)); rfl)
    | ((with_reducible apply within_after (within_domainTrip _ _ _ _ _ _)); rfl)
    | ((with_reducible apply within_after (within_passOpened _ _)); rfl)
    | with_reducible apply within_ite'
    | ((with_reducible apply within_forUpTo); intro _ _ _)
    | split
    | with_reducible exact within_refl _ _
    | with_reducible assumption
    | ((with_reducible apply within_upd_twn); rfl)
    | (dsimp only; split)

theorem within_mirrorDrop (s : State) (f k : Nat) : Within [.twn] s (State.mirrorDrop s f k) := by
  unfold State.mirrorDrop
  repeat' first
    | split
    | with_reducible exact within_refl _ _
    | with_reducible assumption
    | ((with_reducible apply within_upd_twn); rfl)
    | (dsimp only; split)

theorem within_mirrorPublish (s : State) (f k : Nat) : Within [.regs, .eng, .twn] s (State.mirrorPublish s f k) := by
  unfold State.mirrorPublish
  repeat' first
    | ((with_reducible apply within_after (within_publishWord _ _ _)); rfl)
    | ((with_reducible apply within_after (within_mirrorDrop _ _ _)); rfl)
    | ((with_reducible apply within_foldl); intro _ _ _)
    | split
    | with_reducible exact within_refl _ _
    | with_reducible assumption
    | (dsimp only; split)

theorem within_mirrorMiss (s : State) : Within [.regs, .evr, .twn] s (State.mirrorMiss s) := by
  unfold State.mirrorMiss
  repeat' first
    | ((with_reducible apply within_after (within_raise _ _)); rfl)
    | ((with_reducible apply within_after (within_bump _ _)); rfl)
    | split
    | with_reducible exact within_refl _ _
    | with_reducible assumption
    | ((with_reducible apply within_upd_twn); rfl)
    | (dsimp only; split)

theorem within_mirrorLatch (s : State) (f idx : Nat) : Within [.regs, .evr, .eng, .twn] s (State.mirrorLatch s f idx) := by
  unfold State.mirrorLatch
  repeat' first
    | ((with_reducible apply within_after (within_mirrorPublish _ _ _)); rfl)
    | ((with_reducible apply within_after (within_mirrorMiss _)); rfl)
    | ((with_reducible apply within_after (within_mirrorDrop _ _ _)); rfl)
    | with_reducible apply within_ite
    | split
    | with_reducible exact within_refl _ _
    | with_reducible assumption
    | ((with_reducible apply within_upd_twn); rfl)
    | (dsimp only; split)

theorem within_mirrorRelease (s : State) (f : Nat) : Within [.regs, .eng, .twn] s (State.mirrorRelease s f) := by
  unfold State.mirrorRelease
  repeat' first
    | ((with_reducible apply within_after (within_mirrorPublish _ _ _)); rfl)
    | ((with_reducible apply within_after (within_setFr _ _ _)); rfl)
    | with_reducible apply within_ite
    | ((with_reducible apply within_forUpTo); intro _ _ _)
    | ((with_reducible apply within_foldl); intro _ _ _)
    | split
    | with_reducible exact within_refl _ _
    | with_reducible assumption
    | ((with_reducible apply within_upd_twn); rfl)
    | (dsimp only; split)

theorem within_mirrorIn (s : State) (f k sig : Nat) (w : Word) : Within [.regs, .eng, .twn, .obs] s (State.mirrorIn s f k sig w) := by
  unfold State.mirrorIn
  repeat' first
    | ((with_reducible apply within_after (within_bump _ _)); rfl)
    | ((with_reducible apply within_after (within_count _ _)); rfl)
    | ((with_reducible apply within_after (within_mirrorRelease _ _)); rfl)
    | with_reducible apply within_ite
    | split
    | with_reducible exact within_refl _ _
    | with_reducible assumption
    | ((with_reducible apply within_upd_twn); rfl)
    | (dsimp only; split)

theorem runs_execMirrorEntryReceived (whole : Bool) (f k sig : Nat) (w : Word) (s : State) : Runs [.regs, .eng, .twn, .obs] s (execMirrorEntryReceived whole f k sig w s) := by
  unfold execMirrorEntryReceived
  repeat' first
    | with_reducible apply runs_when
    | with_reducible apply runs_when_of
    | with_reducible apply runs_next
    | with_reducible apply runs_ite
    | ((with_reducible apply within_after (within_mirrorIn _ _ _ _ _)); rfl)
    | split
    | with_reducible exact within_refl _ _
    | with_reducible assumption
    | (dsimp only; split)

theorem within_composeIn (s : State) (mode : Nat) (aux : List Nat) (no : Nat) : Within [.regs, .seq, .twn, .obs] s (State.composeIn s mode aux no) := by
  unfold State.composeIn
  repeat' first
    | ((with_reducible apply within_after (within_startComp _ _ _ _)); rfl)
    | with_reducible apply within_ite
    | split
    | with_reducible exact within_refl _ _
    | with_reducible assumption
    | ((with_reducible apply within_upd_seq); rfl)
    | (dsimp only; split)

theorem within_controlIn (s : State) (kind : Nat) (a : List Nat) : Within [.regs, .clk, .acq, .win, .evr, .eng, .grd, .mod, .gtp, .mtr, .seq, .gov, .twn, .obs] s (State.controlIn s kind a) := by
  unfold State.controlIn
  repeat' first
    | ((with_reducible apply within_after (within_hostMode _ _)); rfl)
    | ((with_reducible apply within_after (within_hostAux _ _ _)); rfl)
    | ((with_reducible apply within_after (within_sendGo _)); rfl)
    | ((with_reducible apply within_after (within_checkForce _)); rfl)
    | ((with_reducible apply within_after (within_composeIn _ _ _ _)); rfl)
    | ((with_reducible apply within_after (within_setWord64 _ _ _)); rfl)
    | ((with_reducible apply within_after (within_hopRequest _ _ _ _)); rfl)
    | with_reducible apply within_ite'
    | with_reducible apply within_ite
    | ((with_reducible apply within_forUpTo); intro _ _ _)
    | split
    | with_reducible exact within_refl _ _
    | with_reducible assumption
    | ((with_reducible apply within_upd_seq); rfl)
    | ((with_reducible apply within_upd_gov); rfl)
    | ((with_reducible apply within_upd_twn); rfl)
    | ((with_reducible apply within_upd_gov_twn); rfl; rfl)
    | (dsimp only; split)

theorem within_controlRx (s : State) (kind : Nat) (a : List Nat) : Within [.regs, .clk, .acq, .win, .evr, .eng, .grd, .mod, .gtp, .mtr, .seq, .gov, .twn, .obs] s (State.controlRx s kind a) := by
  unfold State.controlRx
  repeat' first
    | ((with_reducible apply within_after (within_bump _ _)); rfl)
    | ((with_reducible apply within_after (within_count _ _)); rfl)
    | ((with_reducible apply within_after (within_controlIn _ _ _)); rfl)
    | with_reducible apply within_ite
    | split
    | with_reducible exact within_refl _ _
    | with_reducible assumption
    | ((with_reducible apply within_upd_twn); rfl)
    | (dsimp only; split)

theorem within_controlNext (s : State) : Within [.regs, .clk, .acq, .win, .evr, .eng, .grd, .mod, .gtp, .mtr, .seq, .gov, .twn, .obs] s (State.controlNext s) := by
  unfold State.controlNext
  repeat' first
    | ((with_reducible apply within_after (within_controlIn _ _ _)); rfl)
    | with_reducible apply within_ite'
    | split
    | with_reducible exact within_refl _ _
    | with_reducible assumption
    | ((with_reducible apply within_upd_twn); rfl)
    | (dsimp only; split)

theorem runs_execTwinControlRequest (whole : Bool) (kind : Nat) (a : List Nat) (s : State) : Runs [.regs, .clk, .acq, .win, .evr, .eng, .grd, .mod, .gtp, .mtr, .seq, .gov, .twn, .obs] s (execTwinControlRequest whole kind a s) := by
  unfold execTwinControlRequest
  repeat' first
    | with_reducible apply runs_when
    | with_reducible apply runs_when_of
    | with_reducible apply runs_next
    | with_reducible apply runs_ite
    | ((with_reducible apply within_after (within_controlRx _ _ _)); rfl)
    | split
    | with_reducible exact within_refl _ _
    | with_reducible assumption
    | (dsimp only; split)

theorem runs_execTwinGo (whole : Bool) (t : Nat) (s : State) : Runs [.regs, .clk, .acq, .win, .evr, .eng, .grd, .mod, .gtp, .mtr, .seq, .gov, .twn, .obs] s (execTwinGo whole t s) := by
  unfold execTwinGo
  repeat' first
    | with_reducible apply runs_when
    | with_reducible apply runs_when_of
    | with_reducible apply runs_next
    | with_reducible apply runs_ite
    | ((with_reducible apply within_after (within_controlRx _ _ _)); rfl)
    | split
    | with_reducible exact within_refl _ _
    | with_reducible assumption
    | (dsimp only; split)

theorem within_ctlProceed (s : State) (k : Nat) : Within [.twn, .obs] s (State.ctlProceed s k) := by
  induction k generalizing s with
  | zero =>
    unfold State.ctlProceed
    repeat' first
      | ((with_reducible apply within_after (within_count _ _)); rfl)
      | with_reducible apply within_ite
      | split
      | with_reducible exact within_refl _ _
      | with_reducible assumption
      | ((with_reducible apply within_upd_twn); rfl)
      | (dsimp only; split)
  | succ n ih =>
    unfold State.ctlProceed
    repeat' first
      | ((with_reducible apply within_after (ih _)); rfl)
      | ((with_reducible apply within_after (within_count _ _)); rfl)
      | with_reducible apply within_ite
      | split
      | with_reducible exact within_refl _ _
      | with_reducible assumption
      | ((with_reducible apply within_upd_twn); rfl)
      | (dsimp only; split)

theorem within_mirrorProceed (s : State) : Within [.twn, .obs] s (State.mirrorProceed s) := by
  unfold State.mirrorProceed
  repeat' first
    | ((with_reducible apply within_after (within_count _ _)); rfl)
    | split
    | with_reducible exact within_refl _ _
    | with_reducible assumption
    | ((with_reducible apply within_upd_twn); rfl)
    | (dsimp only; split)

theorem within_twinSend (s : State) (q : Nat) : Within [.twn, .obs] s (State.twinSend s q) := by
  unfold State.twinSend
  repeat' first
    | ((with_reducible apply within_after (within_mirrorProceed _)); rfl)
    | ((with_reducible apply within_after (within_ctlProceed _ _)); rfl)
    | with_reducible apply within_ite
    | split
    | with_reducible exact within_refl _ _
    | with_reducible assumption
    | ((with_reducible apply within_upd_twn); rfl)
    | (dsimp only; split)

theorem runs_execTwinQueueRoom (q : Nat) (s : State) : Runs [.regs, .ram, .clk, .acq, .win, .evr, .eng, .grd, .mod, .gtp, .mtr, .seq, .gov, .twn, .obs, .free] s (execTwinQueueRoom q s) := by
  unfold execTwinQueueRoom
  repeat' first
    | with_reducible apply runs_when
    | with_reducible apply runs_when_of
    | with_reducible apply runs_next
    | with_reducible apply runs_ite
    | ((with_reducible apply within_after (within_twinSend _ _)); rfl)
    | ((with_reducible apply within_after (within_tryCommit _ _)); rfl)
    | ((with_reducible apply within_after (within_controlNext _)); rfl)
    | with_reducible apply within_ite'
    | with_reducible apply within_ite
    | ((with_reducible apply within_forUpTo); intro _ _ _)
    | split
    | with_reducible exact within_refl _ _
    | with_reducible assumption
    | (dsimp only; split)

theorem within_twinDrain (s : State) : Within [.regs, .clk, .acq, .win, .evr, .eng, .grd, .mod, .gtp, .mtr, .seq, .gov, .twn, .obs] s (State.twinDrain s) := by
  unfold State.twinDrain
  repeat' first
    | ((with_reducible apply within_after (within_twinSend _ _)); rfl)
    | ((with_reducible apply within_after (within_controlNext _)); rfl)
    | with_reducible apply within_ite'
    | split
    | with_reducible exact within_refl _ _
    | with_reducible assumption
    | (dsimp only; split)

theorem within_twinBegin (s : State) : Within [.regs] s (State.twinBegin s) := by
  unfold State.twinBegin
  repeat' first
    | ((with_reducible apply within_after (within_put _ _ _)); rfl)
    | with_reducible apply within_ite'
    | split
    | with_reducible exact within_refl _ _
    | with_reducible assumption
    | (dsimp only; split)

end Sys2Proof.Laws
end

