-- ==== Sys2Proof/Laws/FrameBoot.lean ====
section
/-!
SUPPORT. What each operation of Machine/Boot.lean may change.
-/

namespace Sys2Proof.Laws

open Sys2Proof Sys2Proof.Machine

theorem within_clearLoaded (s : State) : Within [.regs, .boot] s (State.clearLoaded s) := by
  unfold State.clearLoaded
  repeat' first
    | ((with_reducible apply within_after (within_clearSection _ _)); rfl)
    | with_reducible apply within_ite'
    | ((with_reducible apply within_foldl); intro _ _ _)
    | split
    | with_reducible exact within_refl _ _
    | with_reducible assumption
    | ((with_reducible apply within_upd_boot); rfl)
    | ((with_reducible apply within_filter_regs); rfl)
    | ((with_reducible apply within_filter_ram); rfl)
    | ((with_reducible apply within_filter_regs_boot); rfl; rfl)
    | (dsimp only; split)

theorem within_enterBare (s : State) : Within [.regs, .boot] s (State.enterBare s) := by
  unfold State.enterBare
  repeat' first
    | ((with_reducible apply within_after (within_putB _ _ _)); rfl)
    | ((with_reducible apply within_after (within_put _ _ _)); rfl)
    | split
    | with_reducible exact within_refl _ _
    | with_reducible assumption
    | ((with_reducible apply within_upd_boot); rfl)
    | (dsimp only; split)

theorem within_rejectSlot (s : State) (code sec : Nat) : Within [.regs, .boot] s (State.rejectSlot s code sec) := by
  unfold State.rejectSlot
  repeat' first
    | ((with_reducible apply within_after (within_put _ _ _)); rfl)
    | ((with_reducible apply within_after (within_clearLoaded _)); rfl)
    | ((with_reducible apply within_after (within_putB _ _ _)); rfl)
    | ((with_reducible apply within_after (within_enterBare _)); rfl)
    | with_reducible apply within_ite'
    | with_reducible apply within_ite
    | split
    | with_reducible exact within_refl _ _
    | with_reducible assumption
    | ((with_reducible apply within_upd_boot); rfl)
    | (dsimp only; split)

theorem runs_execSfdpReadDone (valid : Bool) (density cmd addrBytes dummies : Nat) (s : State) : Runs [.boot] s (execSfdpReadDone valid density cmd addrBytes dummies s) := by
  unfold execSfdpReadDone
  repeat' first
    | with_reducible apply runs_when
    | with_reducible apply runs_when_of
    | with_reducible apply runs_next
    | with_reducible apply runs_ite
    | with_reducible apply within_ite
    | split
    | with_reducible exact within_refl _ _
    | with_reducible assumption
    | ((with_reducible apply within_upd_boot); rfl)
    | (dsimp only; split)

theorem runs_execSynALock (counts windows : List Nat) (s : State) : Runs [.regs, .boot, .clk] s (execSynALock counts windows s) := by
  unfold execSynALock
  repeat' first
    | with_reducible apply runs_when
    | with_reducible apply runs_when_of
    | with_reducible apply runs_next
    | with_reducible apply runs_ite
    | ((with_reducible apply within_after (within_putB _ _ _)); rfl)
    | split
    | with_reducible exact within_refl _ _
    | with_reducible assumption
    | ((with_reducible apply within_upd_boot); rfl)
    | ((with_reducible apply within_upd_clk); rfl)
    | ((with_reducible apply within_upd_boot_clk); rfl; rfl)
    | (dsimp only; split)

theorem runs_execHeaderCheck (readable : Bool) (bytes : List Byte) (s : State) : Runs [.regs, .boot] s (execHeaderCheck readable bytes s) := by
  unfold execHeaderCheck
  repeat' first
    | with_reducible apply runs_when
    | with_reducible apply runs_when_of
    | with_reducible apply runs_next
    | with_reducible apply runs_ite
    | ((with_reducible apply within_after (within_rejectSlot _ _ _)); rfl)
    | with_reducible apply within_ite
    | split
    | with_reducible exact within_refl _ _
    | with_reducible assumption
    | ((with_reducible apply within_upd_boot); rfl)
    | (dsimp only; split)

theorem within_plansRead (s : State) (b : List Byte) : Within [.regs, .boot] s (State.plansRead s b) := by
  unfold State.plansRead
  repeat' first
    | ((with_reducible apply within_after (within_loadPlans _ _)); rfl)
    | with_reducible apply within_ite
    | split
    | with_reducible exact within_refl _ _
    | with_reducible assumption
    | ((with_reducible apply within_upd_boot); rfl)
    | (dsimp only; split)

theorem within_sectionDone (s : State) (i : Nat) (x : Section) (data : List Byte) (fault : Bool) : Within [.regs, .boot] s (State.sectionDone s i x data fault) := by
  unfold State.sectionDone
  repeat' first
    | ((with_reducible apply within_after (within_rejectSlot _ _ _)); rfl)
    | ((with_reducible apply within_after (within_plansRead _ _)); rfl)
    | ((with_reducible apply within_after (within_loadSection _ _ _)); rfl)
    | with_reducible apply within_ite'
    | with_reducible apply within_ite
    | split
    | with_reducible exact within_refl _ _
    | with_reducible assumption
    | ((with_reducible apply within_upd_boot); rfl)
    | (dsimp only; split)

theorem runs_execSectionStreamed (data : List Byte) (taken : Nat) (readable fault : Bool) (s : State) : Runs [.regs, .boot] s (execSectionStreamed data taken readable fault s) := by
  unfold execSectionStreamed
  repeat' first
    | with_reducible apply runs_when
    | with_reducible apply runs_when_of
    | with_reducible apply runs_next
    | with_reducible apply runs_ite
    | ((with_reducible apply within_after (within_rejectSlot _ _ _)); rfl)
    | ((with_reducible apply within_after (within_sectionDone _ _ _ _ _)); rfl)
    | with_reducible apply within_ite
    | split
    | with_reducible exact within_refl _ _
    | with_reducible assumption
    | ((with_reducible apply within_upd_boot); rfl)
    | (dsimp only; split)

theorem runs_execFlashReadResume (s : State) : Runs [.regs, .boot] s (execFlashReadResume s) := by
  unfold execFlashReadResume
  repeat' first
    | with_reducible apply runs_when
    | with_reducible apply runs_when_of
    | with_reducible apply runs_next
    | with_reducible apply runs_ite
    | ((with_reducible apply within_after (within_sectionDone _ _ _ _ _)); rfl)
    | with_reducible apply within_ite'
    | split
    | with_reducible exact within_refl _ _
    | with_reducible assumption
    | ((with_reducible apply within_upd_boot); rfl)
    | (dsimp only; split)

theorem runs_execBandSearchDone (counts : List Nat) (found : Bool) (s : State) : Runs [.regs, .boot] s (execBandSearchDone counts found s) := by
  unfold execBandSearchDone
  repeat' first
    | with_reducible apply runs_when
    | with_reducible apply runs_when_of
    | with_reducible apply runs_next
    | with_reducible apply runs_ite
    | ((with_reducible apply within_after (within_put _ _ _)); rfl)
    | ((with_reducible apply within_after (within_putB _ _ _)); rfl)
    | ((with_reducible apply within_after (within_rejectSlot _ _ _)); rfl)
    | with_reducible apply within_ite'
    | with_reducible apply within_ite
    | split
    | with_reducible exact within_refl _ _
    | with_reducible assumption
    | ((with_reducible apply within_upd_boot); rfl)
    | (dsimp only; split)

theorem within_keepRoot (s : State) (trailer : List Byte) : Within [.boot] s (State.keepRoot s trailer) := by
  unfold State.keepRoot
  repeat' first
    | with_reducible apply within_ite
    | split
    | with_reducible exact within_refl _ _
    | with_reducible assumption
    | ((with_reducible apply within_upd_boot); rfl)
    | (dsimp only; split)

theorem runs_execTrailerVerify (readable : Bool) (image trailer : List Byte) (s : State) : Runs [.regs, .boot] s (execTrailerVerify readable image trailer s) := by
  unfold execTrailerVerify
  repeat' first
    | with_reducible apply runs_when
    | with_reducible apply runs_when_of
    | with_reducible apply runs_next
    | with_reducible apply runs_ite
    | ((with_reducible apply within_after (within_keepRoot _ _)); rfl)
    | ((with_reducible apply within_after (within_rejectSlot _ _ _)); rfl)
    | with_reducible apply within_ite
    | split
    | with_reducible exact within_refl _ _
    | with_reducible assumption
    | ((with_reducible apply within_upd_boot); rfl)
    | (dsimp only; split)

theorem within_loadRegs (s : State) : Within [.regs] s (State.loadRegs s) := by
  unfold State.loadRegs
  repeat' first
    | ((with_reducible apply within_after (within_loadSection _ _ _)); rfl)
    | ((with_reducible apply within_foldl); intro _ _ _)
    | split
    | with_reducible exact within_refl _ _
    | with_reducible assumption
    | (dsimp only; split)

theorem within_loadImage (s : State) : Within [.regs, .boot, .eng, .seq] s (State.loadImage s) := by
  unfold State.loadImage
  repeat' first
    | ((with_reducible apply within_after (within_putB _ _ _)); rfl)
    | ((with_reducible apply within_after (within_loadRegs _)); rfl)
    | ((with_reducible apply within_after (within_loadCtx _ _ _)); rfl)
    | ((with_reducible apply within_after (within_loadSch _ _)); rfl)
    | ((with_reducible apply within_after (within_loadGrp _ _ _)); rfl)
    | ((with_reducible apply within_after (within_loadOwners _)); rfl)
    | ((with_reducible apply within_after (within_loadEvt _)); rfl)
    | ((with_reducible apply within_after (within_loadRoles _)); rfl)
    | ((with_reducible apply within_after (within_loadPublic _)); rfl)
    | with_reducible apply within_ite'
    | ((with_reducible apply within_forUpTo); intro _ _ _)
    | ((with_reducible apply within_foldl); intro _ _ _)
    | split
    | with_reducible exact within_refl _ _
    | with_reducible assumption
    | ((with_reducible apply within_upd_seq); rfl)
    | (dsimp only; split)

theorem within_choosePlans (s : State) : Within [.regs] s (State.choosePlans s) := by
  unfold State.choosePlans
  repeat' first
    | ((with_reducible apply within_after (within_put _ _ _)); rfl)
    | split
    | with_reducible exact within_refl _ _
    | with_reducible assumption
    | (dsimp only; split)

theorem within_acceptSlot (s : State) : Within [.regs, .boot, .eng, .seq] s (State.acceptSlot s) := by
  unfold State.acceptSlot
  repeat' first
    | ((with_reducible apply within_after (within_loadImage _)); rfl)
    | ((with_reducible apply within_after (within_choosePlans _)); rfl)
    | ((with_reducible apply within_after (within_put _ _ _)); rfl)
    | with_reducible apply within_ite
    | split
    | with_reducible exact within_refl _ _
    | with_reducible assumption
    | ((with_reducible apply within_upd_boot); rfl)
    | (dsimp only; split)

theorem runs_execLoadChecksDone (s : State) : Runs [.regs, .boot, .eng, .seq, .free] s (execLoadChecksDone s) := by
  unfold execLoadChecksDone
  repeat' first
    | with_reducible apply runs_when
    | with_reducible apply runs_when_of
    | with_reducible apply runs_next
    | with_reducible apply runs_ite
    | ((with_reducible apply within_after (within_loadRegs _)); rfl)
    | ((with_reducible apply within_after (within_acceptSlot _)); rfl)
    | ((with_reducible apply within_after (within_burn _)); rfl)
    | ((with_reducible apply within_after (within_rejectSlot _ _ _)); rfl)
    | split
    | with_reducible exact within_refl _ _
    | with_reducible assumption
    | (dsimp only; split)

theorem runs_execFuseProgrammingDone (missed : Nat) (s : State) : Runs [.regs, .boot] s (execFuseProgrammingDone missed s) := by
  unfold execFuseProgrammingDone
  repeat' first
    | with_reducible apply runs_when
    | with_reducible apply runs_when_of
    | with_reducible apply runs_next
    | with_reducible apply runs_ite
    | ((with_reducible apply within_after (within_showFuses _)); rfl)
    | ((with_reducible apply within_after (within_putB _ _ _)); rfl)
    | split
    | with_reducible exact within_refl _ _
    | with_reducible assumption
    | ((with_reducible apply within_upd_boot); rfl)
    | (dsimp only; split)

theorem within_startGlazes (s : State) : Within [.regs, .seq] s (State.startGlazes s) := by
  unfold State.startGlazes
  repeat' first
    | ((with_reducible apply within_after (within_put _ _ _)); rfl)
    | ((with_reducible apply within_after (within_putB _ _ _)); rfl)
    | ((with_reducible apply within_after (within_setWord _ _ _)); rfl)
    | ((with_reducible apply within_foldl); intro _ _ _)
    | split
    | with_reducible exact within_refl _ _
    | with_reducible assumption
    | ((with_reducible apply within_upd_seq); rfl)
    | (dsimp only; split)

theorem within_showDerived (s : State) : Within [.regs] s (State.showDerived s) := by
  unfold State.showDerived
  repeat' first
    | ((with_reducible apply within_after (within_put _ _ _)); rfl)
    | ((with_reducible apply within_after (within_putB _ _ _)); rfl)
    | ((with_reducible apply within_forUpTo); intro _ _ _)
    | ((with_reducible apply within_foldl); intro _ _ _)
    | split
    | with_reducible exact within_refl _ _
    | with_reducible assumption
    | (dsimp only; split)

theorem within_startClocks (s : State) : Within [.regs, .clk, .evr] s (State.startClocks s) := by
  unfold State.startClocks
  repeat' first
    | ((with_reducible apply within_after (within_refLost _ _)); rfl)
    | with_reducible apply within_ite'
    | ((with_reducible apply within_forUpTo); intro _ _ _)
    | split
    | with_reducible exact within_refl _ _
    | with_reducible assumption
    | (dsimp only; split)

theorem within_loadPolicy (s : State) : Within [.regs] s (State.loadPolicy s) := by
  unfold State.loadPolicy
  repeat' first
    | ((with_reducible apply within_after (within_setWord _ _ _)); rfl)
    | split
    | with_reducible exact within_refl _ _
    | with_reducible assumption
    | (dsimp only; split)

theorem within_startCan (s : State) : Within [.regs, .can] s (State.startCan s) := by
  unfold State.startCan
  repeat' first
    | ((with_reducible apply within_after (within_putB _ _ _)); rfl)
    | ((with_reducible apply within_forUpTo); intro _ _ _)
    | split
    | with_reducible exact within_refl _ _
    | with_reducible assumption
    | ((with_reducible apply within_upd_can); rfl)
    | (dsimp only; split)

theorem runs_execSafeReady (s : State) : Runs [.regs, .boot, .clk, .acq, .win, .evr, .grd, .mod, .gtp, .mtr, .seq, .twn, .can, .aon, .obs, .free] s (execSafeReady s) := by
  unfold execSafeReady
  repeat' first
    | with_reducible apply runs_when
    | with_reducible apply runs_when_of
    | with_reducible apply runs_next
    | with_reducible apply runs_ite
    | ((with_reducible apply within_after (within_loadPolicy _)); rfl)
    | ((with_reducible apply within_after (within_startClocks _)); rfl)
    | ((with_reducible apply within_after (within_showDerived _)); rfl)
    | ((with_reducible apply within_after (within_startGlazes _)); rfl)
    | ((with_reducible apply within_after (within_powerUpComparators _)); rfl)
    | ((with_reducible apply within_after (within_startConverters _)); rfl)
    | ((with_reducible apply within_after (within_startCarriers _)); rfl)
    | ((with_reducible apply within_after (within_modStart _)); rfl)
    | ((with_reducible apply within_after (within_senseStart _)); rfl)
    | ((with_reducible apply within_after (within_desatAtReady _)); rfl)
    | ((with_reducible apply within_after (within_gridLoad _)); rfl)
    | ((with_reducible apply within_after (within_mtrRestore _)); rfl)
    | ((with_reducible apply within_after (within_fabStart _)); rfl)
    | ((with_reducible apply within_after (within_twinBegin _)); rfl)
    | ((with_reducible apply within_after (within_startCan _)); rfl)
    | ((with_reducible apply within_after (within_startRoutes _)); rfl)
    | ((with_reducible apply within_after (within_putB _ _ _)); rfl)
    | split
    | with_reducible exact within_refl _ _
    | with_reducible assumption
    | ((with_reducible apply within_upd_boot); rfl)
    | (dsimp only; split)

end Sys2Proof.Laws
end

