-- ==== Sys2Proof/Laws/FrameDump.lean ====
section
/-!
SUPPORT. What each operation of Machine/Dump.lean may change.
-/

namespace Sys2Proof.Laws

open Sys2Proof Sys2Proof.Machine

theorem within_dump (s0 : State) : Within [.regs, .ram, .obs, .free] s0 (State.dump s0) := by
  unfold State.dump
  repeat' first
    | ((with_reducible apply within_after (within_obsTakeSnap _)); rfl)
    | ((with_reducible apply within_after (within_bump _ _)); rfl)
    | ((with_reducible apply within_after (within_record _ _ _ _ _ _)); rfl)
    | with_reducible apply within_ite'
    | with_reducible apply within_ite
    | ((with_reducible apply within_forUpTo); intro _ _ _)
    | split
    | with_reducible exact within_refl _ _
    | with_reducible assumption
    | (dsimp only; split)

theorem within_dumpLatch (s : State) (f : Nat) : Within [.regs, .ram, .obs, .free] s (State.dumpLatch s f) := by
  unfold State.dumpLatch
  repeat' first
    | ((with_reducible apply within_after (within_dump _)); rfl)
    | with_reducible apply within_ite
    | split
    | with_reducible exact within_refl _ _
    | with_reducible assumption
    | ((with_reducible apply within_upd_obs); rfl)
    | (dsimp only; split)

end Sys2Proof.Laws
end

