-- ==== Sys2Proof/Laws/FrameSession.lean ====
section
/-!
SUPPORT. What each operation of Machine/Session.lean may change.
-/

namespace Sys2Proof.Laws

open Sys2Proof Sys2Proof.Machine

theorem within_send (s : State) (r : Req) (fn : Nat) (body : List Byte) : Within [.regs, .fab, .can, .obs] s (State.send s r fn body) := by
  unfold State.send
  repeat' first
    | ((with_reducible apply within_after (within_canSend _ _ _ _ _ _ _ _)); rfl)
    | ((with_reducible apply within_after (within_count _ _)); rfl)
    | with_reducible apply within_ite
    | split
    | with_reducible exact within_refl _ _
    | with_reducible assumption
    | ((with_reducible apply within_upd_fab); rfl)
    | (dsimp only; split)

theorem within_respond (s : State) (r : Req) (code count : Nat) (ws : List Word) : Within [.regs, .fab, .can, .obs, .answers] s (State.respond s r code count ws) := by
  unfold State.respond
  repeat' first
    | ((with_reducible apply within_after (within_answer _ _ _)); rfl)
    | ((with_reducible apply within_after (within_send _ _ _ _)); rfl)
    | split
    | with_reducible exact within_refl _ _
    | with_reducible assumption
    | (dsimp only; split)

theorem within_accessError (s : State) (code : Nat) : Within [.regs] s (State.accessError s code) := by
  unfold State.accessError
  repeat' first
    | ((with_reducible apply within_after (within_bump _ _)); rfl)
    | with_reducible apply within_ite'
    | with_reducible apply within_ite
    | split
    | with_reducible exact within_refl _ _
    | with_reducible assumption
    | (dsimp only; split)

theorem within_refuse (s : State) (r : Req) (code : Nat) : Within [.regs, .fab, .can, .obs, .answers] s (State.refuse s r code) := by
  unfold State.refuse
  repeat' first
    | ((with_reducible apply within_after (within_accessError _ _)); rfl)
    | ((with_reducible apply within_after (within_respond _ _ _ _ _)); rfl)
    | split
    | with_reducible exact within_refl _ _
    | with_reducible assumption
    | (dsimp only; split)

theorem within_takeReq {s t : State} {r : Req} {fn : Nat} (h : s.takeReq r fn = some t) : Within [.regs, .fab, .can, .obs] s t := by
  unfold State.takeReq at h
  split at h
  · split at h
    · cases h; exact within_refl _ _
    · next hc => split at h
                 · cases h; exact within_mono (within_canTake hc) rfl
                 · cases h
  · split at h
    · split at h
      · cases h; exact within_refl _ _
      · dsimp only at h
        split at h
        · cases h; exact within_upd_fab rfl (within_refl _ _)
        · cases h
    · cases h; exact within_refl _ _

theorem within_roomed {A : List Part} (s : State) (l n : Nat) (t : State) (hA : subParts [.fab, .obs] A = true) (h : Within A s t) :
    Within A s (State.roomed s l n t) := by
  have hf : A.contains Part.fab = true := List.contains_iff_mem.2 (subParts_mem hA (by decide))
  unfold State.roomed
  split
  · exact h
  · split
    · exact within_refl _ _
    · exact within_upd_fab hf (within_mono (within_count s _) (subParts_trans rfl hA))

theorem runs_handle {A : List Part} (s : State) (r : Req) (fn replies : Nat) (f : State → State)
    (hA : subParts [.regs, .fab, .can, .obs] A = true) (hb : ∀ u, Within A u (f u)) : Runs A s (State.handle s r fn replies f) := by
  unfold State.handle
  split
  · next t ht =>
    exact runs_when (within_roomed _ _ _ _ (subParts_trans rfl hA)
      (within_trans (within_mono (within_takeReq ht) (subParts_trans rfl hA)) (hb _) (subParts_refl A)))
  · exact runs_next (within_refl _ _)

theorem within_setLink (s : State) (l : Nat) (x : LinkS) : Within [.sess] s (State.setLink s l x) := by
  unfold State.setLink
  repeat' first
    | split
    | with_reducible exact within_refl _ _
    | with_reducible assumption
    | ((with_reducible apply within_upd_sess); rfl)
    | (dsimp only; split)

theorem within_endSession (s : State) (l : Nat) : Within [.regs, .sess] s (State.endSession s l) := by
  unfold State.endSession
  repeat' first
    | ((with_reducible apply within_after (within_put _ _ _)); rfl)
    | split
    | with_reducible exact within_refl _ _
    | with_reducible assumption
    | ((with_reducible apply within_upd_sess); rfl)
    | (dsimp only; split)

theorem within_dropChallenge (s : State) (l : Nat) : Within [.regs, .sess] s (State.dropChallenge s l) := by
  unfold State.dropChallenge
  repeat' first
    | ((with_reducible apply within_after (within_putB _ _ _)); rfl)
    | ((with_reducible apply within_after (within_setLink _ _ _)); rfl)
    | split
    | with_reducible exact within_refl _ _
    | with_reducible assumption
    | (dsimp only; split)

theorem within_issueChallenge (s : State) (r : Req) (role key : Nat) (cert : List Byte) : Within [.regs, .sess, .fab, .can, .obs, .answers, .free] s (State.issueChallenge s r role key cert) := by
  unfold State.issueChallenge
  repeat' first
    | ((with_reducible apply within_after (within_burn _)); rfl)
    | ((with_reducible apply within_after (within_setLink _ _ _)); rfl)
    | ((with_reducible apply within_after (within_putB _ _ _)); rfl)
    | ((with_reducible apply within_after (within_answer _ _ _)); rfl)
    | ((with_reducible apply within_after (within_send _ _ _ _)); rfl)
    | split
    | with_reducible exact within_refl _ _
    | with_reducible assumption
    | ((with_reducible apply within_upd_sess); rfl)
    | (dsimp only; split)

theorem within_sessionRequest (s : State) (r : Req) : Within [.regs, .sess, .fab, .can, .obs, .answers, .free] s (State.sessionRequest s r) := by
  unfold State.sessionRequest
  repeat' first
    | ((with_reducible apply within_after (within_endSession _ _)); rfl)
    | ((with_reducible apply within_after (within_dropChallenge _ _)); rfl)
    | ((with_reducible apply within_after (within_refuse _ _ _)); rfl)
    | ((with_reducible apply within_after (within_issueChallenge _ _ _ _ _)); rfl)
    | ((with_reducible apply within_after (within_burn _)); rfl)
    | with_reducible apply within_ite
    | split
    | with_reducible exact within_refl _ _
    | with_reducible assumption
    | (dsimp only; split)

theorem runs_execSessionRequest (link requester prio seq : Nat) (body : List Byte) (s : State) : Runs [.regs, .sess, .fab, .can, .obs, .answers, .free] s (execSessionRequest link requester prio seq body s) := by
  unfold execSessionRequest
  repeat' first
    | (apply runs_handle _ _ _ _ _ rfl; intro _)
    | with_reducible apply runs_when
    | (apply runs_handle _ _ _ _ _ rfl; intro _)
    | with_reducible apply runs_when_of
    | with_reducible apply runs_next
    | with_reducible apply runs_ite
    | exact runs_handle _ _ _ _ _
    | ((with_reducible apply within_after (within_sessionRequest _ _)); rfl)
    | split
    | with_reducible exact within_refl _ _
    | with_reducible assumption
    | (dsimp only; split)

theorem within_sessionFail (s : State) (r : Req) (code : Nat) : Within [.regs, .sess, .fab, .can, .aon, .obs, .answers] s (State.sessionFail s r code) := by
  unfold State.sessionFail
  repeat' first
    | ((with_reducible apply within_after (within_bump _ _)); rfl)
    | ((with_reducible apply within_after (within_logPush _ _ _)); rfl)
    | ((with_reducible apply within_after (within_setLink _ _ _)); rfl)
    | ((with_reducible apply within_after (within_putB _ _ _)); rfl)
    | ((with_reducible apply within_after (within_refuse _ _ _)); rfl)
    | with_reducible apply within_ite'
    | split
    | with_reducible exact within_refl _ _
    | with_reducible assumption
    | (dsimp only; split)

theorem within_sessionVerify (s : State) (r : Req) (sig : List Byte) : Within [.regs, .sess, .fab, .can, .aon, .obs, .answers] s (State.sessionVerify s r sig) := by
  unfold State.sessionVerify
  repeat' first
    | ((with_reducible apply within_after (within_dropChallenge _ _)); rfl)
    | ((with_reducible apply within_after (within_put _ _ _)); rfl)
    | ((with_reducible apply within_after (within_setLink _ _ _)); rfl)
    | ((with_reducible apply within_after (within_respond _ _ _ _ _)); rfl)
    | ((with_reducible apply within_after (within_sessionFail _ _ _)); rfl)
    | with_reducible apply within_ite
    | split
    | with_reducible exact within_refl _ _
    | with_reducible assumption
    | (dsimp only; split)

theorem within_sessionResponse (s : State) (r : Req) (late : Bool) : Within [.regs, .sess, .fab, .can, .aon, .obs, .answers] s (State.sessionResponse s r late) := by
  unfold State.sessionResponse
  repeat' first
    | ((with_reducible apply within_after (within_sessionFail _ _ _)); rfl)
    | ((with_reducible apply within_after (within_refuse _ _ _)); rfl)
    | ((with_reducible apply within_after (within_dropChallenge _ _)); rfl)
    | ((with_reducible apply within_after (within_sessionVerify _ _ _)); rfl)
    | with_reducible apply within_ite
    | split
    | with_reducible exact within_refl _ _
    | with_reducible assumption
    | ((with_reducible apply within_upd_sess); rfl)
    | (dsimp only; split)

theorem runs_execSessionResponse (link requester prio seq : Nat) (late : Bool) (body : List Byte) (s : State) : Runs [.regs, .sess, .fab, .can, .aon, .obs, .answers] s (execSessionResponse link requester prio seq late body s) := by
  unfold execSessionResponse
  repeat' first
    | (apply runs_handle _ _ _ _ _ rfl; intro _)
    | with_reducible apply runs_when
    | (apply runs_handle _ _ _ _ _ rfl; intro _)
    | with_reducible apply runs_when_of
    | with_reducible apply runs_next
    | with_reducible apply runs_ite
    | exact runs_handle _ _ _ _ _
    | ((with_reducible apply within_after (within_sessionResponse _ _ _)); rfl)
    | split
    | with_reducible exact within_refl _ _
    | with_reducible assumption
    | (dsimp only; split)

theorem runs_execSessionVerificationDone (s : State) : Runs [.regs, .sess, .seq, .fab, .can, .aon, .obs, .answers] s (execSessionVerificationDone s) := by
  unfold execSessionVerificationDone
  repeat' first
    | with_reducible apply runs_when
    | with_reducible apply runs_when_of
    | with_reducible apply runs_next
    | with_reducible apply runs_ite
    | (apply within_roomed _ _ _ _ rfl)
    | ((with_reducible apply within_after (within_sessionVerify _ _ _)); rfl)
    | ((with_reducible apply within_after (within_sessionFail _ _ _)); rfl)
    | with_reducible apply within_ite
    | split
    | with_reducible exact within_refl _ _
    | with_reducible assumption
    | ((with_reducible apply within_upd_sess); rfl)
    | ((with_reducible apply within_upd_seq); rfl)
    | (dsimp only; split)

theorem runs_execLockoutExpiry (link : Nat) (s : State) : Runs [.regs, .sess] s (execLockoutExpiry link s) := by
  unfold execLockoutExpiry
  repeat' first
    | with_reducible apply runs_when
    | with_reducible apply runs_when_of
    | with_reducible apply runs_next
    | with_reducible apply runs_ite
    | ((with_reducible apply within_after (within_putB _ _ _)); rfl)
    | ((with_reducible apply within_after (within_setLink _ _ _)); rfl)
    | split
    | with_reducible exact within_refl _ _
    | with_reducible assumption
    | (dsimp only; split)

theorem runs_execSessionClose (link requester prio seq : Nat) (body : List Byte) (s : State) : Runs [.regs, .sess, .fab, .can, .obs, .answers] s (execSessionClose link requester prio seq body s) := by
  unfold execSessionClose
  repeat' first
    | (apply runs_handle _ _ _ _ _ rfl; intro _)
    | with_reducible apply runs_when
    | (apply runs_handle _ _ _ _ _ rfl; intro _)
    | with_reducible apply runs_when_of
    | with_reducible apply runs_next
    | with_reducible apply runs_ite
    | exact runs_handle _ _ _ _ _
    | ((with_reducible apply within_after (within_refuse _ _ _)); rfl)
    | ((with_reducible apply within_after (within_endSession _ _)); rfl)
    | ((with_reducible apply within_after (within_respond _ _ _ _ _)); rfl)
    | with_reducible apply within_ite
    | split
    | with_reducible exact within_refl _ _
    | with_reducible assumption
    | (dsimp only; split)

theorem runs_execSessionIdleTimeout (link : Nat) (s : State) : Runs [.regs, .sess] s (execSessionIdleTimeout link s) := by
  unfold execSessionIdleTimeout
  repeat' first
    | with_reducible apply runs_when
    | with_reducible apply runs_when_of
    | with_reducible apply runs_next
    | with_reducible apply runs_ite
    | ((with_reducible apply within_after (within_endSession _ _)); rfl)
    | split
    | with_reducible exact within_refl _ _
    | with_reducible assumption
    | (dsimp only; split)

theorem within_attestationRequest (s : State) (r : Req) : Within [.regs, .sess, .fab, .can, .obs, .answers] s (State.attestationRequest s r) := by
  unfold State.attestationRequest
  repeat' first
    | ((with_reducible apply within_after (within_refuse _ _ _)); rfl)
    | with_reducible apply within_ite
    | split
    | with_reducible exact within_refl _ _
    | with_reducible assumption
    | ((with_reducible apply within_upd_sess); rfl)
    | (dsimp only; split)

theorem runs_execAttestationRequest (link requester prio seq : Nat) (body : List Byte) (s : State) : Runs [.regs, .sess, .fab, .can, .obs, .answers] s (execAttestationRequest link requester prio seq body s) := by
  unfold execAttestationRequest
  repeat' first
    | (apply runs_handle _ _ _ _ _ rfl; intro _)
    | with_reducible apply runs_when
    | (apply runs_handle _ _ _ _ _ rfl; intro _)
    | with_reducible apply runs_when_of
    | with_reducible apply runs_next
    | with_reducible apply runs_ite
    | exact runs_handle _ _ _ _ _
    | ((with_reducible apply within_after (within_attestationRequest _ _)); rfl)
    | split
    | with_reducible exact within_refl _ _
    | with_reducible assumption
    | (dsimp only; split)

theorem runs_execAttestationReportDone (s : State) : Runs [.regs, .sess, .seq, .fab, .can, .obs, .answers] s (execAttestationReportDone s) := by
  unfold execAttestationReportDone
  repeat' first
    | with_reducible apply runs_when
    | with_reducible apply runs_when_of
    | with_reducible apply runs_next
    | with_reducible apply runs_ite
    | ((with_reducible apply within_after (within_answer _ _ _)); rfl)
    | ((with_reducible apply within_after (within_send _ _ _ _)); rfl)
    | (apply within_roomed _ _ _ _ rfl)
    | split
    | with_reducible exact within_refl _ _
    | with_reducible assumption
    | ((with_reducible apply within_upd_sess); rfl)
    | ((with_reducible apply within_upd_seq); rfl)
    | (dsimp only; split)

end Sys2Proof.Laws
end

