-- ==== Sys2Proof/Laws/FrameFlash.lean ====
section
/-!
SUPPORT. What each operation of Machine/Flash.lean may change.
-/

namespace Sys2Proof.Laws

open Sys2Proof Sys2Proof.Machine

theorem within_flashBegin (s : State) (cmd : Nat) : Within [.regs, .boot] s (State.flashBegin s cmd) := by
  unfold State.flashBegin
  repeat' first
    | ((with_reducible apply within_after (within_putB _ _ _)); rfl)
    | split
    | with_reducible exact within_refl _ _
    | with_reducible assumption
    | ((with_reducible apply within_upd_boot); rfl)
    | (dsimp only; split)

theorem within_flashStart (s : State) (cmd : Nat) : Within [.regs, .boot] s (State.flashStart s cmd).1 := by
  unfold State.flashStart
  repeat' first
    | ((with_reducible apply within_after (within_putB _ _ _)); rfl)
    | ((with_reducible apply within_after (within_flashBegin _ _)); rfl)
    | with_reducible apply within_ite
    | with_reducible apply within_ite_fst
    | split
    | with_reducible exact within_refl _ _
    | with_reducible assumption
    | ((with_reducible apply within_upd_boot); rfl)
    | (dsimp only; split)

theorem within_flashWrite (s : State) (w : Word) : Within [.regs, .boot] s (State.flashWrite s w).1 := by
  unfold State.flashWrite
  repeat' first
    | ((with_reducible apply within_after (within_setWord _ _ _)); rfl)
    | ((with_reducible apply within_after (within_putB _ _ _)); rfl)
    | ((with_reducible apply within_after (within_flashStart _ _)); rfl)
    | with_reducible apply within_ite'
    | with_reducible apply within_ite
    | with_reducible apply within_ite_fst
    | split
    | with_reducible exact within_refl _ _
    | with_reducible assumption
    | (dsimp only; split)

theorem runs_execFlashCommandDone (fail : Bool) (data : List Byte) (s : State) : Runs [.regs, .ram, .boot, .free] s (execFlashCommandDone fail data s) := by
  unfold execFlashCommandDone
  repeat' first
    | with_reducible apply runs_when
    | with_reducible apply runs_when_of
    | with_reducible apply runs_next
    | with_reducible apply runs_ite
    | ((with_reducible apply within_after (within_putB _ _ _)); rfl)
    | ((with_reducible apply within_after (within_setBytes _ _ _)); rfl)
    | ((with_reducible apply within_after (within_put _ _ _)); rfl)
    | ((with_reducible apply within_after (within_burn _)); rfl)
    | with_reducible apply within_ite'
    | with_reducible apply within_ite
    | split
    | with_reducible exact within_refl _ _
    | with_reducible assumption
    | ((with_reducible apply within_upd_boot); rfl)
    | (dsimp only; split)

end Sys2Proof.Laws
end

