-- ==== Sys2Proof/Laws/FrameLatch.lean ====
section
/-!
SUPPORT. What each operation of Machine/Latch.lean may change.
-/

namespace Sys2Proof.Laws

open Sys2Proof Sys2Proof.Machine

theorem within_publishers (s : State) (f : Nat) : Within [.regs, .clk, .evr, .eng, .gov, .twn, .obs] s (State.publishers s f) := by
  unfold State.publishers
  repeat' first
    | ((with_reducible apply within_after (within_publishFrom _ _ _)); rfl)
    | ((with_reducible apply within_after (within_govPublish _)); rfl)
    | with_reducible apply within_ite'
    | split
    | with_reducible exact within_refl _ _
    | with_reducible assumption
    | (dsimp only; split)

theorem within_publishParams (s : State) (f : Nat) : Within [.regs, .ram, .eng, .obs, .free] s (State.publishParams s f) := by
  unfold State.publishParams
  repeat' first
    | ((with_reducible apply within_after (within_publishWord _ _ _)); rfl)
    | ((with_reducible apply within_after (within_record _ _ _ _ _ _)); rfl)
    | with_reducible apply within_ite'
    | ((with_reducible apply within_foldl); intro _ _ _)
    | split
    | with_reducible exact within_refl _ _
    | with_reducible assumption
    | ((with_reducible apply within_upd_eng); rfl)
    | (dsimp only; split)

theorem within_publishCtx (s : State) (c : Nat) : Within [.regs, .eng] s (State.publishCtx s c) := by
  unfold State.publishCtx
  repeat' first
    | ((with_reducible apply within_after (within_publishWord _ _ _)); rfl)
    | ((with_reducible apply within_after (within_setCtx _ _ _)); rfl)
    | ((with_reducible apply within_foldl); intro _ _ _)
    | split
    | with_reducible exact within_refl _ _
    | with_reducible assumption
    | (dsimp only; split)

theorem within_publishGroups (s : State) (f : Nat) : Within [.regs, .eng] s (State.publishGroups s f) := by
  unfold State.publishGroups
  repeat' first
    | ((with_reducible apply within_after (within_publishWord _ _ _)); rfl)
    | ((with_reducible apply within_after (within_setGrp _ _ _)); rfl)
    | with_reducible apply within_ite
    | ((with_reducible apply within_forUpTo); intro _ _ _)
    | split
    | with_reducible exact within_refl _ _
    | with_reducible assumption
    | (dsimp only; split)

theorem within_captureInputs (s : State) (f : Nat) : Within [.regs] s (State.captureInputs s f) := by
  unfold State.captureInputs
  repeat' first
    | ((with_reducible apply within_after (within_putB _ _ _)); rfl)
    | with_reducible apply within_ite'
    | ((with_reducible apply within_forUpTo); intro _ _ _)
    | split
    | with_reducible exact within_refl _ _
    | with_reducible assumption
    | (dsimp only; split)

theorem within_latchPoints (s : State) (f : Nat) : Within [.regs, .ram, .evr, .eng, .twn, .obs, .free] s (State.latchPoints s f) := by
  unfold State.latchPoints
  repeat' first
    | ((with_reducible apply within_after (within_commitPoint _ _)); rfl)
    | ((with_reducible apply within_after (within_resolveEmpty _ _ _)); rfl)
    | with_reducible apply within_ite'
    | ((with_reducible apply within_forUpTo); intro _ _ _)
    | ((with_reducible apply within_foldl); intro _ _ _)
    | split
    | with_reducible exact within_refl _ _
    | with_reducible assumption
    | (dsimp only; split)

theorem within_publishBoard (s : State) (f : Nat) : Within [.regs, .clk, .evr, .eng, .gov, .twn, .obs] s (State.publishBoard s f) := by
  unfold State.publishBoard
  repeat' first
    | ((with_reducible apply within_after (within_publishers _ _)); rfl)
    | ((with_reducible apply within_after (within_mirrorLatch _ _ _)); rfl)
    | split
    | with_reducible exact within_refl _ _
    | with_reducible assumption
    | (dsimp only; split)

theorem within_publishSource (s : State) (f : Nat) : Within [.regs, .ram, .clk, .acq, .win, .evr, .eng, .grd, .mod, .gtp, .mtr, .seq, .fab, .twn, .obs, .free] s (State.publishSource s f) := by
  unfold State.publishSource
  repeat' first
    | ((with_reducible apply within_after (within_publishParams _ _)); rfl)
    | ((with_reducible apply within_after (within_publishCtx _ _)); rfl)
    | ((with_reducible apply within_after (within_publishGroups _ _)); rfl)
    | ((with_reducible apply within_after (within_swapSource _ _)); rfl)
    | with_reducible apply within_ite'
    | ((with_reducible apply within_foldl); intro _ _ _)
    | split
    | with_reducible exact within_refl _ _
    | with_reducible assumption
    | (dsimp only; split)

theorem within_gsNow (s : State) : Within [.regs, .ram, .evr, .frm, .eng, .grd, .obs, .free] s (State.gsNow s) := by
  unfold State.gsNow
  repeat' first
    | ((with_reducible apply within_after (within_gsInstant _)); rfl)
    | with_reducible apply within_ite'
    | split
    | with_reducible exact within_refl _ _
    | with_reducible assumption
    | (dsimp only; split)

theorem within_latchFirst (s0 : State) : Within [.regs, .ram, .clk, .acq, .win, .evr, .frm, .eng, .grd, .mod, .gtp, .mtr, .seq, .gov, .fab, .twn, .obs, .free] s0 (State.latchFirst s0) := by
  unfold State.latchFirst
  repeat' first
    | ((with_reducible apply within_after (within_gsNow _)); rfl)
    | ((with_reducible apply within_after (within_publishBoard _ _)); rfl)
    | ((with_reducible apply within_after (within_latchPoints _ _)); rfl)
    | ((with_reducible apply within_after (within_publishSource _ _)); rfl)
    | ((with_reducible apply within_after (within_captureInputs _ _)); rfl)
    | ((with_reducible apply within_after (within_checkForce _)); rfl)
    | ((with_reducible apply within_after (within_dumpLatch _ _)); rfl)
    | ((with_reducible apply within_foldl); intro _ _ _)
    | split
    | with_reducible exact within_refl _ _
    | with_reducible assumption
    | ((with_reducible apply within_upd_frm); rfl)
    | (dsimp only; split)

theorem within_openFrame (s : State) (c f idx : Nat) : Within [.regs, .ram, .evr, .eng, .obs, .free] s (State.openFrame s c f idx) := by
  unfold State.openFrame
  repeat' first
    | ((with_reducible apply within_after (within_heal _ _)); rfl)
    | ((with_reducible apply within_after (within_setFr _ _ _)); rfl)
    | ((with_reducible apply within_after (within_record _ _ _ _ _ _)); rfl)
    | ((with_reducible apply within_after (within_contextFault _ _)); rfl)
    | with_reducible apply within_ite'
    | with_reducible apply within_ite
    | ((with_reducible apply within_foldl); intro _ _ _)
    | split
    | with_reducible exact within_refl _ _
    | with_reducible assumption
    | ((with_reducible apply within_upd_obs); rfl)
    | (dsimp only; split)

theorem within_latchCtx (s : State) (c f idx : Nat) : Within [.regs, .ram, .evr, .eng, .obs, .free] s (State.latchCtx s c f idx) := by
  unfold State.latchCtx
  repeat' first
    | ((with_reducible apply within_after (within_putB _ _ _)); rfl)
    | ((with_reducible apply within_after (within_drain _ _)); rfl)
    | ((with_reducible apply within_after (within_openFrame _ _ _ _)); rfl)
    | with_reducible apply within_ite'
    | split
    | with_reducible exact within_refl _ _
    | with_reducible assumption
    | (dsimp only; split)

theorem within_openGroups (s : State) (f idx : Nat) : Within [.eng] s (State.openGroups s f idx) := by
  unfold State.openGroups
  repeat' first
    | ((with_reducible apply within_after (within_setGrp _ _ _)); rfl)
    | with_reducible apply within_ite
    | ((with_reducible apply within_forUpTo); intro _ _ _)
    | ((with_reducible apply within_foldl); intro _ _ _)
    | split
    | with_reducible exact within_refl _ _
    | with_reducible assumption
    | (dsimp only; split)

theorem within_gridInputs (s : State) (idx : Nat) : Within [.regs, .ram, .obs, .free] s (State.gridInputs s idx) := by
  unfold State.gridInputs
  repeat' first
    | ((with_reducible apply within_after (within_record _ _ _ _ _ _)); rfl)
    | with_reducible apply within_ite'
    | split
    | with_reducible exact within_refl _ _
    | with_reducible assumption
    | (dsimp only; split)

theorem within_latchSecond (s : State) (f : Nat) : Within [.regs, .ram, .acq, .evr, .frm, .eng, .grd, .seq, .gov, .twn, .obs, .free] s (State.latchSecond s f) := by
  unfold State.latchSecond
  repeat' first
    | ((with_reducible apply within_after (within_heal _ _)); rfl)
    | ((with_reducible apply within_after (within_formRecords _ _)); rfl)
    | ((with_reducible apply within_after (within_openGroups _ _ _)); rfl)
    | ((with_reducible apply within_after (within_latchCtx _ _ _ _)); rfl)
    | ((with_reducible apply within_after (within_gridLatch _ _)); rfl)
    | ((with_reducible apply within_after (within_gridInputs _ _)); rfl)
    | ((with_reducible apply within_after (within_govDecide _)); rfl)
    | ((with_reducible apply within_after (within_setWord _ _ _)); rfl)
    | ((with_reducible apply within_after (within_count _ _)); rfl)
    | with_reducible apply within_ite'
    | with_reducible apply within_ite
    | ((with_reducible apply within_foldl); intro _ _ _)
    | split
    | with_reducible exact within_refl _ _
    | with_reducible assumption
    | ((with_reducible apply within_upd_frm); rfl)
    | (dsimp only; split)

theorem within_wrapsNow (s : State) : Within [.regs, .win, .evr, .mod, .gtp, .twn] s (State.wrapsNow s) := by
  unfold State.wrapsNow
  repeat' first
    | ((with_reducible apply within_after (within_carrierWrap _ _)); rfl)
    | with_reducible apply within_ite'
    | ((with_reducible apply within_forUpTo); intro _ _ _)
    | split
    | with_reducible exact within_refl _ _
    | with_reducible assumption
    | (dsimp only; split)

theorem runs_execCarrierWrap (g : Nat) (s : State) : Runs [.regs, .ram, .clk, .acq, .win, .evr, .frm, .eng, .grd, .mod, .gtp, .mtr, .seq, .gov, .fab, .twn, .obs, .free] s (execCarrierWrap g s) := by
  unfold execCarrierWrap
  repeat' first
    | with_reducible apply runs_when
    | with_reducible apply runs_when_of
    | with_reducible apply runs_next
    | with_reducible apply runs_ite
    | ((with_reducible apply within_after (within_latchFirst _)); rfl)
    | ((with_reducible apply within_after (within_carrierWrap _ _)); rfl)
    | split
    | with_reducible exact within_refl _ _
    | with_reducible assumption
    | (dsimp only; split)

theorem runs_execFrameLatch (f : Nat) (one two : List Nat) (s : State) : Runs [.regs, .ram, .clk, .acq, .win, .evr, .frm, .eng, .grd, .mod, .gtp, .mtr, .seq, .gov, .fab, .twn, .obs, .free] s (execFrameLatch f one two s) := by
  unfold execFrameLatch
  repeat' first
    | with_reducible apply runs_when
    | with_reducible apply runs_when_of
    | with_reducible apply runs_next
    | with_reducible apply runs_ite
    | ((with_reducible apply within_after (within_latchFirst _)); rfl)
    | ((with_reducible apply within_after (within_wrapsNow _)); rfl)
    | ((with_reducible apply within_after (within_eccDouble _ _)); rfl)
    | ((with_reducible apply within_after (within_eccSingle _ _ _)); rfl)
    | ((with_reducible apply within_after (within_eccCover _ _)); rfl)
    | ((with_reducible apply within_after (within_latchSecond _ _)); rfl)
    | with_reducible apply within_ite'
    | ((with_reducible apply within_foldl); intro _ _ _)
    | split
    | with_reducible exact within_refl _ _
    | with_reducible assumption
    | (dsimp only; split)

theorem runs_execPeriodicDump (s : State) : Runs [.regs, .ram, .clk, .acq, .win, .evr, .frm, .eng, .grd, .mod, .gtp, .mtr, .seq, .gov, .fab, .twn, .obs, .free] s (execPeriodicDump s) := by
  unfold execPeriodicDump
  repeat' first
    | with_reducible apply runs_when
    | with_reducible apply runs_when_of
    | with_reducible apply runs_next
    | with_reducible apply runs_ite
    | ((with_reducible apply within_after (within_latchFirst _)); rfl)
    | ((with_reducible apply within_after (within_dump _)); rfl)
    | split
    | with_reducible exact within_refl _ _
    | with_reducible assumption
    | ((with_reducible apply within_upd_obs); rfl)
    | (dsimp only; split)

theorem runs_execContextEnableWrite (c : Nat) (b : Bool) (s : State) : Runs [.regs] s (execContextEnableWrite c b s) := by
  unfold execContextEnableWrite
  repeat' first
    | with_reducible apply runs_when
    | with_reducible apply runs_when_of
    | with_reducible apply runs_next
    | with_reducible apply runs_ite
    | ((with_reducible apply within_after (within_enableWrite _ _ _)); rfl)
    | split
    | with_reducible exact within_refl _ _
    | with_reducible assumption
    | (dsimp only; split)

theorem runs_execParameterWrite (link sig : Nat) (w : Word) (s : State) : Runs [.regs, .eng, .answers] s (execParameterWrite link sig w s) := by
  unfold execParameterWrite
  repeat' first
    | with_reducible apply runs_when
    | with_reducible apply runs_when_of
    | with_reducible apply runs_next
    | with_reducible apply runs_ite
    | ((with_reducible apply within_after (within_paramWrite _ _ _)); rfl)
    | ((with_reducible apply within_after (within_answer _ _ _)); rfl)
    | ((with_reducible apply within_after (within_bump _ _)); rfl)
    | with_reducible apply within_ite
    | split
    | with_reducible exact within_refl _ _
    | with_reducible assumption
    | (dsimp only; split)

end Sys2Proof.Laws
end

