-- ==== Sys2Proof/Laws/FrameObs.lean ====
section
/-!
SUPPORT. What each operation of Machine/Obs.lean may change.
-/

namespace Sys2Proof.Laws

open Sys2Proof Sys2Proof.Machine

theorem within_counterClear (s : State) : Within [.obs] s (State.counterClear s) := by
  unfold State.counterClear
  repeat' first
    | split
    | with_reducible exact within_refl _ _
    | with_reducible assumption
    | ((with_reducible apply within_upd_obs); rfl)
    | (dsimp only; split)

theorem within_psTake (s : State) : Within [.regs] s (State.psTake s) := by
  unfold State.psTake
  repeat' first
    | ((with_reducible apply within_after (within_put _ _ _)); rfl)
    | split
    | with_reducible exact within_refl _ _
    | with_reducible assumption
    | (dsimp only; split)

theorem within_q27Drain (s : State) : Within [.regs, .ram, .obs, .free] s (State.q27Drain s) := by
  unfold State.q27Drain
  repeat' first
    | ((with_reducible apply within_after (within_record _ _ _ _ _ _)); rfl)
    | with_reducible apply within_ite
    | split
    | with_reducible exact within_refl _ _
    | with_reducible assumption
    | ((with_reducible apply within_upd_obs); rfl)
    | (dsimp only; split)

theorem within_psDrain (s : State) : Within [.regs, .ram, .obs, .free] s (State.psDrain s) := by
  unfold State.psDrain
  repeat' first
    | ((with_reducible apply within_after (within_q27Drain _)); rfl)
    | ((with_reducible apply within_after (within_psTake _)); rfl)
    | ((with_reducible apply within_after (within_count _ _)); rfl)
    | with_reducible apply within_ite
    | split
    | with_reducible exact within_refl _ _
    | with_reducible assumption
    | ((with_reducible apply within_upd_obs); rfl)
    | (dsimp only; split)

theorem runs_execPreciseSampleDrain (s : State) : Runs [.regs, .ram, .obs, .free] s (execPreciseSampleDrain s) := by
  unfold execPreciseSampleDrain
  repeat' first
    | with_reducible apply runs_when
    | with_reducible apply runs_when_of
    | with_reducible apply runs_next
    | with_reducible apply runs_ite
    | ((with_reducible apply within_after (within_psDrain _)); rfl)
    | split
    | with_reducible exact within_refl _ _
    | with_reducible assumption
    | (dsimp only; split)

theorem within_psRead (s : State) (i : Nat) : Within [.regs] s (State.psRead s i) := by
  unfold State.psRead
  repeat' first
    | ((with_reducible apply within_after (within_psTake _)); rfl)
    | with_reducible apply within_ite'
    | split
    | with_reducible exact within_refl _ _
    | with_reducible assumption
    | (dsimp only; split)

theorem within_recordArm (s : State) : Within [.regs, .ram, .obs, .free] s (State.recordArm s) := by
  unfold State.recordArm
  repeat' first
    | ((with_reducible apply within_after (within_putB _ _ _)); rfl)
    | ((with_reducible apply within_after (within_record _ _ _ _ _ _)); rfl)
    | ((with_reducible apply within_forUpTo); intro _ _ _)
    | split
    | with_reducible exact within_refl _ _
    | with_reducible assumption
    | ((with_reducible apply within_upd_obs); rfl)
    | (dsimp only; split)

theorem within_recordDisarm (s : State) : Within [.regs, .obs] s (State.recordDisarm s) := by
  unfold State.recordDisarm
  repeat' first
    | ((with_reducible apply within_after (within_putB _ _ _)); rfl)
    | split
    | with_reducible exact within_refl _ _
    | with_reducible assumption
    | ((with_reducible apply within_upd_obs); rfl)
    | (dsimp only; split)

theorem within_clkTestStart (s : State) : Within [.regs, .obs] s (State.clkTestStart s) := by
  unfold State.clkTestStart
  repeat' first
    | ((with_reducible apply within_after (within_put _ _ _)); rfl)
    | ((with_reducible apply within_after (within_putB _ _ _)); rfl)
    | with_reducible apply within_ite
    | split
    | with_reducible exact within_refl _ _
    | with_reducible assumption
    | ((with_reducible apply within_upd_obs); rfl)
    | (dsimp only; split)

theorem within_clkPowerUp (s : State) : Within [.clk] s (State.clkPowerUp s) := by
  unfold State.clkPowerUp
  repeat' first
    | ((with_reducible apply within_after (within_setSyn _ _ _)); rfl)
    | split
    | with_reducible exact within_refl _ _
    | with_reducible assumption
    | (dsimp only; split)

theorem within_clkTestAbort (s : State) : Within [.clk, .obs] s (State.clkTestAbort s) := by
  unfold State.clkTestAbort
  repeat' first
    | ((with_reducible apply within_after (within_clkPowerUp _)); rfl)
    | with_reducible apply within_ite
    | split
    | with_reducible exact within_refl _ _
    | with_reducible assumption
    | ((with_reducible apply within_upd_obs); rfl)
    | (dsimp only; split)

theorem runs_execPowerDownDone (s : State) : Runs [.regs, .clk, .evr, .gtp, .twn, .obs] s (execPowerDownDone s) := by
  unfold execPowerDownDone
  repeat' first
    | with_reducible apply runs_when
    | with_reducible apply runs_when_of
    | with_reducible apply runs_next
    | with_reducible apply runs_ite
    | ((with_reducible apply within_after (within_setSyn _ _ _)); rfl)
    | ((with_reducible apply within_after (within_loseLock _ _)); rfl)
    | ((with_reducible apply within_after (within_openGates _)); rfl)
    | ((with_reducible apply within_after (within_clkPowerUp _)); rfl)
    | with_reducible apply within_ite'
    | split
    | with_reducible exact within_refl _ _
    | with_reducible assumption
    | ((with_reducible apply within_upd_obs); rfl)
    | (dsimp only; split)

theorem runs_execClockTestOffEnd (windows : List Nat) (s : State) : Runs [.regs, .clk, .obs] s (execClockTestOffEnd windows s) := by
  unfold execClockTestOffEnd
  repeat' first
    | with_reducible apply runs_when
    | with_reducible apply runs_when_of
    | with_reducible apply runs_next
    | with_reducible apply runs_ite
    | ((with_reducible apply within_after (within_clkPowerUp _)); rfl)
    | ((with_reducible apply within_after (within_putB _ _ _)); rfl)
    | ((with_reducible apply within_after (within_put _ _ _)); rfl)
    | with_reducible apply within_ite
    | split
    | with_reducible exact within_refl _ _
    | with_reducible assumption
    | ((with_reducible apply within_upd_obs); rfl)
    | (dsimp only; split)

theorem within_haltCtx (s : State) (c : Nat) : Within [.regs, .ram, .eng, .obs, .free] s (State.haltCtx s c) := by
  unfold State.haltCtx
  repeat' first
    | ((with_reducible apply within_after (within_coverBreak _ _ _ _ _)); rfl)
    | ((with_reducible apply within_after (within_dropFrame _ _ _)); rfl)
    | ((with_reducible apply within_after (within_bump _ _)); rfl)
    | ((with_reducible apply within_after (within_setFr _ _ _)); rfl)
    | with_reducible apply within_ite
    | split
    | with_reducible exact within_refl _ _
    | with_reducible assumption
    | (dsimp only; split)

theorem within_halt (s : State) : Within [.regs, .ram, .evr, .eng, .gtp, .twn, .obs, .free] s (State.halt s) := by
  unfold State.halt
  repeat' first
    | ((with_reducible apply within_after (within_putB _ _ _)); rfl)
    | ((with_reducible apply within_after (within_haltCtx _ _)); rfl)
    | ((with_reducible apply within_after (within_setGrp _ _ _)); rfl)
    | ((with_reducible apply within_after (within_safeState _)); rfl)
    | with_reducible apply within_ite'
    | with_reducible apply within_ite
    | ((with_reducible apply within_forUpTo); intro _ _ _)
    | split
    | with_reducible exact within_refl _ _
    | with_reducible assumption
    | ((with_reducible apply within_upd_obs); rfl)
    | (dsimp only; split)

theorem within_engineStep (s : State) (c : Nat) : Within [.regs, .obs] s (State.engineStep s c) := by
  unfold State.engineStep
  repeat' first
    | ((with_reducible apply within_after (within_put _ _ _)); rfl)
    | with_reducible apply within_ite'
    | split
    | with_reducible exact within_refl _ _
    | with_reducible assumption
    | ((with_reducible apply within_upd_obs); rfl)
    | (dsimp only; split)

theorem within_haltClear (s : State) : Within [.regs, .obs] s (State.haltClear s) := by
  unfold State.haltClear
  repeat' first
    | ((with_reducible apply within_after (within_putB _ _ _)); rfl)
    | split
    | with_reducible exact within_refl _ _
    | with_reducible assumption
    | ((with_reducible apply within_upd_obs); rfl)
    | (dsimp only; split)

theorem within_tapTo (s : State) (ir : Nat) (sel : TapReg) : Within [.tap] s (State.tapTo s ir sel) := by
  unfold State.tapTo
  repeat' first
    | split
    | with_reducible exact within_refl _ _
    | with_reducible assumption
    | ((with_reducible apply within_upd_tap); rfl)
    | (dsimp only; split)

theorem within_restricted {A : List Part} (s t : State) (ir : Nat) (hA : subParts [.regs, .tap] A = true) (h : Within A s t) :
    Within A s (State.restricted s t ir) := by
  unfold State.restricted
  split
  · exact h
  · exact within_mono (within_after (within_bump _ _) rfl (within_mono (within_tapTo s ir .bypass) rfl)) hA

theorem runs_execIdcode (s : State) : Runs [.tap, .answers] s (execIdcode s) := by
  unfold execIdcode
  repeat' first
    | with_reducible apply runs_when
    | with_reducible apply runs_when_of
    | with_reducible apply runs_next
    | with_reducible apply runs_ite
    | ((with_reducible apply within_after (within_tapTo _ _ _)); rfl)
    | ((with_reducible apply within_after (within_answer _ _ _)); rfl)
    | split
    | with_reducible exact within_refl _ _
    | with_reducible assumption
    | (dsimp only; split)

theorem runs_execSamplePreload (balls : List Bool) (s : State) : Runs [.tap] s (execSamplePreload balls s) := by
  unfold execSamplePreload
  repeat' first
    | with_reducible apply runs_when
    | with_reducible apply runs_when_of
    | with_reducible apply runs_next
    | with_reducible apply runs_ite
    | ((with_reducible apply within_after (within_tapTo _ _ _)); rfl)
    | split
    | with_reducible exact within_refl _ _
    | with_reducible assumption
    | ((with_reducible apply within_upd_tap); rfl)
    | (dsimp only; split)

theorem runs_execExtest (s : State) : Runs [.regs, .tap] s (execExtest s) := by
  unfold execExtest
  repeat' first
    | (apply runs_next; apply within_restricted _ _ _ rfl)
    | with_reducible apply runs_when
    | (apply runs_next; apply within_restricted _ _ _ rfl)
    | with_reducible apply runs_when_of
    | with_reducible apply runs_next
    | with_reducible apply runs_ite
    | ((with_reducible apply within_after (within_restricted _ _ _)); rfl)
    | split
    | with_reducible exact within_refl _ _
    | with_reducible assumption
    | ((with_reducible apply within_upd_tap); rfl)
    | (dsimp only; split)

theorem runs_execExtestPulse (s : State) : Runs [.regs, .tap] s (execExtestPulse s) := by
  unfold execExtestPulse
  repeat' first
    | (apply runs_next; apply within_restricted _ _ _ rfl)
    | with_reducible apply runs_when
    | (apply runs_next; apply within_restricted _ _ _ rfl)
    | with_reducible apply runs_when_of
    | with_reducible apply runs_next
    | with_reducible apply runs_ite
    | ((with_reducible apply within_after (within_restricted _ _ _)); rfl)
    | split
    | with_reducible exact within_refl _ _
    | with_reducible assumption
    | ((with_reducible apply within_upd_tap); rfl)
    | (dsimp only; split)

theorem runs_execExtestTrain (s : State) : Runs [.regs, .tap] s (execExtestTrain s) := by
  unfold execExtestTrain
  repeat' first
    | (apply runs_next; apply within_restricted _ _ _ rfl)
    | with_reducible apply runs_when
    | (apply runs_next; apply within_restricted _ _ _ rfl)
    | with_reducible apply runs_when_of
    | with_reducible apply runs_next
    | with_reducible apply runs_ite
    | ((with_reducible apply within_after (within_restricted _ _ _)); rfl)
    | split
    | with_reducible exact within_refl _ _
    | with_reducible assumption
    | ((with_reducible apply within_upd_tap); rfl)
    | (dsimp only; split)

theorem runs_execClamp (s : State) : Runs [.regs, .tap] s (execClamp s) := by
  unfold execClamp
  repeat' first
    | (apply runs_next; apply within_restricted _ _ _ rfl)
    | with_reducible apply runs_when
    | (apply runs_next; apply within_restricted _ _ _ rfl)
    | with_reducible apply runs_when_of
    | with_reducible apply runs_next
    | with_reducible apply runs_ite
    | ((with_reducible apply within_after (within_restricted _ _ _)); rfl)
    | split
    | with_reducible exact within_refl _ _
    | with_reducible assumption
    | ((with_reducible apply within_upd_tap); rfl)
    | (dsimp only; split)

theorem runs_execHighz (s : State) : Runs [.regs, .tap] s (execHighz s) := by
  unfold execHighz
  repeat' first
    | (apply runs_next; apply within_restricted _ _ _ rfl)
    | with_reducible apply runs_when
    | (apply runs_next; apply within_restricted _ _ _ rfl)
    | with_reducible apply runs_when_of
    | with_reducible apply runs_next
    | with_reducible apply runs_ite
    | ((with_reducible apply within_after (within_restricted _ _ _)); rfl)
    | split
    | with_reducible exact within_refl _ _
    | with_reducible assumption
    | ((with_reducible apply within_upd_tap); rfl)
    | (dsimp only; split)

theorem runs_execBypass (ir : Nat) (s : State) : Runs [.tap] s (execBypass ir s) := by
  unfold execBypass
  repeat' first
    | with_reducible apply runs_when
    | with_reducible apply runs_when_of
    | with_reducible apply runs_next
    | with_reducible apply runs_ite
    | ((with_reducible apply within_after (within_tapTo _ _ _)); rfl)
    | split
    | with_reducible exact within_refl _ _
    | with_reducible assumption
    | (dsimp only; split)

end Sys2Proof.Laws
end

