-- ==== Sys2Proof/Laws/FrameAccess.lean ====
section
/-!
SUPPORT. What each operation of Machine/Access.lean may change.
-/

namespace Sys2Proof.Laws

open Sys2Proof Sys2Proof.Machine

theorem within_readWord (s : State) (link a : Nat) : Within [.regs, .sess, .acq] s (State.readWord s link a).1 := by
  unfold State.readWord
  repeat' first
    | ((with_reducible apply within_after (within_resultSnapshot _ _ _)); rfl)
    | ((with_reducible apply within_after (within_put _ _ _)); rfl)
    | ((with_reducible apply within_after (within_psRead _ _)); rfl)
    | ((with_reducible apply within_after (within_setWord _ _ _)); rfl)
    | with_reducible apply within_ite
    | with_reducible apply within_ite_fst
    | split
    | with_reducible exact within_refl _ _
    | with_reducible assumption
    | ((with_reducible apply within_upd_sess); rfl)
    | (dsimp only; split)

theorem within_readAccess (s : State) (link req a : Nat) : Within [.regs, .sess, .acq] s (State.readAccess s link req a).1 := by
  unfold State.readAccess
  repeat' first
    | ((with_reducible apply within_after (within_accessError _ _)); rfl)
    | ((with_reducible apply within_after (within_readWord _ _ _)); rfl)
    | with_reducible apply within_ite
    | with_reducible apply within_ite_fst
    | split
    | with_reducible exact within_refl _ _
    | with_reducible assumption
    | (dsimp only; split)

theorem within_writeOther {s : State} {link a : Nat} {w : Word} {r : State × Nat} (h : s.writeOther link a w = some r) :
    Within [.regs, .ram, .sess, .eng, .fab] s r.1 := by
  unfold State.writeOther at h
  dsimp only at h
  split at h
  · cases h; exact within_mono (within_setBytes _ _ _) rfl
  · split at h
    · cases h; exact within_mono (within_paramWrite _ _ _) rfl
    · split at h
      · cases h
        split
        · exact within_upd_sess rfl (within_refl _ _)
        · exact within_refl _ _
      · split at h
        · have ht : Within [.regs, .ram, .sess, .eng, .fab] s { s with sess := { s.sess with writeShadow := s.sess.writeShadow.filter (fun p => p.1 != link) } } :=
            within_upd_sess rfl (within_refl _ _)
          cases h
          split
          · exact within_refl _ _
          · exact within_refl _ _
          · split
            · exact within_after (within_fabTimeWrite _ _) rfl ht
            · exact within_after (within_setWord64 _ _ _) rfl ht
        · cases h

theorem within_unitActs (s : State) (a : Nat) (w : Word) : Within [.regs, .clk, .evr, .frm, .eng, .mod, .fab, .twn, .obs] s (State.unitActs s a w) := by
  unfold State.unitActs
  repeat' first
    | ((with_reducible apply within_after (within_barrierEnter _ _)); rfl)
    | ((with_reducible apply within_after (within_schedTxGo _)); rfl)
    | ((with_reducible apply within_after (within_repair _)); rfl)
    | ((with_reducible apply within_after (within_canRecover _ _)); rfl)
    | with_reducible apply within_ite'
    | with_reducible apply within_ite
    | split
    | with_reducible exact within_refl _ _
    | with_reducible assumption
    | (dsimp only; split)

theorem within_glazeStarts (s : State) : Within [.regs, .clk, .evr, .frm, .eng, .mod, .seq, .fab, .twn, .obs] s (State.glazeStarts s) := by
  unfold State.glazeStarts
  repeat' first
    | ((with_reducible apply within_after (within_unitActs _ _ _)); rfl)
    | ((with_reducible apply within_foldl); intro _ _ _)
    | split
    | with_reducible exact within_refl _ _
    | with_reducible assumption
    | ((with_reducible apply within_upd_seq); rfl)
    | (dsimp only; split)

theorem within_writeActs (s : State) (link a : Nat) (w : Word) : Within [.regs, .ram, .sess, .clk, .acq, .win, .evr, .frm, .eng, .mod, .gtp, .seq, .fab, .twn, .obs, .free] s (State.writeActs s link a w) := by
  unfold State.writeActs
  repeat' first
    | ((with_reducible apply within_after (within_endSession _ _)); rfl)
    | ((with_reducible apply within_after (within_unitActs _ _ _)); rfl)
    | ((with_reducible apply within_after (within_counterClear _)); rfl)
    | ((with_reducible apply within_after (within_putB _ _ _)); rfl)
    | ((with_reducible apply within_after (within_recordArm _)); rfl)
    | ((with_reducible apply within_after (within_recordDisarm _)); rfl)
    | ((with_reducible apply within_after (within_q26Drain _ _)); rfl)
    | ((with_reducible apply within_after (within_clkTestStart _)); rfl)
    | ((with_reducible apply within_after (within_clkTestAbort _)); rfl)
    | ((with_reducible apply within_after (within_halt _)); rfl)
    | ((with_reducible apply within_after (within_haltClear _)); rfl)
    | ((with_reducible apply within_after (within_engineStep _ _)); rfl)
    | ((with_reducible apply within_after (within_agentActs _ _ _)); rfl)
    | ((with_reducible apply within_after (within_written _ _)); rfl)
    | with_reducible apply within_ite'
    | with_reducible apply within_ite
    | split
    | with_reducible exact within_refl _ _
    | with_reducible assumption
    | ((with_reducible apply within_upd_obs); rfl)
    | (dsimp only; split)

theorem within_writeReg (s : State) (link a : Nat) (w : Word) (d : WordDesc) : Within [.regs, .ram, .sess, .clk, .acq, .win, .evr, .frm, .eng, .grd, .mod, .gtp, .mtr, .seq, .fab, .twn, .aon, .obs, .free] s (State.writeReg s link a w d) := by
  unfold State.writeReg
  repeat' first
    | ((with_reducible apply within_after (within_setWord _ _ _)); rfl)
    | ((with_reducible apply within_after (within_routeWrite _ _ _)); rfl)
    | ((with_reducible apply within_after (within_seqEntryWrite _ _ _ _)); rfl)
    | ((with_reducible apply within_after (within_enableWrite _ _ _)); rfl)
    | ((with_reducible apply within_after (within_rtcWrite _ _)); rfl)
    | ((with_reducible apply within_after (within_heal _ _)); rfl)
    | ((with_reducible apply within_after (within_statusClear _ _ _)); rfl)
    | ((with_reducible apply within_after (within_gridHold _ _)); rfl)
    | ((with_reducible apply within_after (within_mtrHold _ _)); rfl)
    | ((with_reducible apply within_after (within_writeActs _ _ _ _)); rfl)
    | with_reducible apply within_ite'
    | with_reducible apply within_ite
    | split
    | with_reducible exact within_refl _ _
    | with_reducible assumption
    | (dsimp only; split)

theorem within_writeAccess (s : State) (link req a : Nat) (w : Word) : Within [.regs, .ram, .boot, .sess, .clk, .acq, .win, .evr, .frm, .eng, .grd, .mod, .gtp, .mtr, .seq, .fab, .twn, .aon, .obs, .free] s (State.writeAccess s link req a w).1 := by
  unfold State.writeAccess
  have e : ∀ c, Within [.regs, .ram, .boot, .sess, .clk, .acq, .win, .evr, .frm, .eng, .grd, .mod, .gtp, .mtr, .seq, .fab, .twn, .aon, .obs, .free] s (s.accessError c) := fun c => within_mono (within_accessError s c) rfl
  split
  · exact e _
  · split
    · exact e _
    · split
      · exact e _
      · split
        · exact e _
        · split
          · next r hr => exact within_after (within_accessError _ _) rfl (within_mono (within_writeOther hr) rfl)
          · split
            · exact within_after (within_accessError _ _) rfl (within_mono (within_flashWrite _ _) rfl)
            · split
              · exact within_mono (within_writeReg _ _ _ _ _) rfl
              · exact within_refl _ _

theorem within_readMany (s : State) (link req a : Nat) (k : Nat) : Within [.regs, .sess, .acq] s (State.readMany s link req a k).1 := by
  induction k generalizing s link req a with
  | zero =>
    unfold State.readMany
    repeat' first
      | ((with_reducible apply within_after (within_readAccess _ _ _ _)); rfl)
      | with_reducible apply within_ite
      | with_reducible apply within_ite_fst
      | split
      | with_reducible exact within_refl _ _
      | with_reducible assumption
      | (dsimp only; split)
  | succ n ih =>
    unfold State.readMany
    repeat' first
      | ((with_reducible apply within_after (ih _ _ _ _)); rfl)
      | ((with_reducible apply within_after (within_readAccess _ _ _ _)); rfl)
      | with_reducible apply within_ite
      | with_reducible apply within_ite_fst
      | split
      | with_reducible exact within_refl _ _
      | with_reducible assumption
      | (dsimp only; split)

theorem runs_answerRead {A : List Part} (s : State) (link : Nat) (r : State × Nat × Word) (hA : subParts [.answers] A = true) (h : Within A s r.1) :
    Runs A s (State.answerRead s link r) := by
  unfold State.answerRead
  exact runs_when (within_trans h (within_answer _ _ _) hA)

theorem runs_answerWrite {A : List Part} (s : State) (link : Nat) (r : State × Nat) (hA : subParts [.answers] A = true) (h : Within A s r.1) :
    Runs A s (State.answerWrite s link r) := by
  unfold State.answerWrite
  exact runs_when (within_trans h (within_answer _ _ _) hA)

/-- What a row that writes word `a` over a link may change: the error counts, the answer, and what the write of the word does. -/
theorem runs_writeAt {A : List Part} (s : State) (link req a : Nat) (w : Word) (ho : s.writeOther link a w = none)
    (hr : subParts [.regs] A = true) (hx : subParts [.answers] A = true)
    (hf : a = R.BOOT_FLASH_CTL → Within A s (s.flashWrite w).1) (hw : ∀ d, a ≠ R.BOOT_FLASH_CTL → Within A s (s.writeReg link a w d)) :
    Runs A s (s.answerWrite link (s.writeAccess link req a w)) := by
  apply runs_answerWrite _ _ _ hx
  have e : ∀ c, Within A s (s.accessError c) := fun c => within_mono (within_accessError s c) hr
  unfold State.writeAccess
  rw [ho]
  split
  · exact e _
  · split
    · exact e _
    · split
      · exact e _
      · split
        · exact e _
        · dsimp only
          split
          · next h => exact within_trans (hf h) (within_accessError _ _) hr
          · next h =>
            split
            · exact hw _ h
            · exact within_refl _ _

theorem runs_execRegisterWrite (link requester addr : Nat) (w : Word) (s : State) : Runs [.regs, .ram, .boot, .sess, .clk, .acq, .win, .evr, .frm, .eng, .grd, .mod, .gtp, .mtr, .seq, .fab, .twn, .aon, .obs, .answers, .free] s (execRegisterWrite link requester addr w s) := by
  unfold execRegisterWrite
  repeat' first
    | (apply runs_answerWrite _ _ _ rfl)
    | with_reducible apply runs_when
    | (apply runs_answerWrite _ _ _ rfl)
    | with_reducible apply runs_when_of
    | with_reducible apply runs_next
    | with_reducible apply runs_ite
    | exact runs_answerWrite _ _ _
    | ((with_reducible apply within_after (within_writeAccess _ _ _ _ _)); rfl)
    | split
    | with_reducible exact within_refl _ _
    | with_reducible assumption
    | (dsimp only; split)

theorem runs_execRegisterReadClear (link requester addr : Nat) (s : State) : Runs [.regs, .sess, .acq, .answers] s (execRegisterReadClear link requester addr s) := by
  unfold execRegisterReadClear
  repeat' first
    | (apply runs_answerRead _ _ _ rfl)
    | with_reducible apply runs_when
    | (apply runs_answerRead _ _ _ rfl)
    | with_reducible apply runs_when_of
    | with_reducible apply runs_next
    | with_reducible apply runs_ite
    | exact runs_answerRead _ _ _
    | ((with_reducible apply within_after (within_readAccess _ _ _ _)); rfl)
    | split
    | with_reducible exact within_refl _ _
    | with_reducible assumption
    | (dsimp only; split)

theorem runs_execPlantTimeLowRead (link requester k : Nat) (s : State) : Runs [.regs, .sess, .acq, .answers] s (execPlantTimeLowRead link requester k s) := by
  unfold execPlantTimeLowRead
  repeat' first
    | (apply runs_answerRead _ _ _ rfl)
    | with_reducible apply runs_when
    | (apply runs_answerRead _ _ _ rfl)
    | with_reducible apply runs_when_of
    | with_reducible apply runs_next
    | with_reducible apply runs_ite
    | exact runs_answerRead _ _ _
    | ((with_reducible apply within_after (within_readAccess _ _ _ _)); rfl)
    | split
    | with_reducible exact within_refl _ _
    | with_reducible assumption
    | (dsimp only; split)

theorem runs_execPlantTimeLowWrite (link requester k : Nat) (w : Word) (s : State) : Runs [.regs, .ram, .boot, .sess, .clk, .acq, .win, .evr, .frm, .eng, .grd, .mod, .gtp, .mtr, .seq, .fab, .twn, .aon, .obs, .answers, .free] s (execPlantTimeLowWrite link requester k w s) := by
  unfold execPlantTimeLowWrite
  repeat' first
    | (apply runs_answerWrite _ _ _ rfl)
    | with_reducible apply runs_when
    | (apply runs_answerWrite _ _ _ rfl)
    | with_reducible apply runs_when_of
    | with_reducible apply runs_next
    | with_reducible apply runs_ite
    | exact runs_answerWrite _ _ _
    | ((with_reducible apply within_after (within_writeAccess _ _ _ _ _)); rfl)
    | split
    | with_reducible exact within_refl _ _
    | with_reducible assumption
    | (dsimp only; split)

theorem runs_execPlantTimeHighWrite (link requester k : Nat) (w : Word) (s : State) : Runs [.regs, .ram, .boot, .sess, .clk, .acq, .win, .evr, .frm, .eng, .grd, .mod, .gtp, .mtr, .seq, .fab, .twn, .aon, .obs, .answers, .free] s (execPlantTimeHighWrite link requester k w s) := by
  unfold execPlantTimeHighWrite
  repeat' first
    | (apply runs_answerWrite _ _ _ rfl)
    | with_reducible apply runs_when
    | (apply runs_answerWrite _ _ _ rfl)
    | with_reducible apply runs_when_of
    | with_reducible apply runs_next
    | with_reducible apply runs_ite
    | exact runs_answerWrite _ _ _
    | ((with_reducible apply within_after (within_writeAccess _ _ _ _ _)); rfl)
    | split
    | with_reducible exact within_refl _ _
    | with_reducible assumption
    | (dsimp only; split)

theorem runs_execResultSnapshot (link requester cv e : Nat) (s : State) : Runs [.regs, .sess, .acq, .answers] s (execResultSnapshot link requester cv e s) := by
  unfold execResultSnapshot
  repeat' first
    | (apply runs_answerRead _ _ _ rfl)
    | with_reducible apply runs_when
    | (apply runs_answerRead _ _ _ rfl)
    | with_reducible apply runs_when_of
    | with_reducible apply runs_next
    | with_reducible apply runs_ite
    | exact runs_answerRead _ _ _
    | ((with_reducible apply within_after (within_readAccess _ _ _ _)); rfl)
    | split
    | with_reducible exact within_refl _ _
    | with_reducible assumption
    | (dsimp only; split)

theorem runs_execFrameRecordRead (link requester cv e : Nat) (s : State) : Runs [.regs, .sess, .acq, .answers] s (execFrameRecordRead link requester cv e s) := by
  unfold execFrameRecordRead
  repeat' first
    | with_reducible apply runs_when
    | with_reducible apply runs_when_of
    | with_reducible apply runs_next
    | with_reducible apply runs_ite
    | ((with_reducible apply within_after (within_readMany _ _ _ _ _)); rfl)
    | ((with_reducible apply within_after (within_answer _ _ _)); rfl)
    | split
    | with_reducible exact within_refl _ _
    | with_reducible assumption
    | (dsimp only; split)

theorem runs_execRouteEntryWrite (link requester i : Nat) (w : Word) (s : State) : Runs [.regs, .ram, .boot, .sess, .clk, .acq, .win, .evr, .frm, .eng, .grd, .mod, .gtp, .mtr, .seq, .fab, .twn, .aon, .obs, .answers, .free] s (execRouteEntryWrite link requester i w s) := by
  unfold execRouteEntryWrite
  repeat' first
    | (apply runs_answerWrite _ _ _ rfl)
    | with_reducible apply runs_when
    | (apply runs_answerWrite _ _ _ rfl)
    | with_reducible apply runs_when_of
    | with_reducible apply runs_next
    | with_reducible apply runs_ite
    | exact runs_answerWrite _ _ _
    | ((with_reducible apply within_after (within_writeAccess _ _ _ _ _)); rfl)
    | split
    | with_reducible exact within_refl _ _
    | with_reducible assumption
    | (dsimp only; split)

theorem runs_execRtcWrite (link requester sec : Nat) (s : State) : Runs [.regs, .ram, .evr, .mtr, .aon, .answers, .free] s (execRtcWrite link requester sec s) :=
  runs_writeAt _ _ _ _ _ rfl rfl rfl (fun h => absurd h (by decide)) (fun _ _ => within_mono (within_rtcWrite _ _) rfl)

theorem runs_execSchedTxGo (link requester : Nat) (s : State) : Runs [.regs, .clk, .evr, .frm, .eng, .mod, .fab, .obs, .answers] s (execSchedTxGo link requester s) :=
  runs_writeAt _ _ _ _ _ rfl rfl rfl (fun h => absurd h (by decide)) (fun _ _ =>
    show Within _ s (if s.writeIgnored _ _ = true then s else ite' _ (s.setWord _ _) ((s.setWord _ _).schedTxGo)) from within_ite (within_refl _ _) (within_ite' (within_mono (within_setWord _ _ _) rfl) (within_after (within_schedTxGo _) rfl (within_mono (within_setWord _ _ _) rfl))))

theorem runs_execObsSnapTake (link requester : Nat) (s : State) : Runs [.regs, .answers] s (execObsSnapTake link requester s) :=
  runs_writeAt _ _ _ _ _ rfl rfl rfl (fun h => absurd h (by decide)) (fun d _ =>
    show Within _ s (ite' ((1 : Word).getLsbD 0) (s.setWord R.OBS_SNAP (d.after (s.word R.OBS_SNAP) 1)) ((s.setWord R.OBS_SNAP (d.after (s.word R.OBS_SNAP) 1)).putB R.OBS_SNAP_pending true)) from within_ite' (within_mono (within_setWord _ _ _) rfl) (within_after (within_putB _ _ _) rfl (within_mono (within_setWord _ _ _) rfl)))

theorem runs_execCounterClear (link requester : Nat) (s : State) : Runs [.regs, .obs, .answers] s (execCounterClear link requester s) :=
  runs_writeAt _ _ _ _ _ rfl rfl rfl (fun h => absurd h (by decide)) (fun _ _ =>
    show Within _ s (ite' _ (s.setWord _ _) ((s.setWord _ _).counterClear)) from within_ite' (within_mono (within_setWord _ _ _) rfl) (within_after (within_counterClear _) rfl (within_mono (within_setWord _ _ _) rfl)))

theorem psWord_read (s : State) (link i : Nat) (h : i < 1024) :
    s.readWord link (R.OBS_PS i + 12) = (s.psRead i, s.word (R.OBS_PS i + 12)) := by
  have h1 : plantLows.contains (R.OBS_PS i + 12) = false := by
    simp [plantLows]; unfold R.OBS_PS R.FAB_TIME R.CLK_HOP_TIME R.FAB_SNAP R.FAB_SCHED_TX; omega
  have h2 : plantLows.contains (R.OBS_PS i + 12 - 4) = false := by
    simp [plantLows]; unfold R.OBS_PS R.FAB_TIME R.CLK_HOP_TIME R.FAB_SNAP R.FAB_SCHED_TX; omega
  have h3 : (R.ACQ_RES 0 0 ≤ R.OBS_PS i + 12 && decide (R.OBS_PS i + 12 < R.ACQ_RES 16 0) && (R.OBS_PS i + 12) % 16 = 0) = false := by
    simp; unfold R.OBS_PS R.ACQ_RES; omega
  have h4 : (R.MTR_E 0 0 ≤ R.OBS_PS i + 12 && decide (R.OBS_PS i + 12 < R.MTR_E 4 0)) = false := by
    simp; unfold R.OBS_PS R.MTR_E; omega
  have h5 : ¬ R.OBS_PS i + 12 = R.AON_RTC := by unfold R.OBS_PS R.AON_RTC; omega
  have h6 : (R.OBS_PS 0 ≤ R.OBS_PS i + 12 && decide (R.OBS_PS i + 12 < R.OBS_PS 1024) && (R.OBS_PS i + 12) % 16 = 12) = true := by
    simp; unfold R.OBS_PS; omega
  have h7 : (R.OBS_PS i + 12 - R.OBS_PS 0) / 16 = i := by unfold R.OBS_PS; omega
  unfold State.readWord
  simp only [h1, h2, h3, h4, h5, h6, h7, if_false, if_true, Bool.false_eq_true]

theorem runs_execPreciseSampleRead (link requester i : Nat) (s : State) :
    Runs [.regs, .answers] s (execPreciseSampleRead link requester i s) := by
  unfold execPreciseSampleRead State.readAccess
  rw [psWord_read _ _ _ (Nat.mod_lt _ (by decide))]
  apply runs_answerRead _ _ _ rfl
  have e : ∀ c, Within [.regs, .answers] s (s.accessError c) := fun c => within_mono (within_accessError s c) rfl
  dsimp only
  repeat' split
  · exact e _
  · exact e _
  · exact e _
  · exact within_mono (within_psRead _ _) rfl

theorem runs_execRecordArm (link requester : Nat) (s : State) : Runs [.regs, .ram, .obs, .answers, .free] s (execRecordArm link requester s) :=
  runs_writeAt _ _ _ _ _ rfl rfl rfl (fun h => absurd h (by decide)) (fun _ _ =>
    show Within _ s (ite' _ (ite' _ (s.setWord _ _) ((s.setWord _ _).recordArm)) (State.recordDisarm (ite' _ (s.setWord _ _) ((s.setWord _ _).recordArm)))) from within_ite' (within_ite' (within_mono (within_setWord _ _ _) rfl) (within_after (within_recordArm _) rfl (within_mono (within_setWord _ _ _) rfl))) (within_after (within_recordDisarm _) rfl (within_ite' (within_mono (within_setWord _ _ _) rfl) (within_after (within_recordArm _) rfl (within_mono (within_setWord _ _ _) rfl)))))

theorem runs_execRecordDisarm (link requester : Nat) (s : State) : Runs [.regs, .ram, .obs, .answers, .free] s (execRecordDisarm link requester s) :=
  runs_writeAt _ _ _ _ _ rfl rfl rfl (fun h => absurd h (by decide)) (fun _ _ =>
    show Within _ s (ite' _ (ite' _ (s.setWord _ _) ((s.setWord _ _).recordArm)) (State.recordDisarm (ite' _ (s.setWord _ _) ((s.setWord _ _).recordArm)))) from within_ite' (within_ite' (within_mono (within_setWord _ _ _) rfl) (within_after (within_recordArm _) rfl (within_mono (within_setWord _ _ _) rfl))) (within_after (within_recordDisarm _) rfl (within_ite' (within_mono (within_setWord _ _ _) rfl) (within_after (within_recordArm _) rfl (within_mono (within_setWord _ _ _) rfl)))))

theorem runs_execClockStopTest (link requester : Nat) (s : State) : Runs [.regs, .clk, .obs, .answers] s (execClockStopTest link requester s) :=
  runs_writeAt _ _ _ _ _ rfl rfl rfl (fun h => absurd h (by decide)) (fun _ _ =>
    show Within _ s (ite' _ (ite' _ (s.setWord _ _) ((s.setWord _ _).clkTestStart)) (State.clkTestAbort (ite' _ (s.setWord _ _) ((s.setWord _ _).clkTestStart)))) from within_ite' (within_ite' (within_mono (within_setWord _ _ _) rfl) (within_after (within_clkTestStart _) rfl (within_mono (within_setWord _ _ _) rfl))) (within_after (within_clkTestAbort _) rfl (within_ite' (within_mono (within_setWord _ _ _) rfl) (within_after (within_clkTestStart _) rfl (within_mono (within_setWord _ _ _) rfl)))))

theorem runs_execClockStopAbort (link requester : Nat) (s : State) : Runs [.regs, .clk, .obs, .answers] s (execClockStopAbort link requester s) :=
  runs_writeAt _ _ _ _ _ rfl rfl rfl (fun h => absurd h (by decide)) (fun _ _ =>
    show Within _ s (ite' _ (ite' _ (s.setWord _ _) ((s.setWord _ _).clkTestStart)) (State.clkTestAbort (ite' _ (s.setWord _ _) ((s.setWord _ _).clkTestStart)))) from within_ite' (within_ite' (within_mono (within_setWord _ _ _) rfl) (within_after (within_clkTestStart _) rfl (within_mono (within_setWord _ _ _) rfl))) (within_after (within_clkTestAbort _) rfl (within_ite' (within_mono (within_setWord _ _ _) rfl) (within_after (within_clkTestStart _) rfl (within_mono (within_setWord _ _ _) rfl)))))

theorem runs_execHalt (link requester : Nat) (s : State) : Runs [.regs, .ram, .evr, .eng, .gtp, .twn, .obs, .answers, .free] s (execHalt link requester s) :=
  runs_writeAt _ _ _ _ _ rfl rfl rfl (fun h => absurd h (by decide)) (fun _ _ =>
    show Within _ s (ite' _ (if _ then (s.setWord _ _).halt else ite' _ (s.setWord _ _) (s.setWord _ _).haltClear) (State.engineStep (if _ then (s.setWord _ _).halt else ite' _ (s.setWord _ _) (s.setWord _ _).haltClear) _)) from within_ite' (within_ite (within_after (within_halt _) rfl (within_mono (within_setWord _ _ _) rfl)) (within_ite' (within_mono (within_setWord _ _ _) rfl) (within_after (within_haltClear _) rfl (within_mono (within_setWord _ _ _) rfl)))) (within_after (within_engineStep _ _) rfl (within_ite (within_after (within_halt _) rfl (within_mono (within_setWord _ _ _) rfl)) (within_ite' (within_mono (within_setWord _ _ _) rfl) (within_after (within_haltClear _) rfl (within_mono (within_setWord _ _ _) rfl))))))

theorem runs_execEngineStep (link requester c : Nat) (s : State) : Runs [.regs, .ram, .evr, .eng, .gtp, .twn, .obs, .answers, .free] s (execEngineStep link requester c s) :=
  runs_writeAt _ _ _ _ _ rfl rfl rfl (fun h => absurd h (by decide)) (fun _ _ =>
    show Within _ s (ite' _ (if _ then (s.setWord _ _).halt else ite' _ (s.setWord _ _) (s.setWord _ _).haltClear) (State.engineStep (if _ then (s.setWord _ _).halt else ite' _ (s.setWord _ _) (s.setWord _ _).haltClear) _)) from within_ite' (within_ite (within_after (within_halt _) rfl (within_mono (within_setWord _ _ _) rfl)) (within_ite' (within_mono (within_setWord _ _ _) rfl) (within_after (within_haltClear _) rfl (within_mono (within_setWord _ _ _) rfl)))) (within_after (within_engineStep _ _) rfl (within_ite (within_after (within_halt _) rfl (within_mono (within_setWord _ _ _) rfl)) (within_ite' (within_mono (within_setWord _ _ _) rfl) (within_after (within_haltClear _) rfl (within_mono (within_setWord _ _ _) rfl))))))

theorem runs_execHaltClear (link requester : Nat) (s : State) : Runs [.regs, .ram, .evr, .eng, .gtp, .twn, .obs, .answers, .free] s (execHaltClear link requester s) :=
  runs_writeAt _ _ _ _ _ rfl rfl rfl (fun h => absurd h (by decide)) (fun _ _ =>
    show Within _ s (ite' _ (if _ then (s.setWord _ _).halt else ite' _ (s.setWord _ _) (s.setWord _ _).haltClear) (State.engineStep (if _ then (s.setWord _ _).halt else ite' _ (s.setWord _ _) (s.setWord _ _).haltClear) _)) from within_ite' (within_ite (within_after (within_halt _) rfl (within_mono (within_setWord _ _ _) rfl)) (within_ite' (within_mono (within_setWord _ _ _) rfl) (within_after (within_haltClear _) rfl (within_mono (within_setWord _ _ _) rfl)))) (within_after (within_engineStep _ _) rfl (within_ite (within_after (within_halt _) rfl (within_mono (within_setWord _ _ _) rfl)) (within_ite' (within_mono (within_setWord _ _ _) rfl) (within_after (within_haltClear _) rfl (within_mono (within_setWord _ _ _) rfl))))))

theorem runs_execFlashReadPage (link requester : Nat) (s : State) : Runs [.regs, .boot, .answers] s (execFlashReadPage link requester s) :=
  runs_writeAt _ _ _ _ _ rfl rfl rfl (fun _ => within_mono (within_flashWrite _ _) rfl) (fun _ h => absurd rfl h)

theorem runs_execFlashProgramPage (link requester : Nat) (s : State) : Runs [.regs, .boot, .answers] s (execFlashProgramPage link requester s) :=
  runs_writeAt _ _ _ _ _ rfl rfl rfl (fun _ => within_mono (within_flashWrite _ _) rfl) (fun _ h => absurd rfl h)

theorem runs_execFlashErase (link requester : Nat) (s : State) : Runs [.regs, .boot, .answers] s (execFlashErase link requester s) :=
  runs_writeAt _ _ _ _ _ rfl rfl rfl (fun _ => within_mono (within_flashWrite _ _) rfl) (fun _ h => absurd rfl h)

theorem runs_execFlashVerify (link requester slot : Nat) (s : State) : Runs [.regs, .boot, .answers] s (execFlashVerify link requester slot s) :=
  runs_writeAt _ _ _ _ _ rfl rfl rfl (fun _ => within_mono (within_flashWrite _ _) rfl) (fun _ h => absurd rfl h)

theorem runs_execRebootCommand (link requester : Nat) (s : State) : Runs [.regs, .boot, .answers] s (execRebootCommand link requester s) :=
  runs_writeAt _ _ _ _ _ rfl rfl rfl (fun _ => within_mono (within_flashWrite _ _) rfl) (fun _ h => absurd rfl h)

theorem runs_execDebugAccess (data : Nat) (s : State) : Runs [.regs, .ram, .boot, .sess, .clk, .acq, .win, .evr, .frm, .eng, .grd, .mod, .gtp, .mtr, .seq, .fab, .twn, .aon, .obs, .tap, .answers, .free] s (execDebugAccess data s) := by
  unfold execDebugAccess
  repeat' first
    | with_reducible apply runs_when
    | with_reducible apply runs_when_of
    | with_reducible apply runs_next
    | with_reducible apply runs_ite
    | ((with_reducible apply within_after (within_tapTo _ _ _)); rfl)
    | ((with_reducible apply within_after (within_writeAccess _ _ _ _ _)); rfl)
    | ((with_reducible apply within_after (within_answer _ _ _)); rfl)
    | ((with_reducible apply within_after (within_readAccess _ _ _ _)); rfl)
    | with_reducible apply within_ite
    | split
    | with_reducible exact within_refl _ _
    | with_reducible assumption
    | ((with_reducible apply within_upd_tap); rfl)
    | (dsimp only; split)

theorem within_writeMany (s : State) (link req a : Nat) (k : List Word) : Within [.regs, .ram, .boot, .sess, .clk, .acq, .win, .evr, .frm, .eng, .grd, .mod, .gtp, .mtr, .seq, .fab, .twn, .aon, .obs, .free] s (State.writeMany s link req a k).1 := by
  induction k generalizing s link req a with
  | nil =>
    unfold State.writeMany
    repeat' first
      | ((with_reducible apply within_after (within_writeAccess _ _ _ _ _)); rfl)
      | with_reducible apply within_ite
      | with_reducible apply within_ite_fst
      | split
      | with_reducible exact within_refl _ _
      | with_reducible assumption
      | (dsimp only; split)
  | cons w r ih =>
    unfold State.writeMany
    repeat' first
      | ((with_reducible apply within_after (ih _ _ _ _)); rfl)
      | ((with_reducible apply within_after (within_writeAccess _ _ _ _ _)); rfl)
      | with_reducible apply within_ite
      | with_reducible apply within_ite_fst
      | split
      | with_reducible exact within_refl _ _
      | with_reducible assumption
      | (dsimp only; split)

theorem within_serveRead (s : State) (r : Req) : Within [.regs, .sess, .acq, .fab, .can, .obs, .answers] s (State.serveRead s r) := by
  unfold State.serveRead
  repeat' first
    | ((with_reducible apply within_after (within_refuse _ _ _)); rfl)
    | ((with_reducible apply within_after (within_readMany _ _ _ _ _)); rfl)
    | ((with_reducible apply within_after (within_respond _ _ _ _ _)); rfl)
    | with_reducible apply within_ite
    | split
    | with_reducible exact within_refl _ _
    | with_reducible assumption
    | (dsimp only; split)

theorem runs_execReadRequest (link requester prio seq : Nat) (body : List Byte) (s : State) : Runs [.regs, .sess, .acq, .fab, .can, .obs, .answers] s (execReadRequest link requester prio seq body s) := by
  unfold execReadRequest
  repeat' first
    | (apply runs_handle _ _ _ _ _ rfl; intro _)
    | with_reducible apply runs_when
    | (apply runs_handle _ _ _ _ _ rfl; intro _)
    | with_reducible apply runs_when_of
    | with_reducible apply runs_next
    | with_reducible apply runs_ite
    | exact runs_handle _ _ _ _ _
    | ((with_reducible apply within_after (within_serveRead _ _)); rfl)
    | split
    | with_reducible exact within_refl _ _
    | with_reducible assumption
    | (dsimp only; split)

theorem within_serveWrite (s : State) (r : Req) : Within [.regs, .ram, .boot, .sess, .clk, .acq, .win, .evr, .frm, .eng, .grd, .mod, .gtp, .mtr, .seq, .fab, .twn, .can, .aon, .obs, .answers, .free] s (State.serveWrite s r) := by
  unfold State.serveWrite
  repeat' first
    | ((with_reducible apply within_after (within_refuse _ _ _)); rfl)
    | ((with_reducible apply within_after (within_writeMany _ _ _ _ _)); rfl)
    | ((with_reducible apply within_after (within_respond _ _ _ _ _)); rfl)
    | with_reducible apply within_ite
    | split
    | with_reducible exact within_refl _ _
    | with_reducible assumption
    | (dsimp only; split)

theorem runs_execWriteRequest (link requester prio seq : Nat) (body : List Byte) (s : State) : Runs [.regs, .ram, .boot, .sess, .clk, .acq, .win, .evr, .frm, .eng, .grd, .mod, .gtp, .mtr, .seq, .fab, .twn, .can, .aon, .obs, .answers, .free] s (execWriteRequest link requester prio seq body s) := by
  unfold execWriteRequest
  repeat' first
    | (apply runs_handle _ _ _ _ _ rfl; intro _)
    | with_reducible apply runs_when
    | (apply runs_handle _ _ _ _ _ rfl; intro _)
    | with_reducible apply runs_when_of
    | with_reducible apply runs_next
    | with_reducible apply runs_ite
    | exact runs_handle _ _ _ _ _
    | ((with_reducible apply within_after (within_serveWrite _ _)); rfl)
    | split
    | with_reducible exact within_refl _ _
    | with_reducible assumption
    | (dsimp only; split)

end Sys2Proof.Laws
end

