-- ==== Sys2Proof/Laws/FrameTick.lean ====
section
/-!
SUPPORT. What each operation of Machine/Tick.lean may change.
-/

namespace Sys2Proof.Laws

open Sys2Proof Sys2Proof.Machine

theorem within_passPlant (s : State) (u : Nat) : Within [.clk, .fab] s (State.passPlant s u) := by
  unfold State.passPlant
  repeat' first
    | with_reducible apply within_ite'
    | with_reducible apply within_ite
    | split
    | with_reducible exact within_refl _ _
    | with_reducible assumption
    | ((with_reducible apply within_upd_clk); rfl)
    | ((with_reducible apply within_upd_fab); rfl)
    | ((with_reducible apply within_upd_clk_fab); rfl; rfl)
    | (dsimp only; split)

theorem within_passTime (s : State) (u : Nat) : Within [.regs, .clk, .fab, .aon] s (State.passTime s u) := by
  unfold State.passTime
  repeat' first
    | ((with_reducible apply within_after (within_passPlant _ _)); rfl)
    | ((with_reducible apply within_after (within_put _ _ _)); rfl)
    | with_reducible apply within_ite'
    | with_reducible apply within_ite
    | split
    | with_reducible exact within_refl _ _
    | with_reducible assumption
    | ((with_reducible apply within_upd_clk); rfl)
    | ((with_reducible apply within_upd_aon); rfl)
    | (dsimp only; split)

theorem within_passTimers (s : State) (n : Nat) : Within [.regs, .seq] s (State.passTimers s n) := by
  unfold State.passTimers
  repeat' first
    | ((with_reducible apply within_after (within_timerCount _ _ _)); rfl)
    | with_reducible apply within_ite'
    | with_reducible apply within_ite
    | ((with_reducible apply within_forUpTo); intro _ _ _)
    | split
    | with_reducible exact within_refl _ _
    | with_reducible assumption
    | ((with_reducible apply within_upd_seq); rfl)
    | (dsimp only; split)

theorem within_passChops (s : State) (u : Nat) : Within [.regs, .gtp] s (State.passChops s u) := by
  unfold State.passChops
  repeat' first
    | ((with_reducible apply within_after (within_bumpBy _ _ _)); rfl)
    | with_reducible apply within_ite
    | ((with_reducible apply within_forUpTo); intro _ _ _)
    | split
    | with_reducible exact within_refl _ _
    | with_reducible assumption
    | ((with_reducible apply within_upd_gtp); rfl)
    | (dsimp only; split)

theorem within_passCarriers (s : State) : Within [.regs, .frm, .mod] s (State.passCarriers s) := by
  unfold State.passCarriers
  repeat' first
    | ((with_reducible apply within_after (within_carrierTick _ _)); rfl)
    | with_reducible apply within_ite'
    | ((with_reducible apply within_forUpTo); intro _ _ _)
    | split
    | with_reducible exact within_refl _ _
    | with_reducible assumption
    | (dsimp only; split)

theorem within_passFrameTimers (s : State) : Within [.frm] s (State.passFrameTimers s) := by
  unfold State.passFrameTimers
  repeat' first
    | with_reducible apply within_ite
    | ((with_reducible apply within_forUpTo); intro _ _ _)
    | split
    | with_reducible exact within_refl _ _
    | with_reducible assumption
    | ((with_reducible apply within_upd_frm); rfl)
    | (dsimp only; split)

theorem within_countTick (s : State) : Within [.obs] s (State.countTick s) := by
  unfold State.countTick
  repeat' first
    | ((with_reducible apply within_after (within_countFor _ _ _ _ _)); rfl)
    | ((with_reducible apply within_after (within_count _ _)); rfl)
    | ((with_reducible apply within_foldl); intro _ _ _)
    | split
    | with_reducible exact within_refl _ _
    | with_reducible assumption
    | (dsimp only; split)

theorem within_modParts (s : State) : Within [.regs, .clk, .acq, .evr, .frm, .grd, .mod, .gtp, .seq, .fab, .twn, .obs] s (State.modParts s) := by
  unfold State.modParts
  repeat' first
    | ((with_reducible apply within_after (within_passOpened _ _)); rfl)
    | ((with_reducible apply within_after (within_passCarriers _)); rfl)
    | ((with_reducible apply within_after (within_passFrameTimers _)); rfl)
    | ((with_reducible apply within_after (within_countTick _)); rfl)
    | ((with_reducible apply within_after (within_routesNow _)); rfl)
    | split
    | with_reducible exact within_refl _ _
    | with_reducible assumption
    | ((with_reducible apply within_upd_clk); rfl)
    | ((with_reducible apply within_upd_grd); rfl)
    | (dsimp only; split)

theorem within_modTicks (s : State) : Within [.regs, .clk, .acq, .evr, .frm, .grd, .mod, .gtp, .seq, .fab, .twn, .obs] s (State.modTicks s) := by
  unfold State.modTicks
  repeat' first
    | ((with_reducible apply within_after (within_modParts _)); rfl)
    | ((with_reducible apply within_after (within_obsTakeSnap _)); rfl)
    | with_reducible apply within_ite'
    | split
    | with_reducible exact within_refl _ _
    | with_reducible assumption
    | (dsimp only; split)

theorem within_passEng (s : State) : Within [.eng, .obs] s (State.passEng s) := by
  unfold State.passEng
  repeat' first
    | ((with_reducible apply within_after (within_countN _ _ _)); rfl)
    | ((with_reducible apply within_after (within_passWaits _ _)); rfl)
    | ((with_reducible apply within_after (within_laneCycles _ _ _ _ _)); rfl)
    | with_reducible apply within_ite'
    | ((with_reducible apply within_forUpTo); intro _ _ _)
    | split
    | with_reducible exact within_refl _ _
    | with_reducible assumption
    | ((with_reducible apply within_upd_obs); rfl)
    | (dsimp only; split)

theorem within_liveTick (s : State) (t0 u : Nat) : Within [.regs, .ram, .clk, .acq, .win, .evr, .frm, .eng, .grd, .mod, .gtp, .mtr, .seq, .gov, .fab, .twn, .obs, .free] s (State.liveTick s t0 u) := by
  unfold State.liveTick
  repeat' first
    | ((with_reducible apply within_after (within_glazeStarts _)); rfl)
    | ((with_reducible apply within_after (within_passTimers _ _)); rfl)
    | ((with_reducible apply within_after (within_passChops _ _)); rfl)
    | ((with_reducible apply within_after (within_passSkips _ _)); rfl)
    | ((with_reducible apply within_after (within_modTicks _)); rfl)
    | ((with_reducible apply within_after (within_passEng _)); rfl)
    | ((with_reducible apply within_after (within_fabDrain _)); rfl)
    | ((with_reducible apply within_after (within_fabSlots _)); rfl)
    | ((with_reducible apply within_after (within_twinDrain _)); rfl)
    | ((with_reducible apply within_after (within_psDrain _)); rfl)
    | ((with_reducible apply within_after (within_urgDrain _)); rfl)
    | with_reducible apply within_ite'
    | split
    | with_reducible exact within_refl _ _
    | with_reducible assumption
    | (dsimp only; split)

theorem within_passCan (s : State) (u : Nat) : Within [.can] s (State.passCan s u) := by
  unfold State.passCan
  repeat' first
    | ((with_reducible apply within_after (within_setCan _ _ _)); rfl)
    | with_reducible apply within_ite'
    | ((with_reducible apply within_forUpTo); intro _ _ _)
    | split
    | with_reducible exact within_refl _ _
    | with_reducible assumption
    | (dsimp only; split)

theorem within_tick (s : State) : Within [.regs, .ram, .clk, .acq, .win, .evr, .frm, .eng, .grd, .mod, .gtp, .mtr, .seq, .gov, .fab, .twn, .can, .aon, .obs, .free] s (State.tick s) := by
  unfold State.tick
  repeat' first
    | ((with_reducible apply within_after (within_passTime _ _)); rfl)
    | ((with_reducible apply within_after (within_passCan _ _)); rfl)
    | ((with_reducible apply within_after (within_liveTick _ _ _)); rfl)
    | with_reducible apply within_ite'
    | split
    | with_reducible exact within_refl _ _
    | with_reducible assumption
    | ((with_reducible apply within_upd_clk); rfl)
    | (dsimp only; split)

end Sys2Proof.Laws
end

