-- ==== Sys2Proof/Laws/PerInstr.lean ====
section
/-!
SUPPORT. The family Frame: every command answers a next state that differs from the one before at most in the parts that
`partsOf` names for it.
-/

namespace Sys2Proof.Laws.Frame

open Sys2Proof.Machine

/-- The frame of command `i`. -/
def Statement (i : Instr) : Prop := ∀ s : State, ∃ t, exec i s = .next t ∧ Within (partsOf i) s t

theorem resetRelease (resetN : Bool) (test : Nat) (refs : Nat) : Statement (.resetRelease resetN test refs) := fun s => runs_execResetRelease resetN test refs s

theorem xinStart : Statement (.xinStart) := fun s => runs_execXinStart s

theorem sfdpReadDone (valid : Bool) (density : Nat) (cmd : Nat) (addrBytes : Nat) (dummies : Nat) : Statement (.sfdpReadDone valid density cmd addrBytes dummies) := fun s => runs_execSfdpReadDone valid density cmd addrBytes dummies s

theorem synALock (counts : List Nat) (windows : List Nat) : Statement (.synALock counts windows) := fun s => runs_execSynALock counts windows s

theorem headerCheck (readable : Bool) (bytes : List Byte) : Statement (.headerCheck readable bytes) := fun s => runs_execHeaderCheck readable bytes s

theorem flashReadResume : Statement (.flashReadResume) := fun s => runs_execFlashReadResume s

theorem sectionStreamed (data : List Byte) (taken : Nat) (readable : Bool) (fault : Bool) : Statement (.sectionStreamed data taken readable fault) := fun s => runs_execSectionStreamed data taken readable fault s

theorem bandSearchDone (counts : List Nat) (found : Bool) : Statement (.bandSearchDone counts found) := fun s => runs_execBandSearchDone counts found s

theorem trailerVerify (readable : Bool) (image : List Byte) (trailer : List Byte) : Statement (.trailerVerify readable image trailer) := fun s => runs_execTrailerVerify readable image trailer s

theorem loadChecksDone : Statement (.loadChecksDone) := fun s => runs_execLoadChecksDone s

theorem fuseProgrammingDone (missed : Nat) : Statement (.fuseProgrammingDone missed) := fun s => runs_execFuseProgrammingDone missed s

theorem safeReady : Statement (.safeReady) := fun s => runs_execSafeReady s

theorem flashReadPage (link : Nat) (requester : Nat) : Statement (.flashReadPage link requester) := fun s => runs_execFlashReadPage link requester s

theorem flashProgramPage (link : Nat) (requester : Nat) : Statement (.flashProgramPage link requester) := fun s => runs_execFlashProgramPage link requester s

theorem flashErase (link : Nat) (requester : Nat) : Statement (.flashErase link requester) := fun s => runs_execFlashErase link requester s

theorem flashVerify (link : Nat) (requester : Nat) (slot : Nat) : Statement (.flashVerify link requester slot) := fun s => runs_execFlashVerify link requester slot s

theorem rebootCommand (link : Nat) (requester : Nat) : Statement (.rebootCommand link requester) := fun s => runs_execRebootCommand link requester s

theorem flashCommandDone (fail : Bool) (data : List Byte) : Statement (.flashCommandDone fail data) := fun s => runs_execFlashCommandDone fail data s

theorem rebootReset : Statement (.rebootReset) := fun s => runs_execRebootReset s

theorem sessionRequest (link : Nat) (requester : Nat) (prio : Nat) (seq : Nat) (body : List Byte) : Statement (.sessionRequest link requester prio seq body) := fun s => runs_execSessionRequest link requester prio seq body s

theorem sessionResponse (link : Nat) (requester : Nat) (prio : Nat) (seq : Nat) (late : Bool) (body : List Byte) : Statement (.sessionResponse link requester prio seq late body) := fun s => runs_execSessionResponse link requester prio seq late body s

theorem lockoutExpiry (link : Nat) : Statement (.lockoutExpiry link) := fun s => runs_execLockoutExpiry link s

theorem sessionClose (link : Nat) (requester : Nat) (prio : Nat) (seq : Nat) (body : List Byte) : Statement (.sessionClose link requester prio seq body) := fun s => runs_execSessionClose link requester prio seq body s

theorem sessionIdleTimeout (link : Nat) : Statement (.sessionIdleTimeout link) := fun s => runs_execSessionIdleTimeout link s

theorem attestationRequest (link : Nat) (requester : Nat) (prio : Nat) (seq : Nat) (body : List Byte) : Statement (.attestationRequest link requester prio seq body) := fun s => runs_execAttestationRequest link requester prio seq body s

theorem attestationReportDone : Statement (.attestationReportDone) := fun s => runs_execAttestationReportDone s

theorem registerWrite (link : Nat) (requester : Nat) (addr : Nat) (w : Word) : Statement (.registerWrite link requester addr w) := fun s => runs_execRegisterWrite link requester addr w s

theorem registerReadClear (link : Nat) (requester : Nat) (addr : Nat) : Statement (.registerReadClear link requester addr) := fun s => runs_execRegisterReadClear link requester addr s

theorem readRequest (link : Nat) (requester : Nat) (prio : Nat) (seq : Nat) (body : List Byte) : Statement (.readRequest link requester prio seq body) := fun s => runs_execReadRequest link requester prio seq body s

theorem writeRequest (link : Nat) (requester : Nat) (prio : Nat) (seq : Nat) (body : List Byte) : Statement (.writeRequest link requester prio seq body) := fun s => runs_execWriteRequest link requester prio seq body s

theorem plantTimeLowRead (link : Nat) (requester : Nat) (k : Nat) : Statement (.plantTimeLowRead link requester k) := fun s => runs_execPlantTimeLowRead link requester k s

theorem plantTimeLowWrite (link : Nat) (requester : Nat) (k : Nat) (w : Word) : Statement (.plantTimeLowWrite link requester k w) := fun s => runs_execPlantTimeLowWrite link requester k w s

theorem plantTimeHighWrite (link : Nat) (requester : Nat) (k : Nat) (w : Word) : Statement (.plantTimeHighWrite link requester k w) := fun s => runs_execPlantTimeHighWrite link requester k w s

theorem parameterWrite (link : Nat) (sig : Nat) (w : Word) : Statement (.parameterWrite link sig w) := fun s => runs_execParameterWrite link sig w s

theorem lockWindowEnd (syn : Nat) (c : Nat) : Statement (.lockWindowEnd syn c) := fun s => runs_execLockWindowEnd syn c s

theorem referenceLoss (r : Nat) : Statement (.referenceLoss r) := fun s => runs_execReferenceLoss r s

theorem referenceReturn (r : Nat) : Statement (.referenceReturn r) := fun s => runs_execReferenceReturn r s

theorem hopRequestM (p : Nat) (atTime : Bool) : Statement (.hopRequestM p atTime) := fun s => runs_execHopRequestM p atTime s

theorem hopRequestE (p : Nat) (atTime : Bool) : Statement (.hopRequestE p atTime) := fun s => runs_execHopRequestE p atTime s

theorem hopInstant (syn : Nat) : Statement (.hopInstant syn) := fun s => runs_execHopInstant syn s

theorem hopDone (syn : Nat) : Statement (.hopDone syn) := fun s => runs_execHopDone syn s

theorem hopFail (syn : Nat) : Statement (.hopFail syn) := fun s => runs_execHopFail syn s

theorem syncArm (w : Word) : Statement (.syncArm w) := fun s => runs_execSyncArm w s

theorem syncEvent (mark : Bool) (time : Nat) : Statement (.syncEvent mark time) := fun s => runs_execSyncEvent mark time s

theorem conversionDone (cv : Nat) (v : Int) (agnd : Int) (vref : Nat) : Statement (.conversionDone cv v agnd vref) := fun s => runs_execConversionDone cv v agnd vref s

theorem seqEntryWrite (cv : Nat) (e : Nat) (w : Word) : Statement (.seqEntryWrite cv e w) := fun s => runs_execSeqEntryWrite cv e w s

theorem frameLatch (f : Nat) (one : List Nat) (two : List Nat) : Statement (.frameLatch f one two) := fun s => runs_execFrameLatch f one two s

theorem contextReady (c : Nat) : Statement (.contextReady c) := fun s => runs_execContextReady c s

theorem pairCheckDue (p : Nat) : Statement (.pairCheckDue p) := fun s => runs_execPairCheckDue p s

theorem pairCheck (p : Nat) (v : Int) (agnd : Int) (eLo : Int) (eHi : Int) (vref : Nat) : Statement (.pairCheck p v agnd eLo eHi vref) := fun s => runs_execPairCheck p v agnd eLo eHi vref s

theorem referenceTest (p : Nat) (dLo : Int) (dHi : Int) (vref : Nat) : Statement (.referenceTest p dLo dHi vref) := fun s => runs_execReferenceTest p dLo dHi vref s

theorem restoreRequest (p : Nat) : Statement (.restoreRequest p) := fun s => runs_execRestoreRequest p s

theorem restoreTest (p : Nat) (dv : Int) (vref : Nat) : Statement (.restoreTest p dv vref) := fun s => runs_execRestoreTest p dv vref s

theorem urgentRequest (cv : Nat) : Statement (.urgentRequest cv) := fun s => runs_execUrgentRequest cv s

theorem urgentDone (v : Nat) (u : Int) (agnd : Int) (vref : Nat) : Statement (.urgentDone v u agnd vref) := fun s => runs_execUrgentDone v u agnd vref s

theorem resultSnapshot (link : Nat) (requester : Nat) (cv : Nat) (e : Nat) : Statement (.resultSnapshot link requester cv e) := fun s => runs_execResultSnapshot link requester cv e s

theorem frameRecordRead (link : Nat) (requester : Nat) (cv : Nat) (e : Nat) : Statement (.frameRecordRead link requester cv e) := fun s => runs_execFrameRecordRead link requester cv e s

theorem thresholdCrossing (a : Nat) (level : Nat) : Statement (.thresholdCrossing a level) := fun s => runs_execThresholdCrossing a level s

theorem blankingWindowEnd (n : Nat) : Statement (.blankingWindowEnd n) := fun s => runs_execBlankingWindowEnd n s

theorem domainArm (d : Nat) : Statement (.domainArm d) := fun s => runs_execDomainArm d s

theorem extTripNFall (low : Bool) (ps : Nat) : Statement (.extTripNFall low ps) := fun s => runs_execExtTripNFall low ps s

theorem readbackTest (n : Nat) (dHi : Int) (dLo : Int) (vref : Nat) : Statement (.readbackTest n dHi dLo vref) := fun s => runs_execReadbackTest n dHi dLo vref s

theorem tieTest (n : Nat) (hiSeen : Bool) (loSeen : Bool) : Statement (.tieTest n hiSeen loSeen) := fun s => runs_execTieTest n hiSeen loSeen s

theorem matrixTest (src : Nat) (seen : Nat) : Statement (.matrixTest src seen) := fun s => runs_execMatrixTest src seen s

theorem winTestDone : Statement (.winTestDone) := fun s => runs_execWinTestDone s

theorem autoSweepStep : Statement (.autoSweepStep) := fun s => runs_execAutoSweepStep s

theorem routeDelivery (src : Nat) : Statement (.routeDelivery src) := fun s => runs_execRouteDelivery src s

theorem filterExpiry (route : Nat) : Statement (.filterExpiry route) := fun s => runs_execFilterExpiry route s

theorem routeEntryWrite (link : Nat) (requester : Nat) (route : Nat) (w : Word) : Statement (.routeEntryWrite link requester route w) := fun s => runs_execRouteEntryWrite link requester route w s

theorem contextDispatch (c : Nat) : Statement (.contextDispatch c) := fun s => runs_execContextDispatch c s

theorem nop (c : Nat) (stall : Nat) (one : List Nat) (two : List Nat) : Statement (.nop c stall one two) := fun s => runs_execNop c stall one two s

theorem ldf (c : Nat) (stall : Nat) (one : List Nat) (two : List Nat) : Statement (.ldf c stall one two) := fun s => runs_execLdf c stall one two s

theorem add (c : Nat) (stall : Nat) (one : List Nat) (two : List Nat) : Statement (.add c stall one two) := fun s => runs_execAdd c stall one two s

theorem sub (c : Nat) (stall : Nat) (one : List Nat) (two : List Nat) : Statement (.sub c stall one two) := fun s => runs_execSub c stall one two s

theorem mul (c : Nat) (stall : Nat) (one : List Nat) (two : List Nat) : Statement (.mul c stall one two) := fun s => runs_execMul c stall one two s

theorem mac (c : Nat) (stall : Nat) (one : List Nat) (two : List Nat) : Statement (.mac c stall one two) := fun s => runs_execMac c stall one two s

theorem neg (c : Nat) (stall : Nat) (one : List Nat) (two : List Nat) : Statement (.neg c stall one two) := fun s => runs_execNeg c stall one two s

theorem abs (c : Nat) (stall : Nat) (one : List Nat) (two : List Nat) : Statement (.abs c stall one two) := fun s => runs_execAbs c stall one two s

theorem min (c : Nat) (stall : Nat) (one : List Nat) (two : List Nat) : Statement (.min c stall one two) := fun s => runs_execMin c stall one two s

theorem max (c : Nat) (stall : Nat) (one : List Nat) (two : List Nat) : Statement (.max c stall one two) := fun s => runs_execMax c stall one two s

theorem sat (c : Nat) (stall : Nat) (one : List Nat) (two : List Nat) : Statement (.sat c stall one two) := fun s => runs_execSat c stall one two s

theorem cmp (c : Nat) (stall : Nat) (one : List Nat) (two : List Nat) : Statement (.cmp c stall one two) := fun s => runs_execCmp c stall one two s

theorem sel (c : Nat) (stall : Nat) (one : List Nat) (two : List Nat) : Statement (.sel c stall one two) := fun s => runs_execSel c stall one two s

theorem sos (c : Nat) (stall : Nat) (one : List Nat) (two : List Nat) : Statement (.sos c stall one two) := fun s => runs_execSos c stall one two s

theorem sched (c : Nat) (stall : Nat) (one : List Nat) (two : List Nat) : Statement (.sched c stall one two) := fun s => runs_execSched c stall one two s

theorem minsel (c : Nat) (stall : Nat) (one : List Nat) (two : List Nat) : Statement (.minsel c stall one two) := fun s => runs_execMinsel c stall one two s

theorem clarke (c : Nat) (stall : Nat) (one : List Nat) (two : List Nat) : Statement (.clarke c stall one two) := fun s => runs_execClarke c stall one two s

theorem rot (c : Nat) (stall : Nat) (one : List Nat) (two : List Nat) : Statement (.rot c stall one two) := fun s => runs_execRot c stall one two s

theorem irot (c : Nat) (stall : Nat) (one : List Nat) (two : List Nat) : Statement (.irot c stall one two) := fun s => runs_execIrot c stall one two s

theorem div (c : Nat) (stall : Nat) (one : List Nat) (two : List Nat) : Statement (.div c stall one two) := fun s => runs_execDiv c stall one two s

theorem sqrt (c : Nat) (stall : Nat) (one : List Nat) (two : List Nat) : Statement (.sqrt c stall one two) := fun s => runs_execSqrt c stall one two s

theorem track (c : Nat) (stall : Nat) (one : List Nat) (two : List Nat) : Statement (.track c stall one two) := fun s => runs_execTrack c stall one two s

theorem out (c : Nat) (stall : Nat) (one : List Nat) (two : List Nat) : Statement (.out c stall one two) := fun s => runs_execOut c stall one two s

theorem evt (c : Nat) (stall : Nat) (one : List Nat) (two : List Nat) : Statement (.evt c stall one two) := fun s => runs_execEvt c stall one two s

theorem reservedOpcode (c : Nat) (stall : Nat) (one : List Nat) (two : List Nat) : Statement (.reservedOpcode c stall one two) := fun s => runs_execReservedOpcode c stall one two s

theorem contextCommit (c : Nat) : Statement (.contextCommit c) := fun s => runs_execContextCommit c s

theorem commitQueueRoom (c : Nat) : Statement (.commitQueueRoom c) := fun s => runs_execCommitQueueRoom c s

theorem commitPoint (c : Nat) : Statement (.commitPoint c) := fun s => runs_execCommitPoint c s

theorem contextEnableWrite (c : Nat) (b : Bool) : Statement (.contextEnableWrite c b) := fun s => runs_execContextEnableWrite c b s

theorem scrubRead (store : Nat) (err : Nat) : Statement (.scrubRead store err) := fun s => runs_execScrubRead store err s

theorem eccWriteBack : Statement (.eccWriteBack) := fun s => runs_execEccWriteBack s

theorem gridUpdate : Statement (.gridUpdate) := fun s => runs_execGridUpdate s

theorem tripCurveExpiry (c : Nat) (k : Nat) : Statement (.tripCurveExpiry c k) := fun s => runs_execTripCurveExpiry c k s

theorem rideExit : Statement (.rideExit) := fun s => runs_execRideExit s

theorem passiveTimerExpiry (m : Nat) : Statement (.passiveTimerExpiry m) := fun s => runs_execPassiveTimerExpiry m s

theorem gsInstant : Statement (.gsInstant) := fun s => runs_execGsInstant s

theorem gridWrite (a : Nat) (w : Word) : Statement (.gridWrite a w) := fun s => runs_execGridWrite a w s

theorem sprinklePeriodStart : Statement (.sprinklePeriodStart) := fun s => runs_execSprinklePeriodStart s

theorem carrierWrap (g : Nat) : Statement (.carrierWrap g) := fun s => runs_execCarrierWrap g s

theorem commitQueueDrain (q : Nat) : Statement (.commitQueueDrain q) := fun s => runs_execCommitQueueDrain q s

theorem commandEdge (l : Nat) (toH : Bool) : Statement (.commandEdge l toH) := fun s => runs_execCommandEdge l toH s

theorem deadTimeExpiry (l : Nat) : Statement (.deadTimeExpiry l) := fun s => runs_execDeadTimeExpiry l s

theorem interlockTimeout (l : Nat) : Statement (.interlockTimeout l) := fun s => runs_execInterlockTimeout l s

theorem fbComparatorChange (port : Nat) (level : Nat) (frac : Nat) : Statement (.fbComparatorChange port level frac) := fun s => runs_execFbComparatorChange port level frac s

theorem nodeComparatorChange (l : Nat) (level : Nat) (frac : Nat) : Statement (.nodeComparatorChange l level frac) := fun s => runs_execNodeComparatorChange l level frac s

theorem calibrationMeasurement (taps : Nat) : Statement (.calibrationMeasurement taps) := fun s => runs_execCalibrationMeasurement taps s

theorem modClockStop : Statement (.modClockStop) := fun s => runs_execModClockStop s

theorem statFrame (l : Nat) (levels : List Nat) : Statement (.statFrame l levels) := fun s => runs_execStatFrame l levels s

theorem statFrameMissing (l : Nat) : Statement (.statFrameMissing l) := fun s => runs_execStatFrameMissing l s

theorem desatAssert (l : Nat) (high : Bool) : Statement (.desatAssert l high) := fun s => runs_execDesatAssert l high s

theorem blankingEnd (l : Nat) : Statement (.blankingEnd l) := fun s => runs_execBlankingEnd l s

theorem nodeWatchdogTimeout (l : Nat) (h : Bool) : Statement (.nodeWatchdogTimeout l h) := fun s => runs_execNodeWatchdogTimeout l h s

theorem finalStep (l : Nat) : Statement (.finalStep l) := fun s => runs_execFinalStep l s

theorem ringStopped : Statement (.ringStopped) := fun s => runs_execRingStopped s

theorem ringCalibration (cycles : Nat) : Statement (.ringCalibration cycles) := fun s => runs_execRingCalibration cycles s

theorem tripAssistEnd (c : Nat) (d : Nat) : Statement (.tripAssistEnd c d) := fun s => runs_execTripAssistEnd c d s

theorem meteringSample (codes : List Int) : Statement (.meteringSample codes) := fun s => runs_execMeteringSample codes s

theorem snapshotTake (l : Nat) : Statement (.snapshotTake l) := fun s => runs_execSnapshotTake l s

theorem checkpoint : Statement (.checkpoint) := fun s => runs_execCheckpoint s

theorem demandClose : Statement (.demandClose) := fun s => runs_execDemandClose s

theorem pulseInputSample (levels : Nat) : Statement (.pulseInputSample levels) := fun s => runs_execPulseInputSample levels s

theorem pulseOutputTimer (k : Nat) : Statement (.pulseOutputTimer k) := fun s => runs_execPulseOutputTimer k s

theorem exportLimit : Statement (.exportLimit) := fun s => runs_execExportLimit s

theorem modeRequest (m : Nat) : Statement (.modeRequest m) := fun s => runs_execModeRequest m s

theorem auxOnRequest (k : Nat) : Statement (.auxOnRequest k) := fun s => runs_execAuxOnRequest k s

theorem auxOffRequest (k : Nat) : Statement (.auxOffRequest k) := fun s => runs_execAuxOffRequest k s

theorem sequencerStep (kind : Nat) : Statement (.sequencerStep kind) := fun s => runs_execSequencerStep kind s

theorem seqTimerExpiry (t : Nat) : Statement (.seqTimerExpiry t) := fun s => runs_execSeqTimerExpiry t s

theorem glazeApplicationDone : Statement (.glazeApplicationDone) := fun s => runs_execGlazeApplicationDone s

theorem hello (p : Nat) (codes : Nat) (role : Nat) (port : Nat) (id : Nat) (level : Nat) : Statement (.hello p codes role port id level) := fun s => runs_execHello p codes role port id level s

theorem alignment (p : Nat) : Statement (.alignment p) := fun s => runs_execAlignment p s

theorem alignRestart (p : Nat) : Statement (.alignRestart p) := fun s => runs_execAlignRestart p s

theorem linkDown (p : Nat) (codes : Nat) : Statement (.linkDown p codes) := fun s => runs_execLinkDown p codes s

theorem losAssert (p : Nat) (high : Bool) : Statement (.losAssert p high) := fun s => runs_execLosAssert p high s

theorem probe (p : Nat) (codes : Nat) : Statement (.probe p codes) := fun s => runs_execProbe p codes s

theorem echoSend (p : Nat) : Statement (.echoSend p) := fun s => runs_execEchoSend p s

theorem echo (rt : Nat) (codes : Nat) : Statement (.echo rt codes) := fun s => runs_execEcho rt codes s

theorem echoTimeout : Statement (.echoTimeout) := fun s => runs_execEchoTimeout s

theorem periodicProbe : Statement (.periodicProbe) := fun s => runs_execPeriodicProbe s

theorem timeMarkSend : Statement (.timeMarkSend) := fun s => runs_execTimeMarkSend s

theorem timeMark (twin : Bool) (codes : Nat) (value : Nat) (valid : Bool) : Statement (.timeMark twin codes value valid) := fun s => runs_execTimeMark twin codes value valid s

theorem markTimeout (twin : Bool) : Statement (.markTimeout twin) := fun s => runs_execMarkTimeout twin s

theorem fabTimeWrite (t : Nat) : Statement (.fabTimeWrite t) := fun s => runs_execFabTimeWrite t s

theorem tripSetReceived (p : Nat) (codes : Nat) (origin : Nat) (seq : Nat) : Statement (.tripSetReceived p codes origin seq) := fun s => runs_execTripSetReceived p codes origin seq s

theorem statusSend : Statement (.statusSend) := fun s => runs_execStatusSend s

theorem statusReceived (p : Nat) (codes : Nat) (bits : Nat) : Statement (.statusReceived p codes bits) := fun s => runs_execStatusReceived p codes bits s

theorem barrierEnter (n : Nat) : Statement (.barrierEnter n) := fun s => runs_execBarrierEnter n s

theorem barrierArrive (p : Nat) (codes : Nat) (n : Nat) : Statement (.barrierArrive p codes n) := fun s => runs_execBarrierArrive p codes n s

theorem barrierRelease (codes : Nat) (n : Nat) : Statement (.barrierRelease codes n) := fun s => runs_execBarrierRelease codes n s

theorem packetReceived (p : Nat) (codes : Nat) (bytes : List Byte) : Statement (.packetReceived p codes bytes) := fun s => runs_execPacketReceived p codes bytes s

theorem scheduledOperation (src : Nat) (op : Nat) (id : Nat) (t : Nat) (arg0 : Nat) (arg1 : Nat) : Statement (.scheduledOperation src op id t arg0 arg1) := fun s => runs_execScheduledOperation src op id t arg0 arg1 s

theorem scheduledSnapshot : Statement (.scheduledSnapshot) := fun s => runs_execScheduledSnapshot s

theorem scheduledSetpoint : Statement (.scheduledSetpoint) := fun s => runs_execScheduledSetpoint s

theorem scheduledPlanHop : Statement (.scheduledPlanHop) := fun s => runs_execScheduledPlanHop s

theorem plantReset : Statement (.plantReset) := fun s => runs_execPlantReset s

theorem schedTxGo (link : Nat) (requester : Nat) : Statement (.schedTxGo link requester) := fun s => runs_execSchedTxGo link requester s

theorem sprinkleAssignment (src : Nat) (code : Nat) (share : Nat) : Statement (.sprinkleAssignment src code share) := fun s => runs_execSprinkleAssignment src code share s

theorem twinHeartbeat (l : Nat) (valid : Bool) (role : Nat) (pst : Nat) (mode : Nat) (locked : Bool) (pairId : Nat) (hash : Nat) : Statement (.twinHeartbeat l valid role pst mode locked pairId hash) := fun s => runs_execTwinHeartbeat l valid role pst mode locked pairId hash s

theorem twinLaneDown (l : Nat) : Statement (.twinLaneDown l) := fun s => runs_execTwinLaneDown l s

theorem twinStart : Statement (.twinStart) := fun s => runs_execTwinStart s

theorem crossTripReceived (mask : Nat) : Statement (.crossTripReceived mask) := fun s => runs_execCrossTripReceived mask s

theorem mirrorEntryReceived (whole : Bool) (f : Nat) (k : Nat) (sig : Nat) (w : Word) : Statement (.mirrorEntryReceived whole f k sig w) := fun s => runs_execMirrorEntryReceived whole f k sig w s

theorem twinControlRequest (whole : Bool) (kind : Nat) (a : List Nat) : Statement (.twinControlRequest whole kind a) := fun s => runs_execTwinControlRequest whole kind a s

theorem twinGo (whole : Bool) (t : Nat) : Statement (.twinGo whole t) := fun s => runs_execTwinGo whole t s

theorem repair : Statement (.repair) := fun s => runs_execRepair s

theorem canFrameReceived (ch : Nat) (fd : Bool) (ext : Bool) (remote : Bool) (id : Nat) (data : List Byte) : Statement (.canFrameReceived ch fd ext remote id data) := fun s => runs_execCanFrameReceived ch fd ext remote id data s

theorem canFrameSent (ch : Nat) (loop : Nat) : Statement (.canFrameSent ch loop) := fun s => runs_execCanFrameSent ch loop s

theorem ackError (ch : Nat) : Statement (.ackError ch) := fun s => runs_execAckError ch s

theorem busOff (ch : Nat) : Statement (.busOff ch) := fun s => runs_execBusOff ch s

theorem recover (ch : Nat) : Statement (.recover ch) := fun s => runs_execRecover ch s

theorem busOffRecoveryDone (ch : Nat) : Statement (.busOffRecoveryDone ch) := fun s => runs_execBusOffRecoveryDone ch s

theorem aloneRetry (ch : Nat) : Statement (.aloneRetry ch) := fun s => runs_execAloneRetry ch s

theorem canEvent (k : Nat) : Statement (.canEvent k) := fun s => runs_execCanEvent k s

theorem supplyChangeover (v : Nat) (c : Nat) : Statement (.supplyChangeover v c) := fun s => runs_execSupplyChangeover v c s

theorem coldStartHandover (v : Nat) (vrect : Nat) : Statement (.coldStartHandover v vrect) := fun s => runs_execColdStartHandover v vrect s

theorem openCircuitMeasure (v : Nat) : Statement (.openCircuitMeasure v) := fun s => runs_execOpenCircuitMeasure v s

theorem aonDomainStart (v : Nat) (c : Nat) (xtal : Bool) : Statement (.aonDomainStart v c xtal) := fun s => runs_execAonDomainStart v c xtal s

theorem burstRequest (kind : Nat) (n : Nat) (v : Nat) : Statement (.burstRequest kind n v) := fun s => runs_execBurstRequest kind n v s

theorem inventory (flags : Nat) (afi : Nat) (len : Nat) (mask : Nat) (v : Nat) : Statement (.inventory flags afi len mask v) := fun s => runs_execInventory flags afi len mask v s

theorem stayQuiet (flags : Nat) (uid : Nat) (v : Nat) : Statement (.stayQuiet flags uid v) := fun s => runs_execStayQuiet flags uid v s

theorem readSingleBlock (flags : Nat) (uid : Nat) (b : Nat) (v : Nat) : Statement (.readSingleBlock flags uid b v) := fun s => runs_execReadSingleBlock flags uid b v s

theorem readMultipleBlocks (flags : Nat) (uid : Nat) (b : Nat) (n : Nat) (v : Nat) : Statement (.readMultipleBlocks flags uid b n v) := fun s => runs_execReadMultipleBlocks flags uid b n v s

theorem getSystemInformation (flags : Nat) (uid : Nat) (v : Nat) : Statement (.getSystemInformation flags uid v) := fun s => runs_execGetSystemInformation flags uid v s

theorem rfUnsupportedCommand (flags : Nat) (uid : Nat) (cmd : Nat) (v : Nat) : Statement (.rfUnsupportedCommand flags uid cmd v) := fun s => runs_execRfUnsupportedCommand flags uid cmd v s

theorem checkpointCommit : Statement (.checkpointCommit) := fun s => runs_execCheckpointCommit s

theorem logCommit (v : Nat) : Statement (.logCommit v) := fun s => runs_execLogCommit v s

theorem tamperSample (levels : Nat) (v : Nat) (xtal : Bool) : Statement (.tamperSample levels v xtal) := fun s => runs_execTamperSample levels v xtal s

theorem rtcWrite (link : Nat) (requester : Nat) (sec : Nat) : Statement (.rtcWrite link requester sec) := fun s => runs_execRtcWrite link requester sec s

theorem obsSnapTake (link : Nat) (requester : Nat) : Statement (.obsSnapTake link requester) := fun s => runs_execObsSnapTake link requester s

theorem counterClear (link : Nat) (requester : Nat) : Statement (.counterClear link requester) := fun s => runs_execCounterClear link requester s

theorem preciseSampleDrain : Statement (.preciseSampleDrain) := fun s => runs_execPreciseSampleDrain s

theorem preciseSampleRead (link : Nat) (requester : Nat) (entry : Nat) : Statement (.preciseSampleRead link requester entry) := fun s => runs_execPreciseSampleRead link requester entry s

theorem recordArm (link : Nat) (requester : Nat) : Statement (.recordArm link requester) := fun s => runs_execRecordArm link requester s

theorem recordDisarm (link : Nat) (requester : Nat) : Statement (.recordDisarm link requester) := fun s => runs_execRecordDisarm link requester s

theorem periodicDump : Statement (.periodicDump) := fun s => runs_execPeriodicDump s

theorem clockStopTest (link : Nat) (requester : Nat) : Statement (.clockStopTest link requester) := fun s => runs_execClockStopTest link requester s

theorem clockStopAbort (link : Nat) (requester : Nat) : Statement (.clockStopAbort link requester) := fun s => runs_execClockStopAbort link requester s

theorem powerDownDone : Statement (.powerDownDone) := fun s => runs_execPowerDownDone s

theorem clockTestOffEnd (windows : List Nat) : Statement (.clockTestOffEnd windows) := fun s => runs_execClockTestOffEnd windows s

theorem halt (link : Nat) (requester : Nat) : Statement (.halt link requester) := fun s => runs_execHalt link requester s

theorem engineStep (link : Nat) (requester : Nat) (c : Nat) : Statement (.engineStep link requester c) := fun s => runs_execEngineStep link requester c s

theorem haltClear (link : Nat) (requester : Nat) : Statement (.haltClear link requester) := fun s => runs_execHaltClear link requester s

theorem idcode : Statement (.idcode) := fun s => runs_execIdcode s

theorem samplePreload (balls : List Bool) : Statement (.samplePreload balls) := fun s => runs_execSamplePreload balls s

theorem extest : Statement (.extest) := fun s => runs_execExtest s

theorem extestPulse : Statement (.extestPulse) := fun s => runs_execExtestPulse s

theorem extestTrain : Statement (.extestTrain) := fun s => runs_execExtestTrain s

theorem clamp : Statement (.clamp) := fun s => runs_execClamp s

theorem highz : Statement (.highz) := fun s => runs_execHighz s

theorem bypass (ir : Nat) : Statement (.bypass ir) := fun s => runs_execBypass ir s

theorem debugAccess (data : Nat) : Statement (.debugAccess data) := fun s => runs_execDebugAccess data s

theorem resetAssert (dying : Bool) : Statement (.resetAssert dying) := fun s => runs_execResetAssert dying s

theorem resetNPulse (ns : Nat) : Statement (.resetNPulse ns) := fun s => runs_execResetNPulse ns s

theorem railBelowReset (r : Nat) : Statement (.railBelowReset r) := fun s => runs_execRailBelowReset r s

theorem supplyWarn (r : Nat) : Statement (.supplyWarn r) := fun s => runs_execSupplyWarn r s

theorem railGood (r : Nat) : Statement (.railGood r) := fun s => runs_execRailGood r s

theorem sessionVerificationDone : Statement (.sessionVerificationDone) := fun s => runs_execSessionVerificationDone s

theorem domainLosesPower (v : Nat) (c : Nat) : Statement (.domainLosesPower v c) := fun s => runs_execDomainLosesPower v c s

theorem rfFieldLost : Statement (.rfFieldLost) := fun s => runs_execRfFieldLost s

theorem canError (ch : Nat) (kind : Nat) : Statement (.canError ch kind) := fun s => runs_execCanError ch kind s

theorem helloSend (p : Nat) : Statement (.helloSend p) := fun s => runs_execHelloSend p s

theorem heartbeatSend : Statement (.heartbeatSend) := fun s => runs_execHeartbeatSend s

theorem twinQueueRoom (q : Nat) : Statement (.twinQueueRoom q) := fun s => runs_execTwinQueueRoom q s

end Sys2Proof.Laws.Frame
end

