-- ==== Sys2Proof/Laws/Record.lean ====
section
/-!
SUPPORT. What the observation path writes: a record changes no register but OBS_RAM_STAT, OBS_STATUS and OBS_ERR_CNT, and
keeps whether recording runs and the step that waits (R450 to R453).
-/

namespace Sys2Proof.Laws

open Sys2Proof Sys2Proof.Machine

/-- The registers a record may change. -/
abbrev recordWords : List Nat := [R.OBS_RAM_STAT, R.OBS_STATUS, R.OBS_ERR_CNT]

theorem words_setBytes (s : State) (a : Nat) (b : List Byte) {l : List Nat} {u : State} (h : WordsBut l u s) :
    WordsBut l u (s.setBytes a b) := words_within (within_setBytes _ _ _) rfl h

theorem words_count {l : List Nat} {u s : State} {c : Nat} (h : WordsBut l u s) : WordsBut l u (s.count c) :=
  words_within (within_count _ _) rfl h

theorem words_countN {l : List Nat} {u s : State} {c k : Nat} (h : WordsBut l u s) : WordsBut l u (s.countN c k) :=
  words_within (within_countN _ _ _) rfl h

theorem words_obsPutUnits (u : State) (n : Nat) : ∀ (s : State) (b : List Byte), WordsBut recordWords u s →
    WordsBut recordWords u (s.obsPutUnits b n) := by
  induction n with
  | zero => intro s b h; exact h
  | succ n ih =>
    intro s b h
    exact ih _ _ (words_put (by decide) (words_setBytes _ _ _ h))

theorem words_obsStore {u s : State} {b : List Byte} (h : WordsBut recordWords u s) : WordsBut recordWords u (s.obsStore b) :=
  words_count (words_obsPutUnits u _ s b h)

theorem words_q26Flag {u s : State} (h : WordsBut recordWords u s) : WordsBut recordWords u s.q26Flag :=
  words_putB (by decide) h

theorem words_obsTake {u s : State} {b : List Byte} (h : WordsBut recordWords u s) : WordsBut recordWords u (s.obsTake b).1 := by
  unfold State.obsTake
  split
  · exact words_obsStore (words_countN h)
  · split
    · exact words_q26Flag (words_countN h)
    · exact words_q26Flag (words_countN h)

/-- A record changes no register but those of `recordWords`. -/
theorem words_record {u s : State} {ty subj fl idx : Nat} {p : List Byte} (h : WordsBut recordWords u s) :
    WordsBut recordWords u (s.record ty subj fl idx p) := by
  have lost : ∀ t : State, WordsBut recordWords u t → WordsBut recordWords u ((t.bump R.OBS_ERR_CNT_rec_lost).count 0xAF) :=
    fun t ht => words_count (words_bump (by decide) ht)
  have hb : WordsBut recordWords u s.burn := h
  unfold State.record
  dsimp only
  split
  · split
    · exact words_obsTake hb
    · exact lost _ (words_obsTake hb)
  · split
    · exact words_obsTake (words_obsTake hb : WordsBut recordWords u _)
    · exact lost _ (words_countN hb)

theorem words_coverBreak {u s : State} {c k idx plan : Nat} (h : WordsBut recordWords u s) :
    WordsBut recordWords u (s.coverBreak c k idx plan) := by
  unfold State.coverBreak
  split
  · exact (words_record h : WordsBut recordWords u _)
  · exact h

/-- Writing units keeps the observation state. -/
theorem obsPutUnits_obs (n : Nat) (s : State) (b : List Byte) : (s.obsPutUnits b n).obs = s.obs :=
  same_of_within (within_obsPutUnits s b n) (p := .obs) rfl

/-- Every value of the observation state that depends on none of the counts, Q26, the lost records and the origins due. -/
def recKeeps {α : Type} (g : ObsS → α) : Prop :=
  ∀ o c v q l n, g { o with cnt := c, ovf := v, q26 := q, lostSinceGap := l, needOrigin := n } = g o

theorem count_keeps {α : Type} {g : ObsS → α} (hg : recKeeps g) (s : State) (c : Nat) : g (s.count c).obs = g s.obs :=
  countFor_const g (fun o c v => hg o c v o.q26 o.lostSinceGap o.needOrigin) _ _ _ _ _

theorem countN_keeps {α : Type} {g : ObsS → α} (hg : recKeeps g) (s : State) (c k : Nat) : g (s.countN c k).obs = g s.obs :=
  countFor_const g (fun o c v => hg o c v o.q26 o.lostSinceGap o.needOrigin) _ _ _ _ _

theorem obsStore_keeps {α : Type} {g : ObsS → α} (hg : recKeeps g) (s : State) (b : List Byte) : g (s.obsStore b).obs = g s.obs := by
  unfold State.obsStore
  rw [count_keeps hg, obsPutUnits_obs]

theorem q26_keeps {α : Type} {g : ObsS → α} (hg : recKeeps g) (o : ObsS) (q : List (List Byte)) : g { o with q26 := q } = g o :=
  hg o o.cnt o.ovf q o.lostSinceGap o.needOrigin

theorem obsTake_keeps {α : Type} {g : ObsS → α} (hg : recKeeps g) (s : State) (b : List Byte) : g (s.obsTake b).1.obs = g s.obs := by
  unfold State.obsTake
  split
  · rw [obsStore_keeps hg, countN_keeps hg]
  · split
    · show g (State.countN _ _ _).obs = _
      rw [countN_keeps hg]
      exact q26_keeps hg _ _
    · show g (State.countN _ _ _).obs = _
      rw [countN_keeps hg]

/-- A record keeps what depends on none of the counts, Q26, the lost records and the origins due. -/
theorem record_keeps {α : Type} {g : ObsS → α} (hg : recKeeps g) (s : State) (ty subj fl idx : Nat) (p : List Byte) :
    g (s.record ty subj fl idx p).obs = g s.obs := by
  have hl : ∀ (o : ObsS) (k : Nat) (n : Tbl Bool), g { o with lostSinceGap := k, needOrigin := n } = g o :=
    fun o k n => hg o o.cnt o.ovf o.q26 k n
  have hz : ∀ (o : ObsS) (k : Nat), g { o with lostSinceGap := k } = g o := fun o k => hg o o.cnt o.ovf o.q26 k o.needOrigin
  unfold State.record
  dsimp only
  split
  · split
    · rw [obsTake_keeps hg]; rfl
    · rw [hl, count_keeps hg]
      show g (State.obsTake _ _).1.obs = _
      rw [obsTake_keeps hg]; rfl
  · split
    · rw [obsTake_keeps hg, hz, obsTake_keeps hg]; rfl
    · rw [hl, count_keeps hg]
      show g (State.countN _ _ _).obs = _
      rw [countN_keeps hg]; rfl

theorem coverBreak_keeps {α : Type} {g : ObsS → α} (hg : recKeeps g) (s : State) (c k idx plan : Nat) :
    g (s.coverBreak c k idx plan).obs = g s.obs := by
  unfold State.coverBreak
  split
  · have hn : ∀ (o : ObsS) (n : Tbl Bool), g { o with needOrigin := n } = g o := fun o n => hg o o.cnt o.ovf o.q26 o.lostSinceGap n
    rw [hn, record_keeps hg]
  · rfl

theorem recKeeps_recording : recKeeps ObsS.recording := fun _ _ _ _ _ _ => rfl
theorem recKeeps_stepping : recKeeps ObsS.stepping := fun _ _ _ _ _ _ => rfl
theorem recKeeps_stepPending : recKeeps ObsS.stepPending := fun _ _ _ _ _ _ => rfl
theorem recKeeps_q27 : recKeeps ObsS.q27 := fun _ _ _ _ _ _ => rfl

end Sys2Proof.Laws
end

