-- ==== Sys2Proof/Laws/Trip.lean ====
section
/-!
SUPPORT. Trips and leg faults only set: what turns legs off writes, below the gate-port block, only WIN_PD, and clears neither a
trip latch nor a fault latch (R128 to R130, R288).
-/

namespace Sys2Proof.Laws

open Sys2Proof Sys2Proof.Machine

/-- `t` is `s` after legs have been turned off and domains have tripped. -/
def Trips (s t : State) : Prop :=
  (∀ a, a < 0x07000000 → (∀ d, d < 4 → a ≠ R.WIN_PD d) → t.word a = s.word a)
  ∧ (∀ d, d < 4 → t.on (R.WIN_PD_armed d) = s.on (R.WIN_PD_armed d)
    ∧ (s.on (R.WIN_PD_tripped d) = true → t.on (R.WIN_PD_tripped d) = true ∧ t.get (R.WIN_PD_first_src d) = s.get (R.WIN_PD_first_src d)))
  ∧ (∀ l, s.on (R.GTP_LEG_STAT_fault l) = true → t.on (R.GTP_LEG_STAT_fault l) = true)

theorem trips_refl (s : State) : Trips s s := ⟨fun _ _ _ => rfl, fun _ _ => ⟨rfl, fun h => ⟨h, rfl⟩⟩, fun _ h => h⟩

theorem trips_trans {s t u : State} (h : Trips s t) (g : Trips t u) : Trips s u := by
  refine ⟨fun a ha hd => (g.1 a ha hd).trans (h.1 a ha hd), fun d hd => ⟨((g.2.1 d hd).1).trans (h.2.1 d hd).1, fun e => ?_⟩, fun l e => g.2.2 l (h.2.2 l e)⟩
  have h1 := (h.2.1 d hd).2 e
  have h2 := (g.2.1 d hd).2 h1.1
  exact ⟨h2.1, h2.2.trans h1.2⟩

theorem trips_after {s t u : State} (g : Trips t u) (h : Trips s t) : Trips s u := trips_trans h g

theorem get_of_word {s t : State} (f : Fld) (h : t.word f.addr = s.word f.addr) : t.get f = s.get f := by unfold State.get; rw [h]
theorem on_of_word {s t : State} (f : Fld) (h : t.word f.addr = s.word f.addr) : t.on f = s.on f := by
  unfold State.on; rw [get_of_word f h]

theorem winPd_lt (d : Nat) (hd : d < 4) : R.WIN_PD d < 0x07000000 := by unfold R.WIN_PD; omega

/-- A write at or above the gate-port block that no fault latch shares. -/
theorem trips_of_words {s t : State} (hw : ∀ a, a < 0x07000000 → t.word a = s.word a)
    (hf : ∀ l, s.on (R.GTP_LEG_STAT_fault l) = true → t.on (R.GTP_LEG_STAT_fault l) = true) : Trips s t := by
  refine ⟨fun a ha _ => hw a ha, fun d hd => ?_, hf⟩
  have e : t.word (R.WIN_PD d) = s.word (R.WIN_PD d) := hw _ (winPd_lt d hd)
  exact ⟨on_of_word _ e, fun h => ⟨(on_of_word _ e).trans h, get_of_word _ e⟩⟩

theorem trips_put {s t : State} {f : Fld} {n : Nat} (hf : 0x07000000 ≤ f.addr) (hl : 1 ≤ f.lo) (h : Trips s t) : Trips s (t.put f n) := by
  refine trips_trans h (trips_of_words (fun a ha => word_put_ne _ _ _ _ (by omega)) (fun l e => ?_))
  rw [on_put_of_apart _ _ _ _ (by simp [apart, R.GTP_LEG_STAT_fault]; omega), e]

theorem trips_putB {s t : State} {f : Fld} {b : Bool} (hf : 0x07000000 ≤ f.addr) (hl : 1 ≤ f.lo) (h : Trips s t) : Trips s (t.putB f b) :=
  trips_put hf hl h

theorem trips_put_ne {s t : State} {f : Fld} {n : Nat} (hf : 0x07000000 ≤ f.addr) (hl : ∀ l, R.GTP_LEG_STAT l ≠ f.addr)
    (h : Trips s t) : Trips s (t.put f n) := by
  refine trips_trans h (trips_of_words (fun a ha => word_put_ne _ _ _ _ (by omega)) (fun l e => ?_))
  rw [on_put_ne _ _ _ _ (hl l), e]

theorem trips_fault {s t : State} {m : Nat} (h : Trips s t) : Trips s (t.putB (R.GTP_LEG_STAT_fault m) true) := by
  refine trips_trans h (trips_of_words (fun a ha => word_put_ne _ _ _ _ ?_) (fun l e => ?_))
  · simp only [R.GTP_LEG_STAT_fault, R.GTP_LEG_STAT]; omega
  · by_cases hm : m = l
    · subst hm; exact on_putB_same _ _ _ (by simp [R.GTP_LEG_STAT_fault]) (by simp [R.GTP_LEG_STAT_fault])
    · rw [on_putB_ne _ _ _ _ (by simp only [R.GTP_LEG_STAT_fault, R.GTP_LEG_STAT]; omega), e]

theorem trips_within {A : List Part} {s t u : State} (g : Within A t u) (hA : A.contains Part.regs = false) (h : Trips s t) : Trips s u :=
  trips_trans h (trips_of_words (fun a _ => word_of_regs (same_of_within g hA) a)
    (fun _ e => (on_of_regs (same_of_within g hA) _).trans e))

/-- Only the registers matter. -/
theorem trips_regs {s t u : State} (e : u.regs = t.regs) (h : Trips s t) : Trips s u :=
  trips_trans h (trips_of_words (fun a _ => word_of_regs e a) (fun _ x => (on_of_regs e _).trans x))

theorem trips_setGleg {s t : State} {l : Nat} {g : GateLeg} (h : Trips s t) : Trips s (t.setGleg l g) := trips_regs rfl h

theorem trips_ite' {s x y : State} {c : Bool} (hx : Trips s x) (hy : Trips s y) : Trips s (ite' c x y) := by
  unfold ite'; split <;> assumption

theorem trips_forUpTo {s : State} {n : Nat} {f : Nat → State → State} {t : State} (hf : ∀ i u, i < n → Trips s u → Trips s (f i u))
    (h : Trips s t) : Trips s (forUpTo n f t) := forUpTo_inv (fun u => Trips s u) n f t h hf

theorem gtpStat_ge (l : Nat) : 0x07000000 ≤ R.GTP_LEG_STAT l := by unfold R.GTP_LEG_STAT; omega

theorem trips_driveComposite {s t : State} {l : Nat} (h : Trips s t) : Trips s (t.driveComposite l) :=
  trips_within (within_driveComposite _ _) rfl h

theorem trips_desatFalls {s t : State} {l : Nat} (h : Trips s t) : Trips s (t.desatFalls l) :=
  trips_within (within_desatFalls _ _) rfl h

theorem trips_refreshLeg {s t : State} {l : Nat} (h : Trips s t) : Trips s (t.refreshLeg l) := by
  unfold State.refreshLeg
  dsimp only
  refine trips_desatFalls (trips_driveComposite (trips_setGleg (trips_putB ?_ ?_ (trips_putB ?_ ?_ (trips_putB ?_ ?_ h))))) <;>
    simp only [R.GTP_LEG_STAT_domain_held, R.GTP_LEG_STAT_eff_l, R.GTP_LEG_STAT_eff_h, R.GTP_LEG_STAT] <;> omega

theorem trips_refreshChop {s t : State} {c : Nat} (hc : c < 2) (h : Trips s t) : Trips s (t.refreshChop c) := by
  unfold State.refreshChop
  dsimp only
  have chain : ∀ (u : State) (b1 b2 b3 b4 : Bool), Trips s u →
      Trips s ((((u.putB (R.GTP_CHOP_STAT_on c) b1).putB (R.GTP_CHOP_STAT_by_comp c) b2).putB (R.GTP_CHOP_STAT_by_route c) b3).putB (R.GTP_CHOP_STAT_by_trip c) b4) := by
    intro u b1 b2 b3 b4 hu
    refine trips_put_ne ?_ ?_ (trips_put_ne ?_ ?_ (trips_put_ne ?_ ?_ (trips_put_ne ?_ ?_ hu)))
    all_goals (try intro l)
    all_goals simp only [R.GTP_CHOP_STAT_by_trip, R.GTP_CHOP_STAT_by_route, R.GTP_CHOP_STAT_by_comp, R.GTP_CHOP_STAT_on, R.GTP_CHOP_STAT, R.GTP_LEG_STAT]
    all_goals omega
  refine trips_put_ne ?_ ?_ (trips_ite' (chain _ _ _ _ _ (trips_regs rfl h)) (trips_put_ne ?_ ?_ (chain _ _ _ _ _ (trips_regs rfl h))))
  · simp only [R.GTP_STATUS]; omega
  · intro l; simp only [R.GTP_STATUS, R.GTP_LEG_STAT]; omega
  · simp only [R.GTP_CHOP_STAT_starts, R.GTP_CHOP_STAT]; omega
  · intro l; simp only [R.GTP_CHOP_STAT_starts, R.GTP_CHOP_STAT, R.GTP_LEG_STAT]; omega

theorem trips_startAssist {s t : State} {d : Nat} (h : Trips s t) : Trips s (t.startAssist d) := by
  unfold State.startAssist
  dsimp only
  exact trips_ite' (trips_ite' h (trips_refreshChop (by decide) h)) (trips_refreshChop (by decide) (trips_ite' h (trips_refreshChop (by decide) h)))

theorem trips_softStart {s t : State} {l : Nat} (h : Trips s t) : Trips s (t.softStart l) := by
  have hb : Trips s (t.putB (R.GTP_LEG_STAT_in_soft l) true) :=
    trips_putB (by simp only [R.GTP_LEG_STAT_in_soft, R.GTP_LEG_STAT]; omega) (by simp only [R.GTP_LEG_STAT_in_soft]; omega) h
  unfold State.softStart
  split
  · exact h
  · dsimp only
    refine trips_refreshLeg (trips_ite' (trips_regs rfl hb)
      (trips_put_ne (by simp only [R.GTP_STATUS]; omega) ?_ (trips_within (within_staggerOrder _ _ _) rfl (trips_regs rfl hb))))
    intro m; simp only [R.GTP_LEG_STAT, R.GTP_STATUS]; omega

theorem trips_legFault {s t : State} {l c : Nat} (h : Trips s t) : Trips s (t.legFault l c) := by
  have h1 : Trips s (t.put ⟨(R.GTP_LEG_STAT_causes l).addr, 16 + c, 1⟩ 1) :=
    trips_put (by simp only [R.GTP_LEG_STAT_causes, R.GTP_LEG_STAT]; omega) (by simp only; omega) h
  unfold State.legFault
  dsimp only
  split
  · exact h1
  · refine trips_refreshLeg (trips_softStart (trips_setGleg (trips_put_ne ?_ ?_ (trips_put ?_ ?_ (trips_fault h1)))))
    · simp only [R.GTP_LEG_CNT_faults, R.GTP_LEG_CNT]; omega
    · intro m; simp only [R.GTP_LEG_CNT_faults, R.GTP_LEG_CNT, R.GTP_LEG_STAT]; omega
    · simp only [R.GTP_LEG_STAT_first_cause, R.GTP_LEG_STAT]; omega
    · simp only [R.GTP_LEG_STAT_first_cause]; omega

theorem trips_crossTripSend {s t : State} (h : Trips s t) : Trips s t.crossTripSend := trips_within (within_crossTripSend _) rfl h

/-- The words that a domain trip writes before its legs turn off. -/
theorem tripWords (s : State) (d src : Nat) (r w : Bool) :
    let t := ((((s.putB (R.WIN_PD_tripped d) true).put (R.WIN_PD_first_src d) src).putB (R.WIN_PD_via_route d) r).putB (R.WIN_PD_via_twin d) w).bump (R.WIN_PD_trips d)
    WordsBut [R.WIN_PD d] s t ∧ t.on (R.WIN_PD_tripped d) = true ∧ t.on (R.WIN_PD_armed d) = s.on (R.WIN_PD_armed d)
      ∧ t.get (R.WIN_PD_first_src d) = src % 2 ^ 9 := by
  refine ⟨?_, ?_, ?_, ?_⟩
  · exact words_bump (by simp [R.WIN_PD_trips]) (words_putB (by simp [R.WIN_PD_via_twin]) (words_putB (by simp [R.WIN_PD_via_route])
      (words_put (by simp [R.WIN_PD_first_src]) (words_putB (by simp [R.WIN_PD_tripped]) (words_refl _ _)))))
  · rw [on_bump_of_apart _ _ _ rfl, on_putB_of_apart _ _ _ _ rfl, on_putB_of_apart _ _ _ _ rfl, on_put_of_apart _ _ _ _ rfl]
    exact on_putB_same _ _ _ (by simp [R.WIN_PD_tripped]) (by simp [R.WIN_PD_tripped])
  · rw [on_bump_of_apart _ _ _ rfl, on_putB_of_apart _ _ _ _ rfl, on_putB_of_apart _ _ _ _ rfl, on_put_of_apart _ _ _ _ rfl, on_putB_of_apart _ _ _ _ rfl]
  · rw [get_bump_of_apart _ _ _ rfl, get_putB_of_apart _ _ _ _ rfl, get_putB_of_apart _ _ _ _ rfl]
    exact get_put_same _ _ _ (by simp [R.WIN_PD_first_src])

theorem trips_domainTrip {s t : State} {d src : Nat} {r w fo : Bool} (hd : d < 4) (h : Trips s t) : Trips s (t.domainTrip d src r w fo) := by
  refine trips_trans h ?_
  unfold State.domainTrip
  split
  · exact trips_refl _
  · next hc =>
    have hnt : t.on (R.WIN_PD_tripped d) = false := by
      cases e : t.on (R.WIN_PD_tripped d) <;> simp_all
    have key := tripWords t d src r w
    dsimp only at key ⊢
    refine trips_ite' (trips_startAssist (trips_forUpTo (fun l u _ hu => trips_ite' hu (trips_refreshLeg (trips_softStart hu))) ?_))
      (trips_crossTripSend (trips_startAssist (trips_forUpTo (fun l u _ hu => trips_ite' hu (trips_refreshLeg (trips_softStart hu))) ?_)))
    all_goals
      refine ⟨fun a ha hne => key.1 a (by simpa using hne d hd), fun e he => ?_, fun l hl => ?_⟩
      · by_cases hed : e = d
        · subst hed; exact ⟨key.2.2.1, fun x => by rw [hnt] at x; cases x⟩
        · have hw := key.1 (R.WIN_PD e) (by simp only [List.mem_singleton, R.WIN_PD]; omega)
          exact ⟨on_of_word _ hw, fun x => ⟨(on_of_word _ hw).trans x, get_of_word _ hw⟩⟩
      · have hw := key.1 (R.GTP_LEG_STAT l) (by simp only [List.mem_singleton, R.WIN_PD, R.GTP_LEG_STAT]; omega)
        exact (on_of_word (R.GTP_LEG_STAT_fault l) hw).trans hl

/-- An armed domain that a trip names is tripped after it, with the cause of its first trip. -/
theorem domainTrip_trips (s : State) (d src : Nat) (r w fo : Bool) (hd : d < 4) (ha : s.on (R.WIN_PD_armed d) = true ∨ fo = true) :
    (s.domainTrip d src r w fo).on (R.WIN_PD_tripped d) = true
    ∧ (s.on (R.WIN_PD_tripped d) = false → (s.domainTrip d src r w fo).get (R.WIN_PD_first_src d) = src % 2 ^ 9) := by
  have key := tripWords s d src r w
  dsimp only at key
  by_cases ht : s.on (R.WIN_PD_tripped d) = true
  · have := trips_domainTrip (r := r) (w := w) (fo := fo) (src := src) hd (trips_refl s)
    exact ⟨((this.2.1 d hd).2 ht).1, fun e => by rw [ht] at e; cases e⟩
  · have htf : s.on (R.WIN_PD_tripped d) = false := by simpa using ht
    have hc : (!(s.on (R.WIN_PD_armed d) || fo) || s.on (R.WIN_PD_tripped d)) = false := by
      rcases ha with ha | ha <;> simp [ha, htf]
    have hrest : Trips (((((s.putB (R.WIN_PD_tripped d) true).put (R.WIN_PD_first_src d) src).putB (R.WIN_PD_via_route d) r).putB (R.WIN_PD_via_twin d) w).bump (R.WIN_PD_trips d)) (s.domainTrip d src r w fo) := by
      unfold State.domainTrip
      rw [hc]
      dsimp only
      rw [if_neg (by decide)]
      exact trips_ite' (trips_startAssist (trips_forUpTo (fun l u _ hu => trips_ite' hu (trips_refreshLeg (trips_softStart hu))) (trips_refl _)))
        (trips_crossTripSend (trips_startAssist (trips_forUpTo (fun l u _ hu => trips_ite' hu (trips_refreshLeg (trips_softStart hu))) (trips_refl _))))
    have h1 := (hrest.2.1 d hd).2 key.2.1
    exact ⟨h1.1, fun _ => h1.2.trans key.2.2.2⟩

theorem trips_matrixAssert {s t : State} {m src : Nat} (h : Trips s t) : Trips s (t.matrixAssert m src) := by
  unfold State.matrixAssert
  exact trips_forUpTo (fun d u hd hu => trips_ite' hu (trips_domainTrip hd hu)) h

/-- A matrix input that asserts trips every armed domain of its mask. -/
theorem matrixAssert_trips (s : State) (m src d : Nat) (hd : d < 4) (ha : s.on (R.WIN_PD_armed d) = true) (hm : m / 2 ^ d % 2 = 1) :
    (s.matrixAssert m src).on (R.WIN_PD_tripped d) = true := by
  unfold State.matrixAssert
  have key : ∀ n, n ≤ 4 → Trips s (forUpTo n (fun d t => ite' (m / 2 ^ d % 2 = 1) t (t.domainTrip d src false false false)) s)
      ∧ (d < n → (forUpTo n (fun d t => ite' (m / 2 ^ d % 2 = 1) t (t.domainTrip d src false false false)) s).on (R.WIN_PD_tripped d) = true) := by
    intro n
    induction n with
    | zero => intro _; exact ⟨trips_refl _, fun h => by omega⟩
    | succ n ih =>
      intro hn
      obtain ⟨i1, i2⟩ := ih (by omega)
      rw [forUpTo_succ]
      refine ⟨trips_ite' i1 (trips_domainTrip (by omega) i1), fun hdn => ?_⟩
      by_cases hlt : d < n
      · have := trips_ite' (c := decide (m / 2 ^ n % 2 = 1)) (trips_refl _) (trips_domainTrip (src := src) (r := false) (w := false) (fo := false) (d := n) (by omega) (trips_refl (forUpTo n (fun d t => ite' (m / 2 ^ d % 2 = 1) t (t.domainTrip d src false false false)) s)))
        exact ((this.2.1 d hd).2 (i2 hlt)).1
      · have hdn : d = n := by omega
        subst hdn
        rw [hm]
        exact (domainTrip_trips _ d src false false false hd (Or.inl ((i1.2.1 d hd).1.trans ha))).1
  exact (key 4 (Nat.le_refl _)).2 hd

theorem trips_desatPass {s t : State} {l : Nat} (h : Trips s t) : Trips s (t.desatPass l) := by
  unfold State.desatPass
  exact trips_refreshLeg (trips_legFault (trips_matrixAssert (trips_within (within_drive _ _ _) rfl h)))

theorem trips_softStartOpen {s t : State} {l : Nat} (h : Trips s t) : Trips s (t.softStartOpen l) := by
  unfold State.softStartOpen
  exact trips_ite' (trips_softStart h) (trips_desatPass (trips_softStart h))

theorem trips_passOpened {s s0 t : State} (h : Trips s t) : Trips s (State.passOpened s0 t) := by
  unfold State.passOpened
  exact trips_forUpTo (fun l u _ hu => trips_ite' hu (trips_desatPass hu)) h

/-- A leg fault latches, whatever the leg did before. -/
theorem legFault_latches (s : State) (l c : Nat) : (s.legFault l c).on (R.GTP_LEG_STAT_fault l) = true := by
  unfold State.legFault
  dsimp only
  split
  · assumption
  · next h =>
    have base : ∀ (u : State) (n : Nat), (((u.putB (R.GTP_LEG_STAT_fault l) true).put (R.GTP_LEG_STAT_first_cause l) n).bump (R.GTP_LEG_CNT_faults l)).on (R.GTP_LEG_STAT_fault l) = true := by
      intro u n
      rw [on_bump_ne _ _ _ (by simp only [R.GTP_LEG_CNT_faults, R.GTP_LEG_CNT, R.GTP_LEG_STAT_fault, R.GTP_LEG_STAT]; omega), on_put_of_apart _ _ _ _ rfl]
      exact on_putB_same _ _ _ (by simp only [R.GTP_LEG_STAT_fault]; omega) (by simp only [R.GTP_LEG_STAT_fault]; omega)
    exact (trips_refreshLeg (trips_softStart (trips_setGleg (trips_refl _)))).2.2 l (base _ _)

/-- A DESAT that passes its gate latches the leg's fault. -/
theorem desatPass_latches (s : State) (l : Nat) : (s.desatPass l).on (R.GTP_LEG_STAT_fault l) = true := by
  unfold State.desatPass
  exact (trips_refreshLeg (trips_refl _)).2.2 l (legFault_latches _ l 1)

end Sys2Proof.Laws
end

