-- ==== Sys2Proof/WellFormed.lean ====
section
/-!
DEFINITION. Which commands are well formed: every index lies in the range that the spec gives it (R5, R9, R37, R39,
R74 and the chapters' tables).
-/

namespace Sys2Proof

/-- The command's operands lie in the ranges that the spec gives. -/
def Instr.wf (i : Instr) : Bool :=
  match i with
  | .resetRelease _ test refs => test < 16 && refs < 8
  | .xinStart => true
  | .sfdpReadDone _ _ cmd _ _ => cmd < 256
  | .synALock counts _ => counts.length == 16
  | .headerCheck _ bytes => bytes.length == 1280
  | .flashReadResume => true
  | .sectionStreamed data _ _ _ => data.length ≤ 16776800
  | .bandSearchDone counts _ => counts.length == 64
  | .trailerVerify _ image trailer => image.length ≤ 16776800 && trailer.length ≤ 416
  | .loadChecksDone => true
  | .fuseProgrammingDone missed => missed < 2 ^ 384
  | .safeReady => true
  | .flashReadPage link requester => link < 4 && requester < 65536
  | .flashProgramPage link requester => link < 4 && requester < 65536
  | .flashErase link requester => link < 4 && requester < 65536
  | .flashVerify link requester slot => link < 4 && requester < 65536 && slot < 2
  | .rebootCommand link requester => link < 4 && requester < 65536
  | .flashCommandDone _ data => data.length ≤ 16777216
  | .rebootReset => true
  | .sessionRequest link requester prio seq body => link < 4 && requester < 65536 && prio < 8 && seq < 256 && body.length ≤ 248
  | .sessionResponse link requester prio seq _ body => link < 4 && requester < 65536 && prio < 8 && seq < 256 && body.length ≤ 248
  | .lockoutExpiry link => link < 4
  | .sessionClose link requester prio seq body => link < 4 && requester < 65536 && prio < 8 && seq < 256 && body.length ≤ 248
  | .sessionIdleTimeout link => link < 4
  | .attestationRequest link requester prio seq body => link < 4 && requester < 65536 && prio < 8 && seq < 256 && body.length ≤ 248
  | .attestationReportDone => true
  | .registerWrite link requester addr _ => link < 4 && requester < 65536 && addr < 2 ^ 32
  | .registerReadClear link requester addr => link < 4 && requester < 65536 && addr < 2 ^ 32
  | .readRequest link requester prio seq body => link < 4 && requester < 65536 && prio < 8 && seq < 256 && body.length ≤ 248
  | .writeRequest link requester prio seq body => link < 4 && requester < 65536 && prio < 8 && seq < 256 && body.length ≤ 248
  | .plantTimeLowRead link requester k => link < 4 && requester < 65536 && k < 4
  | .plantTimeLowWrite link requester k _ => link < 4 && requester < 65536 && k < 4
  | .plantTimeHighWrite link requester k _ => link < 4 && requester < 65536 && k < 4
  | .parameterWrite link sig _ => link < 4 && sig < 4096
  | .lockWindowEnd syn _ => syn < 3
  | .referenceLoss r => r < 3
  | .referenceReturn r => r < 3
  | .hopRequestM p _ => p < 8
  | .hopRequestE p _ => p < 4
  | .hopInstant syn => syn < 2
  | .hopDone syn => syn < 2
  | .hopFail syn => syn < 2
  | .syncArm _ => true
  | .syncEvent _ time => time < 2 ^ 64
  | .conversionDone cv _ _ vref => cv < 16 && 0 < vref
  | .seqEntryWrite cv e _ => cv < 16 && e < 32
  | .frameLatch f _ _ => f < 16
  | .contextReady c => c < 64
  | .pairCheckDue p => p < 8
  | .pairCheck p _ _ _ _ vref => p < 8 && 0 < vref
  | .referenceTest p _ _ vref => p < 8 && 0 < vref
  | .restoreRequest p => p < 8
  | .restoreTest p _ vref => p < 8 && 0 < vref
  | .urgentRequest cv => cv < 16
  | .urgentDone v _ _ vref => v < 16 && 0 < vref
  | .resultSnapshot link requester cv e => link < 4 && requester < 65536 && cv < 16 && e < 32
  | .frameRecordRead link requester cv e => link < 4 && requester < 65536 && cv < 16 && e < 32
  | .thresholdCrossing a _ => a < 128
  | .blankingWindowEnd n => n < 96
  | .domainArm d => d < 4
  | .extTripNFall _ _ => true
  | .readbackTest n _ _ vref => n < 96 && 0 < vref
  | .tieTest n _ _ => n < 96
  | .matrixTest src seen => (src < 240 || src == 504) && seen < 16
  | .winTestDone => true
  | .autoSweepStep => true
  | .routeDelivery src => src < 512
  | .filterExpiry route => route < 4096
  | .routeEntryWrite link requester route _ => link < 4 && requester < 65536 && route < 4096
  | .contextDispatch c => c < 64
  | .nop c _ _ _ => 1 ≤ c && c < 64
  | .ldf c _ _ _ => 1 ≤ c && c < 64
  | .add c _ _ _ => 1 ≤ c && c < 64
  | .sub c _ _ _ => 1 ≤ c && c < 64
  | .mul c _ _ _ => 1 ≤ c && c < 64
  | .mac c _ _ _ => 1 ≤ c && c < 64
  | .neg c _ _ _ => 1 ≤ c && c < 64
  | .abs c _ _ _ => 1 ≤ c && c < 64
  | .min c _ _ _ => 1 ≤ c && c < 64
  | .max c _ _ _ => 1 ≤ c && c < 64
  | .sat c _ _ _ => 1 ≤ c && c < 64
  | .cmp c _ _ _ => 1 ≤ c && c < 64
  | .sel c _ _ _ => 1 ≤ c && c < 64
  | .sos c _ _ _ => 1 ≤ c && c < 64
  | .sched c _ _ _ => 1 ≤ c && c < 64
  | .minsel c _ _ _ => 1 ≤ c && c < 64
  | .clarke c _ _ _ => 1 ≤ c && c < 64
  | .rot c _ _ _ => 1 ≤ c && c < 64
  | .irot c _ _ _ => 1 ≤ c && c < 64
  | .div c _ _ _ => 1 ≤ c && c < 64
  | .sqrt c _ _ _ => 1 ≤ c && c < 64
  | .track c _ _ _ => 1 ≤ c && c < 64
  | .out c _ _ _ => 1 ≤ c && c < 64
  | .evt c _ _ _ => 1 ≤ c && c < 64
  | .reservedOpcode c _ _ _ => 1 ≤ c && c < 64
  | .contextCommit c => c < 64
  | .commitQueueRoom c => c < 64
  | .commitPoint c => 1 ≤ c && c < 64
  | .contextEnableWrite c _ => 1 ≤ c && c < 64
  | .scrubRead store err => store < 7 && err < 3
  | .eccWriteBack => true
  | .gridUpdate => true
  | .tripCurveExpiry c k => c < 6 && k < 16
  | .rideExit => true
  | .passiveTimerExpiry m => m < 3
  | .gsInstant => true
  | .gridWrite a _ => a < 2 ^ 32
  | .sprinklePeriodStart => true
  | .carrierWrap g => g < 8
  | .commitQueueDrain q => q < 4
  | .commandEdge l _ => l < 48
  | .deadTimeExpiry l => l < 48
  | .interlockTimeout l => l < 48
  | .fbComparatorChange port _ frac => port < 96 && frac < 128
  | .nodeComparatorChange l _ frac => l < 48 && frac < 128
  | .calibrationMeasurement taps => 96 ≤ taps && taps ≤ 160
  | .modClockStop => true
  | .statFrame l levels => l < 48 && levels.length ≤ 64
  | .statFrameMissing l => l < 48
  | .desatAssert l _ => l < 48
  | .blankingEnd l => l < 48
  | .nodeWatchdogTimeout l _ => l < 48
  | .finalStep l => l < 48
  | .ringStopped => true
  | .ringCalibration cycles => cycles < 65536
  | .tripAssistEnd c d => c < 2 && d < 4
  | .meteringSample codes => codes.length == 8 && codes.all (fun c => decide (-8388608 ≤ c) && decide (c ≤ 8388607))
  | .snapshotTake l => l < 4
  | .checkpoint => true
  | .demandClose => true
  | .pulseInputSample levels => levels < 16
  | .pulseOutputTimer k => k < 2
  | .exportLimit => true
  | .modeRequest m => m < 8
  | .auxOnRequest k => 8 ≤ k && k < 16
  | .auxOffRequest k => 8 ≤ k && k < 16
  | .sequencerStep kind => kind < 5
  | .seqTimerExpiry t => t < 32
  | .glazeApplicationDone => true
  | .hello p _ role port id level => p < 4 && role < 4 && port < 4 && id < 65536 && level < 256
  | .alignment p => p < 8
  | .alignRestart p => p < 4
  | .linkDown p _ => p < 4
  | .losAssert p _ => p < 4
  | .probe p _ => 1 ≤ p && p < 4
  | .echoSend p => 1 ≤ p && p < 4
  | .echo _ _ => true
  | .echoTimeout => true
  | .periodicProbe => true
  | .timeMarkSend => true
  | .timeMark _ _ value _ => value < 2 ^ 64
  | .markTimeout _ => true
  | .fabTimeWrite t => t < 2 ^ 64
  | .tripSetReceived p _ origin seq => p < 4 && origin < 65536 && seq < 256
  | .statusSend => true
  | .statusReceived p _ bits => 1 ≤ p && p < 4 && bits < 2 ^ 40
  | .barrierEnter n => n < 256
  | .barrierArrive p _ n => 1 ≤ p && p < 4 && n < 256
  | .barrierRelease _ n => n < 256
  | .packetReceived p _ bytes => p < 4 && 12 ≤ bytes.length
  | .scheduledOperation src op id t arg0 arg1 => src < 65536 && op < 256 && id < 256 && t < 2 ^ 64 && arg0 < 2 ^ 32 && arg1 < 2 ^ 32
  | .scheduledSnapshot => true
  | .scheduledSetpoint => true
  | .scheduledPlanHop => true
  | .plantReset => true
  | .schedTxGo link requester => link < 4 && requester < 65536
  | .sprinkleAssignment src code share => src < 65536 && code < 256 && share < 65536
  | .twinHeartbeat l _ role pst mode _ pairId _ => l < 4 && role < 4 && pst < 8 && mode < 8 && pairId < 2 ^ 32
  | .twinLaneDown l => l < 4
  | .twinStart => true
  | .crossTripReceived mask => mask < 16
  | .mirrorEntryReceived _ f k sig _ => f < 16 && k < 2 ^ 32 && sig < 4096
  | .twinControlRequest _ kind a => kind < 7 && a.length ≤ 16
  | .twinGo _ t => t < 2 ^ 64
  | .repair => true
  | .canFrameReceived ch fd _ remote id data => ch < 2 && id < 2 ^ 29 && (if remote then !fd && data.length == 0 else if fd then ([0, 1, 2, 3, 4, 5, 6, 7, 8, 12, 16, 20, 24, 32, 48, 64] : List Nat).contains data.length else data.length ≤ 8)
  | .canFrameSent ch loop => ch < 2 && loop < 128
  | .ackError ch => ch < 2
  | .busOff ch => ch < 2
  | .recover ch => ch < 2
  | .busOffRecoveryDone ch => ch < 2
  | .aloneRetry ch => ch < 2
  | .canEvent k => k < 8
  | .supplyChangeover _ _ => true
  | .coldStartHandover _ _ => true
  | .openCircuitMeasure _ => true
  | .aonDomainStart _ _ _ => true
  | .burstRequest kind n _ => kind < 4 && 1 ≤ n && n ≤ 32
  | .inventory flags afi len mask _ => flags < 256 && afi < 256 && len ≤ 64 && mask < 2 ^ 64
  | .stayQuiet flags uid _ => flags < 256 && uid < 2 ^ 64
  | .readSingleBlock flags uid b _ => flags < 256 && uid < 2 ^ 64 && b < 65536
  | .readMultipleBlocks flags uid b n _ => flags < 256 && uid < 2 ^ 64 && b < 65536 && n < 256
  | .getSystemInformation flags uid _ => flags < 256 && uid < 2 ^ 64
  | .rfUnsupportedCommand flags uid cmd _ => flags < 256 && uid < 2 ^ 64 && cmd < 256
  | .checkpointCommit => true
  | .logCommit _ => true
  | .tamperSample levels _ _ => levels < 16
  | .rtcWrite link requester sec => link < 4 && requester < 65536 && sec < 2 ^ 32
  | .obsSnapTake link requester => link < 4 && requester < 65536
  | .counterClear link requester => link < 4 && requester < 65536
  | .preciseSampleDrain => true
  | .preciseSampleRead link requester entry => link < 4 && requester < 65536 && entry < 1024
  | .recordArm link requester => link < 4 && requester < 65536
  | .recordDisarm link requester => link < 4 && requester < 65536
  | .periodicDump => true
  | .clockStopTest link requester => link < 4 && requester < 65536
  | .clockStopAbort link requester => link < 4 && requester < 65536
  | .powerDownDone => true
  | .clockTestOffEnd _ => true
  | .halt link requester => link < 4 && requester < 65536
  | .engineStep link requester c => link < 4 && requester < 65536 && 1 ≤ c && c < 64
  | .haltClear link requester => link < 4 && requester < 65536
  | .idcode => true
  | .samplePreload _ => true
  | .extest => true
  | .extestPulse => true
  | .extestTrain => true
  | .clamp => true
  | .highz => true
  | .bypass ir => ir < 256 && (ir == 0 || 8 ≤ ir) && ir != 16
  | .debugAccess data => data < 2 ^ 72
  | .resetAssert _ => true
  | .resetNPulse _ => true
  | .railBelowReset r => r < 6
  | .supplyWarn r => r < 6
  | .railGood r => r < 6
  | .sessionVerificationDone => true
  | .domainLosesPower _ _ => true
  | .rfFieldLost => true
  | .canError ch kind => ch < 2 && kind < 4
  | .helloSend p => p < 4
  | .heartbeatSend => true
  | .twinQueueRoom q => q == 22 || q == 24

end Sys2Proof
end

