-- ==== Sys2Proof/Tests/Slice0.lean ====
section
/-! SUPPORT. Ill-formed terms that WellFormed refuses, one for each check, and for each statement with hypotheses a state and operands that
meet them, with single commands on small states as checks.
-/

namespace Sys2Proof.Tests

open Sys2Proof.Machine

set_option Elab.async false

/-- A device that runs, with everything else as after reset. -/
def base : State := { State.reset with boot := { State.reset.boot with stage := .running } }

/-- `base` with some fields set. -/
def up (l : List (Fld × Nat)) : State := l.foldl (fun s p => s.put p.1 p.2) base

/-- The state after a command. -/
def after (c : Instr) (s : State) : State :=
  match exec c s with
  | .next t => t
  | _ => s

/-- The state of `s` with the loader at stage `g`. -/
def atStage (g : BootStage) (s : State) : State := { s with boot := { s.boot with stage := g } }

/-! ### Ill-formed commands: one for each check of Instr.wf, each refused -/

theorem test_wf_refuses_0 :
    ([
      .resetRelease false 16 0,
      .resetRelease false 0 8,
      .sfdpReadDone false 0 256 0 0,
      .synALock [] [],
      .headerCheck false [],
      .bandSearchDone [] false,
      .fuseProgrammingDone (2 ^ 192 * 2 ^ 192),
      .flashReadPage 4 0,
      .flashReadPage 0 65536,
      .flashProgramPage 4 0,
      .flashProgramPage 0 65536,
      .flashErase 4 0,
      .flashErase 0 65536,
      .flashVerify 4 0 0,
      .flashVerify 0 65536 0,
      .flashVerify 0 0 2,
      .rebootCommand 4 0,
      .rebootCommand 0 65536,
      .sessionRequest 4 0 0 0 [],
      .sessionRequest 0 65536 0 0 [],
      .sessionRequest 0 0 8 0 [],
      .sessionRequest 0 0 0 256 [],
      .sessionResponse 4 0 0 0 false [],
      .sessionResponse 0 65536 0 0 false []] : List Instr).all (fun i => !i.wf) = true := by decide

theorem test_wf_refuses_1 :
    ([
      .sessionResponse 0 0 8 0 false [],
      .sessionResponse 0 0 0 256 false [],
      .lockoutExpiry 4,
      .sessionClose 4 0 0 0 [],
      .sessionClose 0 65536 0 0 [],
      .sessionClose 0 0 8 0 [],
      .sessionClose 0 0 0 256 [],
      .sessionIdleTimeout 4,
      .attestationRequest 4 0 0 0 [],
      .attestationRequest 0 65536 0 0 [],
      .attestationRequest 0 0 8 0 [],
      .attestationRequest 0 0 0 256 [],
      .registerWrite 4 0 0 0,
      .registerWrite 0 65536 0 0,
      .registerWrite 0 0 (2 ^ 32) 0,
      .registerReadClear 4 0 0,
      .registerReadClear 0 65536 0,
      .registerReadClear 0 0 (2 ^ 32),
      .readRequest 4 0 0 0 [],
      .readRequest 0 65536 0 0 [],
      .readRequest 0 0 8 0 [],
      .readRequest 0 0 0 256 [],
      .writeRequest 4 0 0 0 [],
      .writeRequest 0 65536 0 0 []] : List Instr).all (fun i => !i.wf) = true := by decide

theorem test_wf_refuses_2 :
    ([
      .writeRequest 0 0 8 0 [],
      .writeRequest 0 0 0 256 [],
      .plantTimeLowRead 4 0 0,
      .plantTimeLowRead 0 65536 0,
      .plantTimeLowRead 0 0 4,
      .plantTimeLowWrite 4 0 0 0,
      .plantTimeLowWrite 0 65536 0 0,
      .plantTimeLowWrite 0 0 4 0,
      .plantTimeHighWrite 4 0 0 0,
      .plantTimeHighWrite 0 65536 0 0,
      .plantTimeHighWrite 0 0 4 0,
      .parameterWrite 4 0 0,
      .parameterWrite 0 4096 0,
      .lockWindowEnd 3 0,
      .referenceLoss 3,
      .referenceReturn 3,
      .hopRequestM 8 false,
      .hopRequestE 4 false,
      .hopInstant 2,
      .hopDone 2,
      .hopFail 2,
      .syncEvent false (2 ^ 64),
      .conversionDone 16 0 0 1,
      .conversionDone 0 0 0 0] : List Instr).all (fun i => !i.wf) = true := by decide

theorem test_wf_refuses_3 :
    ([
      .seqEntryWrite 16 0 0,
      .seqEntryWrite 0 32 0,
      .frameLatch 16 [] [],
      .contextReady 64,
      .pairCheckDue 8,
      .pairCheck 8 0 0 0 0 1,
      .pairCheck 0 0 0 0 0 0,
      .referenceTest 8 0 0 1,
      .referenceTest 0 0 0 0,
      .restoreRequest 8,
      .restoreTest 8 0 1,
      .restoreTest 0 0 0,
      .urgentRequest 16,
      .urgentDone 16 0 0 1,
      .urgentDone 0 0 0 0,
      .resultSnapshot 4 0 0 0,
      .resultSnapshot 0 65536 0 0,
      .resultSnapshot 0 0 16 0,
      .resultSnapshot 0 0 0 32,
      .frameRecordRead 4 0 0 0,
      .frameRecordRead 0 65536 0 0,
      .frameRecordRead 0 0 16 0,
      .frameRecordRead 0 0 0 32,
      .thresholdCrossing 128 0] : List Instr).all (fun i => !i.wf) = true := by decide

theorem test_wf_refuses_4 :
    ([
      .blankingWindowEnd 96,
      .domainArm 4,
      .readbackTest 96 0 0 1,
      .readbackTest 0 0 0 0,
      .tieTest 96 false false,
      .matrixTest 240 0,
      .matrixTest 503 0,
      .matrixTest 505 0,
      .matrixTest 0 16,
      .routeDelivery 512,
      .filterExpiry 4096,
      .routeEntryWrite 4 0 0 0,
      .routeEntryWrite 0 65536 0 0,
      .routeEntryWrite 0 0 4096 0,
      .contextDispatch 64,
      .nop 0 0 [] [],
      .nop 64 0 [] [],
      .ldf 0 0 [] [],
      .ldf 64 0 [] [],
      .add 0 0 [] [],
      .add 64 0 [] [],
      .sub 0 0 [] [],
      .sub 64 0 [] [],
      .mul 0 0 [] []] : List Instr).all (fun i => !i.wf) = true := by decide

theorem test_wf_refuses_5 :
    ([
      .mul 64 0 [] [],
      .mac 0 0 [] [],
      .mac 64 0 [] [],
      .neg 0 0 [] [],
      .neg 64 0 [] [],
      .abs 0 0 [] [],
      .abs 64 0 [] [],
      .min 0 0 [] [],
      .min 64 0 [] [],
      .max 0 0 [] [],
      .max 64 0 [] [],
      .sat 0 0 [] [],
      .sat 64 0 [] [],
      .cmp 0 0 [] [],
      .cmp 64 0 [] [],
      .sel 0 0 [] [],
      .sel 64 0 [] [],
      .sos 0 0 [] [],
      .sos 64 0 [] [],
      .sched 0 0 [] [],
      .sched 64 0 [] [],
      .minsel 0 0 [] [],
      .minsel 64 0 [] [],
      .clarke 0 0 [] []] : List Instr).all (fun i => !i.wf) = true := by decide

theorem test_wf_refuses_6 :
    ([
      .clarke 64 0 [] [],
      .rot 0 0 [] [],
      .rot 64 0 [] [],
      .irot 0 0 [] [],
      .irot 64 0 [] [],
      .div 0 0 [] [],
      .div 64 0 [] [],
      .sqrt 0 0 [] [],
      .sqrt 64 0 [] [],
      .track 0 0 [] [],
      .track 64 0 [] [],
      .out 0 0 [] [],
      .out 64 0 [] [],
      .evt 0 0 [] [],
      .evt 64 0 [] [],
      .reservedOpcode 0 0 [] [],
      .reservedOpcode 64 0 [] [],
      .contextCommit 64,
      .commitQueueRoom 64,
      .commitPoint 0,
      .commitPoint 64,
      .contextEnableWrite 0 false,
      .contextEnableWrite 64 false,
      .scrubRead 7 0] : List Instr).all (fun i => !i.wf) = true := by decide

theorem test_wf_refuses_7 :
    ([
      .scrubRead 0 3,
      .tripCurveExpiry 6 0,
      .tripCurveExpiry 0 16,
      .passiveTimerExpiry 3,
      .gridWrite (2 ^ 32) 0,
      .carrierWrap 8,
      .commitQueueDrain 4,
      .commandEdge 48 false,
      .deadTimeExpiry 48,
      .interlockTimeout 48,
      .fbComparatorChange 96 0 0,
      .fbComparatorChange 0 0 128,
      .nodeComparatorChange 48 0 0,
      .nodeComparatorChange 0 0 128,
      .calibrationMeasurement 95,
      .calibrationMeasurement 161,
      .statFrame 48 [],
      .statFrame 0 (List.replicate 65 0),
      .statFrameMissing 48,
      .desatAssert 48 false,
      .blankingEnd 48,
      .nodeWatchdogTimeout 48 false,
      .finalStep 48,
      .ringCalibration 65536] : List Instr).all (fun i => !i.wf) = true := by decide

theorem test_wf_refuses_8 :
    ([
      .tripAssistEnd 2 0,
      .tripAssistEnd 0 4,
      .meteringSample (8388608 :: List.replicate 7 0),
      .meteringSample (-8388609 :: List.replicate 7 0),
      .meteringSample [],
      .snapshotTake 4,
      .pulseInputSample 16,
      .pulseOutputTimer 2,
      .modeRequest 8,
      .auxOnRequest 7,
      .auxOnRequest 16,
      .auxOffRequest 7,
      .auxOffRequest 16,
      .sequencerStep 5,
      .seqTimerExpiry 32,
      .hello 4 0 0 0 0 0,
      .hello 0 0 4 0 0 0,
      .hello 0 0 0 4 0 0,
      .hello 0 0 0 0 65536 0,
      .hello 0 0 0 0 0 256,
      .alignment 8,
      .alignRestart 4,
      .linkDown 4 0,
      .losAssert 4 false] : List Instr).all (fun i => !i.wf) = true := by decide

theorem test_wf_refuses_9 :
    ([
      .probe 0 0,
      .probe 4 0,
      .echoSend 0,
      .echoSend 4,
      .timeMark false 0 (2 ^ 64) false,
      .fabTimeWrite (2 ^ 64),
      .tripSetReceived 4 0 0 0,
      .tripSetReceived 0 0 65536 0,
      .tripSetReceived 0 0 0 256,
      .statusReceived 0 0 0,
      .statusReceived 4 0 0,
      .statusReceived 1 0 (2 ^ 40),
      .barrierEnter 256,
      .barrierArrive 0 0 0,
      .barrierArrive 4 0 0,
      .barrierArrive 1 0 256,
      .barrierRelease 0 256,
      .packetReceived 4 0 (List.replicate 12 0),
      .packetReceived 0 0 (List.replicate 11 0),
      .scheduledOperation 65536 0 0 0 0 0,
      .scheduledOperation 0 256 0 0 0 0,
      .scheduledOperation 0 0 256 0 0 0,
      .scheduledOperation 0 0 0 (2 ^ 64) 0 0,
      .scheduledOperation 0 0 0 0 (2 ^ 32) 0] : List Instr).all (fun i => !i.wf) = true := by decide

theorem test_wf_refuses_10 :
    ([
      .scheduledOperation 0 0 0 0 0 (2 ^ 32),
      .schedTxGo 4 0,
      .schedTxGo 0 65536,
      .sprinkleAssignment 65536 0 0,
      .sprinkleAssignment 0 256 0,
      .sprinkleAssignment 0 0 65536,
      .twinHeartbeat 4 false 0 0 0 false 0 0,
      .twinHeartbeat 0 false 4 0 0 false 0 0,
      .twinHeartbeat 0 false 0 8 0 false 0 0,
      .twinHeartbeat 0 false 0 0 8 false 0 0,
      .twinHeartbeat 0 false 0 0 0 false (2 ^ 32) 0,
      .twinLaneDown 4,
      .crossTripReceived 16,
      .mirrorEntryReceived false 16 0 0 0,
      .mirrorEntryReceived false 0 (2 ^ 32) 0 0,
      .mirrorEntryReceived false 0 0 4096 0,
      .twinControlRequest false 7 [],
      .twinControlRequest false 0 (List.replicate 17 0),
      .twinGo false (2 ^ 64),
      .canFrameReceived 0 true false false 0 (List.replicate 9 0),
      .canFrameReceived 0 false false false 0 (List.replicate 9 0),
      .canFrameReceived 0 true false true 0 [],
      .canFrameReceived 0 false false true 0 [0],
      .canFrameReceived 2 false false false 0 []] : List Instr).all (fun i => !i.wf) = true := by decide

theorem test_wf_refuses_11 :
    ([
      .canFrameReceived 0 false false false (2 ^ 29) [],
      .canFrameSent 2 0,
      .canFrameSent 0 128,
      .ackError 2,
      .busOff 2,
      .recover 2,
      .busOffRecoveryDone 2,
      .aloneRetry 2,
      .canEvent 8,
      .burstRequest 4 1 0,
      .burstRequest 0 0 0,
      .burstRequest 0 33 0,
      .inventory 256 0 0 0 0,
      .inventory 0 256 0 0 0,
      .inventory 0 0 65 0 0,
      .inventory 0 0 0 (2 ^ 64) 0,
      .stayQuiet 256 0 0,
      .stayQuiet 0 (2 ^ 64) 0,
      .readSingleBlock 256 0 0 0,
      .readSingleBlock 0 (2 ^ 64) 0 0,
      .readSingleBlock 0 0 65536 0,
      .readMultipleBlocks 256 0 0 0 0,
      .readMultipleBlocks 0 (2 ^ 64) 0 0 0,
      .readMultipleBlocks 0 0 65536 0 0] : List Instr).all (fun i => !i.wf) = true := by decide

theorem test_wf_refuses_12 :
    ([
      .readMultipleBlocks 0 0 0 256 0,
      .getSystemInformation 256 0 0,
      .getSystemInformation 0 (2 ^ 64) 0,
      .rfUnsupportedCommand 256 0 0 0,
      .rfUnsupportedCommand 0 (2 ^ 64) 0 0,
      .rfUnsupportedCommand 0 0 256 0,
      .tamperSample 16 0 false,
      .rtcWrite 4 0 0,
      .rtcWrite 0 65536 0,
      .rtcWrite 0 0 (2 ^ 32),
      .obsSnapTake 4 0,
      .obsSnapTake 0 65536,
      .counterClear 4 0,
      .counterClear 0 65536,
      .preciseSampleRead 4 0 0,
      .preciseSampleRead 0 65536 0,
      .preciseSampleRead 0 0 1024,
      .recordArm 4 0,
      .recordArm 0 65536,
      .recordDisarm 4 0,
      .recordDisarm 0 65536,
      .clockStopTest 4 0,
      .clockStopTest 0 65536,
      .clockStopAbort 4 0] : List Instr).all (fun i => !i.wf) = true := by decide

theorem test_wf_refuses_13 :
    ([
      .clockStopAbort 0 65536,
      .halt 4 0,
      .halt 0 65536,
      .engineStep 4 0 1,
      .engineStep 0 65536 1,
      .engineStep 0 0 0,
      .engineStep 0 0 64,
      .haltClear 4 0,
      .haltClear 0 65536,
      .bypass 256,
      .bypass 7,
      .bypass 1,
      .bypass 16,
      .debugAccess (2 ^ 72),
      .railBelowReset 6,
      .supplyWarn 6,
      .railGood 6,
      .canError 2 0,
      .canError 0 4,
      .helloSend 4,
      .twinQueueRoom 23,
      .twinQueueRoom 21] : List Instr).all (fun i => !i.wf) = true := by decide

theorem test_wf_refuses_long :
    Instr.wf (.sectionStreamed (List.replicate 16776801 0) 0 false false) = false ∧
      Instr.wf (.trailerVerify false (List.replicate 16776801 0) []) = false ∧
      Instr.wf (.trailerVerify false [] (List.replicate 417 0)) = false ∧
      Instr.wf (.flashCommandDone false (List.replicate 16777217 0)) = false ∧
      Instr.wf (.sessionRequest 0 0 0 0 (List.replicate 249 0)) = false ∧
      Instr.wf (.sessionResponse 0 0 0 0 false (List.replicate 249 0)) = false ∧
      Instr.wf (.sessionClose 0 0 0 0 (List.replicate 249 0)) = false ∧
      Instr.wf (.attestationRequest 0 0 0 0 (List.replicate 249 0)) = false ∧
      Instr.wf (.readRequest 0 0 0 0 (List.replicate 249 0)) = false ∧
      Instr.wf (.writeRequest 0 0 0 0 (List.replicate 249 0)) = false := by
  simp only [Instr.wf, List.length_replicate]
  decide

theorem test_wf_takes_0 :
    ([
      .resetRelease false 0 0,
      .sfdpReadDone false 0 0 0 0,
      .synALock (List.replicate 16 0) [],
      .sectionStreamed [] 0 false false,
      .bandSearchDone (List.replicate 64 0) false,
      .trailerVerify false [] [],
      .fuseProgrammingDone 0,
      .flashReadPage 0 0,
      .flashProgramPage 0 0,
      .flashErase 0 0,
      .flashVerify 0 0 0,
      .rebootCommand 0 0,
      .flashCommandDone false [],
      .sessionRequest 0 0 0 0 [],
      .sessionResponse 0 0 0 0 false [],
      .lockoutExpiry 0,
      .sessionClose 0 0 0 0 [],
      .sessionIdleTimeout 0,
      .attestationRequest 0 0 0 0 [],
      .registerWrite 0 0 0 0,
      .registerReadClear 0 0 0,
      .readRequest 0 0 0 0 [],
      .writeRequest 0 0 0 0 [],
      .plantTimeLowRead 0 0 0,
      .plantTimeLowWrite 0 0 0 0,
      .plantTimeHighWrite 0 0 0 0,
      .parameterWrite 0 0 0,
      .lockWindowEnd 0 0,
      .referenceLoss 0,
      .referenceReturn 0,
      .hopRequestM 0 false,
      .hopRequestE 0 false] : List Instr).all Instr.wf = true := by decide

theorem test_wf_takes_1 :
    ([
      .hopInstant 0,
      .hopDone 0,
      .hopFail 0,
      .syncEvent false 0,
      .conversionDone 0 0 0 1,
      .seqEntryWrite 0 0 0,
      .frameLatch 0 [] [],
      .contextReady 0,
      .pairCheckDue 0,
      .pairCheck 0 0 0 0 0 1,
      .referenceTest 0 0 0 1,
      .restoreRequest 0,
      .restoreTest 0 0 1,
      .urgentRequest 0,
      .urgentDone 0 0 0 1,
      .resultSnapshot 0 0 0 0,
      .frameRecordRead 0 0 0 0,
      .thresholdCrossing 0 0,
      .blankingWindowEnd 0,
      .domainArm 0,
      .readbackTest 0 0 0 1,
      .tieTest 0 false false,
      .matrixTest 0 0,
      .routeDelivery 0,
      .filterExpiry 0,
      .routeEntryWrite 0 0 0 0,
      .contextDispatch 0,
      .nop 1 0 [] [],
      .ldf 1 0 [] [],
      .add 1 0 [] [],
      .sub 1 0 [] [],
      .mul 1 0 [] []] : List Instr).all Instr.wf = true := by decide

theorem test_wf_takes_2 :
    ([
      .mac 1 0 [] [],
      .neg 1 0 [] [],
      .abs 1 0 [] [],
      .min 1 0 [] [],
      .max 1 0 [] [],
      .sat 1 0 [] [],
      .cmp 1 0 [] [],
      .sel 1 0 [] [],
      .sos 1 0 [] [],
      .sched 1 0 [] [],
      .minsel 1 0 [] [],
      .clarke 1 0 [] [],
      .rot 1 0 [] [],
      .irot 1 0 [] [],
      .div 1 0 [] [],
      .sqrt 1 0 [] [],
      .track 1 0 [] [],
      .out 1 0 [] [],
      .evt 1 0 [] [],
      .reservedOpcode 1 0 [] [],
      .contextCommit 0,
      .commitQueueRoom 0,
      .commitPoint 1,
      .contextEnableWrite 1 false,
      .scrubRead 0 0,
      .tripCurveExpiry 0 0,
      .passiveTimerExpiry 0,
      .gridWrite 0 0,
      .carrierWrap 0,
      .commitQueueDrain 0,
      .commandEdge 0 false,
      .deadTimeExpiry 0] : List Instr).all Instr.wf = true := by decide

theorem test_wf_takes_3 :
    ([
      .interlockTimeout 0,
      .fbComparatorChange 0 0 0,
      .nodeComparatorChange 0 0 0,
      .calibrationMeasurement 96,
      .statFrame 0 [],
      .statFrameMissing 0,
      .desatAssert 0 false,
      .blankingEnd 0,
      .nodeWatchdogTimeout 0 false,
      .finalStep 0,
      .ringCalibration 0,
      .tripAssistEnd 0 0,
      .meteringSample (List.replicate 8 0),
      .snapshotTake 0,
      .pulseInputSample 0,
      .pulseOutputTimer 0,
      .modeRequest 0,
      .auxOnRequest 8,
      .auxOffRequest 8,
      .sequencerStep 0,
      .seqTimerExpiry 0,
      .hello 0 0 0 0 0 0,
      .alignment 0,
      .alignRestart 0,
      .linkDown 0 0,
      .losAssert 0 false,
      .probe 1 0,
      .echoSend 1,
      .timeMark false 0 0 false,
      .fabTimeWrite 0,
      .tripSetReceived 0 0 0 0,
      .statusReceived 1 0 0] : List Instr).all Instr.wf = true := by decide

theorem test_wf_takes_4 :
    ([
      .barrierEnter 0,
      .barrierArrive 1 0 0,
      .barrierRelease 0 0,
      .packetReceived 0 0 (List.replicate 12 0),
      .scheduledOperation 0 0 0 0 0 0,
      .schedTxGo 0 0,
      .sprinkleAssignment 0 0 0,
      .twinHeartbeat 0 false 0 0 0 false 0 0,
      .twinLaneDown 0,
      .crossTripReceived 0,
      .mirrorEntryReceived false 0 0 0 0,
      .twinControlRequest false 0 [],
      .twinGo false 0,
      .canFrameReceived 0 false false false 0 [],
      .canFrameSent 0 0,
      .ackError 0,
      .busOff 0,
      .recover 0,
      .busOffRecoveryDone 0,
      .aloneRetry 0,
      .canEvent 0,
      .burstRequest 0 1 0,
      .inventory 0 0 0 0 0,
      .stayQuiet 0 0 0,
      .readSingleBlock 0 0 0 0,
      .readMultipleBlocks 0 0 0 0 0,
      .getSystemInformation 0 0 0,
      .rfUnsupportedCommand 0 0 0 0,
      .tamperSample 0 0 false,
      .rtcWrite 0 0 0,
      .obsSnapTake 0 0,
      .counterClear 0 0] : List Instr).all Instr.wf = true := by decide

theorem test_wf_takes_5 :
    ([
      .preciseSampleRead 0 0 0,
      .recordArm 0 0,
      .recordDisarm 0 0,
      .clockStopTest 0 0,
      .clockStopAbort 0 0,
      .halt 0 0,
      .engineStep 0 0 1,
      .haltClear 0 0,
      .bypass 0,
      .debugAccess 0,
      .railBelowReset 0,
      .supplyWarn 0,
      .railGood 0,
      .canError 0 0,
      .helloSend 0,
      .twinQueueRoom 22] : List Instr).all Instr.wf = true := by decide

theorem test_wf_takes_long_0 : Instr.wf (.headerCheck false (List.replicate 1280 0)) = true := by
  simp only [Instr.wf, List.length_replicate]
  decide

/-! ### Witnesses: states and operands that meet the hypotheses of each statement, clause by clause -/

theorem witness_QueueFrontRuns :
    ({ base with pending := [Instr.idcode, .halt 3 0] }).pending = Instr.idcode :: [.halt 3 0] ∧ base.pending = []
      ∧ step { base with pending := [Instr.idcode, .halt 3 0] } = exec .idcode { base with pending := [.halt 3 0] } := ⟨rfl, rfl, by simp only [step, State.popped, List.tail_cons]⟩

theorem witness_StepsGoOnAndKeepTheForm : (up [(R.ACQ_SEQ_CTL_len 15, 32)]).wf = true := by decide

/-- The stages and pins that the clauses name, with a reset that is extended and one that is not. -/
theorem witness_ResetPinsAndRails :
    base.pins.extended = false ∧ base.boot.stage ≠ .waitFuses ∧ (atStage .running { base with boot := { base.boot with rebootScheduled := true } }).boot.rebootScheduled = true
      ∧ (after (.resetAssert true) base).boot.stage = .inReset ∧ (after (.resetNPulse 1000) base).boot.stage = .inReset
      ∧ (after .xinStart base).pins.xin = true ∧ tnum (after (.railGood 5) { base with clk := { elapsed := 9 } }).pins.goodAt 5 = 9
      ∧ (after (.railBelowReset 5) base).pins.extended = false ∧ (after (.resetNPulse 99) base) = base
      ∧ ({ base with pins := { base.pins with extended := true } }).pins.extended = true
      ∧ (after (.railBelowReset 0) { base with pins := { base.pins with extended := true } }).pin (.gh 47) = .pulledLow
      ∧ (after .rebootReset { base with pins := { base.pins with extended := true } }) = { base with pins := { base.pins with extended := true } }
      ∧ tbit (after (.railGood 5) base).pins.rails 5 = true ∧ tbit (after (.supplyWarn 5) base).evr.pulse 507 = true := by decide +kernel

/-- A device in reset whose always-on domain runs, all rails good for 2 ms. -/
def coldReady : State := { State.reset with aon := { State.reset.aon with powered := true }, pins := { State.reset.pins with rails := (List.range 6).map (fun r => (r, true)) }, clk := { elapsed := 16000000 } }

/-- A header with one PLANS section. -/
def goodHeader : List Byte :=
  [0x54, 0x47, 0x49, 0x4D, 1, 0, 0x96, 0x48, 0x11, 0, 0, 0, 0x14, 1, 0, 0, 1, 0, 0, 0] ++ List.replicate 236 0
    ++ [1, 0, 0, 0, 0x10, 1, 0, 0, 4, 0, 0, 0, 0, 0, 0, 0] ++ List.replicate 1008 0

theorem witness_BootStartsAndStreams :
    coldReady.boot.stage = .inReset ∧ coldReady.pins.extended = false ∧ coldReady.aon.powered = true
      ∧ (List.range 6).all (fun r => tbit coldReady.pins.rails r && decide (tnum coldReady.pins.goodAt r + 16000000 ≤ coldReady.clk.elapsed)) = true
      ∧ (after (.resetRelease true 0 7) { coldReady with clk := { elapsed := 15999999 } }).boot.stage = .inReset
      ∧ (after (.resetRelease true 0 7) coldReady).boot.stage = .waitSfdp ∧ (after (.resetRelease true 15 7) coldReady).boot.stage = .inReset
      ∧ (after (.sfdpReadDone false 0 0 0 0) (after (.resetRelease true 0 1) coldReady)).boot.readCmd = 0x6C
      ∧ (after (.resetRelease true 0 7) { coldReady with aon := { coldReady.aon with q31 := [(1, 0, 0, true), (2, 0, 0, false)] } }).get R.AON_RF_CNT_errors = 1 := by decide

/-- Sixteen rising counts of SYN_A's search, of which the eighth is the last not above 128 N = 12,288. -/
def countsA : List Nat := (List.range 16).map (fun k => 12000 + 40 * k)

theorem witness_BootStartsAndStreams_synA :
    countsA.length = 16 ∧ (atStage .waitSynA base).boot.stage = .waitSynA ∧ (countsA.zip (countsA.drop 1)).all (fun p => decide (p.1 ≤ p.2)) = true
      ∧ (atStage .waitSynA base).locksOn 2 [150, 192, 191] = true ∧ (atStage .waitSynA base).locksOn 2 [192, 150, 192] = false
      ∧ (after (.synALock countsA [150, 192, 191]) (atStage .waitSynA base)).boot.stage = .waitHeader
      ∧ (after (.synALock countsA [150, 192, 191]) (atStage .waitSynA base)).clk.bandA = 7 := by decide +kernel

theorem witness_BootStartsAndStreams_header :
    goodHeader.length = 1280 ∧ headerFault 0 none 0 goodHeader = none
      ∧ (after (.headerCheck true goodHeader) (atStage .waitHeader base)).boot.stage = .streaming := by decide +kernel

/-- A loader that streams its one section. -/
def streaming : State := { base with boot := { base.boot with stage := .streaming, sections := [{ type := 10, offset := 0x110, length := 4 }], searches := [(11, 1000 * 2 ^ 20)] } }

theorem witness_SlotsStreamOrFallBack :
    headerFault 0 none 0 (List.replicate 1280 0) = some (1, 0)
      ∧ (after (.headerCheck true (List.replicate 1280 0)) (atStage .waitHeader base)).boot.slot = 1
      ∧ (after (.headerCheck false (List.replicate 1280 0)) (atStage .waitHeader { base with boot := { base.boot with slot := 1 } })).boot.stage = .noImage := by
  decide +kernel

theorem witness_SlotsStreamOrFallBack_stream :
    streaming.boot.nextSection < streaming.boot.sections.length ∧ streaming.boot.flashStopped = false
      ∧ (after (.sectionStreamed [] 0 false false) streaming).boot.slot = 1 ∧ (streaming.boot.part ++ (flashWords [0, 0, 0, 1]).flatten).length = 4
      ∧ (after (.sectionStreamed [0, 0, 0, 1] 0 true false) streaming).boot.q28 = [[0, 0, 0, 1]]
      ∧ glazeBad [0, 0, 0, 0] = true ∧ toStore 11 = false ∧ readsBack { type := 11, offset := 0x110, length := 4 } [0, 0, 0, 0] = true
      ∧ bandOf ((List.range 64).map (fun k => 500000 + 200 * k)) (1000 * 2 ^ 20) = 60
      ∧ tget (after (.bandSearchDone ((List.range 64).map (fun k => 500000 + 200 * k)) true) streaming).boot.bands 11 0 = 60 := by decide +kernel

/-- A loader whose section of 132 bytes fills Q28. -/
theorem witness_SlotsStreamOrFallBack_full :
    let s := { streaming with boot := { streaming.boot with sections := [{ type := 10, offset := 0x110, length := 132 }] } }
    let t := after (.sectionStreamed (List.replicate 128 0) 0 true false) s
    (flashWords (List.replicate 128 0)).length = 32 ∧ t.boot.flashStopped = true ∧ t.boot.q28.length = 32
      ∧ (t.boot.part ++ t.boot.q28.headD []).length ≠ 132 ∧ (after .flashReadResume t).boot.q28.length = 31 := by decide +kernel

/-- An integrator's key and its signature of 256 zero bytes, a root key and its signature of the certificate of that key: found from
the signatures by the equation that verification checks. -/
def chainTrailer : List Byte :=
  natBytes 96 0x854c95f88b71877afff3ae2d779d1fda44bd1aeef9155b5ce612b73a9e9d72a263bbd4e042b18a981a2e0235ef4f00800ea9efa09e4a22fad38c20a12d46828a60ca18133f97eba10cd3b9f4626a4ac9e90d1977d135de90d7f90575f7a4663c
    ++ [0x54, 0x47, 0x49, 0x43, 1, 0, 3, 0] ++ List.replicate 8 0
    ++ natBytes 96 0x8421963e8fa6c52e6bc41083be6519b4d4a61c90ee20b4372b126d9f1282077fa3b1419f40c4b2c38c9ee5a285ccdd6256c22b94c95b52b5a41e2478328a9f5aa86c5d6faa52dd61e7b3284d2643b73e5f440098601cdbff6cfc8512c14a36d3 ++ List.replicate 16 0
    ++ natBytes 96 0x2933d44e854ad0ba69825713f111550f6634b8047d52e5a51439a425c9416105aa56d4aa2d68e64e61303f12bdfbfc312933d44e854ad0ba69825713f111550f6634b8047d52e5a51439a425c9416105aa56d4aa2d68e64e61303f12bdfbfc31
    ++ natBytes 96 0x0b8061b48edadb05c66c3625d3f547627903d3ba6ca5daf037cdc03d7c5026f84c5d8346edbcdb4d3e75119874a2868a0b8061b48edadb05c66c3625d3f547627903d3ba6ca5daf037cdc03d7c5026f84c5d8346edbcdb4d3e75119874a2868a

/-- A loader at the trailer of an image of 256 zero bytes, on a device with that root key's hash. -/
def atTrailer : State :=
  { base with boot := { base.boot with stage := .streaming, header := { imageLength := 256 }, raw := List.replicate 256 0, fuses := { vendorRootHash := sha384 (slice chainTrailer 0 96) } } }

theorem witness_SlotsStreamOrFallBack_trailer :
    atTrailer.boot.nextSection = atTrailer.boot.sections.length ∧ chainTrailer.length = 416 ∧ atTrailer.imageAgrees (List.replicate 256 0) = true
      ∧ atTrailer.boot.fuses.chainFault (List.replicate 256 0) chainTrailer = none
      ∧ atTrailer.boot.fuses.chainFault (List.replicate 256 0) (List.replicate 416 0) = some 0x0A := by decide +kernel

/-- The example of FIPS 180-4's publisher for SHA-384: "abc". -/
theorem test_sha384_abc :
    sha384 [0x61, 0x62, 0x63] = 0xcb00753f45a35e8bb5a03d699ac65007272c32ab0eded1631a8b605a43ff5bed8086072ba1e7cc2358baeca134c825a7#384 := by decide +kernel

/-- An integrator's link 3 on an unlocked device, a session of role 1 on link 0. -/
def linked : State := up [(R.BOOT_SESSION_role 0, 1), (R.BOOT_SESSION_requester 0, 5), (R.CAN_CFG_en 0, 1), (R.CAN_CFG_en 1, 1)]

theorem witness_FlashCommandsRun :
    base.linkOpen 3 = true ∧ base.reserved R.BOOT_FLASH_CTL = false ∧ base.writeForbidden 3 0 R.BOOT_FLASH_CTL = false ∧ linked.linkOpen 0 = true
      ∧ linked.roleOf 0 6 ≠ 2 ∧ (tget (after (.rebootCommand 0 6) linked).answers 0 { }).code = 1
      ∧ base.awake = true ∧ base.on R.BOOT_FLASH_CTL_busy = false ∧ (up [(R.BOOT_FLASH_CTL_busy, 1)]).on R.BOOT_FLASH_CTL_busy = true
      ∧ (after (.flashVerify 3 0 1) base).boot.flashRun = some 3 ∧ (after (.flashErase 3 0) base).boot.flashRun = some 2
      ∧ (after (.rebootCommand 3 0) base).boot.rebootScheduled = true
      ∧ (tget (after (.flashReadPage 3 0) (up [(R.BOOT_FLASH_CTL_busy, 1)])).answers 3 { }).code = 0x0B
      ∧ (after (.flashCommandDone true []) (after (.flashVerify 3 0 1) base)).get R.BOOT_FLASH_CTL_result = 0x11
      ∧ (after (.flashCommandDone false (List.replicate 256 7)) (after (.flashReadPage 3 0) base)).byte (pageBase + 255) = 7
      ∧ (after (.flashCommandDone false []) (after (.flashProgramPage 3 0) base)).boot.flashRun = none := by decide +kernel

/-- A flash image of one header and trailer length. -/
theorem witness_FlashCommandsRun_verify :
    1280 ≤ (goodHeader.take 12 ++ [0x84, 3, 0, 0] ++ List.replicate 1300 0).length
      ∧ (goodHeader.take 12 ++ [0x84, 3, 0, 0] ++ List.replicate 1300 0).length
        = (headerOf (goodHeader.take 12 ++ [0x84, 3, 0, 0] ++ List.replicate 1300 0)).imageLength + 416 := by decide +kernel

/-- Two operator keys, a challenge pending on link 3. -/
def keyed : State := { up [(R.BOOT_POLICY_jtag_operator, 1), (R.BOOT_SESSION_pending 3, 1)] with
  boot := { base.boot with operatorKeys := [List.replicate 96 0] }, sess := { base.sess with links := [(3, { reqNode := 9, reqRole := 1 })] } }

/-- A device whose operator key 0 verifies `goodSig` for the pending challenge of link 3, which is empty. -/
def signed : State := { keyed with boot := { keyed.boot with operatorKeys := [natBytes 96 0x2a9459582a597a169e1eaa4694af9bc1ea6115a6bc9166f045653bbfe7f83e48fca78bc73c114ca5c08a6650199052946bf9b1ffc7bdec92f973d33baf080c22a5f0204dd71b1502a3ba4de17fdec53d0e5ec0133caaff320aa1170d089a6621] } }

/-- The signature. -/
def goodSig : List Byte := natBytes 96 0x38b060a751ac96384cd9327eb1b1e36a21fdb71114be07434c0cc7bf63f6e1da274edebfe76f65fbd51ad2f14898b95b38b060a751ac96384cd9327eb1b1e36a21fdb71114be07434c0cc7bf63f6e1da274edebfe76f65fbd51ad2f14898b95b

theorem witness_SessionsOpenOrFail_signed :
    ecdsaVerify (signed.boot.operatorKeys.getD (signed.linkS 3).reqKey []) (signed.linkS 3).challenge goodSig = true ∧ goodSig.length = 96
      ∧ signed.answersEarlier 3 goodSig = false ∧ (after (.sessionResponse 3 9 0 0 false goodSig) signed).get (R.BOOT_SESSION_role 3) = 1
      ∧ (after (.sessionResponse 3 9 0 0 false (List.replicate 96 0)) signed).get (R.BOOT_SESSION_role 3) = 0 := by decide +kernel

theorem witness_SessionsAreVerifiedAndEnd_signed :
    let e := { signed with sess := { signed.sess with links := [(3, { reqNode := 9, reqRole := 1, earlier := [([], signed.boot.operatorKeys.headD [])] })] } }
    let w := { signed with sess := { signed.sess with jobs := [.verify 3 9 0 0 0 goodSig] } }
    e.answersEarlier 3 goodSig = true ∧ (tget (after (.sessionResponse 3 9 0 0 false goodSig) e).answers 3 { }).code = 4
      ∧ (after .sessionVerificationDone w).get (R.BOOT_SESSION_role 3) = 1 := by decide +kernel

theorem witness_SessionsOpenOrFail_integrator :
    let s := { keyed with boot := { keyed.boot with rootKey := slice chainTrailer 0 96, fuses := { vendorRootHash := sha384 (slice chainTrailer 0 96) } } }
    let body := [2, 0, 0, 0] ++ slice chainTrailer 96 224
    body.length = 228 ∧ leAt body 0 1 = 2 ∧ s.integratorFault (slice body 4 224) = 0 ∧ ((after (.sessionRequest 3 9 0 0 body) s).linkS 3).reqRole = 2
      ∧ keyed.operatorFault 3 1 = 9 ∧ (tget (after (.sessionRequest 3 9 0 0 [1, 1, 0, 0]) keyed).answers 3 { }).code = 9 := by decide +kernel

theorem witness_SessionsOpenOrFail :
    keyed.awake = true ∧ keyed.takeReq ⟨3, 9, 0, 0, [1, 0, 0, 0]⟩ 8 = some keyed ∧ keyed.on (R.BOOT_SESSION_locked_out 3) = false
      ∧ keyed.operatorFault 3 0 = 0 ∧ leAt [1, 0, 0, 0] 0 1 = 1
      ∧ (up [(R.BOOT_SESSION_locked_out 3, 1)]).on (R.BOOT_SESSION_locked_out 3) = true
      ∧ (tget (after (.sessionRequest 3 9 0 0 [1, 0, 0, 0]) (up [(R.BOOT_SESSION_locked_out 3, 1)])).answers 3 { }).code = 7
      ∧ keyed.takeReq ⟨3, 9, 0, 0, List.replicate 96 0⟩ 0x0A = some keyed ∧ keyed.on (R.BOOT_SESSION_pending 3) = true ∧ (keyed.linkS 3).reqNode = 9
      ∧ keyed.sess.jobs = [] ∧ linked.takeReq ⟨0, 9, 0, 0, []⟩ 8 = some linked ∧ linked.canOn 0 = true ∧ linked.fab.q21.length < 64
      ∧ (after (.sessionResponse 3 9 0 0 false (List.replicate 96 0)) { keyed with sess := { keyed.sess with jobs := [.attest 3 9 0 0 []] } }).sess.jobs.length = 2
      ∧ (tget (after (.sessionResponse 3 9 0 0 false (List.replicate 96 0))
        { keyed with sess := { keyed.sess with jobs := List.replicate 3 (.attest 3 9 0 0 []) } }).answers 3 { }).code = 8 := by decide +kernel

theorem witness_SessionsAreVerifiedAndEnd :
    ({ keyed with sess := { keyed.sess with jobs := [.verify 3 9 0 0 0 []] } }).sess.jobs = .verify 3 9 0 0 0 [] :: []
      ∧ keyed.on (R.BOOT_SESSION_pending 3) = true ∧ (keyed.linkS 3).number = 0
      ∧ (tget (after .sessionVerificationDone { keyed with sess := { keyed.sess with jobs := [.verify 3 9 0 0 7 []] } }).answers 3 { }).code = 4
      ∧ linked.on (R.BOOT_SESSION_role 0) = true ∧ (after (.sessionIdleTimeout 0) linked).get (R.BOOT_SESSION_role 0) = 0
      ∧ (after (.lockoutExpiry 3) (up [(R.BOOT_SESSION_locked_out 3, 1)])).on (R.BOOT_SESSION_locked_out 3) = false
      ∧ linked.takeReq ⟨0, 5, 0, 0, []⟩ 0x0B = some linked ∧ linked.roleOf 0 5 ≠ 0 ∧ linked.roleOf 0 6 = 0
      ∧ (after (.sessionClose 0 5 0 0 []) linked).get (R.BOOT_SESSION_role 0) = 0
      ∧ (tget (after (.sessionClose 0 6 0 0 []) linked).answers 0 { }).code = 1
      ∧ linked.takeReq ⟨0, 5, 0, 0, [0]⟩ 0x0B = some linked ∧ (tget (after (.sessionClose 0 5 0 0 [0]) linked).answers 0 { }).code = 0x0A := by decide

theorem witness_AttestationIsQueuedAndReported :
    linked.takeReq ⟨0, 5, 0, 0, List.replicate 32 0⟩ 0x0C = some linked ∧ linked.boot.publicAttest = false
      ∧ (tget (after (.attestationRequest 0 6 0 0 (List.replicate 32 0)) linked).answers 0 { }).code = 1
      ∧ (after (.attestationRequest 0 5 0 0 (List.replicate 32 0)) linked).sess.jobs.length = 1
      ∧ (tget (after (.attestationRequest 0 5 0 0 (List.replicate 32 0)) { linked with sess := { linked.sess with jobs := List.replicate 3 (.attest 0 5 0 0 []) } }).answers 0 { }).code = 8
      ∧ linked.fab.q21.length + 2 ≤ 64
      ∧ (after .attestationReportDone { linked with sess := { linked.sess with jobs := [.attest 3 5 0 0 []] } }).sess.jobs = [] := by decide

theorem witness_AccessesAreCheckedInOrder :
    base.awake = true ∧ base.reserved 0x0E000000 = true ∧ linked.reserved R.WIN_TEST_CFG = false
      ∧ linked.writeForbidden 0 6 R.WIN_TEST_CFG = true ∧ linked.mayRead (linked.roleOf 0 6) R.WIN_TEST_CFG = false
      ∧ tget (after (.registerWrite 3 0 0x0E000001 0) base).answers 3 { } = { code := 3 }
      ∧ tget (after (.registerWrite 3 0 0x0E000000 0) base).answers 3 { } = { code := 2 }
      ∧ tget (after (.registerReadClear 0 6 R.WIN_TEST_CFG) linked).answers 0 { } = { code := 1, words := [0] } := by decide +kernel

theorem witness_FieldKindsOfAnAccess :
    base.reserved R.OBS_PS_CFG = false ∧ (regFind R.OBS_PS_CFG).isSome = true ∧ base.writeForbidden 3 0 R.OBS_PS_CFG = false
      ∧ R.OBS_PS_CFG / 2 ^ 24 = 0x0D ∧ R.OBS_PS_CFG ∉ [R.BOOT_FLASH_CTL, R.CLK_SYNC_CTL, R.AON_CFG, R.OBS_RAM_RD, R.OBS_DBG_CTL]
      ∧ [R.OBS_PS_CFG, R.GRD_SPR_CFG, R.MTR_NOLOAD].all (fun a => (regFind a).all (fun h => (5 : Word) &&& BitVec.ofNat 32 h.wd.wo == 0) && !isStore a) = true ∧ base.mayRead (base.roleOf 3 0) R.WIN_TEST_STAT = true
      ∧ (after (.registerWrite 3 0 R.OBS_PS_CFG 5) base).word R.OBS_PS_CFG = 5
      ∧ R.GRD_SPR_CFG / 2 ^ 24 = 5 ∧ base.reserved R.GRD_SPR_CFG = false ∧ base.writeForbidden 3 0 R.GRD_SPR_CFG = false
      ∧ (after (.registerWrite 3 0 R.GRD_SPR_CFG 5) base).grd.writes.length = 1 ∧ (after (.registerWrite 3 0 R.GRD_SPR_CFG 5) base).word R.GRD_SPR_CFG = base.word R.GRD_SPR_CFG
      ∧ R.MTR_NOLOAD / 2 ^ 24 = 8 ∧ base.reserved R.MTR_NOLOAD = false ∧ (up [(R.MTR_CFG_en, 1)]).writeForbidden 3 0 R.MTR_NOLOAD = false
      ∧ (after (.registerWrite 3 0 R.MTR_NOLOAD 4) (up [(R.MTR_CFG_en, 1)])).mtr.writes.length = 1
      ∧ (after (.registerWrite 3 0 R.MTR_NOLOAD 4) base).word R.MTR_NOLOAD = 4
      ∧ tget (after (.registerReadClear 3 0 R.WIN_TEST_STAT) base).answers 3 { } = { words := [0x7F] }
      ∧ tget (after (.registerReadClear 3 0 R.CLK_HOP_CNT) (up [(R.CLK_HOP_CNT_null, 3)])).answers 3 { } = { words := [3 * 2 ^ R.CLK_HOP_CNT_null.lo] }
      ∧ (after (.registerReadClear 3 0 R.CLK_HOP_CNT) (up [(R.CLK_HOP_CNT_null, 3)])).get R.CLK_HOP_CNT_null = 0 := by decide +kernel

theorem witness_PlantTimeGoesThroughTheShadow :
    base.reserved (R.FAB_SCHED_TX + 4) = false ∧ base.mayRead (base.roleOf 3 0) (R.FAB_SCHED_TX + 4) = true
      ∧ base.plantWritable R.CLK_HOP_TIME = true ∧ base.writeForbidden 3 0 R.CLK_HOP_TIME = false ∧ base.writeForbidden 3 0 (R.CLK_HOP_TIME + 4) = false
      ∧ (up [(R.FAB_CFG_root, 1), (R.FAB_CFG_en, 1)]).plantWritable R.FAB_TIME = true
      ∧ tget (after (.plantTimeHighWrite 3 0 1 7) base).answers 3 { } = { code := 3 }
      ∧ (after (.plantTimeHighWrite 3 0 1 7) (after (.plantTimeLowWrite 3 0 1 5) base)).word64 R.CLK_HOP_TIME = 5 + 7 * 2 ^ 32 := by decide +kernel

theorem witness_ParameterWriteIsHeld :
    base.paramSrc 4095 = none ∧ base.glazed (R.S 4095) = false ∧ ({ base with seq := { base.seq with glazes := [(1, [{ addr := R.S 4095 }])] } }).glazed (R.S 4095) = true ∧ ({ base with eng := { base.eng with param := [(4095, 16)] } }).paramSrc 4095 = some 15
      ∧ tget (after (.parameterWrite 3 4095 7) { base with eng := { base.eng with param := [(4095, 16)] } }).eng.paramPend 4095 0 = 7
      ∧ tget (after (.parameterWrite 3 4095 7) base).answers 3 { } = { code := 1 } := by decide

theorem witness_DebugRegisterAccesses :
    base.awake = true ∧ (2 : Nat) % 2 = 0 ∧ (after (.debugAccess (R.WIN_TEST_STAT)) base).tap.debug / 2 ^ 32 % 2 ^ 32 = 0x7F
      ∧ (after (.debugAccess (R.OBS_PS_CFG + 1 + 5 * 2 ^ 32)) base).word R.OBS_PS_CFG = 5 := by decide +kernel

theorem witness_RequestsAccessTheirWords :
    base.takeReq ⟨3, 0, 0, 0, [8, 10, 0, 2, 60, 0, 0, 0]⟩ 1 = some base ∧ base.fab.q21.length < 64
      ∧ leAt [8, 10, 0, 2, 60, 0, 0, 0] 0 4 = R.WIN_TEST_STAT ∧ leAt [8, 10, 0, 2, 60, 0, 0, 0] 4 1 = 60
      ∧ (tget (after (.readRequest 3 0 0 0 [8, 10, 0, 2, 60, 0, 0, 0]) base).answers 3 { }).words.length = 60
      ∧ tget (after (.readRequest 3 0 0 0 [8, 10, 0, 2, 61, 0, 0, 0]) base).answers 3 { } = { code := 0x0A }
      ∧ tget (after (.readRequest 3 0 0 0 [9, 10, 0, 2, 1, 0, 0, 0]) base).answers 3 { } = { code := 3 }
      ∧ base.takeReq ⟨3, 0, 0, 0, [0, 0x20, 0, 0x0D, 1, 0, 0, 0, 5, 0, 0, 0]⟩ 2 = some base
      ∧ (after (.writeRequest 3 0 0 0 [0, 0x20, 0, 0x0D, 1, 0, 0, 0, 5, 0, 0, 0]) base).word R.OBS_PS_CFG = 5 := by decide +kernel

theorem witness_LocksAndReferences :
    let s := up [(lockedFld 1, 1), (R.CLK_STATUS_ref_present, 5)]
    (s.syn 1).poweredDown = false ∧ s.holdover 1 = false ∧ { s with clk := { s.clk with syn := [(1, { poweredDown := true })] } }.syn 1 = { poweredDown := true } ∧ s.usesRef 1 0 = true ∧ s.on (lockedFld 1) = true ∧ s.on (lockedFld 2) = false
      ∧ s.get R.CLK_STATUS_ref_present / 2 ^ 2 % 2 = 1 ∧ s.get R.CLK_STATUS_ref_present / 2 ^ 1 % 2 = 0 := by decide +kernel

theorem witness_HopsAreTakenAndComeIntoForce :
    let s := up [(R.CLK_PLAN_defined 7, 1)]
    let h := { s with clk := { s.clk with syn := [(0, { hopping := true, hopTarget := 7 })] } }
    let w := { s with clk := { s.clk with syn := [(0, { pendingHop := some 7 })] } }
    base.on (R.CLK_PLAN_defined (planReg 1 3)) = false ∧ s.on (R.CLK_PLAN_defined (planReg 0 7)) = true ∧ (s.syn 0).hopping = false ∧ 7 ≠ s.planIn 0
      ∧ (h.syn 0).hopping = true ∧ (w.syn 0).pendingHop = some 7 ∧ (w.syn 0).hopping = false ∧ h.on (lockedFld 0) = false
      ∧ (after (.hopRequestM 7 false) s).on R.CLK_STATUS_hop_busy = true ∧ (after (.hopRequestE 3 true) base).get R.CLK_HOP_CNT_null = 1
      ∧ ((after (.hopRequestM 6 true) { h with regs := (up [(R.CLK_PLAN_defined 6, 1)]).regs }).syn 0).pendingHop = some 6 := by decide +kernel

theorem witness_SynchronisationArmsAndExecutes :
    let s := after (.syncArm 7) { base with clk := { base.clk with syn := [(1, { hopping := true })] } }
    s.get ⟨R.CLK_SYNC_CTL, 2, 1⟩ = 1 ∧ s.on R.CLK_SYNC_CTL_source = false ∧ (s.syn 1).hopping = true
      ∧ (after (.syncEvent false 0) s).get ⟨R.CLK_SYNC_CTL, 1, 1⟩ = 1 ∧ tbit (after (.syncEvent false 0) s).evr.pulse 407 = true := by decide +kernel

/-- Converter 15 at entry 30 of its table of 32. -/
def converting : State := { up [(R.ACQ_SEQ_CTL_len 15, 32), (R.ACQ_SEQ_CTL_pos 15, 30)] with
  acq := { base.acq with conv := [(15, { len := 32, stopped := false, slot := some 15 })], res := [(32 * 15 + 30, { count := 16777214, sum := 5 })] }
  pins := { base.pins with ain := [(16 * 7, 65535)] } }

/-- The state of `s` with the level of AIN112 changed. -/
def ain112 (v : Nat) (s : State) : State := { s with pins := { s.pins with ain := [(16 * 7, v)] } }

theorem witness_ConversionsAndTheirReaders :
    converting.current 15 = some (15, 30) ∧ converting.entryOk 15 (converting.get (R.ACQ_SEQ_chan 15 30)) = true ∧ (converting.conv 15).idle = false
      ∧ (converting.conv 15).urgentOf = none ∧ converting.retired (partnerOf 15) = false ∧ converting.get (R.ACQ_SEQ_CTL_len 15) ≠ 0
      ∧ converting.entryOk 15 (converting.get (R.ACQ_SEQ_chan 15 31)) = true
      ∧ ((after (.conversionDone 15 0 0 65536) converting).res 15 30) = { last := 65535, count := 16777215, sum := 65540 }
      ∧ ((after (.conversionDone 15 0 0 65536) { converting with acq := { converting.acq with conv := [(15, { len := 32, stopped := false, slot := some 15, discard := true })] } }).res 15 30) = converting.res 15 30
      ∧ adcCode 3 0x19000 = 2 ∧ adcCode (-1) 1 = 0 ∧ adcCode 1 1 = 65535
      ∧ ((after (.conversionDone 15 0 3 65536) (ain112 10 { converting with acq := { converting.acq with res := [(32 * 15 + 30, { count := 16777215, sum := 5 })] } })).res 15 30)
        = { last := 7, count := 16777215, sum := 5 }
      ∧ (after (.conversionDone 15 0 0 65536) converting).get (R.ACQ_SEQ_CTL_pos 15) = 31 ∧ (after (.conversionDone 15 0 0 65536) converting).on (R.ACQ_SEQ_CTL_cnt_sat 15) = true
      ∧ ((after (.conversionDone 15 0 0 65536) converting).conv 15).slot = some 15 ∧ converting.glazed (R.ACQ_SEQ 15 31) = false
      ∧ (after (.seqEntryWrite 15 31 5) { converting with seq := { base.seq with glazes := [(1, [{ addr := R.ACQ_SEQ 15 31 }])] } }).word (R.ACQ_SEQ 15 31) = 0
      ∧ (tget (after (.resultSnapshot 0 6 15 30) { converting with regs := converting.regs ++ linked.regs }).answers 0 { }).code = 1
      ∧ (after (.seqEntryWrite 15 31 0xFFFFFFFF) converting).word (R.ACQ_SEQ 15 31) = 0x001FFFFF
      ∧ (after (.resultSnapshot 3 0 15 30) converting).get (R.ACQ_RES_count 15 30) = 16777214
      ∧ (after (.frameRecordRead 3 0 15 31) converting).answers = [(3, { words := [0, 0x10000000] })] := by decide +kernel

/-- Pair 7 with its check wanted and both converters stopped. -/
def pairing (w : PairWant) (l : List (Fld × Nat)) : State :=
  { up l with acq := { base.acq with pair := [(7, w)], conv := [(14, { stopped := false, idle := true }), (15, { stopped := false, idle := true })] } }

theorem witness_PairsAreCheckedRetiredAndRestored :
    let c := pairing .check [(R.ACQ_PAIR_TOL_chk_tol 7, 5), (R.ACQ_PAIR_CFG_chk_en 7, 1)]
    let r := pairing .reference [(R.ACQ_PAIR_CFG_retire_en 7, 1), (R.ACQ_PAIR_TOL_ref_tol 7, 10)]
    let b := { pairing .restore [(R.ACQ_SEQ_CTL_retired 14, 1), (R.ACQ_PAIR_TOL_ref_tol 7, 10)] with
      acq := { base.acq with pair := [(7, .restore)], conv := [(14, { stopped := false }), (15, { idle := true })] } }
    c.want 7 = .check ∧ c.joint 14 = true ∧ c.joint 15 = true ∧ c.get (R.ACQ_PAIR_TOL_chk_tol 7) < (9 - 3) + (3 - 9)
      ∧ (after (.pairCheck 7 0 0 9 3 65536) c).want 7 = .reference ∧ (after (.pairCheck 7 0 0 8 3 65536) c).want 7 = .nothing
      ∧ r.want 7 = .reference ∧ r.joint 14 = true ∧ r.refOut 7 32779 = true ∧ r.refOut 7 32778 = false
      ∧ (after (.referenceTest 7 32779 32778 65536) r).retired 14 = true ∧ (after (.referenceTest 7 32778 32757 65536) r).retired 15 = true
      ∧ (after (.referenceTest 7 32779 32757 65536) r).on (R.ACQ_PAIR_STAT_check_fail 7) = true
      ∧ (after (.pairCheckDue 7) c).on (R.ACQ_PAIR_STAT_chk_skip 7) = true
      ∧ (after (.pairCheckDue 7) (pairing .nothing [(R.ACQ_PAIR_CFG_chk_en 7, 1)])).want 7 = .check
      ∧ ({ c with acq := { c.acq with conv := [(14, { stopped := true }), (15, { idle := true })] } }).pairOut 7 = true ∧ c.pairOut 7 = false
      ∧ (after (.pairCheck 7 0 0 0 0 65536) { c with acq := { c.acq with conv := [(14, { stopped := true }), (15, { idle := true })] } }).on (R.ACQ_PAIR_STAT_chk_skip 7) = true
      ∧ b.want 7 = .restore ∧ b.retired 14 = true ∧ b.joint 15 = true ∧ ((after (.restoreTest 7 32768 65536) b).conv 14).restored = true
      ∧ (after (.restoreTest 7 32768 65536) { b with acq := { b.acq with conv := [] } }).retired 14 = false
      ∧ (after (.restoreRequest 7) b).want 7 = .restore := by decide +kernel

theorem witness_UrgentConversions :
    let ask (x : ConvS) (l : List (Fld × Nat)) : State := { up l with acq := { base.acq with conv := [(15, x)] } }
    ((ask { requested := true } []).conv 15).requested = true ∧ chanOk 7 (base.get (R.ACQ_URG_CFG_chan 15)) = true
      ∧ chanOk 7 ((ask { requested := true } [(R.ACQ_URG_CFG_chan 15, 63)]).get (R.ACQ_URG_CFG_chan 15)) = false
      ∧ ((after (.urgentRequest 15) (ask { requested := true } [])).conv 15).urgentOf = some 15
      ∧ ((after (.urgentRequest 15) (ask { requested := true, urgentOf := some 15 } [])).conv 15).heldOwn = true
      ∧ (after (.urgentRequest 15) (ask { requested := true, urgentOf := some 15, heldOwn := true } [])).get R.ACQ_ERR_CNT_urg_merged = 1
      ∧ (after (.urgentRequest 15) (ask { requested := true } [(R.ACQ_URG_CFG_chan 15, 63)])).get R.ACQ_ERR_CNT_skipped = 1
      ∧ (after (.urgentDone 15 65535 0 65536) (ask { urgentOf := some 15, urgChan := 16 } [])).acq.q29 = [⟨15, 65535, 1⟩]
      ∧ (after (.urgentDone 15 7 0 65536) { ask { urgentOf := some 14 } [] with acq := { base.acq with conv := [(15, { urgentOf := some 14 })], q29 := List.replicate 16 ⟨0, 0, 0⟩ } }).get
        R.ACQ_ERR_CNT_q29_drop = 1 := by decide +kernel

theorem witness_ComparatorSidesAssertAndBlank :
    let s := up [(R.WIN_CFG_en_hi 95, 1), (R.WIN_CFG_pd_hi 95, 8), (R.WIN_PD_armed 3, 1), (R.WIN_CFG_src 95, 15), (R.WIN_TH_th_hi 95, 512), (R.WIN_TH_hyst 95, 31)]
    let at_ (s : State) (v : Nat) : State := after (.thresholdCrossing 127 v) s
    let w := { s with win := { s.win with cmp := [(95, { window := true })] } }
    let e := { s with win := { s.win with run := some (.tie 95) } }
    s.sideOn 95 true = true ∧ s.tied 95 = false ∧ s.on (R.WIN_STATUS_raw_hi 95) = false ∧ (s.cmp 95).window = false ∧ s.live = true
      ∧ (∀ m, m < 96 → m / 12 = 7 → 16 * (m / 12) + s.get (R.WIN_CFG_src m) = 127 → m = 95)
      ∧ (at_ s 512001).on (R.WIN_PD_tripped 3) = true ∧ (at_ s 512001).get (R.WIN_PD_first_src 3) = 95 ∧ (at_ s 512001).on (R.WIN_STATUS_hi 95) = true
      ∧ (at_ s 512000).on (R.WIN_STATUS_raw_hi 95) = false ∧ (at_ (at_ s 512001) (512000 - 1024 * 16)).on (R.WIN_STATUS_raw_hi 95) = true
      ∧ (at_ (at_ s 512001) (512000 - 1024 * 16 - 1)).on (R.WIN_STATUS_raw_hi 95) = false
      ∧ e.tied 95 = true ∧ (at_ e 1024000).on (R.WIN_STATUS_raw_hi 95) = false
      ∧ (at_ w 1024000).on (R.WIN_STATUS_hi 95) = false ∧ (after (.blankingWindowEnd 95) (at_ w 1024000)).on (R.WIN_STATUS_hi 95) = true
      ∧ ((after (.blankingWindowEnd 95) { w with win := { w.win with run := some (.tie 95) } }).cmp 95).window = false := by decide +kernel

theorem witness_DomainsArmAndTripOutside :
    let s := up [(R.SEQ_STATUS_mode, 1)]
    let a := up [(R.WIN_PD_armed 3, 1), (R.WIN_TRIP_EXT_pd, 8)]
    let r := { s with evr := { s.evr with dst := [(51, true)] } }
    let p := up [(R.WIN_PD_armed 3, 1), (R.WIN_TRIP_EXT_pd, 8), (R.CLK_PLAN_n_int 0, 80), (R.CLK_PLAN_out_div 0, 4)]
    r.dst 51 = true ∧ (after (.domainArm 3) r).on (R.WIN_PD_tripped 3) = true ∧ (after (.domainArm 3) r).on (R.WIN_PD_via_route 3) = true
      ∧ (after (.extTripNFall false 2000) s).pins.extTrip = false ∧ after (.extTripNFall true 1999) a = a
      ∧ p.on R.WIN_TRIP_EXT_asserted = false ∧ p.pins.extTrip = false ∧ (p.planHz p.mplan).1 = 500000000 * (p.planHz p.mplan).2
      ∧ (after (.extTripNFall true 5999) p).pins.extTrip = false ∧ (after (.extTripNFall true 6000) p).pins.extTrip = true
      ∧ tbit (after (.extTripNFall true 6000) p).evr.level 504 = true ∧ (after (.extTripNFall true 2000) p).on (R.WIN_PD_tripped 3) = true
      ∧ s.mode = 1 ∧ s.on (R.WIN_PD_armed 3) = false ∧ s.domainUnresolved 3 = false ∧ s.assertedInputs 3 = []
      ∧ (after (.domainArm 3) s).on (R.WIN_PD_armed 3) = true
      ∧ a.on R.WIN_TRIP_EXT_asserted = false ∧ a.get R.WIN_TRIP_EXT_pd / 2 ^ 3 % 2 = 1 ∧ (after (.extTripNFall true 2000) a).on (R.WIN_PD_tripped 3) = true := by decide +kernel

theorem witness_ComparatorTestsRunAndEnd :
    let m := up [(R.SEQ_STATUS_mode, 6), (R.WIN_CFG_pd_hi 95, 8)]
    let ended (k : WinTestRun) (r : Nat) (a w : Bool) : State := { base with win := { base.win with run := some k, outcome := some r, runAuto := a, manualWaits := w } }
    let i := { base with acq := { base.acq with conv := [(12, { idle := true }), (14, { idle := true })] } }
    base.on R.WIN_TEST_busy = false ∧ base.win.run = none ∧ base.tieAllowed 95 = true ∧ base.testMode = false ∧ m.testMode = true
      ∧ (up [(R.WIN_CFG_pd_hi 95, 8), (R.WIN_CFG_partner 95, 95)]).tieAllowed 95 = false
      ∧ m.matrixMask 95 / 2 ^ 3 % 2 = 1 ∧ (after (.matrixTest 95 8) m).on (R.WIN_PD_tripped 3) = true ∧ (after (.matrixTest 95 8) m).win.outcome = some 0
      ∧ (after (.matrixTest 95 9) m).win.outcome = some 1 ∧ (after (.matrixTest 95 0) m).win.outcome = some 1
      ∧ (after (.matrixTest 95 8) (up [(R.SEQ_STATUS_mode, 6), (R.WIN_CFG_pd_hi 95, 8), (R.WIN_PD_tripped 0, 1)])).win.outcome = some 1 ∧ (after (.matrixTest 504 0) base).get R.WIN_TEST_result = 2
      ∧ (i.conv 14).idle = true ∧ (i.conv 12).urgentOf = none ∧ i.want 7 = .nothing ∧ (after (.readbackTest 95 128 128 65536) { base with acq := { base.acq with conv := [(14, { urgentOf := some 14 })] } }).win.outcome = none
      ∧ (after (.readbackTest 95 128 0 65536) i).win.outcome = some 3 ∧ (after (.readbackTest 79 128 128 65536) i).win.outcome = some 0
      ∧ (after (.readbackTest 79 129 0 65536) i).win.outcome = some 1 ∧ ((after (.readbackTest 79 129 0 65536) i).conv 12).idle = false
      ∧ (after (.tieTest 95 true false) base).win.outcome = some 0
      ∧ (after .winTestDone (ended (.tie 95) 1 false false)).on (R.WIN_STATUS_tie_fail 95) = true
      ∧ (after .winTestDone (ended (.readback 95) 1 false false)).on (R.WIN_STATUS_rb_fail 95) = true
      ∧ base.get R.WIN_TEST_cmd = 0 ∧ (after .winTestDone (ended (.tie 95) 1 false true)).win.run = some (.readback 0)
      ∧ base.get (R.WIN_CFG_pd_hi 95) = 0 ∧ (after .winTestDone (ended (.readback 95) 1 true false)).win.run = some (.tie 95)
      ∧ (up [(R.WIN_TEST_CFG_auto_period, 1), (R.WIN_CFG_test_en 95, 1)]).sweepNext 0 = some 95
      ∧ (after .autoSweepStep (up [(R.WIN_TEST_CFG_auto_period, 1), (R.WIN_CFG_test_en 95, 1)])).win.sweepPos = 0 := by decide +kernel

/-- Context 1 runs the instruction word `w`, its only one, and owns signals 16 to 31. -/
def running (w : Nat) : State :=
  ({ up [] with eng := { base.eng with sigOwner := (List.range 16).map (fun k => (16 + k, 1)), ctx := [(1, { present := true, frame := { phase := .running, work := [(16, 7), (17, 3)] } })] } }).setWord (R.PROG 0) (BitVec.ofNat 32 w)
    |>.setWord (R.PROG 0 + 4) (BitVec.ofNat 32 (w / 2 ^ 32))

/-- An instruction word. -/
def word (op dst a b imm : Nat) : Nat := op * 2 ^ 58 + dst * 2 ^ 46 + a * 2 ^ 34 + b * 2 ^ 22 + imm

/-- What ADD to signal 18 of 7 and 3 leaves there, and the like. -/
def result (c : Instr) (w : Nat) : Word := tget ((after c (running w)).fr 1).work 18 0

theorem witness_ArithmeticInstructionsRun : ∀ op, op < 64 → (running (word op 18 16 17 0)).executes 1 op [] [] := by
  unfold State.executes
  decide +kernel

theorem witness_ArithmeticInstructionsRun_results :
    result (.add 1 0 [] []) (word 0x02 18 16 17 0) = 10 ∧ result (.sub 1 0 [] []) (word 0x03 18 17 16 0) = -4
      ∧ result (.mul 1 0 [] []) (word 0x04 18 16 17 1) = 10 ∧ result (.neg 1 0 [] []) (word 0x06 18 16 17 0) = -7
      ∧ result (.min 1 0 [] []) (word 0x08 18 16 17 0) = 3 ∧ result (.max 1 0 [] []) (word 0x09 18 16 17 0) = 7
      ∧ result (.add 1 0 [] []) (word 0x02 18 16 0 (2 ^ 21 + 65535)) = 6
      ∧ result (.div 1 0 [] []) (word 0x13 18 16 19 0) = 0x7FFFFFFF ∧ result (.sqrt 1 0 [] []) (word 0x14 18 16 0 2) = 5
      ∧ result (.abs 1 0 [] []) (word 0x07 18 16 0 0) = 7 ∧ result (.sel 1 0 [] []) (word 0x0C 18 16 17 16) = 7
      ∧ ((after (.add 1 5 [] []) (running (word 0x02 18 16 17 0))).fr 1).cycles = 6 := by decide +kernel

theorem witness_FrameInstructionsRun :
    let s := running (word 0x02 18 16 17 0)
    let x := running (word 0x02 18 20 17 0)
    let i := { x with eng := { x.eng with ctx := [(1, { x.ctx 1 with imports := [20] })] } }
    eccKey 1 (R.PROG 0) ∈ s.faultReads 1 ∧ i.importKey 1 20 ≠ [] ∧ (∀ k ∈ i.importKey 1 20, k ∈ i.insReads 1 ∧ k ∉ i.faultReads 1)
      ∧ (∀ j ∈ i.faultReads 1, i.poisonedAt j = false) ∧ insOp (i.ins 1) = 0x02 ∧ i.mayRun 1 = true
      ∧ ((after (.out 1 0 [] []) { running (word 0x16 40 16 0 0) with eng := { (running (word 0x16 40 16 0 0)).eng with outOwner := [(40, 1)] } }).fr 1).outs
        = [(40, ⟨7, false, 0⟩)]
      ∧ outReserved 40 = false ∧ ((after (.evt 1 0 [] []) (running (word 0x17 0 16 0 15))).fr 1).evt = [(15, true)]
      ∧ (after (.sched 1 0 [] []) (running (word 0x0E 18 16 17 3))).on (R.ENG_CTX_STAT_op_seen 1) = true
      ∧ (after (.minsel 1 0 [] []) (running (word 0x0F 18 16 17 15))).on (R.ENG_CTX_STAT_op_seen 1) = true
      ∧ (after (.track 1 0 [] []) (running (word 0x15 18 16 17 0))).on (R.ENG_CTX_STAT_op_seen 1) = true := by decide +kernel

/-- Context 1 runs the word `w` and owns slots 0 to 20. -/
def slotted (w : Nat) : State := (running w).put (R.ENG_CTX_RES_sections 1) 21

theorem witness_FrameInstructionsRun_slots :
    let t := slotted (word 0x15 18 16 19 24)
    let e := slotted (word 0x0D 18 16 19 0)
    t.ownsSlots 1 19 2 = true ∧ t.slotW 1 19 2 = 0 ∧ t.opnd 1 25 ≤ t.slotW 1 19 0 ∧ t.slotW 1 19 0 ≤ t.opnd 1 26 ∧ t.opnd 1 29 ≤ 0
      ∧ t.opnd 1 17 < t.opnd 1 16 ∧ immBit (t.ins 1) 18 = false ∧ t.owns 1 18 = true ∧ t.owns 1 19 = true
      ∧ (after (.track 1 0 [] []) t).slotW 1 19 1 = 7
      ∧ e.sosFault 1 = false ∧ sosN (e.ins 1) = 1 ∧ immBit (e.ins 1) 16 = false ∧ (after (.sos 1 0 [] []) e).slotW 1 19 0 = 7
      ∧ (running (word 0x0D 18 16 19 0)).sosFault 1 = true := by decide +kernel

/-- Source 15 is due, context 63 on it is enabled and ready to open. -/
def latching : State := { up [(R.ENG_CTX_CTL_en 63, 1), (R.ENG_CTX_CFG_fsrc 63, 15)] with
  frm := { base.frm with due := [(15, true)] }, eng := { base.eng with ctx := [(63, { present := true })] } }

theorem witness_FramesOpenStartAndCommit_latch :
    tbit latching.frm.due 15 = true ∧ latching.latchFirst.enters 63 (latching.latchFirst.frameIndex 15) = true
      ∧ latching.latchFirst.mayOpen 63 = true ∧ latching.latchFirst.srcOf 63 = 15
      ∧ ((after (.frameLatch 15 [] []) latching).fr 63).phase = .copying := by decide +kernel

theorem witness_FramesOpenStartAndCommit :
    let at_ (p : Phase) (l : List (Fld × Nat)) : State := { up l with eng := { base.eng with ctx := [(63, { present := true, frame := { phase := p, pc := 1, work := [(16, 7)], lane := 7 } })] } }
    let r := at_ .ready [(R.ENG_STATUS_lane_busy, 127)]
    ((at_ .copying []).fr 63).phase = .copying ∧ (at_ .copying []).heldByMirror 63 = false ∧ ((after (.contextReady 63) (at_ .copying [])).fr 63).phase = .ready
      ∧ (r.fr 63).phase = .ready ∧ r.firstDue 63 = true ∧ r.mayRun 63 = true ∧ r.laneBusy 7 = false ∧ (List.range 7).all (fun k => r.laneBusy k) = true
      ∧ ((after (.contextDispatch 63) r).fr 63).lane = 7
      ∧ (at_ .running []).programDone 63 = true ∧ (at_ .running []).queuesHaveRoom 63 = true ∧ (at_ .running []).mirrorHasRoom 63 = true
      ∧ ((after (.contextCommit 63) (at_ .running [])).ctx 63).pend = [(16, 7)]
      ∧ ((after (.commitQueueRoom 63) (at_ .waiting [])).fr 63).phase = .completed ∧ (((at_ .waiting []).passWaits 5).fr 63).cycles = 5 := by decide +kernel

/-- Entry (15, 31) is bound to source 15, whose latch is due; a glaze of SAFE and one of START patch a word of a schedule. -/
def forming : State :=
  { up [(R.ACQ_SEQ_bind 15 31, 1), (R.ACQ_SEQ_fsrc 15 31, 15)] with
    frm := { base.frm with due := [(15, true)] }, acq := { base.acq with res := [(511, { last := 7, count := 2, sum := 5 })] },
    seq := { base.seq with glazes := [(1, [{ addr := 0x04200000, value := 5, mask := 15 }]), (9, [{ addr := 0x04200000, value := 3, mask := 3 }])],
                           wordMask := [(0x04200000, 2 ^ 15)] } }

theorem witness_FramesOpenStartAndCommit_swap :
    let u := forming.latchFirst.wrapsNow
    let p := { base with eng := { base.eng with ctx := [(63, { pend := [(16, 7)] })], param := [(4095, 16)], paramPend := [(4095, 9)] } }
    let c : CompS := { mode := 1, applied := true, shadow := [(0x04200000, 5)], sources := [15] }
    let w := { forming with seq := { forming.seq with comp := some c } }
    tbit forming.frm.due 15 = true ∧ u.on (R.ACQ_SEQ_bind 15 31) = true ∧ u.get (R.ACQ_SEQ_fsrc 15 31) = 15 ∧ forming.wf = true
      ∧ (after (.frameLatch 15 [] []) forming).word64 (R.ACQ_FB 15 31) = 7 + 2 ^ 16 * 40 + 2 ^ 36 * 2
      ∧ ((p.publishCtx 63).ctx 63).pend = [] ∧ (p.publishCtx 63).word (R.S 16) = 7 ∧ p.paramSrc 4095 = some 15 ∧ (p.publishParams 15).word (R.S 4095) = 9
      ∧ (((forming.startComp 1 [9] true).seq.comp.getD { }).shadow, ((forming.startComp 1 [9] true).seq.comp.getD { }).sources) = ([(0x04200000, 7)], [15])
      ∧ ((forming.startComp 1 [] true).seq.comp.getD { }).shadow = [(0x04200000, 5)]
      ∧ w.goPassed c = true ∧ w.evr.wrote = [] ∧ w.wordOf 0x04200000 15 = true ∧ (w.swapSource 15).word 0x04200000 = maskIn 0 5 (glazeMask 0x04200000)
      ∧ (w.swapSource 15).wordFor 15 0x04200000 = (w.swapSource 15).word 0x04200000 := by decide +kernel

/-- Group 15 has members context 63 and context 62, with limits that hold 0 to 10. -/
def grouped : State :=
  { up [(R.ENG_GRP_CFG_members 15, 2), (R.ENG_GRP_MEM_ctx 15 0, 63), (R.ENG_GRP_MEM_ctx 15 1, 62), (R.ENG_GRP_MEM_track_slot 15 0, 4095),
      (R.ENG_GRP_MEM_track_slot 15 1, 4094), (R.ENG_CTX_CTL_en 62, 1), (R.ENG_CTX_CTL_en 63, 1), (R.ENG_GRP_CFG_out 15, 16)] with
    eng := { base.eng with ctx := [(62, { frame := { phase := .running } })], grp := [(15, { frames := [{ parts := [62, 63], left := [62, 63] }], pend := some 9 })] } }

theorem witness_CommitPointsEnablesAndScrubbing_groups :
    let x : GrpFrame := { parts := [62, 63], vals := [(0, 5), (1, 20)], lims := [(0, (0, 10)), (1, (0, 10))] }
    (grouped.groupResolve 15 x).get (R.ENG_GRP_STAT_winner 15) = 0 ∧ ((grouped.groupResolve 15 x).grp 15).pend = some 5
      ∧ (grouped.groupResolve 15 x).word (R.SLOT 4095 2) = 5 ∧ tget ((grouped.groupResolve 15 x).fr 62).track 4094 0 = 5
      ∧ (grouped.groupResolve 15 x).word (R.SLOT 4094 2) = 0 ∧ (grouped.groupResolve 15 { x with lims := [(0, (10, 0))] }).on (R.ENG_GRP_STAT_fault 15) = true
      ∧ (grouped.groupResolve 15 { }).on (R.ENG_GRP_STAT_held 15) = true
      ∧ grouped.groupOf 63 = some 15 ∧ grouped.memberIs 15 0 63 = true ∧ ((grouped.groupMember 63 [(15, 5)]).grp 15).frames = [{ parts := [62, 63], vals := [(0, 5)], left := [62], lims := (((grouped.groupMember 63 [(15, 5)]).grp 15).frames.headD { }).lims }]
      ∧ ((grouped.groupMember 63 []).grp 15).frames = [{ parts := [62, 63], left := [62, 63], failed := true }]
      ∧ tbit (grouped.groupPoint 63 false).evr.pulse 446 = true
      ∧ (∀ h, h < 16 → h ≠ 15 → grouped.get (R.ENG_GRP_CFG_out h) ≠ grouped.get (R.ENG_GRP_CFG_out 15))
      ∧ (grouped.publishGroups 0).word (R.S 16) = 9 := by decide +kernel

/-- A frame whose one OUT goes to a full queue. -/
theorem witness_FramesOpenStartAndCommit_full :
    let s : State := { base with eng := { base.eng with ctx := [(63, { present := true, frame := { phase := .running, pc := 1, outs := [(40, ⟨7, false, 0⟩)] } })] }, mod := { base.mod with queues := (List.range 4).map (fun q => (q, List.replicate 64 { })) } }
    s.programDone 63 = true ∧ s.queuesHaveRoom 63 = false ∧ ((after (.contextCommit 63) s).fr 63).phase = .waiting ∧ (after (.contextCommit 63) s).get R.MOD_ERR_CNT_q_full = 1 := by decide +kernel

theorem witness_CommitPointsEnablesAndScrubbing :
    let at_ (p : Phase) : State := { up [(R.ENG_CTX_COMMIT_offset 63, 1)] with clk := { base.clk with modTick := 1 }, eng := { base.eng with evtOwner := [(15, 63)], evtHolder := [(14, 63)], writeBack := [5], ctx := [(63, { present := true, frame := { phase := p, pointDone := false, evt := [(15, true), (14, true)] } })] } }
    ((at_ .completed).fr 63).pointDone = false ∧ tbit (after (.commitPoint 63) (at_ .completed)).evr.level 431 = true ∧ tbit (after (.commitPoint 63) (at_ .completed)).evr.level 430 = true
      ∧ (at_ .waiting).on R.ENG_STATUS_halted = false ∧ (after (.commitPoint 63) (at_ .waiting)).get (R.ENG_CTX_STAT_overruns 63) = 1
      ∧ (after (.contextEnableWrite 63 true) (at_ .idle)).on (R.ENG_CTX_CTL_en 63) = true
      ∧ (after (.contextEnableWrite 63 false) (up [(R.ENG_CTX_CTL_en 63, 1)])).on (R.ENG_CTX_CTL_draining 63) = true
      ∧ (after (.scrubRead 5 1) base).eng.writeBack = [scrubKey 5 0] ∧ (after (.scrubRead 0 0) base).eng.scrubPos = [(0, 1)] ∧ (after (.scrubRead 6 2) base).on R.OBS_STATUS_ram_ecc = true
      ∧ (after (.scrubRead 3 0) { base with eng := { base.eng with scrubPos := [(3, 4095)] } }).eng.scrubPos = [(3, 0)]
      ∧ (after .eccWriteBack (at_ .idle)).eng.writeBack = [] := by decide +kernel

/-- One route, entry 4095, from source 511 to the event input of context 63. -/
def routed (l : List (Fld × Nat)) : State :=
  { up ([(R.EVR_ROUTE_valid 4095, 1), (R.EVR_ROUTE_src 4095, 511), (R.EVR_ROUTE_dst 4095, 133)] ++ l) with
    evr := { base.evr with pulse := [(511, true)] } }

theorem witness_RoutesCarryTheirSources :
    (routed []).wf = true ∧ (routed []).modStopped = false ∧ (routed []).on (R.EVR_ROUTE_valid 4095) = true ∧ (routed []).get (R.EVR_ROUTE_src 4095) = 511
      ∧ (routed []).get (R.EVR_ROUTE_filt 4095) = 0 ∧ (routed []).get (R.EVR_ROUTE_mode 4095) = 0
      ∧ (after (.routeDelivery 511) (routed [])).dst 133 = true ∧ (after (.routeDelivery 511) (routed [])).on (R.ENG_EI_sticky 63) = true
      ∧ (routed [(R.EVR_ROUTE_filt 4095, 1)]).on (R.EVR_ROUTE_filt 4095) = true
      ∧ routeRefused ((R.EVR_ROUTE_dst 0).ins 0x80000000 211) = true ∧ routeRefused 0xFFFFFFFF = true ∧ routeRefused 0 = false
      ∧ (tget (after (.routeEntryWrite 3 0 4095 0xFFFFFFFF) base).answers 3 { }).code = 0x0C
      ∧ (after (.routeEntryWrite 3 0 4095 0x7F000000) base).word (R.EVR_ROUTE 4095) = 0 := by decide +kernel

theorem witness_RoutesCarryTheirSources_filters :
    let f (k : Nat) : State := routed [(R.EVR_ROUTE_filt 4095, 1), (R.EVR_FILT_type 1, k), (R.EVR_FILT_time 1, 1), (R.EVR_FILT_n 1, 1)]
    let g (k : Nat) : FiltS := tget (after (.routeDelivery 511) (f k)).evr.filt 4095 { }
    let w := { base with evr := { base.evr with wrote := [(4095, 0)] } }
    let e := { f 0 with evr := { (f 0).evr with filt := [(4095, { timing := true, inp := true })] } }
    (g 0).timing = true ∧ (g 0).out = false ∧ (g 1).edges = [0] ∧ (g 1).out = true ∧ (g 2).out = true ∧ (g 2).minimum = true
      ∧ w.evr.wrote = [(4095, 0)] ∧ w.routesNow.evr.wrote = [] ∧ (tget w.routesNow.evr.filt 4095 { }).fresh = true ∧ base.routesNow = base
      ∧ (tget (after (.filterExpiry 4095) e).evr.filt 4095 { }).out = true ∧ e.on (R.EVR_ROUTE_filt 4095) = true
      ∧ (tget (after (.routeEntryWrite 3 0 4095 0) { base with seq := { base.seq with glazes := [(1, [{ addr := R.EVR_ROUTE 4095 }])] } }).answers 3 { }).code = 1
      ∧ base.reserved (R.EVR_ROUTE 4095) = false ∧ base.writeForbidden 3 0 (R.EVR_ROUTE 4095) = false ∧ base.linkOpen 3 = true := by decide +kernel

/-- A grid unit with a sample that waits for its update. -/
theorem witness_GridUpdateTakesASample :
    let s := { up [(R.GRD_CTL_en, 1)] with grd := { base.grd with sample := some { recs := [2 ^ 63, 0, 0] } } }
    s.on R.GRD_CTL_en = true ∧ s.modStopped = false ∧ s.grd.sample = some { recs := [2 ^ 63, 0, 0] } ∧ s.on R.GRD_STATUS_form_active = false
      ∧ (up [(R.GRD_STATUS_form_active, 1)]).on R.GRD_STATUS_form_active = true := by decide +kernel

/-- A grid unit at the end of chip 127 with 255 whole chips behind it, and curve 0 with two points. -/
def sprinkled : State :=
  { up [(R.GRD_CTL_en, 1), (R.GRD_CTL_spr_en, 1), (R.GRD_SUP_CFG_npts, 2), (R.GRD_SUP_CURVE_x 0 1, 10), (R.GRD_SUP_CURVE_y 0 1, 25), (R.GRD_SUP_CFG_vref_en, 1),
      (R.GRD_SUP_CFG_droop_en, 1)] with
    grd := { base.grd with sample := some { recs := [0, 0, 0] }, code := 0, chip := some 127, chips := List.replicate 255 { ok := true }, estimates := List.replicate 7 5 },
    clk := { base.clk with plantTime := 128 * chipLsb } }

theorem witness_GridUpdateTakesASample_sprinkle :
    sprinkled.grd.chips.length = 255 ∧ sprinkled.zEst = 0 ∧ sprinkled.sprWhole = true ∧ sprinkled.on R.GRD_CTL_spr_en = true ∧ sprinkled.grd.code ≠ 255
      ∧ sprinkled.clk.plantTime / chipLsb ≠ 127 ∧ (∀ e, e ∈ sprinkled.grd.estimates → 0 ≤ e ∧ e < 2 ^ 32) ∧ sprinkled.grd.estimates.length = 7
      ∧ sprinkled.modStopped = false ∧ sprinkled.live = true
      ∧ (sprinkled.islandJudge 5).on R.GRD_STATUS_baseline_valid = true ∧ (sprinkled.put R.GRD_STATUS_baseline_valid 1).on R.GRD_STATUS_baseline_valid = true
      ∧ 2 ≤ sprinkled.supN 0 ∧ sprinkled.getI (R.GRD_SUP_CURVE_x 0 0) < sprinkled.getI (R.GRD_SUP_CURVE_x 0 1)
      ∧ sprinkled.supCurve 0 5 0 = 12 ∧ sprinkled.supCurve 0 (-1) 0 = 0 ∧ sprinkled.supCurve 0 10 0 = 25
      ∧ [0, 1, 2, 3, 4].all (fun m => (sprinkled.put R.GRD_SUP_CFG_qmode m).get R.GRD_SUP_CFG_qmode == m) = true
      ∧ sprinkled.on R.GRD_SUP_CFG_vw_en = false ∧ base.on R.GRD_SUP_CFG_droop_en = false := by decide +kernel

theorem witness_GridInstantsRideAndIslanding :
    let s := { up [(R.GRD_CTL_en, 1), (R.ENG_FSRC_type 15, 2)] with grd := { base.grd with sector := 5 } }
    s.gsSector ≠ s.grd.sector ∧ (∀ h, h ∈ s.grd.writes → h.addr / 2 ^ 16 = 0x0500) ∧ s.get (R.ENG_FSRC_type 15) = 2 ∧ s.on R.GRD_CTL_gs32 = false
      ∧ (regFind R.GRD_CTL).isSome = true ∧ rwMask R.GRD_CTL ≠ 0 ∧ (after (.gridWrite R.GRD_CTL 2) s).grd.writes.length = 1 ∧ s.glazed R.GRD_CTL = false
      ∧ (after (.gridWrite R.GRD_CTL 2) { s with seq := { s.seq with glazes := [(1, [{ addr := R.GRD_CTL }])] } }).grd.writes = []
      ∧ (after .sprinklePeriodStart (up [(R.GRD_CTL_en, 1), (R.GRD_SPR_CFG_code, 3)])).grd.code = 3 := by decide +kernel

theorem witness_GridInstantsRideAndIslanding_timers :
    let s := { up [(R.GRD_RT_CFG_npts, 32), (R.GRD_STATUS_ride, 1)] with grd := { base.grd with timers := [(16, 2 ^ 60)], calm := 2 ^ 60, excursion := 7 * 10 ^ 9, pasTimers := [(2, 2 ^ 60)] } }
    isTripCurve 1 = true ∧ 0 < s.npts 1 ∧ tnum s.grd.timers 16 ≠ 0 ∧ s.get (R.GRD_CURVE_time 1 0) * 10 ^ 9 ≤ tnum s.grd.timers 16
      ∧ tbit s.grd.firedPts 16 = false ∧ tbit (after (.tripCurveExpiry 1 0) s).evr.pulse 449 = true
      ∧ s.on R.GRD_STATUS_ride = true ∧ s.get R.GRD_RT_CFG_exit_time * 10 ^ 9 ≤ s.grd.calm ∧ (after .rideExit s).get R.GRD_RT_STAT_last_duration = 7
      ∧ s.pasTime 2 * 10 ^ 9 ≤ tnum s.grd.pasTimers 2 ∧ (after (.passiveTimerExpiry 2) s).get (pasBit 2) = 1 := by decide +kernel

/-- Carrier group 7 runs, its wrap is due, and leg 47 is its own. -/
def wrapping : State :=
  { up [(R.MOD_LEG_CFG_cg 47, 7), (R.MOD_LEG_CFG_en 47, 1), (R.ENG_FSRC_type 15, 0), (R.ENG_FSRC_sel 15, 7)] with mod := { base.mod with groups := [(7, { running := true, wrapDue := true })] } }

theorem witness_WrapsAndQueuesBringValuesIntoForce :
    let p := { wrapping with mod := { wrapping.mod with groups := [(7, { running := true, wrapDue := true, slots := [{ kind := 2, idx := 7, value := 51200, tick := some 0 }] })] } }
    let l := { wrapping with mod := { wrapping.mod with legs := [(47, { onSlots := [{ kind := 0, idx := 47, value := 9, abs := true, tick := some 0 }] })], tapsNew := some 130 } }
    let q (c : Commit) : State := { wrapping with mod := { wrapping.mod with queues := [(3, [c])] } }
    let c (n : Nat) : State := (wrapping.put (R.MOD_CG_COUNT_count 7) n).setWord (R.MOD_CG_PERIOD 7) 51200
    ((c 0).get (R.MOD_CG_COUNT_wrap_fine 7) + (c 0).period 7) / 128 + ((c 0).group 7).lengthen = 400 ∧ ((c 398).carrierTick 7).get (R.MOD_CG_COUNT_count 7) = 399
      ∧ ((c 399).carrierTick 7).get (R.MOD_CG_COUNT_count 7) = 0 ∧ (((c 399).carrierTick 7).group 7).wrapDue = true ∧ tnum (c 399).frm.div 15 = 0
      ∧ tbit ((c 399).carrierTick 7).frm.due 15 = true ∧ (wrapping.group 7).wrapDue = true
      ∧ wrapping.modStopped = false ∧ (wrapping.group 7).running = true ∧ (wrapping.group 7).patches = [] ∧ wrapping.seq.comp = none
      ∧ wrapping.get (R.ENG_FSRC_type 15) = 0 ∧ wrapping.get (R.ENG_FSRC_sel 15) = 7
      ∧ (p.wrapPeriod 7).word (R.MOD_CG_PERIOD 7) = 51200 ∧ (l.wrapCompare 47 false 51200 0).get (R.MOD_LEG_CMP_on 47) = 9
      ∧ (List.range 48).all (fun m => l.get (R.MOD_LEG_CFG_cg m) != 7 || l.get (R.MOD_LEG_CFG_pattern m) != 1) = true ∧ l.get (R.MOD_LEG_CFG_pattern 47) ≠ 2
      ∧ (l.takeTaps 7).get R.MOD_CAL_taps = 130 ∧ l.mod.tapsNew = some 130
      ∧ (after (.commitQueueDrain 3) (q { kind := 2, idx := 7, value := 51199 })).get R.MOD_ERR_CNT_bad_period = 1
      ∧ ((after (.commitQueueDrain 3) (q { kind := 2, idx := 7, value := 51200 })).group 7).slots.length = 1
      ∧ ((after (.commitQueueDrain 3) (q { kind := 0, idx := 47, value := 5 })).mleg 47).onSlots.length = 1
      ∧ ((after (.commitQueueDrain 3) (q { kind := 1, idx := 47, value := 5 })).mleg 47).offSlots.length = 1
      ∧ (after (.commitQueueDrain 3) { q { kind := 1, idx := 47, value := 5 } with mod := { wrapping.mod with queues := [(3, [{ kind := 1, idx := 47, value := 5 }])], legs := [(47, { offSlots := List.replicate 4 { } })] } }).get
        R.MOD_ERR_CNT_superseded = 1 := by decide +kernel

/-- `wrapping` with a period of 400 ticks, an off compare of 20,000 fine steps and a crumb of 100. -/
def pulsed : State :=
  ((wrapping.setWord (R.MOD_CG_PERIOD 7) 51200).put (R.MOD_LEG_CMP_off 47) 20000).put (R.MOD_LEG_CRUMB_crumb 47) 100

theorem witness_WrapsAndQueuesBringValuesIntoForce_pulse :
    let r := (pulsed.put (R.MOD_LEG_CFG_refresh_en 47) 1).put (R.MOD_LEG_BOOT_boot_max_periods 47) 1
    let h := { r with mod := { r.mod with legs := [(47, { winTop := true, winEnd := 5, crumbDrop := true })] } }
    [minPulse 0 1000 0 0 100 0, minPulse 0 1000 0 1000 100 5, minPulse 0 1000 0 50 100 0, minPulse 1 1000 0 50 100 0, minPulse 0 1000 0 950 100 0,
        minPulse 1 1000 0 950 100 0, minPulse 0 1000 0 500 100 0, minPulse 2 1000 0 50 100 0].map (fun p => (p.t, p.crumb, p.short))
      = [(0, 0, false), (1000, 5, false), (0, 50, true), (100, -50, true), (1000, -50, true), (900, 50, true), (500, 0, false), (0, 0, true)]
      ∧ (minPulse 0 1000 0 1000 100 1001).clip = true ∧ pulsed.get (R.MOD_LEG_CFG_pattern 47) = 0 ∧ pulsed.on (R.MOD_LEG_CFG_en 47) = true
      ∧ (pulsed.mleg 47).onSlots = [] ∧ (pulsed.mleg 47).fracOff = none ∧ (pulsed.group 7).slots = [] ∧ (pulsed.group 7).patches = []
      ∧ pulsed.get (R.MOD_LEG_CFG_cg 47) = 7 ∧ (List.range 48).all (fun m => pulsed.get (R.MOD_LEG_CFG_cg m) != 7 || pulsed.get (R.MOD_LEG_CFG_pattern m) != 1) = true
      ∧ ((pulsed.wrapLeg 7 47).mleg 47).winEnd = 20100 ∧ (pulsed.wrapLeg 7 47).on (R.MOD_LEG_STAT_refresh_seen 47) = false
      ∧ (h.wrapLeg 7 47).on (R.MOD_LEG_STAT_refresh_seen 47) = true
      ∧ h.get (R.MOD_LEG_CRUMB_crumb 47) ≠ 0 ∧ (h.mleg 47).crumbDrop = true ∧ (h.discardCrumb 47).get R.MOD_CRUMB_CNT_discards = 1
      ∧ (wrapping.group (wrapping.get (R.MOD_LEG_CFG_cg 47))).wrapDue = true ∧ (base.group (base.get (R.MOD_LEG_CFG_cg 47))).wrapDue = false := by decide +kernel

/-- Leg 47 of a running group in the state `x`, at tick 1,000,000. -/
def edging (x : ModLeg) : State := { wrapping with mod := { wrapping.mod with groups := [(7, { running := true })], legs := [(47, x)] }, clk := { wrapping.clk with modTick := 1000000 } }

/-- Leg 47 whose window has come, with its L command on. -/
def edgeNow : State := { edging { winEnd := 100 } with gtp := { wrapping.gtp with legs := [(47, { cmdL := true })] } }

/-- Leg 47 in the state `x` with its L feedback above the threshold. -/
def fedBack (x : ModLeg) : State := after (.fbComparatorChange 95 480001 127) ((edging x).put (R.GTP_FB_TH_th 95) 100)

theorem witness_EdgesCalibrationAndClockStop :
    edgeNow.on (R.MOD_LEG_CFG_en 47) = true ∧ (edgeNow.group (edgeNow.get (R.MOD_LEG_CFG_cg 47))).running = true ∧ (edgeNow.group (edgeNow.get (R.MOD_LEG_CFG_cg 47))).wrapDue = false
      ∧ edgeNow.commanded 47 true = true ∧ edgeNow.edgeSeen 47 true = false ∧ edgeNow.modStopped = false
      ∧ ((after (.commandEdge 47 true) edgeNow).mleg 47).edge = some true ∧ ((after (.commandEdge 47 true) edgeNow).gleg 47).cmdL = false
      ∧ (edgeNow.mleg 47).names true = true ∧ (edgeNow.mleg 47).names false = false ∧ (edging { winOn := 5, winEnd := 100, wrapAt := 128 * 999999 }).commanded 47 true = true
      ∧ (edging { winOn := 5, winEnd := 100, wrapAt := 128 * 999999 }).edgeTime 47 true = 128 * 999999 + 5
      ∧ (edging { winEnd := 100 }).commanded 47 false = true ∧ (edging { winEnd := 100, wrapAt := 7 }).edgeTime 47 false = 107
      ∧ ((edging { edge := some true }).mleg 47).dtDone = false ∧ (edging { edge := some true }).fbOn 95 = false
      ∧ ((after (.deadTimeExpiry 47) (edging { edge := some true })).gleg 47).cmdH = true := by decide +kernel

theorem witness_EdgesCalibrationAndClockStop_feedback :
    (fedBack { edge := some true }).fbOn 95 = true ∧ ((after (.deadTimeExpiry 47) (fedBack { edge := some true })).mleg 47).dtDone = true
      ∧ ((fedBack { edge := some true }).mleg 47).edgeAt + (fedBack { edge := some true }).interlockTime 47 ≤ 128 * 1000000
      ∧ (after (.interlockTimeout 47) (fedBack { edge := some true })).on (R.MOD_LEG_STAT_il_timeout 47) = true
      ∧ (after (.fbComparatorChange 95 (480000 - 8192) 0) (fedBack { edge := some true, dtDone := true })).fbOn 95 = true
      ∧ ((after (.fbComparatorChange 95 (480000 - 8193) 0) (fedBack { edge := some true, dtDone := true })).mleg 47).edge = none
      ∧ tget ((after (.fbComparatorChange 95 0 9) (fedBack { measuring := true, measToH := true, edgeAt := 128 * 999999 })).mleg 47).meas 2 [] = [137]
      ∧ (after (.nodeComparatorChange 47 1 0) (edging { measuring := true })).on (R.GTP_NODE_TH_node_hi 47) = true ∧ ((after (.nodeComparatorChange 47 1 0) (edging { measuring := true })).mleg 47).measuring = false
      ∧ (fedBack { edge := some true, lastEdge := some (true, 0), winEnd := 100 }).edgeTime 47 true = 0
      ∧ base.calDegraded = false ∧ base.mod.calLeft = 0 ∧ (up [(R.MOD_LEG_CFG_en 47, 1), (R.GTP_LEG_CFG_bypass 47, 1)]).on (R.GTP_LEG_CFG_bypass 47) = true ∧ (after (.calibrationMeasurement 160) base).mod.tapSamples = [160]
      ∧ (after (.calibrationMeasurement 130) { base with mod := { base.mod with tapSamples := List.replicate 15 130 } }).mod.tapsNew = some 130
      ∧ ((after .modClockStop wrapping).gleg 47).safeHeld = true := by decide +kernel

/-- A STAT frame of the bits `b`, each half bit 12.5 ns. -/
def statLevels (b : Nat) : List Nat := (runLengths (statHalfBits b)).map (fun n => 12500 * n)

/-- A frame with uvlo_h and temp 1 and its CRC, and one with a seq of 7, whose first bit of 1 goes on from the preamble. -/
def statGoods : List Nat := [2 ^ 24 + 2 ^ 4, 2 ^ 27 + 2 ^ 26 + 2 ^ 25].map (fun b => b + ((List.range 16).find? (fun c => crc4 28 (b + c) 0xF == 0)).getD 0)

theorem witness_StatFramesAreRecorded_coded : ∀ b, b ∈ statGoods → codesStat b (statLevels b) ∧ crc4 28 b 0xF = 0 ∧ b < 2 ^ 28 := by
  unfold codesStat statFits
  decide +kernel

theorem witness_StatFramesAreRecorded :
    let s := up [(R.GTP_LEG_CFG_stat_en 47, 1)]
    let good := statGoods.getD 0 0
    s.on (R.GTP_LEG_CFG_stat_en 47) = true ∧ s.modStopped = false ∧ crc4 28 (good + 1) 0xF ≠ 0
      ∧ (after (.statFrame 47 (statLevels good)) s).on (R.GTP_LEG_LINK_uvlo_h 47) = true ∧ (after (.statFrame 47 (statLevels good)) s).get (R.GTP_LEG_LINK_temp 47) = 1
      ∧ (after (.statFrame 47 (statLevels (statGoods.getD 1 0))) s).get (R.GTP_LEG_LINK_seq 47) = 7
      ∧ (after (.statFrame 47 (statLevels (good + 1))) s).get (R.GTP_LEG_CNT_bad_frames 47) = 1
      ∧ (after (.statFrame 47 ((statLevels good).set 2 18000)) s).get (R.GTP_LEG_CNT_bad_frames 47) = 1 ∧ statClass 18000 = none
      ∧ (after (.statFrame 47 ((statLevels good).set 29 37500)) s).get (R.GTP_LEG_CNT_bad_frames 47) = 1 ∧ 29 + 1 < (statLevels good).length
      ∧ (after (.statFrameMissing 47) { s with gtp := { s.gtp with legs := [(47, { badRun := 2 })] } }).on (R.GTP_LEG_STAT_stat_lost 47) = true := by decide +kernel

theorem witness_LegFaultsAndTwoStepTurnOff :
    let s := up [(R.WIN_PD_armed 3, 1), (R.WIN_TRIP_DESAT_pd 47, 8)]
    let g (x : GateLeg) (l : List (Fld × Nat)) : State := { up l with gtp := { base.gtp with legs := [(47, x)], assist := [(6, true), (7, true)], assistEnding := [(7, true)] } }
    let hi (s : State) : State := { s with pins := { s.pins with desat := [(47, true)] } }
    let x := { g { gsoft := true, gh := true } [(R.GTP_LEG_STAT_in_soft 47, 1)] with pins := { base.pins with extended := true } }
    s.on (R.GTP_LEG_CFG_bypass 47) = false ∧ (s.gleg 47).gateClosed = false ∧ tbit s.pins.desat 47 = false ∧ (after (.desatAssert 47 true) s).on (R.GTP_LEG_STAT_fault 47) = true
      ∧ (after (.desatAssert 47 true) s).on (R.WIN_PD_tripped 3) = true ∧ tbit (after (.desatAssert 47 false) (hi s)).pins.desat 47 = false
      ∧ tbit (after (.desatAssert 47 true) (g { gateClosed := true } [])).pins.desat 47 = true
      ∧ (g { gateClosed := true } []).gleg 47 = { gateClosed := true } ∧ (after (.blankingEnd 47) (hi (g { gateClosed := true } []))).on (R.GTP_LEG_STAT_fault 47) = true
      ∧ (g { gateClosed := true, blankUntil := 1 } []).clk.modTick < 1
      ∧ (after (.nodeWatchdogTimeout 47 true) (g { wdH := true } [])).get (R.GTP_LEG_STAT_first_cause 47) = 2
      ∧ base.pins.extended = false ∧ (g { gsoft := true } [(R.GTP_LEG_STAT_in_soft 47, 1)]).myTurn 47 = true
      ∧ (after (.finalStep 47) (g { gsoft := true } [(R.GTP_LEG_STAT_in_soft 47, 1)])).on (R.GTP_LEG_STAT_in_soft 47) = false
      ∧ (after .ringStopped (g { gsoft := true } [(R.GTP_LEG_STAT_in_soft 47, 1)])).on (R.GTP_LEG_STAT_in_soft 47) = false
      ∧ (after (.ringCalibration 65535) base).get R.GTP_RING_cycles = 65535 ∧ tbit (after (.tripAssistEnd 1 3) (g { } [])).gtp.assist 7 = false
      ∧ (after (.tripAssistEnd 1 3) (g { } [])).on (R.GTP_CHOP_STAT_by_trip 1) = true
      ∧ x.pins.extended = true ∧ x.myTurn 47 = true ∧ (∀ m, m < 48 → m ≠ 47 → x.on (R.GTP_LEG_STAT_in_soft m) = false)
      ∧ (after (.finalStep 47) x).pins.extended = false := by decide +kernel

theorem witness_MeteringSamplesAreTaken :
    let s := up [(R.MTR_CFG_en, 1), (R.MTR_SNAP_pending 3, 1)]
    s.on R.MTR_CFG_en = true ∧ (List.replicate 8 (-8388608 : Int)).length = 8 ∧ s.grd.q30.length < 32 ∧ s.mtr.writes = [] ∧ s.on (R.MTR_SNAP_pending 3) = true
      ∧ s.on (R.MTR_SNAP_pending 0) = false ∧ 8388000 ≤ (-8388000 : Int).natAbs
      ∧ (∀ c ∈ List.replicate 8 (-8388608 : Int), -8388608 ≤ c ∧ c ≤ 8388607)
      ∧ (after (.snapshotTake 3) s).get R.MTR_ERR_CNT_snap_merged = 1 ∧ (after (.snapshotTake 0) s).on (R.MTR_SNAP_pending 0) = true := by decide +kernel

theorem witness_DemandPulsesAndExport :
    let s := { up [(R.MTR_CFG_en, 1), (R.MTR_PI_CFG_en 3, 1), (R.MTR_PI_CFG_debounce 3, 25), (R.MTR_PO_CFG_en 1, 1)] with
      mtr := { base.mtr with ins := [(3, { high := 24 })], outs := [(1, { owed := 255, phase := .gap })], expRun := 8000, dem := [(0, 5), (1, 6)] }, aon := { base.aon with powered := true } }
    let x := tget (after (.pulseInputSample 8) s).mtr.ins 3 { }
    s.on (R.MTR_PI_CFG_en 3) = true ∧ s.on (R.MTR_PI_STAT_level 3) = false ∧ x.pulses = 1 ∧ x.energy = 1000000
      ∧ (after (.pulseInputSample 8) s).on (R.MTR_PI_STAT_level 3) = true ∧ tget (after (.pulseOutputTimer 1) s).mtr.outs 1 { } = { owed := 254, phase := .high }
      ∧ 0 < s.mtr.expRun ∧ 8 * s.get R.MTR_EXPORT_CFG_time ≤ s.mtr.expRun ∧ s.mtr.expRaised = false ∧ tbit (after .exportLimit s).evr.pulse 473 = true
      ∧ ((s.get R.AON_RTC_seconds : Int) + 900 * max (-48) (min 56 (s.getI R.MTR_DEMAND_CFG_tz))) % (60 * s.get R.MTR_DEMAND_CFG_length : Nat) = 0
      ∧ s.mtr.demAt = none ∧ after .demandClose (after .demandClose s) = after .demandClose s ∧ s.linkOpen 3 = true ∧ s.reserved R.AON_RTC = false
      ∧ s.writeForbidden 3 0 R.AON_RTC = false
      ∧ (after .demandClose s).on (R.MTR_DEMAND_dir_change 0) = true ∧ s.aon.powered = true ∧ (after (.rtcWrite 3 0 (2 ^ 32 - 1)) s).get R.AON_RTC_seconds = 2 ^ 32 - 1 := by
  decide +kernel

theorem witness_CheckpointsAreQueuedAndCommitted :
    let s := { up [(R.MTR_CFG_en, 1)] with aon := { base.aon with powered := true, q06 := [[1], [2], [3]] } }
    s.on R.MTR_CFG_en = true ∧ s.aon.q06.length < 16 ∧ s.aon.powered = true ∧ s.aon.q06 = [[1], [2]] ++ [[3]] ∧ (after .checkpoint s).aon.q06.length = 4
      ∧ (after .checkpointCommit s).aon.q06 = [] ∧ (after .checkpointCommit s).get R.AON_ERR_CNT_ckpt_skip = 2
      ∧ (after .checkpointCommit s).byte (retBlock 16) = 3
      ∧ (after .checkpoint { s with aon := { s.aon with q06 := List.replicate 16 [] } }).get R.AON_ERR_CNT_ckpt_skip = 1 := by decide +kernel

theorem witness_SequencerActsAndTimersExpire :
    let r := up [(R.SEQ_RULE_valid 255, 1), (R.SEQ_RULE_from 255, 1), (R.SEQ_RULE_cond_a 255, 97), (R.SEQ_RULE_cond_b 255, 127), (R.SEQ_RULE_act 255, 4),
      (R.SEQ_RULE_arg 255, 31), (R.SEQ_RULE_evt1 255, 1), (R.SEQ_TIMER_period 31, 9)]
    let m (k : Nat) : State := { base with seq := { base.seq with hostModes := [k] } }
    let two (l : List Nat) : State := { base with seq := { base.seq with hostModes := l } }
    let glazed : State := { base with seq := { base.seq with glazes := [(1, [⟨0x05000000, 5, 15⟩]), (8, [⟨0x05000000, 48, 240⟩]), (15, [⟨0x05000000, 64, 240⟩])] } }
    base.seq.comp = none ∧ base.follows = false ∧ base.seq.hostAux = [] ∧ base.eng.degrade = [] ∧ mayEnter 1 6 = false ∧ mayEnter 1 base.mode = true
      ∧ (after (.sequencerStep 4) { m 1 with regs := (base.put R.SEQ_STATUS_mode 6).regs }).get R.SEQ_ERR_CNT_req_refused = 1 ∧ (after (.sequencerStep 4) (m 1)).get R.SEQ_STATUS_target = 1
      ∧ r.on (R.SEQ_RULE_valid 255) = true ∧ r.get (R.SEQ_RULE_from 255) / 2 ^ r.target % 2 = 1 ∧ r.get (R.SEQ_RULE_cond_a 255) = 97
      ∧ r.on (R.SEQ_RULE_a_neg 255) = false ∧ r.get (R.SEQ_RULE_cond_b 255) = 127 ∧ r.get (R.SEQ_RULE_act 255) = 4
      ∧ (after (.sequencerStep 4) r).on (R.SEQ_TIMER_running 31) = true ∧ (after (.sequencerStep 4) r).get (R.SEQ_TIMER_remaining 31) = 9
      ∧ (after (.sequencerStep 4) (two [1, 0])).get R.SEQ_ERR_CNT_shadowed = 1 ∧ (after (.sequencerStep 4) (two [1, 0])).get R.SEQ_STATUS_target = 1
      ∧ (after (.sequencerStep 4) (two [0, 1])).seq.comp = none
      ∧ glazed.composed 1 [] 0x05000000 = 0x05 ∧ glazed.composed 1 [8] 0x05000000 = 0x35 ∧ glazed.composed 1 [15, 8] 0x05000000 = 0x45
      ∧ tbit (after (.sequencerStep 4) r).evr.pulse 509 = true := by decide +kernel

theorem witness_SequencerActsAndTimersExpire_glaze :
    let c (l : List Nat) : State := { base with seq := { base.seq with comp := some { mode := 1, modeAsked := true, sources := l } } }
    let q : State := { base with seq := { base.seq with q04 := [511], q05 := [5], timersDue := [31], entryStep := true } }
    let t := up [(R.SEQ_TIMER_running 31, 1), (R.SEQ_TIMER_remaining 31, 5)]
    ((t.timerCount 31 4).get (R.SEQ_TIMER_remaining 31)) = 1 ∧ (t.timerCount 31 5).on (R.SEQ_TIMER_expired 31) = true ∧ (t.timerCount 31 5).seq.timersDue = [31]
      ∧ (after (.seqTimerExpiry 31) (t.timerCount 31 5)).seq.timersDue = []
      ∧ (c []).get R.TWN_STATUS_state ≠ 3 ∧ (after .glazeApplicationDone (c [])).mode = 1 ∧ (after .glazeApplicationDone (c [15])).mode = 0
      ∧ (after (.sequencerStep 0) q).seq.q04 = [] ∧ (after (.sequencerStep 1) { q with seq := { q.seq with q04 := [] } }).seq.q05 = []
      ∧ (after (.sequencerStep 2) q).seq.timersDue = [] ∧ (after (.sequencerStep 3) q).seq.entryStep = false := by decide +kernel

theorem witness_RequestsMeetAPendingComposition :
    let p (mode next host : Nat) (sw : List Nat) : State := { up [(R.SEQ_STATUS_mode, mode)] with seq := { base.seq with hostModes := [host], comp := some { mode := next, sources := [15, 14], swapped := sw } } }
    let after4 (s : State) : State := after (.sequencerStep 4) s
    let held : State := { base with seq := { base.seq with hostAux := [(15, true)], comp := some { mode := 1, sources := [15] } } }
    let flush : State := { base with seq := { base.seq with auxHeld := [(15, true)], comp := some { mode := 1, modeAsked := true } } }
    let flushed := after .glazeApplicationDone flush
    (∀ i, i < 256 → base.on (R.SEQ_RULE_valid i) = false) ∧ base.follows = false ∧ (p 6 0 1 []).live = true
      ∧ mayEnter 1 6 = false ∧ (after4 (p 6 0 1 [])).get R.SEQ_ERR_CNT_req_refused = 1
      ∧ (after4 (p 0 1 1 [])).seq.hostModes = [] ∧ ((after4 (p 0 1 1 [])).seq.comp.map (fun c => c.mode)) = some 1
      ∧ mayEnter 6 0 = true ∧ (after4 (p 0 1 6 [])).get R.SEQ_ERR_CNT_replaced = 1 ∧ ((after4 (p 0 1 6 [])).seq.comp.map (fun c => c.mode)) = some 6
      ∧ (after4 held).seq.auxHeld = [(15, true)] ∧ (after4 held).get R.SEQ_STATUS_aux_req = 128 ∧ (after4 held).seq.hostAux = []
      ∧ (flush.get R.TWN_STATUS_state ≠ 3) ∧ flushed.mode = 1 ∧ flushed.seq.auxHeld = [] ∧ (flushed.seq.comp.map (fun c => c.aux)) = some [15]
      ∧ mayEnter 0 1 = true ∧ (after4 (p 0 1 0 [15])).seq.nextModes = [0] ∧ mayEnter 6 1 = false ∧ (after4 (p 0 1 6 [15])).seq.nextModes = [] := by decide +kernel

theorem witness_RequestsWaitForTheStep :
    (after (.modeRequest 7) base).seq.hostModes = [7] ∧ (after (.auxOnRequest 15) base).seq.hostAux = [(15, true)]
      ∧ (after (.auxOffRequest 8) base).seq.hostAux = [(8, false)] := by decide +kernel

/-- A node of a plant whose port `p` is in state `k` with the link record `x`. -/
def node (p k : Nat) (x : FabPort) (l : List (Fld × Nat)) : State :=
  { up ([(R.FAB_CFG_en, 1), (R.FAB_PORT_state p, k)] ++ l) with fab := { base.fab with ports := [(p, x)] } }

theorem witness_LinksTrainAndFail :
    let parent := node 3 3 { echoDue := true, echoes := 7 } [(R.FAB_CFG_root, 1)]
    let child := node 0 3 { awaited := true, trips := List.replicate 7 100, peerId := 2, peerPort := 1 } []
    let meets := node 0 2 { heard := 15, told := 16 } []
    let deaf (x : Nat) : State := { node 0 x { } [] with pins := { base.pins with los := [(0, true)] } }
    let marks := node 3 4 { } [(R.FAB_CFG_root, 1), (R.FAB_STATUS_port_up, 8), (R.FAB_STATUS_time_valid, 1), (R.FAB_STATUS_level, 0)]
    marks.inPlant = true ∧ marks.fab.timeWrite = none ∧ marks.fab.markAt = none ∧ marks.portUp 3 = true ∧ (after .timeMarkSend marks).fabDue 3 = [.mark 0 true 0]
      ∧ (after (.alignment 0) (deaf 1)).linkState 0 = 1 ∧ (after (.losAssert 3 false) (deaf 1)).pins.los = [(0, true), (3, false)]
      ∧ (node 0 1 { } []).mayTrain 0 = true ∧ (after (.alignment 0) (node 0 1 { } [])).linkState 0 = 2 ∧ (after (.alignRestart 3) (node 3 1 { } [])).get (R.FAB_PORT_downs 3) = 1
      ∧ (after (.hello 0 0 2 3 1 6) meets).linkState 0 = 3 ∧ (after (.hello 0 0 2 3 1 6) meets).fabDue 0 = [.probe] ∧ 3 * 1 + 1 + 3 ≤ 65535 ∧ (after (.hello 0 0 0 3 1 0) meets).linkState 0 = 5
      ∧ ((after (.hello 3 0 2 0 0 0) (node 3 2 { heard := 15, told := 16 } [])).linkState 3) = 5
      ∧ ((after (.hello 3 0 0 0 0 0) (node 3 2 { heard := 14, told := 16 } [])).fport 3).heard = 15
      ∧ ((after (.helloSend 3) (node 3 2 { heard := 15, told := 20 } [])).fport 3).told = 21
      ∧ (after (.linkDown 0 300) (node 0 4 { } [(R.FAB_STATUS_port_up, 1)])).get R.FAB_ERR_CNT2_code = 255
      ∧ (after (.hello 3 1 0 0 0 0) (node 3 2 { heard := 15, told := 16 } [])).fport 3 = { told := 16 }
      ∧ (after (.hello 3 0 3 0 0 0) (node 3 2 { heard := 15, told := 16 } [])).fport 3 = { told := 16 }
      ∧ (after (.barrierRelease 300 255) (node 0 4 { } [(R.FAB_STATUS_port_up, 1)])).get R.FAB_ERR_CNT2_code = 255
      ∧ (node 0 4 { } [(R.FAB_STATUS_port_up, 1)]).portUp 0 = true ∧ (after (.linkDown 0 0) (node 0 4 { } [(R.FAB_STATUS_port_up, 1)])).on R.FAB_STATUS_standalone = true
      ∧ ((after (.losAssert 3 true) (node 3 4 { } [])).linkState 3) = 1 ∧ ((after (.probe 3 0) (node 3 3 { } [])).fport 3).echoDue = true
      ∧ (parent.fport 3).echoDue = true ∧ parent.linkState 3 = 3 ∧ 7 ≤ (parent.fport 3).echoes ∧ (after (.echo 2148 0) child).nodeId = 8 ∧ (after (.echo 2148 0) child).get R.FAB_STATUS_level = 1
      ∧ (after .echoTimeout child).linkState 0 = 1 ∧ ((after .periodicProbe (node 0 4 { } [(R.FAB_STATUS_port_up, 1)])).fport 0).awaited = true
      ∧ ((after (.alignment 7) (up [(R.TWN_CFG_role, 1)])).lane 3).aligned = true := by decide +kernel

theorem witness_PlantTimeFloodsAndBarriers :
    let root := up [(R.FAB_CFG_en, 1), (R.FAB_CFG_root, 1), (R.FAB_STATUS_port_up, 14), (R.FAB_STATUS_time_valid, 1)]
    let leaf := up [(R.FAB_CFG_en, 1), (R.FAB_STATUS_joined, 1), (R.FAB_STATUS_port_up, 1), (R.FAB_STATUS_time_valid, 1), (R.FAB_STATUS_time_locked, 1)]
    let at_ (n : Nat) (b : Bool) : State := { leaf with clk := { leaf.clk with plantTime := n }, fab := { leaf.fab with marked := b } }
    root.fab.markAt = none ∧ (after .timeMarkSend root).fab.markAt = some 0 ∧ root.isRoot = true ∧ root.inPlant = true ∧ root.portUp 3 = true ∧ (after .timeMarkSend root).fabDue 3 = [.mark 0 true 0]
      ∧ (after .timeMarkSend { root with fab := { root.fab with timeWrite := some 9 } }).clk.plantTime = 9
      ∧ (after (.timeMark false 0 0 true) (at_ 8000 true)).fab.trim = 125 ∧ (after (.timeMark false 0 0 true) (at_ 8001 true)).fab.stepArmed = true
      ∧ (after (.timeMark false 0 0 true) (at_ 0 false)).fab.stepArmed = true
      ∧ (after (.timeMark false 0 77 true) { leaf with fab := { leaf.fab with stepArmed := true } }).clk.plantTime = 77
      ∧ leaf.on (lockFld false) = true ∧ (after (.markTimeout false) leaf).get R.FAB_TIME_STAT_lost = 1
      ∧ (after (.fabTimeWrite (2 ^ 64 - 1)) root).fab.timeWrite = some (2 ^ 64 - 1) ∧ (after (.tripSetReceived 0 0 65535 255) leaf).get R.FAB_FLOOD_last_seq = 255
      ∧ (after (.tripSetReceived 3 0 7 1) root).fabDue 2 = [.trip 7 1]
      ∧ ((after (.statusReceived 3 0 5) root).fport 3).status = some 5
      ∧ root.on R.FAB_BARRIER_pending = false ∧ (after (.barrierEnter 255) leaf).fab.barrierSent = true
      ∧ (after (.barrierEnter 255) (up [(R.FAB_CFG_en, 1), (R.FAB_CFG_root, 1)])).on R.FAB_BARRIER_done = true
      ∧ (after (.barrierEnter 255) base) = base ∧ (up [(R.FAB_BARRIER_pending, 1)]).on R.FAB_BARRIER_pending = true
      ∧ ((after (.barrierArrive 3 0 255) root).fport 3).arrived = some 255 ∧ (after (.barrierRelease 0 255) (after (.barrierEnter 255) leaf)).on R.FAB_BARRIER_pending = false := by
  decide +kernel

theorem witness_MeteringSamplesAreTaken_quality :
    let u (v : Int) (l : List (Fld × Nat)) : State := { (up ([(R.MTR_CFG_u_din, 2300), (R.MTR_EVT_CFG_sag_th, 900), (R.MTR_EVT_CFG_swell_th, 1100),
      (R.MTR_EVT_CFG_hyst, 20), (R.MTR_EVT_CFG_intr_th, 50)] ++ l)) with mtr := { base.mtr with f := 8000 * 65536, hist := [List.replicate 8 v] } }
    let e (v : Int) (ty : Nat) (x : PqEvt) : State := { u v [] with mtr := { (u v []).mtr with evts := [(ty, x)] } }
    cycleRms (u 206999 []).mtr.hist (u 206999 []).mtrF 2 = 206999 ∧ (u 206999 []).aon.q07.length ≤ 13
      ∧ (((u 206999 []).halfCycle.pq 1).active, ((u 206999 []).halfCycle.pq 2).active, ((u 206999 []).halfCycle.pq 3).active) = (true, false, false)
      ∧ (((u 207000 []).halfCycle.pq 1).active, tbit (u 206999 []).halfCycle.evr.pulse 464) = (false, true)
      ∧ (((u 253001 []).halfCycle.pq 2).active, ((u 11499 []).halfCycle.pq 3).active) = (true, true)
      ∧ (((e 211600 1 { active := true, hc := 16777215 }).halfCycle.pq 1).active, ((e 211599 1 { active := true, hc := 7 }).halfCycle.pq 1).hc) = (false, 8)
      ∧ tbit (e 211600 1 { active := true }).halfCycle.evr.pulse 467 = true
      ∧ (((e 248400 2 { active := true }).halfCycle.pq 2).active, ((e 16100 3 { active := true }).halfCycle.pq 3).active) = (false, false) := by decide +kernel

theorem witness_MeteringSamplesAreTaken_sequence :
    let u (v : List Int) (ty : Nat) (x : PqEvt) : State := { up [(R.MTR_CFG_u_din, 2300)] with
      mtr := { base.mtr with f := 8000 * 65536, hist := [v], evts := [(ty, x)] } }
    let n := [230000, 230000, 230000, 230000, 0, 0, 0, 0]
    ((u n 5 { run := 9 }).cycleUpdate.pq 5).active = true ∧ (u n 5 { run := 9 }).cycleUpdate.on R.MTR_EVT_STAT_lost_n = true
      ∧ ((u n 5 { run := 8 }).cycleUpdate.pq 5).run = 9 ∧ tbit (u n 5 { run := 9 }).cycleUpdate.evr.pulse 469 = true
      ∧ ((u [0, 0, 0, 0] 5 { active := true, run := 9 }).cycleUpdate.pq 5).active = false
      ∧ ((u [0, 0, 0, 0] 4 { run := 3 }).cycleUpdate.pq 4).run = 3 := by decide +kernel

theorem witness_SequencerActsAndTimersExpire_governor :
    let g (t : Nat) (l : List (Fld × Nat)) : State := (up ([(R.GOV_CFG_en, 1), (R.GOV_IN_tj_count, 1), (R.GOV_IN_tj_first, 1), (R.GOV_TH_tj_max, 10000), (R.GOV_TH_h_start, 2000),
      (R.GOV_LADDER_valid 0, 1), (R.GOV_LADDER_valid 1, 1), (R.GOV_LADDER_mplan 1, 3), (R.GOV_LADDER_down_th 0, 1500), (R.GOV_LADDER_up_th 0, 2500),
      (R.GOV_TH_e_lo, 0), (R.GOV_TH_e_hi, 0), (R.GOV_IN_e_sig, 2), (R.GOV_IN_die_sig, 3), (R.GOV_IN_p_sig, 4), (R.GOV_TH_die_hot, 9000), (R.GOV_TH_die_hyst, 500),
      (R.GOV_TH_defer_th, 9500)] ++ l)).setWord (R.S 1) (BitVec.ofNat 32 t)
    let hot := g 9000 []
    let cold := g 1000 [(R.GOV_STAT_step, 1)]
    let die (t : Nat) (l : List (Fld × Nat)) : State := (g 0 ([(R.CLK_PLAN_defined 8, 1), (R.CLK_PLAN_defined 9, 1)] ++ l)).setWord (R.S 3) (BitVec.ofNat 32 t)
    let load (p : Nat) (l : List (Fld × Nat)) : State := (g 0 ([(R.SEQ_STATUS_mode, 2), (R.GOV_STAT_bridges, 1), (R.GOV_BRIDGE_p_on 1, 700), (R.GOV_BRIDGE_glaze 2, 9)] ++ l)).setWord (R.S 4) (BitVec.ofNat 32 p)
    hot.on R.GOV_CFG_en = true ∧ hot.follows = false ∧ hot.headroom = 1000 ∧ hot.ladderStep = 0 ∧ hot.govDecide.get R.GOV_STAT_want = 1 ∧ hot.govDecide.gov.hopM = some 3
      ∧ hot.govDecide.gov.last.toInt = 536870912 + hot.getI R.GOV_TH_lim_min / 2
      ∧ (g 9000 [(R.GOV_TH_e_lo, 1)]).govDecide.get R.GOV_CNT_inhibited = 1 ∧ (g 9000 [(R.GOV_TH_e_lo, 1)]).govDecide.gov.hopM = none
      ∧ cold.govDecide.get R.GOV_STAT_want = 0 ∧ (g 8000 []).govDecide.gov.hopM = none
      ∧ (die 9000 [(R.CLK_STATUS_eplan, 0)]).govDecide.gov.hopE = (if 1 ≤ base.boot.header.slowestEplan then some 1 else none)
      ∧ (die 8500 [(R.CLK_STATUS_eplan, 1)]).govDecide.gov.hopE = some 0
      ∧ (load 701 []).govDecide.get R.GOV_STAT_bridges = 2 ∧ ((load 701 []).govDecide.seq.comp.map (fun c => c.aux)) = some [9]
      ∧ tget (die 9500 [(R.GOV_DEFER_mask_lo, 77)]).govDecide.gov.pub 68 1 = 77 ∧ tget (die 9000 []).govDecide.gov.pub 68 1 = 0
      ∧ (hot.govDecide.govPublish).gov.hopM = none ∧ (hot.govDecide.govPublish).get R.GOV_CNT_hops = 1 ∧ tbit (hot.govDecide.govPublish).evr.level 510 = true := by decide +kernel

theorem witness_PlantTimeFloodsAndBarriers_sets :
    let root := up [(R.FAB_CFG_en, 1), (R.FAB_CFG_root, 1), (R.CLK_STATUS_ref_present, 1)]
    let leaf := up [(R.FAB_CFG_en, 1), (R.FAB_STATUS_joined, 1), (R.FAB_STATUS_port_up, 1)]
    let trims (s : State) (e : Int) : State := { s with fab := { s.fab with trim := e, cycleFrac := 63 }, clk := { s.clk with plantTime := 1000 } }
    let due := dueInsert (dueInsert (dueInsert (dueInsert [] .echo) (.mark 0 true 0)) .probe) (.trip 7 255)
    let q : State := { leaf with fab := { leaf.fab with due := [(3, due)] }, clk := { leaf.clk with plantTime := 99 } }
    due = [.trip 7 255, .mark 0 true 0, .echo, .probe] ∧ leaf.standaloneTime = false ∧ root.isRoot = true ∧ root.rootClock = true
      ∧ ((trims leaf 125).passPlant 1).clk.plantTime = 1063 ∧ ((trims leaf 125).passPlant 1).fab.trim = 124
      ∧ ((trims leaf (-1)).passPlant 129).clk.plantTime = 1000 + 64 * 3 + 1 ∧ ((trims leaf (-1)).passPlant 129).fab.trim = 0
      ∧ ((trims root 0).passPlant 65).clk.plantTime = 1128
      ∧ (q.fabSlot 3).fabDue 3 = [.mark 0 true 0, .echo, .probe] ∧ tget (q.fabSlot 3).fab.sent 3 .echo = .trip 7 255
      ∧ tget ((q.fabSlot 3).fabSlot 3).fab.sent 3 .echo = .mark 99 true 0
      ∧ (after .statusSend leaf).fabDue 0 = [.status leaf.statusBits] := by decide +kernel

/-- A root node whose ports 1 to 3 are up. -/
def root (l : List (Fld × Nat)) : State := up ([(R.FAB_CFG_en, 1), (R.FAB_CFG_root, 1), (R.FAB_STATUS_port_up, 14)] ++ l)

/-- A packet from node `src` to node `dst`, of type `ty`, with `p` as payload words. -/
def packet (ty dst src : Nat) (p : List Nat) : List Byte :=
  let b := leBytes 1 ty ++ leBytes 2 dst ++ leBytes 2 src ++ leBytes 1 p.length ++ leBytes 2 0 ++ p.flatMap (leBytes 4)
  b ++ leBytes 4 (crc32 b)

theorem witness_PacketsAndScheduledOperations :
    let leaf := { up [(R.FAB_CFG_en, 1), (R.FAB_STATUS_joined, 1), (R.FAB_STATUS_node_id, 4), (R.FAB_STATUS_port_up, 1)] with boot := base.boot }
    (root []).portUp 3 = true ∧ (after (.packetReceived 3 7 []) (root [])).get R.FAB_ERR_CNT2_code = 7
      ∧ (after (.packetReceived 3 7 [1]) (root [])).get R.FAB_ERR_CNT_crc = 1
      ∧ (after (.packetReceived 3 0 [0, 0, 0, 0, 0, 63]) (root [])).get R.FAB_ERR_CNT_len = 1
      ∧ (after (.packetReceived 3 0 (List.replicate 12 0)) (root [])).get R.FAB_ERR_CNT_crc = 1
      ∧ (after (.packetReceived 0 0 (packet 1 4 0 [5, 6])) { leaf with fab := { leaf.fab with q17 := List.replicate 64 [] } }).get R.FAB_ERR_CNT_drop = 1
      ∧ (after (.packetReceived 0 0 (packet 1 4 0 [5, 6])) { leaf with fab := { leaf.fab with q21Wait := true } }).fab.q17 = [packet 1 4 0 [5, 6]]
      ∧ (packet 1 4 0 [5, 6]).length = 12 + 4 * leAt (packet 1 4 0 [5, 6]) 5 1 ∧ isBcast (packet 1 4 0 [5, 6]) = false ∧ isRequest (leAt (packet 1 4 0 [5, 6]) 0 1) = true
      ∧ (after (.packetReceived 0 0 (packet 1 4 0 [5, 6])) leaf).fab.q20 = [packet 1 4 0 [5, 6]]
      ∧ (after (.packetReceived 1 0 (packet 1 9 2 [])) { leaf with regs := (leaf.put R.FAB_STATUS_port_up 3).regs }).fab.q16 = [packet 1 9 2 []]
      ∧ (root []).routeTo 5 = 1 ∧ (after (.packetReceived 2 0 (packet 1 5 2 [])) (root [])).fab.q18 = [(1, packet 1 5 2 [])] := by decide +kernel

/-- A root with one pending operation of kind `k`, whose time has come, which has the roles that a test asks for. -/
def due (k : Nat) (l : List (Fld × Nat)) : State :=
  { root ([(R.BOOT_SESSION_requester 2, 9), (R.BOOT_SESSION_role 2, 2)] ++ l) with
    fab := { base.fab with sched := [{ op := k, id := 255, t := 0, arg0 := 7, arg1 := 2 ^ 32 - 1 }] }, eng := { base.eng with param := [(7, 16)] } }

theorem witness_PacketsAndScheduledOperations_scheduled :
    let o : SchedOp := { op := 4, id := 255, t := 0, arg0 := 7, arg1 := 2 ^ 32 - 1 }
    let go := { root [(R.FAB_SCHED_TX_op, 1), (R.FAB_SCHED_TX_id, 255), (R.FAB_STATUS_port_up, 0)] with fab := { base.fab with sched := [] } }
    (due 4 []).inPlant = true ∧ (due 4 []).schedDue = some o ∧ (due 4 []).schedAllowed 9 o = true ∧ (due 4 []).schedAllowed 8 o = false
      ∧ (due 2 []).schedAllowed 9 { o with op := 2 } = true ∧ (due 3 []).schedAllowed 9 { o with op := 3 } = true
      ∧ (after (.scheduledOperation 9 5 255 0 7 0) (due 4 [])).get R.FAB_SCHED_STAT_refused = 1
      ∧ (due 2 []).schedAllowed 8 { o with op := 2 } = false ∧ (after (.scheduledOperation 8 2 255 0 7 0) (due 2 [])).get R.BOOT_ERR_CNT_access = 1
      ∧ (after (.scheduledOperation 9 4 255 0 7 0) (due 4 [])).get R.FAB_SCHED_STAT_pending = 2
      ∧ (after (.scheduledOperation 9 4 255 0 7 0) { due 4 [] with clk := { base.clk with plantTime := 1 } }).get R.FAB_SCHED_STAT_late = 1
      ∧ (after (.scheduledOperation 9 1 255 0 7 0) { due 1 [] with fab := { base.fab with sched := List.replicate 8 o } }).get R.FAB_SCHED_STAT_refused = 1
      ∧ (after .scheduledSnapshot (due 1 [])).get R.FAB_SNAP_id = 255 ∧ tget (after .scheduledSetpoint (due 2 [])).eng.paramPend 7 0 = 0xFFFFFFFF
      ∧ (after .scheduledPlanHop (due 3 [])).get R.FAB_SCHED_STAT_last_op = 3
      ∧ (after .plantReset (due 4 [])).get R.FAB_SCHED_STAT_last_op = 4 ∧ (after .plantReset (due 4 [(R.SEQ_STATUS_mode, 2)])).get R.FAB_SCHED_STAT_refused = 1
      ∧ (root []).linkOpen 3 = true ∧ (root []).reserved R.FAB_SCHED_TX = false ∧ (root []).writeForbidden 3 0 R.FAB_SCHED_TX = false
      ∧ (after (.schedTxGo 3 0) (root [(R.FAB_SCHED_TX_busy, 1)])).fab.sched = [] ∧ go.isRoot = true ∧ go.get R.FAB_SCHED_TX_dst = go.nodeId ∧ (after (.schedTxGo 3 0) go).fab.sched = [{ op := 1, id := 255, t := 0, arg0 := 0, arg1 := 0 }]
      ∧ (after (.sprinkleAssignment 9 3 9) (due 1 [])).get R.FAB_ERR_CNT2_type = 1
      ∧ (after (.sprinkleAssignment 8 3 9) (due 1 [(R.GRD_SPR_CFG_src, 1)])).get R.BOOT_ERR_CNT_access = 1
      ∧ (after (.sprinkleAssignment 9 3 9) (due 1 [(R.GRD_SPR_CFG_src, 1)])).get R.GRD_SPR_CFG_share = 9 := by decide +kernel

/-- A device of a twin pair, with the link state `k`, in role `r`, with the lanes `m` up. -/
def twin (k r m : Nat) (l : List (Fld × Nat)) : State :=
  up ([(R.TWN_CFG_role, r), (R.TWN_STATUS_state, k), (R.TWN_STATUS_lanes_up, m), (R.TWN_CFG_rx_pd, 8)] ++ l)

/-- Hypotheses that equate a heartbeat's hash with `State.pairHash` are met by giving that hash. -/
theorem witness_LanesPairStartAndLose :
    let s := { twin 1 1 3 [] with twn := { base.twn with lanes := [(3, { aligned := true, good := 15 })] } }
    let d (m : Nat) : State := { twin 3 1 m [] with twn := { base.twn with lanes := (List.range 4).map (fun l => (l, { aligned := true, good := 16 })) } }
    let b := { twin 2 2 3 [(R.MOD_CG_CFG_en 7, 1)] with twn := { base.twn with startAt := some 0 } }
    s.live = true ∧ s.twinUsed = true ∧ (s.lane 3).aligned = true ∧ 2 ≤ s.lanesUp ∧ 2 + s.get R.TWN_CFG_role = 3
      ∧ (after (.twinHeartbeat 3 true 2 3 0 true 0 0) { twin 3 1 3 [] with twn := s.twn }).on (laneFld 3) = true
      ∧ (after (.twinHeartbeat 3 true 1 1 0 true 0 0) s).get R.TWN_STATUS_state = 4 ∧ (after .heartbeatSend s).twn.beat = [(1, 1, 0), (1, 1, 1), (1, 1, 2), (1, 1, 3)]
      ∧ (s.lane 3).aligned = true ∧ s.on (laneFld 3) = false ∧ ((after (.twinLaneDown 3) s).lane 3).aligned = false
      ∧ s.on (laneFld 1) = true ∧ (after (.twinLaneDown 1) (d 3)).get R.TWN_STATUS_state = 5 ∧ 3 ≤ (twin 3 1 11 []).lanesUp
      ∧ (after (.twinLaneDown 3) (d 11)).get R.TWN_STATUS_state = 3 ∧ b.twn.startAt = some 0 ∧ b.mode = 0 ∧ b.twn.partnerMode = 0
      ∧ (after .twinStart b).get R.TWN_STATUS_state = 3 ∧ (twin 2 2 3 [(R.SEQ_STATUS_mode, 2)]).mode ≠ 0
      ∧ (after (.twinHeartbeat 3 true 1 1 0 true 0 1) { twin 5 1 3 [] with twn := s.twn }).get R.TWN_STATUS_state = 4
      ∧ (after (.twinHeartbeat 3 true 1 1 0 true 0 1) { twin 3 1 3 [] with twn := s.twn }).get R.TWN_STATUS_state = 4
      ∧ (after (.twinHeartbeat 3 true 1 2 0 true 0 1) { twin 4 1 3 [] with twn := s.twn }).twn.partnerLocked = true
      ∧ ((after (.twinHeartbeat 3 true 2 1 0 true 0 1) { twin 3 2 3 [(R.FAB_PORT_state 3, 4)] with twn := s.twn }).linkState 3) = 0
      ∧ (after (.twinHeartbeat 3 false 1 1 0 true 0 1) s).lane 3 = { aligned := true }
      ∧ ((after .repair (twin 5 2 0 [(R.FAB_PORT_state 3, 4)])).linkState 3) = 0 ∧ after .repair (twin 5 2 0 [(R.SEQ_STATUS_mode, 2)]) = twin 5 2 0 [(R.SEQ_STATUS_mode, 2)]
      ∧ (after .repair (twin 5 1 0 [])).get R.TWN_STATUS_state = 1 ∧ base.twinUsed = false := by decide +kernel

theorem witness_TwinTrafficActs :
    let s := twin 3 1 15 [(R.WIN_PD_armed 3, 1)]
    let f := { twin 3 2 15 [] with seq := { base.seq with comp := some { mode := 1 } } }
    let held := { s with eng := { s.eng with param := [(4095, 16)] } }
    let full := { held with twn := { s.twn with q23 := List.replicate 256 (.compDone 9) } }
    let q := { s with twn := { s.twn with q22 := [.compDone 9], q24 := [.go 1], waitingCtl := [.go 2] } }
    s.twinUsed = true ∧ s.get R.TWN_STATUS_lanes_up ≠ 0 ∧ s.get R.TWN_CFG_rx_pd / 2 ^ 3 % 2 = 1 ∧ (after (.crossTripReceived 255) s).twn.crossFrom = 15 ∧ (after (.crossTripReceived 0) s).on (R.WIN_PD_via_twin 3) = true
      ∧ held.paramSrc 4095 = some 15 ∧ held.paired = true ∧ (after (.mirrorEntryReceived true 15 0 4095 7) held).twn.q23.length = 1
      ∧ (after (.mirrorEntryReceived true 15 0 4095 7) full).get R.TWN_ERR_CNT_rx_drop = 1 ∧ s.leads = true ∧ f.follows = true
      ∧ (after (.twinControlRequest true 0 [7]) s).seq.hostModes = [7] ∧ (after (.twinControlRequest true 1 [15, 1]) s).seq.hostAux = [(15, true)]
      ∧ (after (.twinControlRequest true 3 [7, 128, 3]) { f with seq := base.seq }).get R.SEQ_STATUS_target = 7
      ∧ (after (.twinControlRequest true 4 [99]) (twin 2 2 15 [])).twn.startAt = some 99 ∧ tget (after (.twinControlRequest true 5 [4]) f).gov.received 0 0 = 4
      ∧ f.seq.comp = some { mode := 1 } ∧ (after (.twinGo true 5) f).seq.comp = some { mode := 1, goAt := some 5 }
      ∧ q.twn.waitingCtl ≠ [] ∧ (after (.twinControlRequest true 0 [7]) q).twn.q25 = [(0, [7])] ∧ (after (.twinControlRequest true 0 [7]) q).seq.hostModes = []
      ∧ (after (.twinControlRequest true 0 [7]) { q with twn := { q.twn with q25 := List.replicate 256 (0, []) } }).get R.TWN_ERR_CNT_rx_drop = 1
      ∧ (after (.twinQueueRoom 24) { q with twn := { q.twn with waitingCtl := [], q25 := [(0, [7])] } }).seq.hostModes = [7]
      ∧ (∀ c, c < 64 → (q.fr c).phase ≠ .waiting) ∧ (after (.twinQueueRoom 22) q).twn.sent = some (.compDone 9)
      ∧ (after (.twinQueueRoom 24) { q with twn := { q.twn with waitingCtl := [] } }).twn.q24 = []
      ∧ (after (.twinQueueRoom 24) q).twn.q24 = [.go 2]
      ∧ (after (.twinQueueRoom 22) { q with twn := { q.twn with waitingMirror := [.compDone 8] } }).twn.q22 = [.compDone 8]
      ∧ (after (.mirrorEntryReceived false 15 0 4095 7) held).twn.q23 = [] ∧ (after (.twinControlRequest false 0 [7]) s) = s ∧ after (.twinGo false 5) f = f := by decide +kernel

theorem witness_TwinTrafficActs_composition :
    let f (c : CompS) : State := { twin 3 2 15 [] with seq := { base.seq with comp := some c } }
    let lead (c : CompS) : State := { twin 3 1 15 [] with seq := { base.seq with comp := some c } }
    let miss (w : Nat) : State := { twin 3 1 15 [(R.TWN_MIRROR_CFG_wait, w), (R.ENG_FIDX_index 15, 0)] with
      eng := { base.eng with param := [(4095, 16)] }, twn := { base.twn with mirrored := [(4095, true)] }, frm := { base.frm with total := [(15, 2)] } }
    let late := after (.mirrorEntryReceived true 15 (2 ^ 32 - 2) 4095 7) (miss 0)
    ((after (.twinControlRequest true 2 [9]) (lead { mode := 1, no := 9 })).seq.comp.map (fun c => c.partnerDone)) = some true
      ∧ ((after (.twinControlRequest true 2 [8]) (lead { mode := 1, no := 9 })).seq.comp.map (fun c => c.partnerDone)) = some false
      ∧ ((after (.twinControlRequest true 3 [0, 0, 5]) (f { mode := 1 })).seq.comp.map (fun c => (c.mode, c.no, c.modeAsked))) = some (0, 5, false)
      ∧ (after (.twinControlRequest true 3 [2, 129, 5]) (f { mode := 1, swapped := [3] })).seq.heldComp = some (2, [8, 15], 5)
      ∧ ((miss 0).paired, (miss 0).mirrorParams 15, (miss 0).framesDone 15, (miss 0).mirrorComplete 15 0) = (true, [4095], 2, false)
      ∧ tbit ((miss 0).mirrorLatch 15 1).evr.pulse 493 = true ∧ tbit ((miss 0).mirrorLatch 15 1).twn.held 15 = false
      ∧ tbit ((miss 32768).mirrorLatch 15 1).twn.held 15 = true ∧ late = miss 0 := by decide +kernel

/-- Channel 1 enabled with node ID 0xFFFF, and some fields set. -/
def can1 (l : List (Fld × Nat)) : State := up ([(R.CAN_CFG_en 1, 1), (R.CAN_CFG_node_id 1, 65535)] ++ l)

/-- A request identifier for node 0xFFFF: priority 3, function 0x0C, sequence 31. -/
def reqId : Nat := 3 * 2 ^ 26 + 12 * 2 ^ 21 + 65535 * 2 ^ 5 + 31

theorem witness_CanFramesAreReceived :
    let full := { can1 [] with can := { ch := [(1, { rxHigh := { frames := List.replicate 32 { } } })] } }
    let seg : List Byte := [7, 0, 128, 2, 0xAA, 0x55]
    let first : List Byte := [7, 0, 0, 248, 1, 2, 3, 4]
    let part : CanMsg := { prio := 3, fn := 12, seq := 31, peer := 7, ilen := 248, segs := 127, body := List.replicate 247 0 }
    let rx (d : List Byte) (x : CanRx) : CanRx := ((after (.canFrameReceived 1 false true false reqId d) { can1 [] with can := { ch := [(1, { rxHigh := x })] } }).canCh 1).rxHigh
    canLength false false seg.length = true ∧ canLength false false 9 = false ∧ canLength true false 9 = false ∧ canLength true false 12 = true
      ∧ (can1 []).canActive 1 = true ∧ (can1 []).on (R.CAN_CFG_fd_en 1) = false ∧ (after (.canFrameReceived 1 true true false reqId (List.replicate 12 0)) (can1 [])).get (R.CAN_ERR_CNT2_fd_ignored 1) = 1
      ∧ (after (.canFrameReceived 1 false true false reqId seg) (can1 [(R.CAN_STATUS_rec 1, 127)])).get (R.CAN_STATUS_rec 1) = 126
      ∧ (can1 [(R.CAN_STATUS_rec 1, 128)]).get (R.CAN_STATUS_rec 1) = 128
      ∧ reqId / 2 ^ 5 % 2 ^ 16 = (can1 []).get (R.CAN_CFG_node_id 1) ∧ canRequest 12 = true ∧ canRequest 31 = false
      ∧ (after (.canFrameReceived 1 false true false (reqId + 19 * 2 ^ 21) seg) (can1 [])).get (R.CAN_ERR_CNT2_unknown_fn 1) = 1
      ∧ (after (.canFrameReceived 1 false true false reqId seg) full).get (R.CAN_ERR_CNT_rx_drop 1) = 1
      ∧ leAt seg 2 1 = 128 ∧ leAt seg 3 1 ≤ 4 ∧ 4 + leAt seg 3 1 ≤ seg.length
      ∧ ((after (.canFrameReceived 1 false true false reqId seg) (can1 [])).canCh 1).rxHigh.whole
        = some { prio := 3, fn := 12, seq := 31, peer := 7, ilen := 2, segs := 1, body := [0xAA, 0x55] }
      ∧ (rx (first) { }).cur = some { prio := 3, fn := 12, seq := 31, peer := 7, ilen := 248, segs := 1, body := [1, 2, 3, 4] }
      ∧ (rx [7, 0, 255, 248, 9] { cur := some part }).whole = some { part with segs := 128, body := part.body ++ [9] }
      ∧ (rx seg { whole := some part }).frames.length = 1 ∧ (rx [7, 0, 0, 249, 1, 2, 3, 4] { }) = { }
      ∧ ((after (.canFrameReceived 1 true true false reqId (List.replicate 12 0)) (can1 [(R.CAN_BT_NOM_brp_m1 1, 0), (R.CAN_BT_NOM_tseg1_m1 1, 1), (R.CAN_BT_NOM_tseg2_m1 1, 1)])).canCh 1).integ = 5500
      ∧ (after (.canFrameReceived 1 false true false reqId seg) { can1 [] with can := { ch := [(1, { integ := 1 })] } }).get (R.CAN_STATUS_rec 1) = 0 := by decide +kernel

theorem witness_CanTransmissionAndConfinement :
    let q (x : CanS) (l : List (Fld × Nat)) : State := { can1 l with can := { ch := [(1, { x with txHigh := [{ id := reqId }] })] } }
    let ev := (can1 [(R.CAN_EVT_valid 7, 1), (R.CAN_EVT_chan 7, 2), (R.CAN_EVT_src 7, 511)]).raise 511
    tnum ev.can.seen 7 < tnum ev.evr.rises (ev.get (R.CAN_EVT_src 7)) ∧ after (.canEvent 7) (after (.canEvent 7) ev) = after (.canEvent 7) ev
      ∧ (q { } []).canSends 1 = true ∧ ((after (.canFrameSent 1 0) (q { } [])).canCh 1).txHigh = []
      ∧ ((after (.canFrameSent 1 0) (q { } [])).canCh 1).onBus = some { id := reqId } ∧ (after (.ackError 1) (q { } [])).get (R.CAN_STATUS_tec 1) = 8
      ∧ (after (.ackError 1) (q { } [(R.CAN_STATUS_state 1, 1)])).get (R.CAN_STATUS_tec 1) = 0
      ∧ (q { ackErrors := 255, attempt := true } [(R.CAN_STATUS_alone 1, 1)]).canSends 1 = true
      ∧ (after (.ackError 1) (q { ackErrors := 127 } [(R.CAN_ALONE_CFG_alone_limit 1, 128)])).canAlone 1 = true
      ∧ ((after (.ackError 1) (q { ackErrors := 127 } [(R.CAN_ALONE_CFG_alone_limit 1, 128)])).canCh 1).txHigh = [{ id := reqId, notSent := true }]
      ∧ (after (.canError 1 0) (q { } [(R.CAN_STATUS_tec 1, 247)])).get (R.CAN_STATUS_tec 1) = 255 ∧ (after (.canError 1 2) (q { } [])).get (R.CAN_STATUS_rec 1) = 8
      ∧ (after (.busOff 1) (can1 [(R.CAN_STATUS_tec 1, 248)])).get (R.CAN_STATUS_state 1) = 2
      ∧ (after (.recover 1) (can1 [(R.CAN_STATUS_state 1, 2)])).get (R.CAN_STATUS_state 1) = 3
      ∧ (after (.recover 1) (can1 [(R.CAN_STATUS_state 1, 3)])).get (R.CAN_ERR_CNT_recover_ignored 1) = 1
      ∧ (after (.busOffRecoveryDone 1) (can1 [(R.CAN_STATUS_state 1, 3)])).get (R.CAN_STATUS_state 1) = 0
      ∧ ((after (.aloneRetry 1) (can1 [(R.CAN_STATUS_alone 1, 1)])).canCh 1).attempt = true ∧ ev.canOn 1 = true ∧ ev.on (R.CAN_EVT_valid 7) = true
      ∧ ((after (.canEvent 7) ev).canCh 1).evtSeq = 1 ∧ tnum (after (.canEvent 7) ev).can.edges 7 = 1 ∧ (after (.canEvent 7) ev).canCh 0 = ev.canCh 0
      ∧ (((after (.canEvent 7) (ev.put (R.CAN_STATUS_state 1) 2)).canCh 1).evtSeq, ((after (.canEvent 7) (ev.put (R.CAN_STATUS_state 1) 2)).canCh 1).txHigh) = (1, []) := by decide +kernel

/-- The always-on domain powered, without the main supply, and some fields set. -/
def aon (l : List (Fld × Nat)) (x : AonS) : State := { up l with aon := { x with powered := true } }

theorem witness_SuppliesChangeAndFail :
    let s := aon [(R.AON_STATUS_src, 3)] { }
    s.aon.powered = true ∧ s.aon.main = false ∧ (after (.supplyChangeover 1800 0) s).get R.AON_STATUS_src = 1 ∧ (after (.supplyChangeover 1799 2500) s).get R.AON_STATUS_src = 2
      ∧ (after (.supplyChangeover 1400 2499) s).get R.AON_STATUS_src = 3 ∧ (after (.supplyChangeover 0 0) (aon [] { main := true })).get R.AON_STATUS_src = 0
      ∧ (after (.supplyChangeover 1800 0) s).aon.q07.length = 1 ∧ (after (.coldStartHandover 1400 60) s).aon.boost = true ∧ after (.coldStartHandover 1399 60) s = s ∧ after (.coldStartHandover 1400 59) s = s
      ∧ (after (.supplyChangeover 1399 2500) (aon [] { boost := true })).aon.boost = false ∧ (after (.supplyChangeover 1700 2500) (aon [(R.AON_STATUS_src, 1)] { })).get R.AON_STATUS_src = 1
      ∧ (after (.openCircuitMeasure 3000) (aon [] { boost := true })).aon.vrectOpen = 3000
      ∧ (after (.domainLosesPower 1399 2499) s).aon.powered = false := by decide +kernel

theorem witness_BurstsLogsAndTampers :
    let s := aon [(R.AON_CFG_c_store, 100), (R.AON_CFG_reserve, 20)] { }
    let c (v : Nat) : State := aon [(R.AON_CFG_c_store, 100), (R.AON_CFG_reserve, 20), (R.AON_CFG_cell_burst, 1)] { vcell := v }
    let l (n : Nat) : State := aon [(R.AON_TAMPER_STAT_pending, n)] { main := true, q07 := [(5, [1, 2])] }
    let m := aon [(R.AON_TAMPER_CFG_en, 8)] { main := true, tamperRun := [(3, 3)] }
    2000 * (52000 + 1000 * s.reserve) ≤ s.cStore * 1200 * 1200 ∧ s.cStore * 100 * 100 < 2000 * (3000 + 1000 * s.reserve)
      ∧ (after (.burstRequest 3 1 100) s).get R.AON_ERR_CNT_refused = 1 ∧ (after (.burstRequest 2 32 1200) s).get R.AON_ERR_CNT_refused = 0
      ∧ (after (.burstRequest 2 32 1199) s).get R.AON_ERR_CNT_refused = 1 ∧ (after (.burstRequest 0 1 5000) s).get R.AON_STATUS_vstore = 4095
      ∧ (after (.burstRequest 1 1 100) (c 2500)).get R.AON_ERR_CNT_cell_bursts = 1 ∧ (after (.burstRequest 0 1 100) (c 2499)).get R.AON_ERR_CNT_refused = 1
      ∧ s.holds 100 (3000 + 1000 * s.reserve) = false ∧ (after (.logCommit 100) s).aon.q07 = s.aon.q07 ∧ (after (.logCommit 0) (l 8)).aon.tampers = 1
      ∧ (after (.logCommit 0) (l 0)).aon.q07 = [] ∧ (after (.logCommit 0) (l 0)).retLog 9 10 = 1
      ∧ m.get R.AON_TAMPER_CFG_en / 2 ^ 3 % 2 = 1 ∧ tnum m.aon.tamperRun 3 = 3 ∧ (after (.tamperSample 8 2000 true) m).get R.AON_TAMPER_STAT_seen = 8 ∧ (after (.tamperSample 8 2000 true) m).on R.AON_STATUS_xtal_ok = true
      ∧ (after (.tamperSample 15 2000 false) { m with aon := { m.aon with tamperRun := [] } }).get R.AON_TAMPER_STAT_level = 0
      ∧ (∀ k, k < 4 → 0 / 2 ^ k % 2 ≤ m.get R.AON_TAMPER_STAT_level / 2 ^ k % 2) := by decide +kernel

/-- Flags 0x22: one subcarrier, high data rate, addressed; 0x06: the same rate, an inventory. -/
theorem witness_RfRequestsAreAnswered :
    let s := aon [] { main := true }
    let p := aon [(R.AON_CFG_cell_burst, 0)] { }
    let b (t : State) : List Byte := (tget t.answers rfLink { }).bytes
    s.rfHears 0x06 = true ∧ flagBit 0x06 2 = true ∧ flagBit 0x06 4 = false ∧ s.uid % 2 ^ 64 = s.uid ∧ (b (after (.inventory 0x26 0 64 s.uid 0) s)).length = 10
      ∧ (b (after (.inventory 0x06 0 60 s.uid 0) s)).length = 10 ∧ (after (.inventory 0x06 0 60 s.uid 0) s).aon.slot = s.uid / 2 ^ 60 % 16
      ∧ b (after (.inventory 0x46 0 0 0 0) s) = [1, 3] ∧ s.rfHears 0x26 = true ∧ b (after (.inventory 0x06 0 0 0 0) p) = [1, 0x0F] ∧ p.holds 0 (4000 + 1000 * p.reserve) = false ∧ p.on R.AON_CFG_cell_burst = false
      ∧ flagBit 0x22 5 = true ∧ (after (.stayQuiet 0x22 s.uid 0) s).aon.quiet = true ∧ b (after (.stayQuiet 0x62 s.uid 0) s) = [1, 3] ∧ b (after (.stayQuiet 0x22 p.uid 0) p) = [1, 0x0F] ∧ (after .rfFieldLost (aon [] { quiet := true })).aon.quiet = false
      ∧ s.rfForMe 0x22 s.uid = true ∧ s.rfForMe 0x2A s.uid = true ∧ b (after (.readSingleBlock 0x2A s.uid 4095 0) s) = [0, 0, 0, 0, 0]
      ∧ b (after (.readSingleBlock 0x2A s.uid 4096 0) s) = [1, 0x10] ∧ b (after (.readSingleBlock 0x22 s.uid 255 0) p) = [1, 0x0F]
      ∧ flagBit 0x62 6 = true ∧ b (after (.readSingleBlock 0x62 s.uid 0 0) s) = [1, 3] ∧ (b (after (.readMultipleBlocks 0x2A s.uid 4064 31 0) s)).length = 129
      ∧ b (after (.readMultipleBlocks 0x2A s.uid 4065 31 0) s) = [1, 0x10] ∧ b (after (.readMultipleBlocks 0x22 s.uid 0 32 0) s) = [1, 0x10]
      ∧ b (after (.readMultipleBlocks 0x22 s.uid 225 31 0) s) = [1, 0x10] ∧ (b (after (.readMultipleBlocks 0x22 s.uid 224 31 0) s)).length = 129
      ∧ (b (after (.getSystemInformation 0x2A s.uid 0) s)).length = 14 ∧ b (after (.rfUnsupportedCommand 0x22 s.uid 255 0) s) = [1, 1] := by decide +kernel

theorem witness_RetentionIsCheckedAtEachStart :
    let b : List Byte := [0x54, 0x47, 0x41, 0x4F] ++ List.replicate 16 0
    let s := { base with aon := { } }
    let g := (s.setBytes retBase b).setBytes (retBlock 5) (leBytes 4 (crc32 b))
    s.aon.powered = false ∧ (after (.aonDomainStart 1400 0 true) s).on R.AON_STATUS_rebuilt = true ∧ (after (.aonDomainStart 0 2500 false) s).aon.powered = true
      ∧ leNat (g.bytes retBase 4) = leNat [0x54, 0x47, 0x41, 0x4F] ∧ leNat (g.bytes (retBlock 5) 4) = crc32 (g.bytes retBase 20)
      ∧ (after (.aonDomainStart 1400 0 true) g).on R.AON_STATUS_rebuilt = false := by decide +kernel

theorem witness_AcceptedImageReachesSafeReady :
    let s := { atStage .waitFuses base with boot := { base.boot with stage := .waitFuses, header := { svn := 32, flags := 1 } } }
    s.commits = true ∧ s.binds = false ∧ (after (.fuseProgrammingDone 0) s).boot.fuses.rollback = 32
      ∧ (after (.fuseProgrammingDone 0) s).on R.BOOT_STATUS_svn_committed = true ∧ (atStage .waitChecks base).boot.searches = [] ∧ (atStage .waitReady base).boot.stage = .waitReady := by decide +kernel

theorem hit_below (d : RegDesc) (a : Nat) (k : d.s1 ≠ 0) (h : d.base + d.s1 * (d.l1 + d.n1) ≤ a) : d.hit a = none := by
  unfold RegDesc.hit
  have g : d.l1 + d.n1 ≤ (a - d.base) / d.s1 := (Nat.le_div_iff_mul_le (by omega)).mpr (by rw [Nat.mul_comm]; omega)
  simp only [k, if_false]
  split
  · rfl
  · rw [if_neg (by omega)]

theorem hit_single (d : RegDesc) (a : Nat) (k : d.s1 = 0) (k2 : d.s2 = 0) (h : d.base + 4 * d.words.length ≤ a) : d.hit a = none := by
  unfold RegDesc.hit
  have g : d.words.length ≤ (a - d.base) / 4 := (Nat.le_div_iff_mul_le (by omega)).mpr (by omega)
  simp only [k, k2, if_true, List.getElem?_eq_none g]
  split
  · rfl
  · split <;> rfl

theorem hit_at (name : String) (b n i : Nat) (wd : WordDesc) (h : i < n) :
    RegDesc.hit ⟨name, b, 4, 0, n, 0, 0, 1, [wd]⟩ (b + 4 * i) = some ⟨⟨name, b, 4, 0, n, 0, 0, 1, [wd]⟩, i, 0, 0, wd⟩ := by
  unfold RegDesc.hit
  have e : b + 4 * i - b = 4 * i := by omega
  simp [h]

/-- The route table's row. -/
def routeRow : RegDesc := ⟨"EVR_ROUTE", 0x02004000, 4, 0, 4096, 0, 0, 1, [⟨0, 0, 0x80FFFFFF, 0, 0, 0, 0, 0⟩]⟩

theorem route_reset (i : Nat) (h : i < 4096) : regReset (R.EVR_ROUTE i) = 0 := by
  have e : R.EVR_ROUTE i / 2 ^ 24 = 2 := by simp only [R.EVR_ROUTE]; omega
  have m : R.EVR_ROUTE i % 4 = 0 := by simp only [R.EVR_ROUTE]; omega
  have lo : 0x02004000 ≤ R.EVR_ROUTE i := by simp only [R.EVR_ROUTE]; omega
  have n : ∀ d ∈ regTable2.dropLast, d.hit (R.EVR_ROUTE i) = none := by
    have b : ∀ d ∈ regTable2.dropLast, (d.s1 ≠ 0 ∧ d.base + d.s1 * (d.l1 + d.n1) ≤ 0x02004000)
        ∨ (d.s1 = 0 ∧ d.s2 = 0 ∧ d.base + 4 * d.words.length ≤ 0x02004000) := by decide +kernel
    intro d hd
    rcases b d hd with ⟨x, y⟩ | ⟨x, z, y⟩
    · exact hit_below _ _ x (Nat.le_trans y lo)
    · exact hit_single _ _ x z (Nat.le_trans y lo)
  have l : regTable2 = regTable2.dropLast ++ [routeRow] := by decide +kernel
  have f : List.findSome? (fun d => RegDesc.hit d (R.EVR_ROUTE i)) (regRegion 2) = some ⟨routeRow, i, 0, 0, ⟨0, 0, 0x80FFFFFF, 0, 0, 0, 0, 0⟩⟩ := by
    show List.findSome? _ regTable2 = _
    rw [l, List.findSome?_append, List.findSome?_eq_none_iff.mpr n]
    simp only [List.findSome?_cons, Option.none_or, show routeRow.hit (R.EVR_ROUTE i) = _ from hit_at _ _ _ i _ h]
    rfl
  unfold regReset regFind
  rw [if_pos m, e, f]
  rfl

/-- An image with one frame timer, to which the grid unit's inputs are bound. -/
def quiet : State :=
  (atStage .waitChecks (up [(R.ENG_FSRC_type 0, 1), (R.ENG_FT_period 0, 30000), (R.ACQ_SEQ_bind 0 0, 1), (R.GRD_SUP_CFG_p_sig, 256), (R.GRD_FORM_CFG_p_sig, 256),
    (R.GRD_FORM_CFG_q_sig, 256)])).loadRegs

theorem quiet_word (i : Nat) (hi : i < 4096) : quiet.word (R.EVR_ROUTE i) = regReset (R.EVR_ROUTE i) := by
  have k : ∀ a ∈ quiet.regs.map Prod.fst, a < 0x02004000 ∨ 0x02008000 ≤ a := by decide +kernel
  have g : ∀ (l : List (Nat × Word)), R.EVR_ROUTE i ∉ l.map Prod.fst → mget regReset l (R.EVR_ROUTE i) = regReset (R.EVR_ROUTE i) := by
    intro l
    induction l with
    | nil => intro _; rfl
    | cons p r ih => intro h; simp only [List.map_cons, List.mem_cons, not_or] at h; simp only [mget, if_neg h.1, ih h.2]
  apply g
  intro h
  have := k _ h
  unfold R.EVR_ROUTE at this
  omega

theorem quiet_variants : quiet.variants = [[]] := by decide +kernel

theorem quiet_partners : ((List.range 96).any quiet.partnerBad) = false := by decide +kernel

theorem quiet_evr : quiet.evrFaults = [] := by
  have h : ∀ i, i < 4096 → quiet.word (R.EVR_ROUTE i) = 0 := fun i hi => (quiet_word i hi).trans (route_reset i hi)
  have k : ((List.range 4096).any (fun i => quiet.anyVariant (fun v =>
      let w := quiet.wordIn v (R.EVR_ROUTE i)
      let k := (R.EVR_ROUTE_filt i).of w
      routeRefused w || ((R.EVR_ROUTE_valid i).of w == 1 && k != 0 && quiet.wordIn v (R.EVR_FILT k) == 0)))) = false := by
    rw [List.any_eq_false]
    intro i hi
    have z := h i (List.mem_range.mp hi)
    simp only [State.anyVariant, quiet_variants, List.any_cons, List.any_nil, State.wordIn, List.filter_nil, List.foldl_nil, z]
    rw [show (R.EVR_ROUTE_valid i).of 0 = 0 from by simp [Fld.of, R.EVR_ROUTE_valid], show routeRefused 0 = false from by decide]
    simp
  simp only [State.evrFaults, quiet_partners, k]
  rfl

theorem quiet_before : quiet.limitFaults ++ quiet.targetFaults ++ quiet.glazeFaults ++ quiet.roleFaults ++ quiet.ownerFaults ++ quiet.ctxFaults ++ quiet.enableFaults
    ++ quiet.schFaults ++ quiet.grpFaults ++ quiet.policyFaults ++ quiet.deferFaults ++ quiet.acqFaults = [] := by decide +kernel

theorem quiet_after : quiet.srcFaults = [] ∧ quiet.modFaults = [] ∧ quiet.gtpFaults = [] ∧ quiet.grdFaults = [] ∧ quiet.mtrFaults = [] ∧ quiet.seqFaults = []
    ∧ quiet.glazePeriodFaults (fun p => !p.needsStore) = [] ∧ quiet.glazePeriodFaults Patch.needsStore = [] ∧ quiet.govFaults = [] ∧ quiet.twinFaults = [] ∧ quiet.canFaults = [] ∧ quiet.schedFaults = [] ∧ quiet.planFaults = []
    ∧ quiet.progFaults = [] ∧ quiet.minselFaults = [] ∧ quiet.wcetFaults = [] ∧ quiet.fitFaults = [] := by decide +kernel

theorem witness_AcceptedImageReachesSafeReady_checks : quiet.loadFaults = [] := by
  obtain ⟨a, b, c, d, e, f, g, q, h, i, j, k, l, m, n, o, p⟩ := quiet_after
  unfold State.loadFaults State.formFaults
  rw [quiet_before, quiet_evr, a, b, c, d, e, f, g, q, h, i, j, k, l, m, n, o, p]
  rfl

theorem witness_CountersAndPreciseSamples :
    let s := { up [(R.OBS_PS_CFG_drain, 1), (R.OBS_PS_STAT_count, 1)] with obs := { base.obs with cnt := [(63, 2 ^ 47)], lca := [(4, 5)] } }
    let t := after (.obsSnapTake 3 0) s
    s.linkOpen 3 = true ∧ s.reserved R.OBS_SNAP = false ∧ s.writeForbidden 3 0 R.OBS_SNAP = false ∧ s.reserved R.OBS_CTL = false ∧ s.writeForbidden 3 0 R.OBS_CTL = false
      ∧ t.on R.OBS_SNAP_pending = true ∧ t.modParts.on R.OBS_SNAP_pending = true ∧ t.modTicks.on R.OBS_SNAP_pending = false
      ∧ t.obsTakeSnap.get (R.OBS_CNT_count_hi 63) = 2 ^ 15 ∧ t.obsTakeSnap.get (R.OBS_LCA_cycles_lo 4) = 5 ∧ (after (.counterClear 3 0) s).obs.cnt = []
      ∧ (after .preciseSampleDrain { s with obs := { s.obs with q27 := [(7, []), (8, [])] } }).obs.q27.length = 2
      ∧ (after .preciseSampleDrain { s with obs := { s.obs with q26 := [[1]], q27 := List.replicate 63 (7, []) } }).obs.q27.length = 64
      ∧ (after .preciseSampleDrain { s with obs := { s.obs with q26 := [[1]], q27 := List.replicate 64 (7, []) } }).obs.q27Wait = true ∧ s.on R.OBS_PS_CFG_drain = true ∧ s.get R.OBS_PS_STAT_count ≠ 0 ∧ s.psOldest = 1023 ∧ s.reserved (R.OBS_PS 1023 + 12) = false ∧ s.mayRead (s.roleOf 3 0) (R.OBS_PS 1023 + 12) = true ∧ (after .preciseSampleDrain s).obs.q27.length = 1
      ∧ (after (.preciseSampleRead 3 0 1023) s).get R.OBS_PS_STAT_count = 0 ∧ (after (.preciseSampleRead 3 0 1022) s).get R.OBS_PS_STAT_count = 1 := by decide +kernel

theorem witness_RecordingAndPeriodicDumps :
    let s := up [(R.OBS_DUMP_CFG_en, 1), (R.OBS_DUMP_CFG_by_time, 1)]
    let r := up [(R.OBS_DUMP_CFG_en, 1), (R.OBS_DUMP_CFG_by_time, 1), (R.OBS_DUMP_RANGE_valid 7, 1), (R.OBS_DUMP_RANGE_words_m1 7, 3)]
    s.reserved R.OBS_REC_CTL = false ∧ s.writeForbidden 3 0 R.OBS_REC_CTL = false ∧ s.obs.dumpAt = none
      ∧ after .periodicDump (after .periodicDump s) = after .periodicDump s ∧ (after (.recordArm 3 0) s).obs.recording = true ∧ (after (.recordDisarm 3 0) s).on R.OBS_STATUS_recording = false ∧ s.on R.OBS_DUMP_CFG_en = true
      ∧ s.dumpBusy = false ∧ (∀ q, q < 8 → s.on (R.OBS_DUMP_RANGE_valid q) = false) ∧ (∀ q, q < 8 → r.on (R.OBS_DUMP_RANGE_valid q) = decide (q = 7))
      ∧ ({ s with obs := { s.obs with q26 := [[6]] } } : State).dumpBusy = true
      ∧ (after .periodicDump { s with obs := { s.obs with q26 := [[6]] } }).get R.OBS_ERR_CNT_dump_skip = 1 := by decide +kernel

theorem witness_HaltStepAndClockStopTest :
    let h := up [(R.ENG_STATUS_halted, 1), (R.OBS_DBG_CTL_halt, 1)]
    let s := up [(R.SEQ_STATUS_mode, 6), (R.OBS_CLKTEST_target, 1)]
    let run : State := (up [(R.MOD_LEG_CFG_en 47, 1)]).setFr 5 { phase := .running }
    let b (x y : Bool) (at_ : Nat) : State := { up [(R.SEQ_STATUS_mode, 6), (R.OBS_CLKTEST_target, 1), (R.OBS_CLKTEST_busy, 1), (R.OBS_CLKTEST_dur, 10)] with
      obs := { base.obs with clkTestPoweredDown := x }, clk := { base.clk with elapsed := at_, syn := [(1, { poweredDown := y })] } }
    base.reserved R.OBS_DBG_CTL = false ∧ base.writeForbidden 3 0 R.OBS_DBG_CTL = false ∧ base.reserved R.OBS_CLKTEST = false ∧ base.writeForbidden 3 0 R.OBS_CLKTEST = false
      ∧ base.on R.ENG_STATUS_halted = false ∧ (after (.halt 3 0) base).on R.ENG_STATUS_halted = true ∧ h.on R.ENG_STATUS_halted = true
      ∧ (after (.engineStep 3 0 63) h).obs.stepPending = some 63 ∧ (after (.engineStep 3 0 63) base).obs.stepPending = none
      ∧ (after (.haltClear 3 0) h).on R.ENG_STATUS_halted = false ∧ base.testMode = false ∧ (after (.clockStopTest 3 0) base).get R.OBS_CLKTEST_result = 2
      ∧ s.testMode = true ∧ (after (.clockStopTest 3 0) s).on R.OBS_CLKTEST_busy = true ∧ (after (.clockStopAbort 3 0) (b false false 0)).obs.clkTestAbort = true
      ∧ ((after (.clockStopAbort 3 0) (b true true 0)).syn 1).poweredDown = false ∧ ((after .powerDownDone (b false false 7999)).syn 1).poweredDown = false
      ∧ ((after .powerDownDone (b false false 8000)).syn 1).poweredDown = true
      ∧ (b true true 79999).syn 1 = { poweredDown := true } ∧ (after (.clockTestOffEnd []) (b true true 79999)).on R.OBS_CLKTEST_busy = true
      ∧ (after (.clockTestOffEnd []) (b true true 80000)).get R.OBS_CLKTEST_result = 1 ∧ (b true false 0).on R.OBS_CLKTEST_busy = true
      ∧ (run.fr 5).phase.underWay = true ∧ (after (.halt 3 0) run).get R.OBS_DBG_STAT_abandoned = 1 ∧ ((after (.halt 3 0) run).gleg 47).safeHeld = true
      ∧ (after (.halt 3 0) run).on R.OBS_DBG_STAT_halted = true ∧ after (.contextDispatch 5) h = h ∧ (after (.haltClear 3 0) (after (.engineStep 3 0 63) h)).obs.stepPending = none
      ∧ ({ h with obs := { h.obs with stepPending := some 5 } }.openFrame 5 0 1).obs.stepping = some 5 := by decide +kernel

theorem witness_TapOpenInstructions :
    let s := atStage .noImage base
    (after (.samplePreload [true]) base).tap.boundary = [true] ∧ s.bare = true ∧ s.get R.BOOT_STATUS_debug_locked = 0 ∧ (after .extestPulse s).tap.acTest = true := by
  decide +kernel

theorem witness_TapRestrictedInstructions :
    let d := { atStage .noImage base with regs := (base.put R.BOOT_STATUS_debug_locked 1).regs }
    d.get R.BOOT_STATUS_debug_locked ≠ 0 ∧ d.get (R.BOOT_SESSION_role 3) ≠ 2 ∧ (after .clamp d).get R.OBS_ERR_CNT_tap_refused = 1
      ∧ (after .highz (up [(R.SEQ_STATUS_mode, 6), (R.BOOT_STATUS_debug_locked, 1), (R.BOOT_SESSION_role 3, 2)])).tap.highZ = true := by decide +kernel

end Sys2Proof.Tests
end

section
/-!
How a CAN channel receives a frame (R403, R408, R413, R415, R416; log entry 41): what the operations of reception do to the
receive queues and the registers, from the update of a channel up to CAN_FRAME_RECEIVED.
-/

namespace Sys2Proof.Proofs

open Sys2Proof Sys2Proof.Machine Sys2Proof.Laws

/-! ### A channel after an update -/

@[simp] theorem canCh_setCan (s : State) (ch : Nat) (x : CanS) : (s.setCan ch x).canCh ch = x := by
  simp [State.canCh, State.setCan]

/-- An operation that leaves the channels leaves each of them. -/
theorem canCh_of_within {A : List Part} {s t : State} (h : Within A s t) (hA : A.contains Part.can = false) (ch : Nat) :
    t.canCh ch = s.canCh ch := by
  have e : t.can = s.can := same_of_within h hA
  unfold State.canCh
  rw [e]

@[simp] theorem canCh_bump (s : State) (f : Fld) (ch : Nat) : (s.bump f).canCh ch = s.canCh ch := rfl

@[simp] theorem canCh_count (s : State) (c ch : Nat) : (s.count c).canCh ch = s.canCh ch := canCh_of_within (within_count s c) rfl ch

@[simp] theorem canCh_countN (s : State) (c k ch : Nat) : (s.countN c k).canCh ch = s.canCh ch :=
  canCh_of_within (within_countN s c k) rfl ch

@[simp] theorem rx_setRx (x : CanS) (high : Bool) (r : CanRx) : (x.setRx high r).rx high = r := by
  cases high <;> rfl

theorem words_setCan {l : List Nat} {s t : State} {ch : Nat} {x : CanS} (h : WordsBut l s t) : WordsBut l s (t.setCan ch x) :=
  words_within (within_setCan t ch x) rfl h

/-! ### The registers of reception -/

/-- The registers in which the queueing of a frame counts. -/
abbrev rxCounters (ch : Nat) : List Nat := [R.CAN_ERR_CNT ch, R.CAN_ERR_CNT2 ch, R.BOOT_ERR_CNT]

theorem status_not_mem_rxCounters (ch : Nat) : R.CAN_STATUS ch ∉ rxCounters ch := by
  simp only [R.CAN_STATUS, R.CAN_ERR_CNT, R.CAN_ERR_CNT2, R.BOOT_ERR_CNT, List.mem_cons, List.not_mem_nil, or_false]
  omega

theorem not_mem_status_of_mem_rxCounters {ch a : Nat} (h : a ∈ rxCounters ch) : a ∉ [R.CAN_STATUS ch] := fun hs =>
  status_not_mem_rxCounters ch (List.mem_singleton.1 hs ▸ h)

theorem boot_not_mem_errCnt (ch : Nat) : R.BOOT_ERR_CNT ∉ [R.CAN_ERR_CNT ch] := by
  simp only [R.CAN_ERR_CNT, R.BOOT_ERR_CNT, List.mem_singleton]
  omega

/-! ### A valid frame and fault confinement (R403, R411) -/

theorem words_canState {l : List Nat} {u s : State} {ch : Nat} (hl : R.CAN_STATUS ch ∈ l) (h : WordsBut l u s) :
    WordsBut l u (s.canState ch) :=
  words_ite' h (words_within (within_drive _ _ _) rfl (words_put hl h))

theorem get_canState_of_apart (s : State) (ch : Nat) (g : Fld) (h : apart (R.CAN_STATUS_state ch) g = true) :
    (s.canState ch).get g = s.get g := by
  simp only [State.canState, ite']
  split
  · rw [drive_get, get_put_of_apart _ _ _ _ h]
  · rfl

theorem words_setAlone {l : List Nat} {u s : State} {ch : Nat} {b : Bool} (hl : R.CAN_STATUS ch ∈ l) (h : WordsBut l u s) :
    WordsBut l u (s.setAlone ch b) :=
  words_within (within_drive _ _ _) rfl (words_putB hl h)

/-- REC as the first step of a valid frame's reception leaves it. -/
def recDown (s : State) (ch : Nat) : State :=
  if s.get (R.CAN_STATUS_rec ch) < 128 then s.put (R.CAN_STATUS_rec ch) (s.get (R.CAN_STATUS_rec ch) - 1)
  else (s.put (R.CAN_STATUS_rec ch) (119 + s.freshNat % 9)).burn

/-- The channel after a valid frame, before the alone state ends. -/
def validState (s : State) (ch : Nat) : State :=
  ((recDown s ch).canState ch).setCan ch { (recDown s ch).canCh ch with ackErrors := 0, attempt := false }

theorem canValid_eq (s : State) (ch : Nat) :
    s.canValid ch = (ite' ((validState s ch).canAlone ch) (validState s ch) ((validState s ch).setAlone ch false)).count 0xAA := rfl

theorem words_recDown (s : State) (ch : Nat) : WordsBut [R.CAN_STATUS ch] s (recDown s ch) := by
  have put (n : Nat) : WordsBut [R.CAN_STATUS ch] s (s.put (R.CAN_STATUS_rec ch) n) :=
    words_put (by simp [R.CAN_STATUS_rec]) (words_refl _ s)
  exact words_ite (put _) (put _)

theorem canCh_recDown (s : State) (ch : Nat) : (recDown s ch).canCh ch = s.canCh ch := by
  unfold recDown
  split <;> rfl

/-- A valid frame changes no register but CAN_STATUS. -/
theorem words_canValid (s : State) (ch : Nat) : WordsBut [R.CAN_STATUS ch] s (s.canValid ch) := by
  have hv : WordsBut [R.CAN_STATUS ch] s (validState s ch) := words_setCan (words_canState (by simp) (words_recDown s ch))
  rw [canValid_eq]
  exact words_count (words_ite' hv (words_setAlone (by simp) hv))

theorem canCh_canValid (s : State) (ch : Nat) : (s.canValid ch).canCh ch = { s.canCh ch with ackErrors := 0, attempt := false } := by
  have hv : (validState s ch).canCh ch = { s.canCh ch with ackErrors := 0, attempt := false } := by
    rw [validState, canCh_setCan, canCh_recDown]
  rw [canValid_eq, canCh_count]
  unfold ite'
  split
  · rw [canCh_of_within (within_setAlone _ _ _) rfl, hv]
  · exact hv

/-- A valid frame keeps the receive queues. -/
@[simp] theorem rx_canValid (s : State) (ch : Nat) (high : Bool) : ((s.canValid ch).canCh ch).rx high = (s.canCh ch).rx high := by
  rw [canCh_canValid]
  rfl

theorem canValid_ends_alone (s : State) (ch : Nat) : (s.canValid ch).on (R.CAN_STATUS_alone ch) = false := by
  rw [canValid_eq, count_on]
  cases h : (validState s ch).canAlone ch with
  | false => exact h
  | true =>
    rw [ite'_true, State.setAlone, drive_on]
    exact on_putB_same _ _ _ (by simp [R.CAN_STATUS_alone]) (by simp [R.CAN_STATUS_alone])

theorem rec_canValid (s : State) (ch : Nat) :
    (s.canValid ch).get (R.CAN_STATUS_rec ch) = (recDown s ch).get (R.CAN_STATUS_rec ch) := by
  have hv : (validState s ch).get (R.CAN_STATUS_rec ch) = (recDown s ch).get (R.CAN_STATUS_rec ch) :=
    get_canState_of_apart _ _ _ rfl
  rw [canValid_eq, count_get]
  unfold ite'
  split
  · rw [State.setAlone, drive_get, get_putB_of_apart _ _ _ _ rfl, hv]
  · exact hv

theorem rec_canValid_of_lt (s : State) (ch : Nat) (h : s.get (R.CAN_STATUS_rec ch) < 128) :
    (s.canValid ch).get (R.CAN_STATUS_rec ch) = s.get (R.CAN_STATUS_rec ch) - 1 := by
  rw [rec_canValid, recDown, if_pos h, get_put_same _ _ _ (by simp [R.CAN_STATUS_rec])]
  exact Nat.mod_eq_of_lt (by simp only [R.CAN_STATUS_rec] at h ⊢; omega)

/-- From 128 on REC returns to a free value from 119 to 127 (log entry 20). -/
theorem rec_canValid_of_ge (s : State) (ch : Nat) (h : 128 ≤ s.get (R.CAN_STATUS_rec ch)) :
    119 ≤ (s.canValid ch).get (R.CAN_STATUS_rec ch) ∧ (s.canValid ch).get (R.CAN_STATUS_rec ch) ≤ 127 := by
  have e : (s.canValid ch).get (R.CAN_STATUS_rec ch) = (119 + s.freshNat % 9) % 2 ^ 8 := by
    rw [rec_canValid, recDown, if_neg (by omega), burn_get, get_put_same _ _ _ (by simp [R.CAN_STATUS_rec])]
    rfl
  omega

/-! ### An inner-length fault (R415, R497) -/

theorem words_canSend {l : List Nat} {u s : State} {ch : Nat} {high : Bool} {prio fn seq peer : Nat} {body : List Byte}
    (hl : R.CAN_ERR_CNT ch ∈ l) (h : WordsBut l u s) : WordsBut l u (s.canSend ch high prio fn seq peer body) :=
  words_ite h (words_ite (words_countN (words_setCan h)) (words_countN (words_bump hl h)))

theorem rx_canSend (s : State) (ch : Nat) (high side : Bool) (prio fn seq peer : Nat) (body : List Byte) :
    ((s.canSend ch high prio fn seq peer body).canCh ch).rx side = (s.canCh ch).rx side := by
  simp only [State.canSend, apply_ite (fun t : State => (t.canCh ch).rx side), canCh_countN, canCh_setCan, canCh_bump]
  have keep (x : CanS) (q : List CanFrame) (k : Nat) :
      (if high then { x with txHigh := q, ackErrors := k } else { x with txLow := q }).rx side = x.rx side := by cases high <;> rfl
  rw [keep, ite_self, ite_self]

theorem words_innerFault {u s : State} {ch prio seq peer : Nat} (h : WordsBut (rxCounters ch) u s) :
    WordsBut (rxCounters ch) u (s.innerFault ch prio seq peer) :=
  words_canSend (by simp) (words_bump (by simp [R.BOOT_ERR_CNT_access]) h)

theorem rx_innerFault (s : State) (ch prio seq peer : Nat) (high : Bool) :
    ((s.innerFault ch prio seq peer).canCh ch).rx high = (s.canCh ch).rx high := by
  rw [State.innerFault, rx_canSend, canCh_bump]

theorem access_innerFault (s : State) (ch prio seq peer : Nat) :
    (s.innerFault ch prio seq peer).get R.BOOT_ERR_CNT_access = min (s.get R.BOOT_ERR_CNT_access + 1) 255 := by
  have hw := words_canSend (high := prio < 4) (prio := prio) (fn := 3) (seq := seq) (peer := peer)
    (body := leBytes 1 0x0A ++ leBytes 3 0) (List.mem_singleton_self _) (words_refl [R.CAN_ERR_CNT ch] (s.bump R.BOOT_ERR_CNT_access))
  rw [State.innerFault, get_of_words hw _ (boot_not_mem_errCnt ch), get_bump_same _ _ (by decide)]
  rfl

/-! ### Reassembly of one frame (R415) -/

/-- The bytes of a segment that a frame holds. -/
def segmentRoom (f : CanFrame) : Nat := if f.fd then 60 else 4

/-- The message that a first segment starts, before any of its bytes. -/
def startedBy (f : CanFrame) : CanMsg :=
  { prio := f.id / 2 ^ 26 % 8, fn := f.id / 2 ^ 21 % 32, seq := f.id % 32, peer := leAt f.data 0 2, ilen := leAt f.data 3 1 }

/-- Frame `f` is the next segment of message `m`. -/
structure Continues (m : CanMsg) (f : CanFrame) : Prop where
  segs : m.segs = leAt f.data 2 1 % 128
  peer : m.peer = leAt f.data 0 2
  fn : m.fn = f.id / 2 ^ 21 % 32
  seq : m.seq = f.id % 32

/-- The reassembly of a receive queue holds `cur` in progress and `whole` waiting. -/
def setReassembly (s : State) (ch : Nat) (high : Bool) (cur whole : Option CanMsg) : State :=
  s.setCan ch ((s.canCh ch).setRx high { (s.canCh ch).rx high with cur := cur, whole := whole })

/-- The bytes that frame `f` adds to message `m`. -/
def carried (f : CanFrame) (m : CanMsg) : Nat := min (segmentRoom f) (leAt f.data 3 1 - m.body.length)

/-- Message `m` with the bytes of frame `f`. -/
def extended (f : CanFrame) (m : CanMsg) : CanMsg :=
  { m with segs := m.segs + 1, body := m.body ++ slice f.data 4 (carried f m) }

/-- Frame `f` with the bytes already in `m` makes the whole message. -/
def completes (f : CanFrame) (m : CanMsg) : Bool := leAt f.data 3 1 ≤ m.body.length + carried f m

/-- The part of SEGMENT_REASSEMBLY that follows when frame `f` belongs to message `m`. -/
def joinSegment (s : State) (ch : Nat) (high : Bool) (f : CanFrame) (m : CanMsg) : State :=
  if 248 < leAt f.data 3 1 || f.data.length < 4 + carried f m || f.data.length < 4
      || decide (128 ≤ leAt f.data 2 1) != completes f m || leAt f.data 3 1 != m.ilen then
    (setReassembly s ch high none ((s.canCh ch).rx high).whole).innerFault ch (f.id / 2 ^ 26 % 8) (f.id % 32) (leAt f.data 0 2)
  else if completes f m then setReassembly s ch high none (some (extended f m))
  else setReassembly s ch high (some (extended f m)) ((s.canCh ch).rx high).whole

/-- Frame `f` belongs to message `m`: it starts it where none is in progress, or it is the next of the one in progress. -/
inductive Joins (r : CanRx) (f : CanFrame) : CanMsg → Prop where
  | first (hcur : r.cur = none) (hk : leAt f.data 2 1 % 128 = 0) : Joins r f (startedBy f)
  | next {m : CanMsg} (hcur : r.cur = some m) (hm : Continues m f) : Joins r f m

theorem canSegment_of_joins {s : State} {ch : Nat} {high : Bool} {f : CanFrame} {m : CanMsg}
    (h : Joins ((s.canCh ch).rx high) f m) : s.canSegment ch high f = joinSegment s ch high f m := by
  cases h with
  | first hcur hk =>
    simp only [State.canSegment, hcur, hk, bne_self_eq_false, Option.isSome_none, Bool.and_false, Bool.false_and, ite'_false]
    rfl
  | next hcur hm =>
    have goesOn : (m.segs == leAt f.data 2 1 % 128 && m.peer == leAt f.data 0 2 && m.fn == f.id / 2 ^ 21 % 32
        && m.seq == f.id % 32) = true := by simp [hm.segs, hm.peer, hm.fn, hm.seq]
    simp only [State.canSegment, hcur, goesOn, Bool.not_true, Bool.and_false, Bool.false_and, ite'_false]
    rfl

@[simp] theorem rx_setReassembly (s : State) (ch : Nat) (high : Bool) (cur whole : Option CanMsg) :
    ((setReassembly s ch high cur whole).canCh ch).rx high = { (s.canCh ch).rx high with cur := cur, whole := whole } := by
  simp [setReassembly]

theorem words_setReassembly (s : State) (ch : Nat) (high : Bool) (cur whole : Option CanMsg) (l : List Nat) :
    WordsBut l s (setReassembly s ch high cur whole) := words_setCan (words_refl l s)

/-- Frame `f` is marked as the last segment and has the bytes that message `m` still lacks. -/
structure LastSegment (f : CanFrame) (m : CanMsg) : Prop where
  flag : 128 ≤ leAt f.data 2 1
  same : leAt f.data 3 1 = m.ilen
  short : leAt f.data 3 1 ≤ 248
  begun : m.body.length ≤ leAt f.data 3 1
  room : leAt f.data 3 1 - m.body.length ≤ segmentRoom f
  header : 4 ≤ f.data.length
  bytes : 4 + (leAt f.data 3 1 - m.body.length) ≤ f.data.length

theorem joinSegment_of_last (s : State) (ch : Nat) (high : Bool) {f : CanFrame} {m : CanMsg} (h : LastSegment f m) :
    joinSegment s ch high f m = setReassembly s ch high none
      (some { m with segs := m.segs + 1, body := m.body ++ slice f.data 4 (leAt f.data 3 1 - m.body.length) }) := by
  obtain ⟨flag, same, short, begun, room, header, bytes⟩ := h
  have hcarried : carried f m = leAt f.data 3 1 - m.body.length := Nat.min_eq_right room
  have hcompletes : completes f m = true := decide_eq_true (by omega)
  rw [joinSegment, if_neg, if_pos hcompletes, extended, hcarried]
  simp only [hcarried, hcompletes, flag, ← same, bne_self_eq_false, decide_true, Bool.or_false, Bool.or_eq_true, decide_eq_true_eq]
  omega

/-- Frame `f` holds a message of one segment. -/
structure OnlySegment (f : CanFrame) : Prop where
  flag : leAt f.data 2 1 = 128
  room : leAt f.data 3 1 ≤ segmentRoom f
  bytes : 4 + leAt f.data 3 1 ≤ f.data.length

theorem OnlySegment.lastSegment {f : CanFrame} (h : OnlySegment f) : LastSegment f (startedBy f) := by
  have hroom : segmentRoom f ≤ 60 := by unfold segmentRoom; split <;> decide
  obtain ⟨flag, room, bytes⟩ := h
  exact { flag := Nat.le_of_eq flag.symm, same := rfl, short := by omega, begun := Nat.zero_le _, room := room,
          header := by omega, bytes := bytes }

/-- Frame `f` is the first of several segments and is full. -/
structure FirstOfSeveral (f : CanFrame) : Prop where
  flag : leAt f.data 2 1 = 0
  long : segmentRoom f < leAt f.data 3 1
  short : leAt f.data 3 1 ≤ 248
  bytes : 4 + segmentRoom f ≤ f.data.length

theorem joinSegment_of_first (s : State) (ch : Nat) (high : Bool) {f : CanFrame} (h : FirstOfSeveral f) :
    joinSegment s ch high f (startedBy f) = setReassembly s ch high
      (some { startedBy f with segs := 1, body := slice f.data 4 (segmentRoom f) }) ((s.canCh ch).rx high).whole := by
  obtain ⟨flag, long, short, bytes⟩ := h
  have hcarried : carried f (startedBy f) = segmentRoom f := Nat.min_eq_left (Nat.le_of_lt long)
  have hbody : (startedBy f).body = [] := rfl
  have hilen : (startedBy f).ilen = leAt f.data 3 1 := rfl
  have hcompletes : completes f (startedBy f) = false := decide_eq_false (by rw [hbody, List.length_nil, hcarried]; omega)
  rw [joinSegment, if_neg, if_neg (by simp [hcompletes]), extended, hcarried]
  · rfl
  · have hflag : ¬ 128 ≤ leAt f.data 2 1 := by omega
    simp only [hcarried, hcompletes, hilen, hflag, decide_false, bne_self_eq_false, Bool.or_false, Bool.or_eq_true, decide_eq_true_eq]
    omega

/-- A message of more than 248 bytes is dropped and counted (R415, R497). -/
theorem joinSegment_of_long (s : State) (ch : Nat) (high : Bool) (f : CanFrame) (m : CanMsg) (h : 248 < leAt f.data 3 1) :
    joinSegment s ch high f m = (setReassembly s ch high none ((s.canCh ch).rx high).whole).innerFault ch (f.id / 2 ^ 26 % 8)
      (f.id % 32) (leAt f.data 0 2) := by
  rw [joinSegment, if_pos (by simp [h])]

/-- The channel after a segment that breaks off the message in progress, if `c`, has been counted. -/
def segErr (s : State) (ch : Nat) (c : Bool) : State := ite' c s (s.bump (R.CAN_ERR_CNT2_seg_err ch))

theorem canCh_segErr (s : State) (ch : Nat) (c : Bool) : (segErr s ch c).canCh ch = s.canCh ch := by
  cases c <;> rfl

/-- All that SEGMENT_REASSEMBLY can do: it may count a broken message, it sets the reassembly, and it may answer a fault. -/
theorem canSegment_cases (s : State) (ch : Nat) (high : Bool) (f : CanFrame) : ∃ c cur whole,
    s.canSegment ch high f = setReassembly (segErr s ch c) ch high cur whole
      ∨ ∃ prio seq peer, s.canSegment ch high f = (setReassembly (segErr s ch c) ch high cur whole).innerFault ch prio seq peer := by
  unfold State.canSegment
  extract_lets prio fn seq peer k lastSet ilen r goesOn s1 m now carry whole m1
  have hnow (cur whole : Option CanMsg) : now cur whole = setReassembly (segErr s ch (r.cur.isSome && !goesOn)) ch high cur whole := by
    rw [setReassembly, canCh_segErr]
    exact congrArg (fun x => s1.setCan ch (CanS.setRx x high _)) (canCh_segErr s ch _)
  simp only [hnow]
  refine ⟨r.cur.isSome && !goesOn, ?_⟩
  split
  · exact ⟨_, _, .inl rfl⟩
  · split
    · exact ⟨_, _, .inr ⟨_, _, _, rfl⟩⟩
    · split
      · exact ⟨_, _, .inl rfl⟩
      · exact ⟨_, _, .inl rfl⟩

/-- Every frame leaves the frames behind it in the queue. -/
theorem frames_canSegment (s : State) (ch : Nat) (high : Bool) (f : CanFrame) :
    (((s.canSegment ch high f).canCh ch).rx high).frames = ((s.canCh ch).rx high).frames := by
  obtain ⟨c, cur, whole, e | ⟨prio, seq, peer, e⟩⟩ := canSegment_cases s ch high f
  · rw [e, rx_setReassembly, canCh_segErr]
  · rw [e, rx_innerFault, rx_setReassembly, canCh_segErr]

theorem words_canSegment {u s : State} {ch : Nat} {high : Bool} {f : CanFrame} (h : WordsBut (rxCounters ch) u s) :
    WordsBut (rxCounters ch) u (s.canSegment ch high f) := by
  have hc (c : Bool) : WordsBut (rxCounters ch) u (segErr s ch c) := words_ite' h (words_bump (by simp [R.CAN_ERR_CNT2_seg_err]) h)
  obtain ⟨c, cur, whole, e | ⟨prio, seq, peer, e⟩⟩ := canSegment_cases s ch high f
  · rw [e]
    exact words_setCan (hc c)
  · rw [e]
    exact words_innerFault (words_setCan (hc c))

/-! ### The reassembly of a queue (R415) -/

/-- Behind a whole message that waits the frames wait. -/
theorem canAssemble_of_waiting {s : State} {ch : Nat} {high : Bool} (h : ((s.canCh ch).rx high).whole.isSome = true) (n : Nat) :
    s.canAssemble ch high n = s := by
  obtain ⟨m, hm⟩ := Option.isSome_iff_exists.1 h
  cases n with
  | zero => rfl
  | succ n => simp only [State.canAssemble, hm]

theorem canAssemble_of_no_frame {s : State} {ch : Nat} {high : Bool} (h : ((s.canCh ch).rx high).frames = []) (n : Nat) :
    s.canAssemble ch high n = s := by
  cases n with
  | zero => rfl
  | succ n => cases hw : ((s.canCh ch).rx high).whole <;> simp only [State.canAssemble, h, hw]

theorem canAssemble_of_one_frame {s : State} {ch : Nat} {high : Bool} {f : CanFrame} (hw : ((s.canCh ch).rx high).whole = none)
    (hf : ((s.canCh ch).rx high).frames = [f]) (n : Nat) : s.canAssemble ch high (n + 1)
      = (s.setCan ch ((s.canCh ch).setRx high { (s.canCh ch).rx high with frames := [] })).canSegment ch high f := by
  simp only [State.canAssemble, hw, hf]
  exact canAssemble_of_no_frame (by rw [frames_canSegment, canCh_setCan, rx_setRx]) n

/-! ### Queueing a frame (R408) -/

/-- Whether a frame is of high priority. -/
def urgent (f : CanFrame) : Bool := f.id / 2 ^ 26 % 8 < 4

/-- The channel with frame `f` at its queue's end and its source raised, before the reassembly takes frames. -/
def enqueued (s : State) (ch : Nat) (f : CanFrame) : State :=
  let r := (s.canCh ch).rx (urgent f)
  let t := (s.setCan ch ((s.canCh ch).setRx (urgent f) { r with frames := r.frames ++ [f] })).count
    (0x80 + (8 + 4 * ch + (if urgent f then 2 else 3)))
  ite' (urgent f) t (t.raise (499 + 4 * ch))

theorem rx_enqueued (s : State) (ch : Nat) (f : CanFrame) : ((enqueued s ch f).canCh ch).rx (urgent f)
    = { (s.canCh ch).rx (urgent f) with frames := ((s.canCh ch).rx (urgent f)).frames ++ [f] } := by
  unfold enqueued ite'
  dsimp only
  split
  · rw [canCh_of_within (within_raise _ _) rfl, canCh_count, canCh_setCan, rx_setRx]
  · rw [canCh_count, canCh_setCan, rx_setRx]

theorem words_enqueued (s : State) (ch : Nat) (f : CanFrame) (l : List Nat) : WordsBut l s (enqueued s ch f) :=
  have h := words_count (words_setCan (words_refl l s))
  words_ite' h (words_within (within_raise _ _) rfl h)

theorem pulse_enqueued (s : State) (ch : Nat) {f : CanFrame} (h : urgent f = true) :
    tbit (enqueued s ch f).evr.pulse (499 + 4 * ch) = true := by
  simp only [enqueued, h, ite'_true, State.raise, tbit_tset, if_true]

section Queue

variable {s : State} {ch : Nat} {f : CanFrame} {r : CanRx} (hr : (s.canCh ch).rx (urgent f) = r)

include hr

/-- A full queue drops the frame and counts it. -/
theorem canQueue_of_full (h : 32 ≤ r.frames.length) :
    (s.canQueue ch f).get (R.CAN_ERR_CNT_rx_drop ch) = min (s.get (R.CAN_ERR_CNT_rx_drop ch) + 1) 255
      ∧ ((s.canQueue ch f).canCh ch).rx (urgent f) = r := by
  subst hr
  have e : s.canQueue ch f = (s.bump (R.CAN_ERR_CNT_rx_drop ch)).count (0x60 + (8 + 4 * ch + (if urgent f then 2 else 3))) := if_pos h
  rw [e, count_get, canCh_count, get_bump_same _ _ (by simp [R.CAN_ERR_CNT_rx_drop])]
  exact ⟨rfl, rfl⟩

theorem canQueue_of_room (h : r.frames.length < 32) : s.canQueue ch f = (enqueued s ch f).canAssemble ch (urgent f) 32 :=
  if_neg (Nat.not_le.2 (hr ▸ h))

theorem canQueue_raises (h : r.frames.length < 32) (hu : urgent f = true) :
    tbit (s.canQueue ch f).evr.pulse (499 + 4 * ch) = true := by
  have e : ((enqueued s ch f).canAssemble ch (urgent f) 32).evr = (enqueued s ch f).evr :=
    same_of_within (within_canAssemble _ _ _ _) (p := .evr) rfl
  rw [canQueue_of_room hr h, e]
  exact pulse_enqueued s ch hu

theorem canQueue_waits (h : r.frames.length < 32) (hw : r.whole.isSome = true) :
    ((s.canQueue ch f).canCh ch).rx (urgent f) = { r with frames := r.frames ++ [f] } ∧ WordsBut [] s (s.canQueue ch f) := by
  have hq := rx_enqueued s ch f
  rw [hr] at hq
  rw [canQueue_of_room hr h, canAssemble_of_waiting (by rw [hq]; exact hw)]
  exact ⟨hq, words_enqueued s ch f []⟩

/-- In an idle queue the reassembly takes the frame at once, on a state with the registers and the queue as they were. -/
theorem canQueue_of_idle {m : CanMsg} (hw : r.whole = none) (hf : r.frames = []) (hj : Joins r f m) :
    ∃ u, (u.canCh ch).rx (urgent f) = r ∧ WordsBut [] s u ∧ s.canQueue ch f = joinSegment u ch (urgent f) f m := by
  have hq := rx_enqueued s ch f
  rw [hr, hf] at hq
  have hu : (((enqueued s ch f).setCan ch (((enqueued s ch f).canCh ch).setRx (urgent f)
      { ((enqueued s ch f).canCh ch).rx (urgent f) with frames := [] })).canCh ch).rx (urgent f) = r := by
    rw [canCh_setCan, rx_setRx, hq, ← hf]
  refine ⟨_, hu, words_setCan (words_enqueued s ch f []), ?_⟩
  rw [canQueue_of_room hr (by simp [hf]), canAssemble_of_one_frame (by rw [hq]; exact hw) (by rw [hq]; rfl)]
  exact canSegment_of_joins (hu.symm ▸ hj)

/-- The last segment of a message makes it whole and changes no register. -/
theorem canQueue_completes {m : CanMsg} (hw : r.whole = none) (hf : r.frames = []) (hj : Joins r f m) (hl : LastSegment f m) :
    ((s.canQueue ch f).canCh ch).rx (urgent f) = { r with
        cur := none, whole := some { m with segs := m.segs + 1, body := m.body ++ slice f.data 4 (leAt f.data 3 1 - m.body.length) } }
      ∧ WordsBut [] s (s.canQueue ch f) := by
  obtain ⟨u, hu, hwords, e⟩ := canQueue_of_idle hr hw hf hj
  rw [e, joinSegment_of_last u ch _ hl, rx_setReassembly, hu]
  exact ⟨rfl, words_trans hwords (words_setReassembly _ _ _ _ _ _)⟩

/-- The one segment of a message makes it whole at once and changes no register. -/
theorem canQueue_completes_at_once (hw : r.whole = none) (hf : r.frames = []) (hcur : r.cur = none) (h : OnlySegment f) :
    ((s.canQueue ch f).canCh ch).rx (urgent f) = { r with
        whole := some { startedBy f with segs := 1, body := slice f.data 4 (leAt f.data 3 1) } }
      ∧ WordsBut [] s (s.canQueue ch f) := by
  have hq := canQueue_completes hr hw hf (.first hcur (by rw [h.flag])) h.lastSegment
  rw [← hcur] at hq
  exact hq

/-- The first of several segments starts a message and changes no register. -/
theorem canQueue_starts (hw : r.whole = none) (hf : r.frames = []) (hcur : r.cur = none) (h : FirstOfSeveral f) :
    ((s.canQueue ch f).canCh ch).rx (urgent f) = { r with
        cur := some { startedBy f with segs := 1, body := slice f.data 4 (segmentRoom f) } }
      ∧ WordsBut [] s (s.canQueue ch f) := by
  obtain ⟨u, hu, hwords, e⟩ := canQueue_of_idle hr hw hf (.first hcur (by rw [h.flag]))
  rw [e, joinSegment_of_first u ch _ h, rx_setReassembly, hu]
  exact ⟨rfl, words_trans hwords (words_setReassembly _ _ _ _ _ _)⟩

/-- A message of more than 248 bytes is dropped and counted as an access error. -/
theorem canQueue_of_long (hw : r.whole = none) (hf : r.frames = []) (hcur : r.cur = none)
    (hk : leAt f.data 2 1 % 128 = 0) (hn : 248 < leAt f.data 3 1) : ((s.canQueue ch f).canCh ch).rx (urgent f) = r
      ∧ (s.canQueue ch f).get R.BOOT_ERR_CNT_access = min (s.get R.BOOT_ERR_CNT_access + 1) 255 := by
  obtain ⟨u, hu, hwords, e⟩ := canQueue_of_idle hr hw hf (.first hcur hk)
  have hs := words_trans hwords (words_setReassembly u ch (urgent f) none ((u.canCh ch).rx (urgent f)).whole [])
  rw [e, joinSegment_of_long _ _ _ _ _ hn, rx_innerFault, rx_setReassembly, access_innerFault, get_of_words hs _ (by simp), hu, ← hcur]
  exact ⟨rfl, rfl⟩

end Queue

theorem words_canAssemble {u : State} {ch : Nat} {high : Bool} (n : Nat) : ∀ {s : State}, WordsBut (rxCounters ch) u s →
    WordsBut (rxCounters ch) u (s.canAssemble ch high n) := by
  induction n with
  | zero => exact id
  | succ n ih =>
    intro s h
    unfold State.canAssemble
    dsimp only
    split
    · exact ih (words_canSegment (words_setCan h))
    · exact h

/-- Queueing a frame changes no register but the counters. -/
theorem words_canQueue {u s : State} {ch : Nat} {f : CanFrame} (h : WordsBut (rxCounters ch) u s) :
    WordsBut (rxCounters ch) u (s.canQueue ch f) :=
  words_ite (words_count (words_bump (by simp [R.CAN_ERR_CNT_rx_drop]) h))
    (words_canAssemble 32 (words_trans h (words_enqueued s ch f _)))

/-! ### CAN_FRAME_RECEIVED -/

/-- The channel after it has received a valid frame (R413, R416). -/
def received (s : State) (ch : Nat) (ext remote : Bool) (f : CanFrame) : State :=
  if remote || !ext || f.id / 2 ^ 5 % 2 ^ 16 != s.get (R.CAN_CFG_node_id ch) then s.canValid ch
  else if !canRequest (f.id / 2 ^ 21 % 32) then (s.canValid ch).bump (R.CAN_ERR_CNT2_unknown_fn ch)
  else (s.canValid ch).canQueue ch f

section Execution

variable {s : State} {ch id : Nat} {fd ext remote : Bool} {data : List Byte}

theorem exec_of_not_canLength (h : canLength fd remote data.length = false) :
    exec (.canFrameReceived ch fd ext remote id data) s = .next s := by
  simp [exec, execCanFrameReceived, when, h]

theorem exec_of_integrating (ha : s.canActive ch = true) (hl : canLength fd remote data.length = true) (hi : (s.canCh ch).integ ≠ 0) :
    exec (.canFrameReceived ch fd ext remote id data) s = .next (s.canIntegrate ch) := by
  simp [exec, execCanFrameReceived, when, ha, hl, hi]

theorem exec_of_fd_ignored (ha : s.canActive ch = true) (hl : canLength fd remote data.length = true) (hi : (s.canCh ch).integ = 0)
    (hfd : fd = true) (hen : s.on (R.CAN_CFG_fd_en ch) = false) : exec (.canFrameReceived ch fd ext remote id data) s
      = .next ((s.bump (R.CAN_ERR_CNT2_fd_ignored ch)).canIntegrate ch) := by
  subst hfd
  simp [exec, execCanFrameReceived, when, ha, hl, hi, hen]

theorem exec_of_received (ha : s.canActive ch = true) (hl : canLength fd remote data.length = true) (hi : (s.canCh ch).integ = 0)
    (hfd : fd = false ∨ s.on (R.CAN_CFG_fd_en ch) = true) : exec (.canFrameReceived ch fd ext remote id data) s
      = .next (received s ch ext remote { id := id, fd := fd, data := data }) := by
  have hen : (fd && !s.on (R.CAN_CFG_fd_en ch)) = false := by cases hfd with | _ h => simp [h]
  simp only [exec, execCanFrameReceived, when, ha, hl, hi, hen]
  rfl

theorem within_of_received {A : List Part} {t : State} (h : exec (.canFrameReceived ch fd ext remote id data) s = .next t)
    (hA : subParts [.regs, .evr, .can, .obs, .free] A = true) : Within A s t := by
  obtain ⟨u, e, hu⟩ := runs_execCanFrameReceived ch fd ext remote id data s
  obtain rfl : u = t := by
    have : Host.Outcome.next u = Host.Outcome.next t := e.symm.trans h
    injection this
  exact within_mono hu hA

end Execution

section Received

variable {s : State} {ch : Nat} {ext remote : Bool} {f : CanFrame}

/-- Whether a frame is one of the message set for this node. -/
def ForNode (s : State) (ch : Nat) (ext remote : Bool) (f : CanFrame) : Prop :=
  ext = true ∧ remote = false ∧ f.id / 2 ^ 5 % 2 ^ 16 = s.get (R.CAN_CFG_node_id ch)

theorem received_of_not_forNode (h : ¬ ForNode s ch ext remote f) : received s ch ext remote f = s.canValid ch := by
  refine if_pos ?_
  cases ext <;> cases remote <;> simp_all [ForNode]

theorem received_of_forNode (h : ForNode s ch ext remote f) : received s ch ext remote f
    = if !canRequest (f.id / 2 ^ 21 % 32) then (s.canValid ch).bump (R.CAN_ERR_CNT2_unknown_fn ch) else (s.canValid ch).canQueue ch f := by
  obtain ⟨rfl, rfl, hid⟩ := h
  exact if_neg (by rw [hid, bne_self_eq_false]; exact Bool.false_ne_true)

theorem received_of_unknown (h : ForNode s ch ext remote f) (hr : canRequest (f.id / 2 ^ 21 % 32) = false) :
    received s ch ext remote f = (s.canValid ch).bump (R.CAN_ERR_CNT2_unknown_fn ch) := by
  rw [received_of_forNode h, hr]
  rfl

theorem received_of_request (h : ForNode s ch ext remote f) (hr : canRequest (f.id / 2 ^ 21 % 32) = true) :
    received s ch ext remote f = (s.canValid ch).canQueue ch f := by
  rw [received_of_forNode h, hr]
  rfl

/-- Beside what a valid frame does, its reception changes no register but the counters. -/
theorem words_received : WordsBut (rxCounters ch) (s.canValid ch) (received s ch ext remote f) :=
  have h := words_refl (rxCounters ch) (s.canValid ch)
  words_ite h (words_ite (words_bump (by simp [R.CAN_ERR_CNT2_unknown_fn]) h) (words_canQueue h))

/-- A field of CAN_STATUS reads after the reception as a valid frame leaves it. -/
theorem get_status_received (g : Fld) (hg : g.addr = R.CAN_STATUS ch) :
    (received s ch ext remote f).get g = (s.canValid ch).get g :=
  get_of_words words_received g (hg ▸ status_not_mem_rxCounters ch)

theorem received_ends_alone : (received s ch ext remote f).on (R.CAN_STATUS_alone ch) = false := by
  rw [State.on, get_status_received _ (by rw [R.CAN_STATUS_alone])]
  exact canValid_ends_alone s ch

theorem rec_received_of_lt (h : s.get (R.CAN_STATUS_rec ch) < 128) :
    (received s ch ext remote f).get (R.CAN_STATUS_rec ch) = s.get (R.CAN_STATUS_rec ch) - 1 := by
  rw [get_status_received _ (by rw [R.CAN_STATUS_rec]), rec_canValid_of_lt s ch h]

theorem rec_received_of_ge (h : 128 ≤ s.get (R.CAN_STATUS_rec ch)) :
    119 ≤ (received s ch ext remote f).get (R.CAN_STATUS_rec ch) ∧ (received s ch ext remote f).get (R.CAN_STATUS_rec ch) ≤ 127 := by
  rw [get_status_received _ (by rw [R.CAN_STATUS_rec])]
  exact rec_canValid_of_ge s ch h

/-- A counter of reception reads after a valid frame as before. -/
theorem get_counter_canValid (g : Fld) (hg : g.addr ∈ rxCounters ch) : (s.canValid ch).get g = s.get g :=
  get_of_words (words_canValid s ch) g (not_mem_status_of_mem_rxCounters hg)

/-- What leaves the registers after a valid frame changes no register but CAN_STATUS. -/
theorem words_status_of_canValid {t : State} (h : WordsBut [] (s.canValid ch) t) : WordsBut [R.CAN_STATUS ch] s t :=
  words_trans (words_canValid s ch) (words_mono h (by simp))

end Received

/-- Settles O50: the frame's reception is split as `execCanFrameReceived` splits it (a frame that is not valid, one while the
channel integrates, an FD frame that is ignored, a valid frame), and a request's by what its queue and its reassembly hold. -/
theorem canFramesAreReceived : Obligations.CanFramesAreReceived := by
  unfold Obligations.CanFramesAreReceived
  intro s ch id fd ext remote data hactive
  refine ⟨exec_of_not_canLength, fun hlen => ?_⟩
  intro fn high mine x r n cap anew
  refine ⟨fun hinteg => ?integrating, fun hinteg hfd hen => ?fdIgnored, fun hinteg hfd => ?valid⟩
  case integrating =>
    exact ⟨_, exec_of_integrating hactive hlen hinteg, canCh_setCan _ _ _, words_setCan (words_refl _ s), within_canIntegrate s ch⟩
  case fdIgnored =>
    have hbt (g : Fld) (hg : g.addr ≠ R.CAN_ERR_CNT2 ch) : (s.bump (R.CAN_ERR_CNT2_fd_ignored ch)).get g = s.get g :=
      get_bump_ne s _ g hg
    have hne : R.CAN_BT_NOM ch ≠ R.CAN_ERR_CNT2 ch := by simp [R.CAN_BT_NOM, R.CAN_ERR_CNT2]
    refine ⟨_, exec_of_fd_ignored hactive hlen hinteg hfd hen, ?count, ?anew, ?words, ?within⟩
    case count => exact get_bump_same s _ (by simp [R.CAN_ERR_CNT2_fd_ignored])
    case anew =>
      rw [State.canIntegrate, canCh_setCan, hbt _ hne, hbt _ hne, hbt _ hne, canCh_bump]
    case words => exact words_setCan (words_bump (by simp [R.CAN_ERR_CNT2_fd_ignored]) (words_refl _ s))
    case within => exact within_after (within_canIntegrate _ ch) rfl (within_mono (within_bump s _) rfl)
  case valid =>
    let f : CanFrame := { id := id, fd := fd, data := data }
    have hrx : ((s.canValid ch).canCh ch).rx (urgent f) = r := rx_canValid s ch high
    have hexec := exec_of_received (id := id) (ext := ext) hactive hlen hinteg hfd
    refine ⟨received s ch ext remote f, hexec, received_ends_alone, rec_received_of_lt, rec_received_of_ge, ?other, ?unknown, ?full,
      ?queued, within_of_received hexec rfl⟩
    case other =>
      intro (hmine : ¬ ForNode s ch ext remote f)
      rw [received_of_not_forNode hmine]
      exact ⟨hrx, words_canValid s ch⟩
    case unknown =>
      intro (hmine : ForNode s ch ext remote f) hfn
      rw [received_of_unknown hmine hfn, get_bump_same _ _ (by simp [R.CAN_ERR_CNT2_unknown_fn]),
        get_counter_canValid _ (by simp [R.CAN_ERR_CNT2_unknown_fn])]
      exact ⟨rfl, hrx⟩
    case full =>
      intro (hmine : ForNode s ch ext remote f) hfn hroom
      rw [received_of_request hmine hfn, ← get_counter_canValid (s := s) (ch := ch) _ (by simp [R.CAN_ERR_CNT_rx_drop])]
      exact canQueue_of_full hrx hroom
    case queued =>
      intro (hmine : ForNode s ch ext remote f) hfn hroom
      rw [received_of_request hmine hfn]
      refine ⟨canQueue_raises hrx hroom, ?waits, ?single, ?first, ?last, ?long⟩
      case waits =>
        intro hw
        exact (canQueue_waits hrx hroom hw).imp_right words_status_of_canValid
      case single =>
        intro hw hf hcur hflag hn hdata
        exact (canQueue_completes_at_once hrx hw hf hcur ⟨hflag, hn, hdata⟩).imp_right words_status_of_canValid
      case first =>
        intro hw hf hcur hflag hn hshort hdata
        exact (canQueue_starts hrx hw hf hcur ⟨hflag, hn, hshort, hdata⟩).imp_right words_status_of_canValid
      case last =>
        intro m hw hf hcur hsegs hflag hpeer hmfn hseq hilen hshort hbegun hn hdata hheader
        have hj : Joins r f m := .next hcur ⟨by rw [hflag]; omega, hpeer, hmfn, hseq⟩
        exact (canQueue_completes hrx hw hf hj ⟨by rw [hflag]; omega, hilen, hshort, hbegun, hn, hheader, hdata⟩).imp_right
          words_status_of_canValid
      case long =>
        intro hw hf hcur hk _ hn
        rw [← get_counter_canValid (s := s) (ch := ch) _ (by simp [R.BOOT_ERR_CNT_access])]
        exact canQueue_of_long hrx hw hf hcur hk hn

end Sys2Proof.Proofs
end

section
/-!
The byte memories as strings of bytes: what State.bytes reads after State.setBytes, and the retention memory's header (R427).
-/

namespace Sys2Proof.Proofs

open Sys2Proof Sys2Proof.Machine Sys2Proof.Laws

/-! ### Strings of bytes -/

@[simp] theorem length_leBytes : ∀ n v : Nat, (leBytes n v).length = n
  | 0, _ => rfl
  | n + 1, v => congrArg (· + 1) (length_leBytes n (v / 256))

theorem byte_of_ram {s t : State} (h : t.ram = s.ram) (a : Nat) : t.byte a = s.byte a := by
  unfold State.byte
  rw [h]

theorem bytes_congr {s t : State} {a n : Nat} (h : ∀ x, a ≤ x → x < a + n → t.byte x = s.byte x) : t.bytes a n = s.bytes a n :=
  List.map_congr_left fun k hk => h (a + k) (by omega) (by have := List.mem_range.1 hk; omega)

theorem bytes_of_ram {s t : State} (h : t.ram = s.ram) (a n : Nat) : t.bytes a n = s.bytes a n :=
  bytes_congr fun x _ _ => byte_of_ram h x

theorem bytes_add (s : State) (a m n : Nat) : s.bytes a (m + n) = s.bytes a m ++ s.bytes (a + m) n := by
  simp [State.bytes, List.range_add, Nat.add_assoc]

theorem bytes_eq_zeros {s : State} {a n : Nat} (h : ∀ x, a ≤ x → x < a + n → s.byte x = 0) : s.bytes a n = List.replicate n 0 := by
  refine List.eq_replicate_iff.2 ⟨by simp [State.bytes], fun b hb => ?_⟩
  obtain ⟨k, hk, rfl⟩ := List.mem_map.1 hb
  exact h (a + k) (by omega) (by have := List.mem_range.1 hk; omega)

theorem byte_setBytes_of_outside {a x : Nat} : ∀ {l : List Byte} {s : State}, (x < a ∨ a + l.length ≤ x) →
    (s.setBytes a l).byte x = s.byte x := by
  intro l
  induction l generalizing a with
  | nil => intro s _; rfl
  | cons b r ih =>
    intro s h
    rw [List.length_cons] at h
    rw [State.setBytes, ih (by omega), byte_setByte, if_neg (by omega)]

theorem bytes_setBytes_same (a : Nat) (l : List Byte) (s : State) : (s.setBytes a l).bytes a l.length = l := by
  induction l generalizing a s with
  | nil => rfl
  | cons b r ih =>
    have first : (State.setBytes (s.setByte a b) (a + 1) r).bytes a 1 = [b] := by
      show [State.byte _ a] = [b]
      rw [byte_setBytes_of_outside (by omega), byte_setByte, if_pos rfl]
    rw [List.length_cons, Nat.add_comm, bytes_add, State.setBytes, first, ih]
    rfl

theorem bytes_setBytes_of_apart {s : State} {a b n : Nat} {l : List Byte} (h : b + n ≤ a ∨ a + l.length ≤ b) :
    (s.setBytes a l).bytes b n = s.bytes b n :=
  bytes_congr fun _ _ _ => byte_setBytes_of_outside (by omega)

@[simp] theorem aon_setBytes (s : State) (a : Nat) (l : List Byte) : (s.setBytes a l).aon = s.aon :=
  same_of_within (within_setBytes s a l) (p := .aon) rfl

@[simp] theorem get_setBytes (s : State) (a : Nat) (l : List Byte) (f : Fld) : (s.setBytes a l).get f = s.get f :=
  get_of_within (within_setBytes s a l) rfl f

/-! ### Numbers at blocks of the retention memory -/

theorem bytes_setRet_same (s : State) (b n v : Nat) : (s.setRet b n v).bytes (retBlock b) n = leBytes n v := by
  have h := bytes_setBytes_same (retBlock b) (leBytes n v) s
  rwa [length_leBytes] at h

theorem byte_setRet_of_outside {s : State} {b n v x : Nat} (h : x < retBlock b ∨ retBlock b + n ≤ x) :
    (s.setRet b n v).byte x = s.byte x :=
  byte_setBytes_of_outside (by rwa [length_leBytes])

theorem bytes_setRet_of_apart {s : State} {b n v a m : Nat} (h : a + m ≤ retBlock b ∨ retBlock b + n ≤ a) :
    (s.setRet b n v).bytes a m = s.bytes a m :=
  bytes_setBytes_of_apart (by rwa [length_leBytes])

/-! ### The header and its CRC -/

theorem retBlock_five : retBlock 5 = retBase + 20 := rfl

/-- The header's CRC lies outside the bytes that it covers. -/
theorem bytes_retCrc_header (s : State) : s.retCrc.bytes retBase 20 = s.bytes retBase 20 :=
  bytes_setRet_of_apart (.inl (Nat.le_of_eq retBlock_five.symm))

theorem bytes_retCrc_crc (s : State) : s.retCrc.bytes (retBlock 5) 4 = leBytes 4 (crc32 (s.bytes retBase 20)) :=
  bytes_setRet_same _ _ _ _

theorem byte_retCrc_of_outside {s : State} {x : Nat} (h : x < retBase + 20 ∨ retBase + 24 ≤ x) : s.retCrc.byte x = s.byte x :=
  byte_setRet_of_outside (by rw [retBlock_five]; omega)

/-- The check of R429: the magic of block 0 and the CRC of block 5. -/
theorem retValid_iff (s : State) : s.retValid = true ↔ leNat (s.bytes retBase 4) = leNat [0x54, 0x47, 0x41, 0x4F]
    ∧ leNat (s.bytes (retBlock 5) 4) = crc32 (s.bytes retBase 20) := by
  rw [State.retValid, Bool.and_eq_true, beq_iff_eq, beq_iff_eq]
  rfl

theorem retValid_of_ram {s t : State} (h : t.ram = s.ram) : t.retValid = s.retValid := by
  simp only [State.retValid, State.retNum, bytes_of_ram h]

end Sys2Proof.Proofs
end

section
/-!
Checkpoints on their way through Q06 into the retention memory (R428, R430).
-/

namespace Sys2Proof.Proofs

open Sys2Proof Sys2Proof.Machine Sys2Proof.Laws

/-! ### The queue's entrance -/

theorem q06Push_of_room {s : State} (h : s.aon.q06.length < 16) (b : List Byte) :
    s.q06Push b = { s with aon := { s.aon with q06 := s.aon.q06 ++ [b] } }.count (0x80 + 6) :=
  if_pos (decide_eq_true h)

theorem q06Push_of_full {s : State} (h : 16 ≤ s.aon.q06.length) (b : List Byte) :
    s.q06Push b = (s.bump R.AON_ERR_CNT_ckpt_skip).count (0x60 + 6) :=
  if_neg (by simpa [hasRoom] using h)

theorem q06Push_enters {s : State} (h : s.aon.q06.length < 16) (b : List Byte) :
    (s.q06Push b).aon = { s.aon with q06 := s.aon.q06 ++ [b] } ∧ WordsBut [] s (s.q06Push b) := by
  rw [q06Push_of_room h, count_aon]
  exact ⟨rfl, words_count (words_refl _ s)⟩

theorem q06Push_counts {s : State} (h : 16 ≤ s.aon.q06.length) (b : List Byte) :
    (s.q06Push b).aon = s.aon ∧ (s.q06Push b).get R.AON_ERR_CNT_ckpt_skip = min (s.get R.AON_ERR_CNT_ckpt_skip + 1) 255
      ∧ WordsBut [R.AON_ERR_CNT] s (s.q06Push b) := by
  rw [q06Push_of_full h, count_aon, count_get, get_bump_same _ _ (by decide)]
  exact ⟨rfl, rfl, words_count (words_bump (by decide) (words_refl _ s))⟩

/-! ### The commit of the newest entry -/

/-- What a slot holds once checkpoint `b` is written: its fields, the next sequence and the CRC (R428). -/
def ckptImage (s : State) (b : List Byte) : List Byte :=
  let body := b ++ leBytes 8 (s.aon.ckptSeq + 1)
  body ++ leBytes 4 (crc32 body)

theorem length_ckptImage (s : State) (b : List Byte) : (ckptImage s b).length = b.length + 12 := by
  simp [ckptImage]

/-- The memory and the counter after a commit, with the domain's own state as before. -/
def ckptStored (s : State) (b : List Byte) (older : Nat) : State :=
  (s.setBytes (retBlock (16 + 64 * s.aon.ckptSlot)) (ckptImage s b)).bumpBy R.AON_ERR_CNT_ckpt_skip older

theorem ckptCommit_of_empty {s : State} (h : s.aon.q06 = []) : s.ckptCommit = s := by
  simp [State.ckptCommit, h]

theorem ckptCommit_of_newest {s : State} {b : List Byte} {q : List (List Byte)} (h : s.aon.q06 = q ++ [b]) :
    s.ckptCommit = { ckptStored s b q.length with
      aon := { s.aon with q06 := [], ckptSeq := s.aon.ckptSeq + 1, ckptSlot := 1 - s.aon.ckptSlot } } := by
  simp only [State.ckptCommit, h, List.getLast?_concat, List.length_append, List.length_singleton, Nat.add_sub_cancel, bumpBy_aon,
    aon_setBytes]
  rfl

theorem words_ckptCommit (s : State) : WordsBut [R.AON_ERR_CNT] s s.ckptCommit := by
  unfold State.ckptCommit
  split
  · exact words_refl _ s
  · exact words_bumpBy (by decide) (words_setBytes _ _ _ (words_refl _ s))

section Stored

variable (s : State) (b : List Byte) (older : Nat)

theorem bytes_ckptStored :
    (ckptStored s b older).bytes (retBlock (16 + 64 * s.aon.ckptSlot)) (b.length + 12) = ckptImage s b := by
  rw [← length_ckptImage s b]
  exact bytes_setBytes_same _ _ s

theorem byte_ckptStored_of_outside {x : Nat}
    (h : x < retBlock (16 + 64 * s.aon.ckptSlot) ∨ retBlock (16 + 64 * s.aon.ckptSlot) + b.length + 12 ≤ x) :
    (ckptStored s b older).byte x = s.byte x := by
  rw [ckptStored, bumpBy_byte]
  exact byte_setBytes_of_outside (by rw [length_ckptImage]; omega)

theorem skip_ckptStored :
    (ckptStored s b older).get R.AON_ERR_CNT_ckpt_skip = min (s.get R.AON_ERR_CNT_ckpt_skip + older) 255 := by
  rw [ckptStored, State.bumpBy, get_put_same _ _ _ (by decide), get_setBytes]
  exact Nat.mod_eq_of_lt (by simp only [R.AON_ERR_CNT_ckpt_skip]; omega)

end Stored

theorem exec_checkpoint {s : State} (hlive : s.live = true) (hon : s.on R.MTR_CFG_en = true) :
    exec .checkpoint s = .next (s.q06Push s.ckptBytes) := by
  show when (s.live && s.on R.MTR_CFG_en) s _ = _
  rw [hlive, hon, Bool.and_self, when_true]

theorem exec_checkpointCommit {s : State} (h : s.aon.powered = true) : exec .checkpointCommit s = .next s.ckptCommit := by
  show when s.aon.powered s _ = _
  rw [h, when_true]

/-- Settles O41: a push meets room or a full queue, and a commit meets an empty queue or a newest entry behind older ones. -/
theorem checkpointsAreQueuedAndCommitted : Obligations.CheckpointsAreQueuedAndCommitted := by
  unfold Obligations.CheckpointsAreQueuedAndCommitted
  intro s
  constructor
  · intro hlive hon
    exact ⟨_, exec_checkpoint hlive hon, fun h => q06Push_enters h _, fun h => q06Push_counts h _, within_q06Push _ _⟩
  · intro hpowered
    refine ⟨_, exec_checkpointCommit hpowered, ckptCommit_of_empty, fun b q h => ?_, words_ckptCommit s, within_ckptCommit s⟩
    rw [ckptCommit_of_newest h]
    exact ⟨rfl, bytes_ckptStored s b q.length, fun x hx => byte_ckptStored_of_outside s b q.length hx, skip_ckptStored s b q.length⟩

end Sys2Proof.Proofs
end

section
/-!
The start of the always-on domain (R423, R429, R441): the registers at their reset values, the changeover to a supply, and the
check of the retention memory's header.
-/

namespace Sys2Proof.Proofs

open Sys2Proof Sys2Proof.Machine Sys2Proof.Laws

/-! ### A log record -/

theorem logPush_of_room {s : State} (h : s.aon.q07.length < 16) (kind : Nat) (p : List Byte) :
    s.logPush kind p = { s with aon := { s.aon with q07 := s.aon.q07 ++ [(kind, (p ++ List.replicate 16 0).take 16)] } }.count (0x80 + 7) :=
  if_pos (decide_eq_true h)

/-- A record that finds room changes no register. -/
theorem words_logPush {l : List Nat} {u s : State} {kind : Nat} {p : List Byte} (hroom : s.aon.q07.length < 16) (h : WordsBut l u s) :
    WordsBut l u (s.logPush kind p) := by
  rw [logPush_of_room hroom]
  exact words_count h

theorem powered_logPush (s : State) (kind : Nat) (p : List Byte) : (s.logPush kind p).aon.powered = s.aon.powered := by
  unfold State.logPush
  split
  · rw [count_aon]
  · rw [count_aon, bump_aon]

theorem q07_length_logPush_le (s : State) (kind : Nat) (p : List Byte) :
    (s.logPush kind p).aon.q07.length ≤ s.aon.q07.length + 1 := by
  unfold State.logPush
  split <;> rw [count_aon]
  · exact Nat.le_of_eq List.length_append
  · exact Nat.le_succ _

theorem get_logPush_of_apart (s : State) (kind : Nat) (p : List Byte) (g : Fld) (h : apart R.AON_ERR_CNT_log_drop g = true) :
    (s.logPush kind p).get g = s.get g := by
  unfold State.logPush
  split <;> rw [count_get]
  · rfl
  · exact get_bump_of_apart _ _ _ h

/-! ### The changeover to a supply -/

/-- The fields that a changeover writes. -/
abbrev changeoverFields : List Fld :=
  [R.AON_STATUS_low, R.AON_STATUS_vstore, R.AON_STATUS_no_cell, R.AON_STATUS_src, R.AON_ERR_CNT_log_drop]

theorem get_aonLow_of_apart (s : State) (g : Fld) (h : apart R.AON_STATUS_low g = true) : s.aonLow.get g = s.get g := by
  rw [State.aonLow, drive_get, get_putB_of_apart _ _ _ _ h]

theorem words_aonLow {l : List Nat} {u s : State} (hl : R.AON_STATUS ∈ l) (h : WordsBut l u s) : WordsBut l u s.aonLow :=
  words_within (within_drive _ _ _) rfl (words_putB hl h)

theorem get_measureStore_of_apart (s : State) (v : Nat) (g : Fld) (hlow : apart R.AON_STATUS_low g = true)
    (hv : apart R.AON_STATUS_vstore g = true) : (s.measureStore v).get g = s.get g :=
  (get_aonLow_of_apart _ g hlow).trans (get_put_of_apart _ _ _ _ hv)

theorem words_measureStore {l : List Nat} {u s : State} {v : Nat} (hl : R.AON_STATUS ∈ l) (h : WordsBut l u s) :
    WordsBut l u (s.measureStore v) :=
  words_aonLow hl (words_put hl h)

/-- The domain with its supplies measured and source `k` in AON_STATUS, before the change is logged. -/
def supplied (s : State) (v c k : Nat) : State :=
  (({ s with aon := { s.aon with vcell := c } }.measureStore v).putB R.AON_STATUS_no_cell (c < 2500)).put R.AON_STATUS_src k

/-- A changeover does nothing, or takes a source, with a record if it is another one. -/
theorem changeover_cases (s : State) (v c : Nat) : s.changeover v c = s ∨ ∃ k, s.changeover v c
    = (ite' (k != s.get R.AON_STATUS_src) (supplied s v c k) ((supplied s v c k).logPush 5 ((supplied s v c k).aonRecord 1 0))).aonLow := by
  unfold State.changeover
  split
  · exact .inl rfl
  · next k _ => exact .inr ⟨k, rfl⟩

/-- What measuring and recording keep, a changeover keeps. -/
theorem changeover_inv (P : State → Prop) {s : State} {v c : Nat} (hs : P s) (hsupplied : ∀ k, P (supplied s v c k))
    (hlog : ∀ k, P ((supplied s v c k).logPush 5 ((supplied s v c k).aonRecord 1 0))) (hlow : ∀ t, P t → P t.aonLow) :
    P (s.changeover v c) := by
  obtain h | ⟨k, h⟩ := changeover_cases s v c
  · rwa [h]
  · rw [h]
    apply hlow
    unfold ite'
    split
    · exact hlog k
    · exact hsupplied k

theorem get_changeover_of_apart (s : State) (v c : Nat) (g : Fld) (h : ∀ f ∈ changeoverFields, apart f g = true) :
    (s.changeover v c).get g = s.get g := by
  simp only [List.forall_mem_cons] at h
  obtain ⟨hlow, hv, hcell, hsrc, hdrop, -⟩ := h
  have hsupplied (k : Nat) : (supplied s v c k).get g = s.get g := by
    rw [supplied, get_put_of_apart _ _ _ _ hsrc, get_putB_of_apart _ _ _ _ hcell, get_measureStore_of_apart _ _ _ hlow hv]
    rfl
  exact changeover_inv (fun t => t.get g = s.get g) rfl hsupplied
    (fun k => (get_logPush_of_apart _ _ _ g hdrop).trans (hsupplied k)) (fun t ht => (get_aonLow_of_apart t g hlow).trans ht)

theorem words_supplied {l : List Nat} {u s : State} {v c k : Nat} (hl : R.AON_STATUS ∈ l) (h : WordsBut l u s) :
    WordsBut l u (supplied s v c k) :=
  words_put hl (words_putB hl (words_measureStore hl h))

/-- A changeover whose record finds room changes no register but AON_STATUS. -/
theorem words_changeover {s : State} {v c : Nat} (hroom : s.aon.q07.length < 16) : WordsBut [R.AON_STATUS] s (s.changeover v c) :=
  have hl : R.AON_STATUS ∈ [R.AON_STATUS] := by simp
  have hsupplied (k : Nat) : WordsBut [R.AON_STATUS] s (supplied s v c k) := words_supplied hl (words_refl _ s)
  changeover_inv (WordsBut [R.AON_STATUS] s) (words_refl _ s) hsupplied (fun k => words_logPush hroom (hsupplied k))
    (fun _ ht => words_aonLow hl ht)

theorem powered_changeover (s : State) (v c : Nat) : (s.changeover v c).aon.powered = s.aon.powered :=
  changeover_inv (fun t => t.aon.powered = s.aon.powered) rfl (fun _ => rfl) (fun _ => powered_logPush _ _ _) (fun _ ht => ht)

theorem q07_length_changeover_le (s : State) (v c : Nat) : (s.changeover v c).aon.q07.length ≤ s.aon.q07.length + 1 :=
  changeover_inv (fun t => t.aon.q07.length ≤ s.aon.q07.length + 1) (Nat.le_succ _) (fun _ => Nat.le_succ _)
    (fun _ => q07_length_logPush_le _ _ _) (fun _ ht => ht)

/-! ### The domain before its memory is checked -/

/-- The domain's registers at their reset values (R441). -/
def aonReset (s : State) : State := forUpTo 9 (fun k t => t.setWord (R.AON_STATUS + 4 * k) (regReset (R.AON_STATUS + 4 * k))) s

theorem word_aonReset (s : State) {k : Nat} (h : k < 9) : (aonReset s).word (R.AON_STATUS + 4 * k) = regReset (R.AON_STATUS + 4 * k) :=
  forUpTo_at (State.word · (R.AON_STATUS + 4 * k)) _ 9 k _ s h (fun t => by rw [word_setWord, if_pos rfl])
    (fun i t hi _ => by rw [word_setWord, if_neg (by omega)])

theorem rebuilt_aonReset (s : State) : (aonReset s).on R.AON_STATUS_rebuilt = false := by
  have e : (aonReset s).word R.AON_STATUS = regReset R.AON_STATUS := word_aonReset s (k := 0) (by omega)
  show (R.AON_STATUS_rebuilt.of ((aonReset s).word R.AON_STATUS) != 0) = false
  rw [e]
  decide +kernel

theorem ram_aonReset (s : State) : (aonReset s).ram = s.ram := forUpTo_const State.ram 9 _ s (fun _ _ _ => rfl)

/-- The domain powered, before it looks for a supply. -/
def aonPowered (s : State) (xtal : Bool) : State :=
  { aonReset s with aon := { main := s.aon.main, q31 := s.aon.q31, boost := s.aon.boost, powered := true } }.putB R.AON_STATUS_xtal_ok xtal

theorem words_aonPowered (s : State) (xtal : Bool) : WordsBut [R.AON_STATUS] (aonReset s) (aonPowered s xtal) :=
  words_putB (by decide) (words_refl _ _)

theorem q07_aonPowered (s : State) (xtal : Bool) : (aonPowered s xtal).aon.q07 = [] := rfl

theorem xtal_aonPowered (s : State) (xtal : Bool) : (aonPowered s xtal).on R.AON_STATUS_xtal_ok = xtal :=
  on_putB_same _ _ _ (by decide) (by decide)

theorem rebuilt_aonPowered (s : State) (xtal : Bool) : (aonPowered s xtal).on R.AON_STATUS_rebuilt = false :=
  (on_putB_of_apart _ _ _ _ rfl).trans (rebuilt_aonReset s)

/-- The domain at its supply, with the header still to check. -/
def aonSupplied (s : State) (v c : Nat) (xtal : Bool) : State := (aonPowered s xtal).changeover v c

theorem aonStart_eq (s : State) (v c : Nat) (xtal : Bool) :
    s.aonStart v c xtal = ite' (!(aonSupplied s v c xtal).retValid) (aonSupplied s v c xtal) (aonSupplied s v c xtal).retRebuild := rfl

section Supplied

variable (s : State) (v c : Nat) (xtal : Bool)

theorem ram_aonSupplied : (aonSupplied s v c xtal).ram = s.ram :=
  (same_of_within (within_changeover _ v c) (p := .ram) rfl).trans (ram_aonReset s)

theorem powered_aonSupplied : (aonSupplied s v c xtal).aon.powered = true := powered_changeover _ v c

theorem room_aonSupplied : (aonSupplied s v c xtal).aon.q07.length < 16 :=
  Nat.lt_of_le_of_lt (q07_length_changeover_le _ v c) (by simp [q07_aonPowered])

theorem xtal_aonSupplied : (aonSupplied s v c xtal).on R.AON_STATUS_xtal_ok = xtal := by
  unfold State.on aonSupplied
  rw [get_changeover_of_apart _ _ _ _ (by decide)]
  exact xtal_aonPowered s xtal

theorem rebuilt_aonSupplied : (aonSupplied s v c xtal).on R.AON_STATUS_rebuilt = false := by
  unfold State.on aonSupplied
  rw [get_changeover_of_apart _ _ _ _ (by decide)]
  exact rebuilt_aonPowered s xtal

theorem words_aonSupplied : WordsBut [R.AON_STATUS] (aonReset s) (aonSupplied s v c xtal) :=
  words_trans (words_aonPowered s xtal) (words_changeover (by simp [q07_aonPowered]))

end Supplied

/-! ### The memory zeroed, with a new header (R429) -/

theorem mget_filter_keys {α : Type} (d : Nat → α) (keep : Nat → Bool) (m : List (Nat × α)) (a : Nat) :
    mget d (m.filter fun p => keep p.1) a = if keep a then mget d m a else d a := by
  induction m with
  | nil => simp [mget]
  | cons p r ih =>
    rw [List.filter_cons]
    by_cases ha : a = p.1
    · subst ha
      cases hp : keep p.1 <;> simp [mget, hp, ih]
    · cases keep p.1 <;> simp [mget, ha, ih]

/-- The retention memory zeroed. -/
def retCleared (s : State) : State := { s with ram := s.ram.filter (fun p => p.1 < retBase || retBase + 16384 ≤ p.1) }

theorem byte_retCleared (s : State) (x : Nat) :
    (retCleared s).byte x = if x < retBase ∨ retBase + 16384 ≤ x then s.byte x else 0 := by
  refine (mget_filter_keys byteReset (fun a => a < retBase || retBase + 16384 ≤ a) s.ram x).trans ?_
  simp only [Bool.or_eq_true, decide_eq_true_eq]
  rfl

/-- The zeroed memory with the magic and the version, before the CRC. -/
def retHeaded (s : State) : State := ((retCleared s).setBytes retBase [0x54, 0x47, 0x41, 0x4F]).setRet 1 4 1

theorem retBase_add_le {m n x : Nat} (hmn : m ≤ n) (h : retBase + n ≤ x) : retBase + m ≤ x :=
  Nat.le_trans (Nat.add_le_add_left hmn _) h

theorem retBlock_one : retBlock 1 = retBase + 4 := rfl

theorem byte_retHeaded_of_outside (s : State) {x : Nat} (h : x < retBase ∨ retBase + 8 ≤ x) :
    (retHeaded s).byte x = (retCleared s).byte x := by
  rw [retHeaded, byte_setRet_of_outside (by rw [retBlock_one]; omega), byte_setBytes_of_outside]
  exact h.imp_right (retBase_add_le (by decide))

theorem header_retHeaded (s : State) :
    (retHeaded s).bytes retBase 20 = [0x54, 0x47, 0x41, 0x4F, 1, 0, 0, 0] ++ List.replicate 12 0 := by
  have magic : (retHeaded s).bytes retBase 4 = [0x54, 0x47, 0x41, 0x4F] := by
    rw [retHeaded, bytes_setRet_of_apart (.inl (Nat.le_of_eq retBlock_one.symm))]
    exact bytes_setBytes_same retBase [0x54, 0x47, 0x41, 0x4F] _
  have version : (retHeaded s).bytes (retBase + 4) 4 = [1, 0, 0, 0] := bytes_setRet_same _ 1 4 1
  have zeros : (retHeaded s).bytes (retBase + 8) 12 = List.replicate 12 0 := bytes_eq_zeros fun x hx hx' => by
    rw [byte_retHeaded_of_outside s (.inr hx), byte_retCleared, if_neg (by omega)]
  rw [bytes_add _ retBase 8 12, bytes_add _ retBase 4 4, magic, version, zeros]
  rfl

theorem aon_retHeaded (s : State) : (retHeaded s).retCrc.aon = s.aon := by
  simp only [retHeaded, State.retCrc, State.setRet, aon_setBytes]
  rfl

/-- The rebuilt memory, shown in AON_STATUS and not yet logged. -/
def retMarked (s : State) : State := (s.retBuild.putB R.AON_STATUS_rebuilt true).putB R.AON_STATUS_rtc_valid false

theorem aon_retMarked (s : State) : (retMarked s).aon = { s.aon with ckptSeq := 0, ckptSlot := 0, tampers := 0 } :=
  congrArg (fun a : AonS => { a with ckptSeq := 0, ckptSlot := 0, tampers := 0 }) (aon_retHeaded s)

theorem words_retMarked (s : State) : WordsBut [R.AON_STATUS] s (retMarked s) :=
  words_putB (by decide) (words_putB (by decide) (words_within (within_retBuild s) rfl (words_refl _ s)))

theorem retRebuild_eq (s : State) : s.retRebuild = (retMarked s).logPush 5 ((retMarked s).aonRecord 3 0) := rfl

section Rebuild

variable (s : State)

theorem ram_retRebuild : s.retRebuild.ram = (retHeaded s).retCrc.ram :=
  same_of_within (within_logPush (retMarked s) _ _) (p := .ram) rfl

/-- The new header of a rebuilt memory: magic, version, and zeros for the boot counter and the log's state. -/
theorem header_retRebuild : s.retRebuild.bytes retBase 20 = [0x54, 0x47, 0x41, 0x4F, 1, 0, 0, 0] ++ List.replicate 12 0 := by
  rw [bytes_of_ram (ram_retRebuild s), bytes_retCrc_header, header_retHeaded]

theorem crc_retRebuild : s.retRebuild.bytes (retBlock 5) 4 = leBytes 4 (crc32 (s.retRebuild.bytes retBase 20)) := by
  rw [bytes_of_ram (ram_retRebuild s), bytes_of_ram (ram_retRebuild s), bytes_retCrc_crc, bytes_retCrc_header]

theorem byte_retRebuild_of_apart {x : Nat} (h : x < retBase ∨ retBase + 24 ≤ x) : s.retRebuild.byte x = (retCleared s).byte x := by
  rw [byte_of_ram (ram_retRebuild s), byte_retCrc_of_outside (by omega), byte_retHeaded_of_outside s (by omega)]

theorem byte_retRebuild_zero {x : Nat} (h : retBase + 24 ≤ x) (h' : x < retBase + 16384) : s.retRebuild.byte x = 0 := by
  rw [byte_retRebuild_of_apart s (.inr h), byte_retCleared, if_neg (by omega)]

theorem byte_retRebuild_of_outside {x : Nat} (h : x < retBase ∨ retBase + 16384 ≤ x) : s.retRebuild.byte x = s.byte x := by
  rw [byte_retRebuild_of_apart s (h.imp_right (retBase_add_le (by decide))), byte_retCleared, if_pos h]

theorem powered_retRebuild : s.retRebuild.aon.powered = s.aon.powered := by
  rw [retRebuild_eq, powered_logPush, aon_retMarked]

theorem on_retRebuild (g : Fld) (h : apart R.AON_ERR_CNT_log_drop g = true) : s.retRebuild.on g = (retMarked s).on g :=
  congrArg (· != 0) (get_logPush_of_apart (retMarked s) 5 _ g h)

theorem rebuilt_retRebuild : s.retRebuild.on R.AON_STATUS_rebuilt = true := by
  rw [on_retRebuild s _ rfl, retMarked, on_putB_of_apart _ _ _ _ rfl]
  exact on_putB_same _ _ _ (by decide) (by decide)

theorem rtc_valid_retRebuild : s.retRebuild.on R.AON_STATUS_rtc_valid = false := by
  rw [on_retRebuild s _ rfl]
  exact on_putB_same _ _ _ (by decide) (by decide)

theorem xtal_retRebuild : s.retRebuild.on R.AON_STATUS_xtal_ok = s.on R.AON_STATUS_xtal_ok := by
  rw [on_retRebuild s _ rfl, retMarked, on_putB_of_apart _ _ _ _ rfl, on_putB_of_apart _ _ _ _ rfl,
    on_of_within (within_retBuild s) rfl]

/-- A rebuild whose record finds room changes no register but AON_STATUS. -/
theorem words_retRebuild (h : s.aon.q07.length < 16) : WordsBut [R.AON_STATUS] s s.retRebuild :=
  have hroom : (retMarked s).aon.q07.length < 16 := by rwa [aon_retMarked]
  words_logPush hroom (words_retMarked s)

end Rebuild

/-! ### The start -/

section Start

variable {s : State} {v c : Nat} {xtal : Bool}

theorem aonStart_of_valid (h : s.retValid = true) : s.aonStart v c xtal = aonSupplied s v c xtal := by
  rw [aonStart_eq, retValid_of_ram (ram_aonSupplied s v c xtal), h]
  rfl

theorem aonStart_of_invalid (h : s.retValid = false) : s.aonStart v c xtal = (aonSupplied s v c xtal).retRebuild := by
  rw [aonStart_eq, retValid_of_ram (ram_aonSupplied s v c xtal), h]
  rfl

theorem exec_aonDomainStart (hoff : s.aon.powered = false) (hsupply : s.aon.main = true ∨ 1400 ≤ v ∨ 2500 ≤ c) :
    exec (.aonDomainStart v c xtal) s = .next (s.aonStart v c xtal) := by
  have hc : (!s.aon.powered && (s.aon.main || 1400 ≤ v || 2500 ≤ c)) = true := by
    simpa [hoff, or_assoc] using hsupply
  show when (!s.aon.powered && (s.aon.main || 1400 ≤ v || 2500 ≤ c)) s _ = _
  rw [hc, when_true]

end Start

/-- What every start gives, whatever the memory holds. -/
theorem aonStart_common (s : State) (v c : Nat) (xtal : Bool) : (s.aonStart v c xtal).aon.powered = true
    ∧ (s.aonStart v c xtal).on R.AON_STATUS_xtal_ok = xtal ∧ WordsBut [R.AON_STATUS] (aonReset s) (s.aonStart v c xtal) := by
  cases h : s.retValid with
  | true =>
    rw [aonStart_of_valid h]
    exact ⟨powered_aonSupplied s v c xtal, xtal_aonSupplied s v c xtal, words_aonSupplied s v c xtal⟩
  | false =>
    rw [aonStart_of_invalid h, powered_retRebuild, xtal_retRebuild]
    exact ⟨powered_aonSupplied s v c xtal, xtal_aonSupplied s v c xtal,
      words_trans (words_aonSupplied s v c xtal) (words_retRebuild _ (room_aonSupplied s v c xtal))⟩

/-- Every register of the domain but AON_STATUS starts at its reset value (R441). -/
theorem word_aonStart (s : State) (v c : Nat) (xtal : Bool) {k : Nat} (h : 1 ≤ k) (h' : k < 9) :
    (s.aonStart v c xtal).word (R.AON_STATUS + 4 * k) = regReset (R.AON_STATUS + 4 * k) := by
  obtain ⟨-, -, hwords⟩ := aonStart_common s v c xtal
  have hk : R.AON_STATUS + 4 * k ∉ [R.AON_STATUS] := by
    rw [List.mem_singleton]
    omega
  rw [hwords _ hk, word_aonReset s h']

/-- Settles O53: a header that passes the check is left with the whole memory, and any other is replaced. -/
theorem retentionIsCheckedAtEachStart : Obligations.RetentionIsCheckedAtEachStart := by
  unfold Obligations.RetentionIsCheckedAtEachStart
  intro s v c xtal hoff hsupply good
  obtain ⟨hpowered, hxtal, -⟩ := aonStart_common s v c xtal
  refine ⟨_, exec_aonDomainStart hoff hsupply, hpowered, hxtal, fun k hk hk' => word_aonStart s v c xtal hk hk', ?kept, ?rebuilt,
    within_aonStart s v c xtal⟩
  case kept =>
    intro hgood
    rw [aonStart_of_valid ((retValid_iff s).2 hgood)]
    exact ⟨ram_aonSupplied s v c xtal, rebuilt_aonSupplied s v c xtal⟩
  case rebuilt =>
    intro hbad
    rw [aonStart_of_invalid (Bool.eq_false_iff.2 (mt (retValid_iff s).1 hbad))]
    refine ⟨rebuilt_retRebuild _, rtc_valid_retRebuild _, header_retRebuild _, crc_retRebuild _, fun x => byte_retRebuild_zero _,
      fun x hx => ?_⟩
    rw [byte_retRebuild_of_outside _ hx, byte_of_ram (ram_aonSupplied s v c xtal)]

end Sys2Proof.Proofs
end

section
/-!
The restricted TAP instructions (R459): when the port accepts one, what an accepted one drives, and what a refusal counts.
-/

namespace Sys2Proof.Proofs

open Sys2Proof Sys2Proof.Machine Sys2Proof.Laws

/-- The instructions that R459 restricts. -/
def tapRestricted : List Instr := [.extest, .extestPulse, .extestTrain, .clamp, .highz]

/-- The port `x` with restricted instruction `c` in force under its code `ir`. -/
def tapInForce (c : Instr) (ir : Nat) (x : TapS) : TapS :=
  { x with
    ir := ir
    sel := if c = .clamp ∨ c = .highz then .bypass else .boundary
    driving := c != .highz
    acTest := c == .extestPulse || c == .extestTrain
    highZ := c == .highz }

/-- R459's condition, in its two parts: the mode, and the session where debug_lock is blown. -/
theorem tapAllowed_iff (s : State) : s.tapAllowed = true ↔ (s.bare = true ∨ (s.live = true ∧ s.testMode = true))
    ∧ (s.get R.BOOT_STATUS_debug_locked = 0 ∨ s.get (R.BOOT_SESSION_role 3) = 2) := by
  simp [State.tapAllowed, State.on]

/-- Every restricted instruction is one gate, around the effect that its code names. -/
theorem exec_of_tapRestricted (s : State) {c : Instr} (hc : c ∈ tapRestricted) :
    ∃ ir, exec c s = .next (s.restricted { s with tap := tapInForce c ir s.tap } ir) := by
  simp only [tapRestricted, List.mem_cons, List.not_mem_nil, or_false] at hc
  rcases hc with rfl | rfl | rfl | rfl | rfl
  · exact ⟨3, rfl⟩
  · exact ⟨4, rfl⟩
  · exact ⟨5, rfl⟩
  · exact ⟨6, rfl⟩
  · exact ⟨7, rfl⟩

theorem restricted_of_allowed {s : State} (h : s.tapAllowed = true) (t : State) (ir : Nat) : s.restricted t ir = t := if_pos h

theorem restricted_of_refused {s : State} (h : ¬ s.tapAllowed = true) (t : State) (ir : Nat) :
    s.restricted t ir = (s.tapTo ir .bypass).bump R.OBS_ERR_CNT_tap_refused := if_neg h

theorem words_tapTo (s : State) (ir : Nat) (sel : TapReg) (l : List Nat) : WordsBut l s (s.tapTo ir sel) :=
  words_within (within_tapTo s ir sel) rfl (words_refl l s)

theorem get_tapTo (s : State) (ir : Nat) (sel : TapReg) (f : Fld) : (s.tapTo ir sel).get f = s.get f := rfl

/-- Settles O60: every restricted instruction passes the one gate `State.restricted`, whose test is R459's condition. -/
theorem tapRestrictedInstructions : Obligations.TapRestrictedInstructions := by
  unfold Obligations.TapRestrictedInstructions
  intro s c hc allowed
  obtain ⟨ir, hexec⟩ := exec_of_tapRestricted s hc
  refine ⟨fun hallowed => ?accepted, fun hrefused => ?refused⟩
  case accepted =>
    rw [restricted_of_allowed ((tapAllowed_iff s).2 hallowed)] at hexec
    exact ⟨_, hexec, rfl, rfl, rfl, rfl, rfl, within_upd_tap rfl (within_refl _ s)⟩
  case refused =>
    have hwithin := within_restricted s s ir rfl (within_refl [.regs, .tap] s)
    rw [restricted_of_refused (mt (tapAllowed_iff s).1 hrefused)] at hexec hwithin
    refine ⟨_, hexec, rfl, rfl, rfl, ?_, words_bump (List.mem_singleton.2 rfl) (words_tapTo s ir .bypass _), hwithin⟩
    rw [get_bump_same _ _ (by decide), get_tapTo]

end Sys2Proof.Proofs
end
